-- ==== Sys2Proof/Word.lean ====
section
/-! DEFINITION. Words of the machine and their plainest arithmetic. -/
namespace Sys2Proof

/-- A 64-bit word: a register, a descriptor word, a plan word (R5). -/
abbrev Word := BitVec 64

/-- One byte. -/
abbrev Byte := BitVec 8

/-- Bits [lo + width - 1 : lo] of a number. -/
def bits (x lo width : Nat) : Nat := (x >>> lo) % 2 ^ width

/-- One bit of a number as a Bool. -/
def bitAt (x i : Nat) : Bool := x.testBit i

/-- The number with bits [lo + width - 1 : lo] replaced by v. -/
def setBits (x lo width v : Nat) : Nat :=
  x - ((x >>> lo) % 2 ^ width) * 2 ^ lo + (v % 2 ^ width) * 2 ^ lo

/-- A Bool as 0 or 1. -/
def b2n (b : Bool) : Nat := if b then 1 else 0

/-- The nearest value of [lo, hi]. -/
def clampTo (lo hi v : Nat) : Nat := max lo (min v hi)

/-- Ceiling of a quotient. -/
def ceilDiv (a b : Nat) : Nat := (a + b - 1) / b

/-- (a - b) mod m for sequence numbers. -/
def subMod (a b m : Nat) : Nat := (a + (m - b % m)) % m

end Sys2Proof
end

