-- ==== Sys2Proof/Wire.lean ====
section
/-! DEFINITION. What travels: cells, frames, parameter blocks, training words, markers, work entries, and the names of
masters, queues and rooms' requests that the commands carry as operands. -/
namespace Sys2Proof

/-- A register-space master (Table 16.1). A MGMT access from MGR_NODE is Privileged, from any other node User. -/
inductive Master
  | host (h : Nat) | stair | mgmt (privileged : Bool) | hk (i : Nat) (secure : Bool)
deriving DecidableEq, Repr

/-- Privilege of an access (Table 16.1). -/
inductive Priv | user | privileged | secure
deriving DecidableEq, Repr

/-- A cell (Tables 4.1 and 4.2) with its 64-byte body as eight 64-bit words (R67). -/
structure Cell where
  ty : Nat
  vc : Nat
  hop : Nat := 0
  dimDone : Nat := 0
  ce : Bool := false
  echo : Bool := false
  last : Bool := false
  pin : Bool := false
  order : Nat := 0
  dest : Nat
  src : Nat
  seq : Nat := 0
  epoch : Nat := 0
  idx : Nat := 0
  segCells : Nat := 1
  check : Nat := 0
  body : List Word := []
deriving DecidableEq, Repr

/-- One slot of a link frame (R129): a cell, or a void slot that keeps the header words of the cell it replaces. -/
structure Slot where
  void : Bool
  cell : Cell
deriving DecidableEq, Repr

/-- Frame header fields (Table 6.2). -/
structure FrameHdr where
  ftype : Nat := 0
  version : Nat := 1
  slotCount : Nat := 0
  seqBase : Nat := 0
  ackNext : Nat := 0
  nackCode : Nat := 0
  nackSeq : Nat := 0
  event : Nat := 0
  eventArg : Nat := 0
  creditCum : List Nat := [0, 0, 0, 0, 0, 0, 0, 0]
  word4 : Nat := 0
deriving DecidableEq, Repr

/-- A received line frame as the FEC decoder and the FRAME_CRC check leave it (R134). -/
structure RxFrame where
  uncorrectable : Bool := false
  corrected : Bool := false
  crcOk : Bool := true
  hdr : FrameHdr
  slots : List Slot := []
deriving DecidableEq, Repr

/-- Parameter block (Table 6.4). -/
structure ParamBlock where
  node : Nat
  port : Nat
  vcMask : Nat
  fecSel : Nat
  oneLane : Bool
  rateMax : Nat
  reserved : List Nat
  sharedCap : List Nat
deriving DecidableEq, Repr

/-- Training control word (Table 7.5). -/
structure TCW where
  state : Nat
  caps : Nat
  rateNow : Nat
  rateReq : Nat
  fom : Nat
  eqReq : Nat := 0
  eqTap : Nat := 0
  eqAck : Bool := false
  eqLimit : Bool := false
  seq : Nat := 0
  eqSeq : Nat := 0
  node : Nat
  port : Nat
  crcOk : Bool := true
  /-- As received: the lane's polarity is inverted (R159). -/
  inverted : Bool := false
deriving DecidableEq, Repr

/-- An expected alignment marker as the receiving lane finds it (Table 7.2, R162, R163). -/
structure Marker where
  missing : Bool := false
  patternOk : Bool := true
  crcOk : Bool := true
  fec : Nat := 0
  rate : Nat := 0
  oneLane : Bool := false
  lane : Nat := 0
  amCount : Nat := 0
  bipDiff : Nat := 0
  skewPs : Nat := 0
  /-- The lane's polarity is inverted (R159). -/
  inverted : Bool := false
deriving DecidableEq, Repr

/-- What a receiving lane measures over a block of symbols: the spacings of the three PAM4 eyes and the slicer's error variance (R164). -/
structure EyeBlock where
  e0 : Nat
  e1 : Nat
  e2 : Nat
  var : Nat
deriving DecidableEq, Repr

/-- A decoupling or crossing queue of Tables 1.3 and 1.4. -/
inductive QueueId
  | rxCrossing (p : Nat) | txCrossing (p : Nat) | porchHallCrossing (i : Nat) | returnCrossing (i : Nat)
  | crystalCrossing (i : Nat) | rakeCrossing (i : Nat) | hkCrossing (i : Nat) | vestCrossing (i : Nat)
  | fetch (h : Nat) | porchThresh (h : Nat) | threshSluice | sluiceHall (h : Nat) | landing (p : Nat)
  | hallTx (p v : Nat) | ejection | threshCrystal | delivery | rendezvous | rakeToHall | hallToRake
  | threshPorch | completion (h : Nat) | cellarClient (i : Nat) | hkPath | ackNack
deriving DecidableEq, Repr

/-- What a read of host memory answers: data, an error or poison, or nothing in time (R213, R286). -/
inductive HostRead
  | data (ws : List Word) | error | timeout
deriving DecidableEq, Repr

/-- Who asks for a room's residency (R211). -/
inductive FetchBy | command | knock | pageRead | lead
deriving DecidableEq, Repr

/-- A register access: byte address, width in bytes and, for a write, its data (R404). -/
structure Access where
  addr : Nat
  bytes : Nat := 8
deriving DecidableEq, Repr

/-- A Stair chain frame's common fields (R390). -/
structure StairFrame where
  tag : Nat
  step : Nat
  /-- The received CRC xor the CRC of the bytes before it: 0 where the CRC verifies. -/
  crcErr : Nat := 0
deriving DecidableEq, Repr

/-- Where a cell stands when its header parity fails (R73). -/
inductive ParityAt | hallInput (input index : Nat) | landing (port index : Nat)
deriving DecidableEq, Repr

/-- Which SRAM array or unit an error names: the block and the UNIT number of Table 14.6. -/
structure ArrayAt where
  block : Nat
  unit : Nat
deriving DecidableEq, Repr

/-- Where a parity mismatch stands (R358): a half of a configuration register, by block ID and
byte offset of the half within the block, or state that a Floor Plan section loaded, by section TYPE and instance. -/
inductive ParitySite
  | reg (block off : Nat) | plan (block type inst : Nat)
deriving DecidableEq, Repr

end Sys2Proof
end

