-- ==== Sys2Proof/Syntax.lean ====
section
/-! DEFINITION. The commands of the block: one constructor per row of the manual's table of operations and events, with
the row's operands. A cell operand of `none` stands for the cell at the head of the queue the event takes from. -/
namespace Sys2Proof

/-- The commands: register operations of the masters, arrivals on the links and pins, and the timed events. -/
inductive Instr
  /-- The duplicated pointers of a decoupling or crossing queue disagree; the owning block empties the queue,
  restores its credits, records and counts the event, raises L1, and answers the lost entries as Table 1.5
  states. (R23) -/
  | queuePtrMismatch (q : QueueId)
  /-- A 1 µs meter window ends; the meters report their periods, the core period P is taken anew, and hardware
  computes and presents the admission scale. (R26) -/
  | cycleMeterWindowEnd (periods : List Nat)
  /-- Hearth's voltage policy interval expires; it steps VCORE_ST up or down and evaluates the settled and
  shortfall conditions. (R27) -/
  | vpolInterval
  /-- No heartbeat arrives for 1 ms; POLICY_STALE is set, VCORE_ST is held, and hardware raises VCORE_ST to vmax
  if the period exceeds 1.10 × T. (R29) -/
  | policyStaleTimeout
  /-- A write of VPOL_CFG.HEARTBEAT restarts the 1 ms policy-stale timer and clears POLICY_STALE. (R29) -/
  | heartbeat (m : Master)
  /-- A write that changes OP_CTRL.OP_POINT starts an operating-point transition, and the Sluice adopts the new
  budgets within 1 µs. (R31) -/
  | opPointWrite (m : Master) (op : Nat)
  /-- The regulator reaches the seed set-point, and trimming by the policy loop begins. (R31) -/
  | regulatorSeedReached
  /-- A set-point write that the regulator has not acknowledged is retried after 2 µs, and after the fourth
  failure VCORE_MV keeps its previous value. (R444) -/
  | avsWriteRetry (acked : Bool)
  /-- A write of FPLAN_CTRL.OPEN opens a load session with the writer as owner and latches KIND, unless a session
  is already open. (R42) -/
  | fplanOpen (m : Master) (kind : Nat)
  /-- A write to FPLAN_DATA appends one word to the staging store and hashes it, or is refused under R43. (R42) -/
  | fplanDataWrite (m : Master) (w : Word)
  /-- The owner writes COMMIT; receiving ends and verification starts. (R42) -/
  | fplanCommit (m : Master)
  /-- The owner writes ABORT; a session not yet APPLYING ends REJECTED with cause ABORTED. (R43) -/
  | fplanAbort (m : Master)
  /-- A 100 ms bound between words or before commit runs out, and the session ends REJECTED with cause ABORTED.
  (R43) -/
  | fplanSessionTimeout
  /-- Verification ends; the checks of Table 2.7 are judged in order, and the plan is applied, left waiting for
  ACTIVATE_AT, or rejected. (R45) -/
  | planVerifyDone
  /-- Application of a full plan ends; the plan is installed, STATE becomes DONE, the Sluice is in Marked service,
  and ports start bring-up. (R44) -/
  | fullPlanApplyDone
  /-- ACTIVATE_AT of a verified partial plan arrives; work on touched objects is held, the live conditions are
  judged, and all sections or none are applied. (R47) -/
  | planActivate
  /-- A write of SLUICE_MODE.SCHEDULE enters Scheduled service unless a fall-back cause stands, in which case
  SCHEDULE_REFUSED is set. (R61) -/
  | scheduleRequest (m : Master)
  /-- A write of SLUICE_MODE.FORCE_MARKED to 1 forces Marked service, and while 1 no entry condition takes effect.
  (R62) -/
  | forceMarkedWrite (m : Master) (v : Nat)
  /-- A cell header fails parity inside the device; it is discarded, counted and an L0 fault is raised. (R73) -/
  | headerParityFail (at_ : ParityAt)
  /-- A LEAD cell reaches the target Threshold; its CRC, epoch, window and descriptor are checked, and it is
  delivered, parked, held or answered with a NACK. (R91) -/
  | leadArrival (c : Option Cell)
  /-- A PAYLOAD cell reaches the target; it is placed in reassembly state or waits in the Vestibule for its lead.
  (R253) -/
  | payloadArrival (c : Option Cell)
  /-- A cell enters a Hall input and is stamped with its arrival time. (R115) -/
  | cellHallEntry (input : Nat) (c : Option Cell)
  /-- An output arbitrates and computes the waiting cell's request; the cell is granted, waits, ejected or
  discarded. (R103) -/
  | arbitrationAttempt (out : Nat)
  /-- 10 µs pass with no cell routed through DETOUR[q]; the bit clears and DETOUR_END is set. (R110) -/
  | detourEnd (q : Nat)
  /-- A waiting cell's stamp becomes older than LIFE_US; it is discarded and counted as LIFETIME_DISCARD. (R115) -/
  | lifetimeDiscard (input : Nat)
  /-- A pinned cell has waited PIN_HOLD_NS for credit on its pinned port and may now request the escape port.
  (R118) -/
  | pinHoldExpiry (input : Nat)
  /-- A held tile under Checked forwarding does not complete within PIN_HOLD_NS; its cells are released cut-
  through and counted as CHECK_SKIPPED. (R54) -/
  | tileHoldExpiry (p : Nat) (src : Nat) (seq : Nat) (tile : Nat)
  /-- A port transmits one link frame carrying cells, replays or void slots, with its acknowledgement, credits and
  diagnosis. (R128) -/
  | linkFrameTransmit (p : Nat)
  /-- A DATA frame is received, decoded and checked, its header fields honoured, and it is classified by sequence.
  (R136) -/
  | linkFrameReceive (p : Nat) (f : RxFrame)
  /-- A PARAM frame arrives; its parameter block is stored, and when exchange completes the port enters UP or
  resumes after retrain. (R132) -/
  | paramFrameReceive (p : Nat) (f : RxFrame) (blk : ParamBlock)
  /-- The replay timer reaches REPLAY_TO_US; the port replays, retrains or goes down according to REPLAY_COUNT.
  (R142) -/
  | replayTimerExpiry (p : Nat)
  /-- A retrain does not return the port to UP within 400 µs; the port goes down as RETRAIN_FAIL. (R145) -/
  | retrainTimeout (p : Nat)
  /-- No PAUSE_ACK arrives within 10 µs and the port continues the retrain regardless. (R147) -/
  | pauseAckTimeout (p : Nat)
  /-- Every transmitted cell is acknowledged and lane training of the retrain begins. (R147) -/
  | retrainDrained (p : Nat)
  /-- A write of a new PORT_CFG.FEC, ONE_LANE or RATE_MAX starts the pause, retrain and resume sequence. (R147) -/
  | portSettingWrite (m : Master) (p : Nat) (fec : Nat) (oneLane : Nat) (rate : Nat)
  /-- A write of PORT_CTRL.RETRAIN starts a retrain with cause SOFTWARE if the port is UP. (R147) -/
  | portCtrlRetrain (m : Master) (p : Nat)
  /-- A write of PORT_CTRL.BRING_UP starts bring-up of a DOWN port. (R152) -/
  | portCtrlBringUp (m : Master) (p : Nat)
  /-- A write of ADMIN_DOWN 1 makes the port unavailable and begins draining its queued cells. (R151) -/
  | adminDownSet (m : Master) (p : Nat)
  /-- A write of ADMIN_DOWN 0 after an administrative down starts bring-up. (R152) -/
  | adminDownClear (m : Master) (p : Nat)
  /-- The drained cells are acknowledged or 100 µs pass, and the port sends GOING_DOWN. (R151) -/
  | adminDrainEnd (p : Nat)
  /-- GOING_DOWN has been sent for 2 µs and the port goes down with cause ADMIN. (R151) -/
  | goingDownEnd (p : Nat)
  /-- AUTO_UP_MS pass after a down with AUTO_UP set, and bring-up starts. (R152) -/
  | autoUpTimer (p : Nat)
  /-- The port's Landing becomes empty during bring-up and lane bring-up begins. (R152) -/
  | landingEmpty (p : Nat)
  /-- The PARAM exchange does not complete within 10 µs and lane bring-up restarts. (R152) -/
  | paramTimeout (p : Nat)
  /-- A 1 ms violation window ends; if VIOL_LIMIT was exceeded the port retrains or goes down with cause
  VIOLATIONS. (R155) -/
  | violationWindowEnd (p : Nat)
  /-- After 1,024 line frames each lane inserts an alignment marker. (R160) The BIP8 of its lanes that the command names is the
  sender's expectation: the marker carries the one counted over the bits sent. -/
  | alignmentMarkerSend (p : Nat) (bip0 : Nat) (bip1 : Nat)
  /-- A marker arrives; it gives alignment lock, deskew and BIP8 checks, or is counted as AM_BAD. (R162) -/
  | alignmentMarkerReceive (p : Nat) (lane : Nat) (mk : Marker)
  /-- A block of 2^20 symbols ends and the lane's FOM is reported. (R164) -/
  | fomBlockEnd (p : Nat) (k : Nat) (b : EyeBlock)
  /-- A lane's FOM stays below FAIL for FAIL_WINDOW_US and the lane fails as FOM_LOW. (R165) -/
  | fomFailWindowExpiry (p : Nat) (k : Nat)
  /-- Clock recovery loses lock for more than 1 µs and the lane fails as LOST_LOCK. (R165) -/
  | cdrLockLoss (p : Nat) (k : Nat)
  /-- Signal is absent for more than 1 µs and the lane fails as NO_SIGNAL. (R165) -/
  | signalLoss (p : Nat) (k : Nat)
  /-- Signal is detected on a lane and a bring-up attempt begins. (R173) -/
  | laneSignalDetect (p : Nat) (k : Nat)
  /-- Each lane's FOM has stayed at or above the pass threshold for 10 µs and the rate passes. (R171) -/
  | laneFomPass (p : Nat) (k : Nat)
  /-- A training frame with a valid TCW is received, giving caps, FOM, step and equaliser requests. (R169) -/
  | trainingFrameReceive (p : Nat) (k : Nat) (t : TCW)
  /-- After a STEP_REQ and STEP_ACK and 1 µs of silence, both ends resume at the requested rate. (R170) -/
  | rateStepSwitch (p : Nat)
  /-- STEP_WINDOW runs out without the rate passing and the leader steps back to the last rate that passed. (R171) -/
  | stepWindowExpiry (p : Nat)
  /-- An attempt does not reach PARAM by its class's cumulative bound; it restarts and counts BRINGUP_RETRY.
  (R173) -/
  | bringupAttemptTimeout (p : Nat)
  /-- A retrain attempt does not pass within 180 µs and the second attempt starts, if one is allowed. (R172) -/
  | retrainAttemptTimeout (p : Nat)
  /-- A host port link goes down; HOST_LINK is raised and its ACTIVE rooms enter ERROR. (R456) -/
  | hostLinkDown (h : Nat)
  /-- A host port link comes up with its MSI-X state at reset values. (R214) -/
  | hostLinkUp (h : Nat) (width : Nat) (speed : Nat) (atomicOp : Bool)
  /-- ROOM_CMD ACTIVATE checks the context and makes the room ACTIVE with its counters cleared. (R185) -/
  | roomActivate (m : Master) (r : Nat)
  /-- ROOM_CMD DEACTIVATE makes an idle ACTIVE room INACTIVE, or returns BUSY. (R185) -/
  | roomDeactivate (m : Master) (r : Nat)
  /-- ROOM_CMD RESET sets the room RESETTING, stops fetching, frees its space and removes its posted receives and
  unexpected messages. (R215) -/
  | roomReset (m : Master) (r : Nat)
  /-- The room's source operations have finished or timed out; words 5–30 are cleared and the room becomes
  INACTIVE with RESULT OK. (R215) -/
  | roomResetComplete (r : Nat)
  /-- ROOM_CMD FETCH, a knock, a page read or a lead starts making a room resident, evicting a victim if needed.
  (R211) -/
  | roomFetch (r : Nat) (by_ : FetchBy)
  /-- ROOM_CMD EVICT parks an evictable room, or returns BUSY. (R210) -/
  | roomEvict (m : Master) (r : Nat)
  /-- A ROOM_CMD with CMD 0 or 6–15 ends with RESULT BAD_CMD. (R185) -/
  | roomCmdInvalid (m : Master) (r : Nat) (cmd : Nat)
  /-- The 256-byte context read from the Box room returns; its CRC is checked and parked leads and stalled reads
  proceed. (R211) -/
  | contextFetchDone (r : Nat) (res : HostRead)
  /-- A write to ROOM_CTX_DATA writes the selected context word and recomputes CTX_CRC. (R184) -/
  | roomCtxWrite (m : Master) (w : Word)
  /-- A read of ROOM_CTX_DATA returns the selected word, reading the Box room for a parked context. (R184) -/
  | roomCtxRead (m : Master) (res : HostRead)
  /-- Words written to KNOCK add to the pending knock count, up to the ring size. (R191) -/
  | knock (h : Nat) (r : Nat) (k : Nat)
  /-- With knocks pending, outstanding room and a free completion slot, the Porch issues a read of work entries.
  (R192) -/
  | workFetchStart (r : Nat)
  /-- A work-ring read returns; device-owned entries are consumed in order until the first software-owned entry.
  (R192) -/
  | workFetchDone (r : Nat) (entries : List (List Word))
  /-- RESCAN_US passes after a stop with knocks pending and the stopping entry is read again. (R193) -/
  | rescanTimer (r : Nat)
  /-- Software writes CMPL_HEAD, which frees completion slots. (R198) -/
  | cmplHeadWrite (h : Nat) (r : Nat) (v : Nat)
  /-- A write to ARM arms one completion notice, or raises it at once if completions are unconsumed. (R214) -/
  | armWrite (h : Nat) (r : Nat) (v : Nat)
  /-- A read of LB_GRANT reserves Letterbox space for the room and returns the unused grant. (R202) -/
  | lbGrantRead (h : Nat) (r : Nat)
  /-- A write to LB_RELEASE returns the unused grant to the pool. (R202) -/
  | lbRelease (h : Nat) (r : Nat) (v : Nat)
  /-- A word written to the LETTERBOX window is appended to the open packet. (R200) -/
  | letterboxWord (h : Nat) (r : Nat) (w : Word) (is32 : Bool)
  /-- A word written to LB_END is appended with the end mark and closes the packet. (R200) -/
  | lbEndWord (h : Nat) (r : Nat) (w : Word) (is32 : Bool)
  /-- A closed packet gets a completion slot and enters the fetch queue as a consumed entry. (R201) -/
  | lbPacketEnqueue (r : Nat)
  /-- A read of the PICKUP window returns the next word of the head packet and removes it after the last word.
  (R207) -/
  | pickupRead (h : Nat) (r : Nat) (is32 : Bool)
  /-- A write to PICKUP_SKIP drops the unread rest of the head packet. (R208) -/
  | pickupSkip (h : Nat) (r : Nat)
  /-- A room's Letterbox or Pickup queue pointers disagree; the queue is emptied, an L1 fault raised and lost
  packets complete QUEUE_RESET. (R209) -/
  | roomQueueMismatch (r : Nat) (pickup : Bool)
  /-- The Porch takes a delivery command, verifies each tile and writes verified tiles to host memory or a Pickup
  packet. (R85) -/
  | porchDelivery
  /-- A released message reaches matching; it takes the earliest eligible posted receive or is stored as
  unexpected. (R232) -/
  | matchArrival (r : Nat)
  /-- A RECV reaches matching; it takes the earliest eligible unexpected message or is posted. (R232) -/
  | matchPost (r : Nat)
  /-- A Cellar read of a spilled list returns and the lookup finishes. (R232) -/
  | spillReadDone (r : Nat)
  /-- On-chip space is free while spill is not empty; the lowest-stamped spilled entry moves on chip. (R231) -/
  | refill (part : Nat) (side : Nat)
  /-- A CANCEL entry removes the matching posted receive, which completes CANCELLED. (R238) -/
  | recvCancel (r : Nat)
  /-- A stored segment's tiles are read back and verified, and the segment counts as complete or is freed. (R234) -/
  | storeReadbackDone (src : Nat) (seq : Nat) (badTiles : List Nat)
  /-- The Threshold takes a rendezvous get from its queue and sends it as a GET_REQ. (R225) -/
  | rendezvousGetIssue
  /-- A discarding message entry is freed 2 × OP_TIMEOUT_MS after its latest segment. (R239) -/
  | discardingEntryExpiry (src : Nat) (msg : Nat)
  /-- A parked or held segment reaches PARK_BUDGET_US and is answered NACK NOT_READY. (R269) -/
  | parkBudgetExpiry (src : Nat) (seq : Nat)
  /-- Payload cells wait ORPHAN_US without their lead and are discarded. (R253) -/
  | orphanTimeout (src : Nat) (seq : Nat)
  /-- The Threshold checks a work entry's job, rank and keys, translates the rank and assigns sequence numbers.
  (R89) -/
  | injectionTranslate
  /-- The segment at a shaper queue head is tested and admitted, moved to a wait list, or left waiting. (R332) -/
  | segmentAdmit (q : Nat)
  /-- A condition a waiting segment depends on changes and the segment is tested again. (R332) -/
  | waitlistRetest (peer : Nat)
  /-- A flow's next_ok time arrives and its next paced segment may be admitted. (R342) -/
  | paceRelease (peer : Nat)
  /-- A payload read from host memory returns and tile checks are computed as the data enters. (R251) -/
  | hostReadDone (tag : Nat) (res : HostRead)
  /-- A KIND 0 ACK arrives; covered segments are released, operations complete, and echoes adjust rates. (R256) -/
  | ackArrival (c : Option Cell)
  /-- A SYNC_REQ arrives and the receive side answers SYNC_RESP with its epoch. (R272) -/
  | syncReqArrival (c : Option Cell)
  /-- A SYNC_RESP arrives and the send side takes the next epoch and opens. (R272) -/
  | syncRespArrival (c : Option Cell)
  /-- Confirmations in an ACK turn confirmed NACKED segments into COMPLETE. (R261) -/
  | confArrival (c : Option Cell)
  /-- ACK_COAL_US pass after the first unacknowledged event and an ACK is sent. (R257) -/
  | ackCoalTimer (peer : Nat)
  /-- A segment's timer expires and the segment is retransmitted with a doubled timer. (R258) -/
  | retransmitTimeout (peer : Nat) (seq : Nat)
  /-- A segment is unacknowledged OP_TIMEOUT_MS after first transmission and fails with TIMEOUT. (R259) -/
  | opTimeout (peer : Nat) (seq : Nat)
  /-- A NOT_READY NACK arrives and the sender stops the segment's timer to wait HINT_US. (R262) -/
  | nackNotReadyArrival (c : Option Cell)
  /-- A final NACK arrives; the segment fails and is confirmed on the opposite flow. (R261) -/
  | nackFinalArrival (c : Option Cell)
  /-- A FLOW_RESET NACK of the current epoch arrives and the send side resets to the next epoch. (R272) -/
  | nackFlowResetArrival (c : Option Cell)
  /-- The NOT_READY hint runs out and the segment is re-sent. (R262) -/
  | notReadyResend (peer : Nat) (seq : Nat)
  /-- A response segment is missing at expiry and the get or atomic is reissued. (R265) -/
  | responseTimerExpiry (op : Nat)
  /-- An atomic response cache entry's hold ends and the entry is released. (R264) -/
  | atomicCacheRelease (src : Nat) (msg : Nat)
  /-- A target tracker entry stays incomplete 2 × OP_TIMEOUT_MS and is released with its completion. (R246) -/
  | trackerTimeout (src : Nat) (msg : Nat)
  /-- A SYNC_WAIT send side repeats SYNC_REQ every 4 × RTO_MIN_US. (R272) -/
  | syncReqRetry (peer : Nat)
  /-- No SYNC_RESP arrives within OP_TIMEOUT_MS and waiting operations complete TIMEOUT. (R272) -/
  | syncTimeout (peer : Nat)
  /-- A send-side reset delayed by the 200 µs epoch limit is performed. (R272) -/
  | epochAdvanceDeferred (peer : Nat)
  /-- A write of FLOW_CMD.RESET resets the selected flow context side by side. (R274) -/
  | flowCmdReset (m : Master)
  /-- KEY_CMD WRITE stores KEY_DATA into a key entry and replaces the cached copy. (R250) -/
  | keyCmdWrite (m : Master)
  /-- KEY_CMD READ loads a key entry into KEY_DATA. (R250) -/
  | keyCmdRead (m : Master)
  /-- KEY_CMD INVALIDATE clears VALID of a key entry. (R250) -/
  | keyCmdInvalidate (m : Master)
  /-- A key command ends with BUSY 0 after accesses under the old entry are issued. (R250) -/
  | keyCmdComplete
  /-- A read of MISS_POP gives one queued miss to the reading Housekeeper. (R285) -/
  | missPop (m : Master) (hk : Nat)
  /-- MISS_DONE with WALK_FAULT fails every access waiting on the miss. (R286) -/
  | missDoneWalkFault (m : Master) (h : Nat) (id : Nat)
  /-- MISS_DONE with WALK_DEVICE fails every access waiting on the miss. (R286) -/
  | missDoneWalkDevice (m : Master) (h : Nat) (id : Nat)
  /-- MISS_DONE with NOT_PRESENT after a page request leaves the miss waiting for PAGE_DONE. (R287) -/
  | missDoneNotPresent (m : Master) (h : Nat) (id : Nat)
  /-- MISS_DONE with RETRY makes waiting accesses look up again. (R285) -/
  | missDoneRetry (m : Master) (h : Nat) (id : Nat)
  /-- A write to WALK_REQ issues one 8-byte read within a walkable window, or reads DEVICE at once. (R286) -/
  | walkReq (m : Master) (hk : Nat) (h : Nat) (addr : Nat)
  /-- A walk read ends with data, FAULT or timeout. (R286) -/
  | walkReadDone (hk : Nat) (res : HostRead)
  /-- ATB_CMD INSTALL removes overlaps, writes the entry and resolves covered misses, or returns STALE. (R288) -/
  | atbInstall (m : Master) (h : Nat) (hasMiss : Bool) (miss : Nat)
  /-- ATB_CMD INVALIDATE removes entries of a range and marks covered miss entries stale. (R288) -/
  | atbInvalidate (m : Master) (h : Nat)
  /-- ATB_CMD READ loads entry INDEX into ATB_DATA. (R280) -/
  | atbRead (m : Master) (h : Nat) (index : Nat)
  /-- An INV_RING request of kind RANGE invalidates a range of a context. (R289) -/
  | invRange (m : Master) (h : Nat)
  /-- An INV_RING request of kind CONTEXT invalidates every entry of a context. (R289) -/
  | invContext (m : Master) (h : Nat)
  /-- An INV_RING request of kind PORT_ALL invalidates the port's whole ATB. (R289) -/
  | invPortAll (m : Master) (h : Nat)
  /-- An INV_RING request of kind PAGE_DONE answers a page request, re-walking or failing the miss. (R287) -/
  | pageDone (m : Master) (h : Nat)
  /-- An invalidation finishes its steps and drain; BUSY clears, DONE_SEQ advances and INV_DONE is set. (R290) -/
  | invRequestComplete (h : Nat)
  /-- RANK_CMD WRITE stores a rank entry in the Cellar. (R293) -/
  | rankCmdWrite (m : Master)
  /-- RANK_CMD READ loads a rank entry into RANK_DATA. (R293) -/
  | rankCmdRead (m : Master)
  /-- RANK_CMD FLUSH_JOB removes every cached rank entry of the slot's job. (R293) -/
  | rankCmdFlushJob (m : Master)
  /-- A COLL entry is checked and admitted to the Rake, completed at once, or made to start an abort. (R296) -/
  | collAdmit
  /-- A HEAD cell arrives; it is merged, begins an operation, aborts the running one, or is discarded. (R310) -/
  | treeHeadArrival (port : Nat) (c : Option Cell)
  /-- A DATA cell arrives; the chunk is combined and sent up, or the result is replicated down and handed to the
  Porch. (R307) -/
  | treeDataArrival (port : Nat) (c : Option Cell)
  /-- A GRANT arrives and the child adopts the lesser of its context size and the grant. (R309) -/
  | treeGrantArrival (port : Nat) (c : Option Cell)
  /-- An ABORT arrives and the Rake aborts the running operation or records the abort. (R312) -/
  | treeAbortArrival (port : Nat) (c : Option Cell)
  /-- A context frees and the waiting operation takes it and grants a larger window. (R309) -/
  | treeContextTake (t : Nat)
  /-- A chunk stays incomplete for STALL_US and the operation is aborted with TIMEOUT. (R312) -/
  | treeStallTimeout (t : Nat)
  /-- RAKE_CTRL ABORT aborts the running operation of a tree with TIMEOUT. (R312) -/
  | rakeAbortCmd (m : Master) (t : Nat)
  /-- RAKE_CTRL RESYNC ends DESYNC, setting NEXT_SEQ to 0 and clearing ABORTED_SEQ. (R310) -/
  | rakeResyncCmd (m : Master) (t : Nat)
  /-- The Porch writes a verified result chunk and, after the last, posts the COLL completion. (R307) -/
  | collResultWrite (t : Nat)
  /-- Every PERIOD_US each UP port sends a TIME cell to its partner. (R322) -/
  | timeCellSend (p : Nat)
  /-- A TIME cell arrives; link delay and offset are computed and the servo steps or slews. (R324) -/
  | timeCellArrival (p : Nat) (c : Cell)
  /-- No sample is accepted for 8 periods; SYNCED clears and HOLDOVER is set. (R326) -/
  | timeHoldoverTimeout
  /-- TIME_ADJ.SET at the master in Marked service sets network time, or is refused. (R328) -/
  | timeSet (m : Master) (ns : Nat) (frac : Nat)
  /-- A gate list reaches the end of its entry in force and the next entry takes effect. (R329) -/
  | gateEntryChange (p : Nat)
  /-- Every 100 ns the device budget refills by the scaled INJECT_BUDGET. (R333) -/
  | budgetRefill
  /-- Every 100 ns each shaper queue adds its tokens up to its burst. (R334) -/
  | shaperRefill (q : Nat)
  /-- Every 100 ns the ticket issue budget refills by the scaled TICKET_RATE. (R339) -/
  | ticketBudgetRefill
  /-- A ticket REQUEST arrives and the receiver computes the tickets still owed. (R339) -/
  | ticketRequestArrival (c : Option Cell)
  /-- A GRANT arrives; SEEN rises and waiting segments take tickets. (R338) -/
  | ticketGrantArrival (c : Option Cell)
  /-- In round robin the receiver sends a GRANT when its issue budget holds enough tickets. (R339) -/
  | ticketGrantIssue
  /-- No GRANT has arrived for RETRY_US while NEED is above 0, and a REQUEST is sent. (R338) -/
  | ticketRequestRetry (peer : Nat)
  /-- A held ticket unused for LIFE_US expires. (R338) -/
  | ticketExpiry (peer : Nat)
  /-- Every AI_US a Marked flow's rate rises by AI_STEP if not cut recently. (R342) -/
  | rateIncreaseTick (peer : Nat)
  /-- Every SAMPLE_NS the depth of each queue is added to its depth histogram. (R344) -/
  | histSample
  /-- HIST_CTRL.CLEAR zeroes both histograms of the selected queue. (R344) -/
  | histClear (m : Master)
  /-- A block's quiet period ends; unacknowledged bits clear and the block may return to L0. (R351) -/
  | quietTimerExpiry (b : Nat)
  /-- A write to FAULT_ACK acknowledges fault classes. (R351) -/
  | faultAckWrite (m : Master) (b : Nat) (mask : Nat)
  /-- FAULT_INJECT.GO raises a fault of CLASS as if detected, marked INJECTED. (R349) -/
  | faultInject (m : Master) (b : Nat) (cls : Nat)
  /-- A configuration register half fails parity; CFG_PARITY is raised and the mismatch stands. (R358) -/
  | cfgParityMismatch (site : ParitySite)
  /-- A block's fault state fails parity; FAULT_REG_PARITY places the device at L3. (R359) -/
  | faultRegParityMismatch (b : Nat)
  /-- DEV_FAULT_CTRL.HOST_RESET starts the host-side reset, stopping and emptying the host-side blocks. (R356) -/
  | hostReset (m : Master)
  /-- The host-side reset ends; host-side blocks return to L0 and the device level is computed anew. (R356) -/
  | hostResetComplete
  /-- L4_RESET_MS after entry to L4, without L4_HOLD, the device resets itself. (R357) -/
  | l4ResetTimer
  /-- A write of L4_HOLD 1 suppresses or stops the L4 reset countdown. (R357) -/
  | l4HoldWrite (m : Master) (v : Nat)
  /-- A PENDING suspect entry's delay ends; it is cancelled if fenced, otherwise a notice is sent and it enters
  HOLD. (R364) -/
  | suspectJitterExpiry (e : Nat)
  /-- A HOLD entry's hold-off ends; a repeat notice is sent or the entry is freed. (R364) -/
  | suspectHoldExpiry (e : Nat)
  /-- A write of FENCE_DATA replaces 64 fence bits, each change acting as a set or lift. (R366) -/
  | fenceDataWrite (m : Master) (w : Word)
  /-- FENCE_CMD SET fences a node; its cells, parked state and operations are dropped or failed. (R367) -/
  | fenceSet (m : Master) (node : Nat)
  /-- FENCE_CMD LIFT unfences a node and resets its flow context. (R366) -/
  | fenceLift (m : Master) (node : Nat)
  /-- FENCE_CMD LIFT_ALL lifts every fence bit. (R366) -/
  | fenceLiftAll (m : Master)
  /-- A DDR5 ECC error is corrected (DDR_CE) or not correctable (DDR_UE). (R348) -/
  | ddrEccError (correctable : Bool)
  /-- DDR5 training, command parity or refresh is lost; DDR_LINK raises CELLAR to L2. (R348) -/
  | ddrLinkFail
  /-- An on-chip array error is corrected or not, and lost entries are answered as Table 1.5 states. (R348) -/
  | sramEccError (at_ : ArrayAt) (correctable : Bool)
  /-- VAUX rises and the device resets everything but the Attic. (R378) -/
  | powerOnReset
  /-- A supply leaves tolerance and a power-on reset is asserted. (R372) -/
  | supplyFault
  /-- Every reset source has ended; domains are released in order. (R379) -/
  | resetRelease
  /-- PERST# of the primary host port asserts a device reset. (R378) -/
  | perstPrimary
  /-- PERST# of another host port resets that port's controller and re-reads HOST_MODE. (R378) -/
  | perstSecondary (h : Nat)
  /-- RESET_CTRL.DEVICE_RESET with CONFIRM 0x42 performs a device reset; otherwise it is refused. (R381) -/
  | deviceResetWrite (m : Master) (confirm : Nat)
  /-- RESET_CTRL.CRYSTAL resets the Crystalliser block. (R384) -/
  | blockResetCrystal (m : Master)
  /-- RESET_CTRL.RAKE resets the Rake block. (R384) -/
  | blockResetRake (m : Master)
  /-- RESET_CTRL.COUNT resets the COUNT block. (R384) -/
  | blockResetCount (m : Master)
  /-- A write of RESET_CAUSE_CLR clears the named sticky cause bits. (R380) -/
  | resetCauseClear (m : Master) (mask : Nat)
  /-- The watchdog reaches TIMEOUT_MS and performs a device reset. (R382) -/
  | watchdogExpiry
  /-- A write of WDOG_CFG.KICK restarts the watchdog count. (R382) -/
  | watchdogKick (m : Master)
  /-- A reading at or above WARN_C raises THERMAL in POWER. (R383) -/
  | thermalWarning (sensor : Nat) (temp : Nat)
  /-- A reading at 115 °C asserts device reset and drives THERMTRIP_L low. (R383) -/
  | thermalTrip (sensor : Nat) (temp : Nat)
  /-- Every sensor has read below 95 °C for 1 s and the trip is released. (R383) -/
  | thermalTripRelease
  /-- A write of DOMAIN_TARGET starts transitions of domains whose target differs from their state. (R375) -/
  | domainTargetWrite (m : Master) (hi : Bool) (w : Word)
  /-- A domain transition ends, with its on or off actions completed. (R375) -/
  | domainTransitionDone (d : Nat)
  /-- ATTIC_CMD READ loads an Attic word into ATTIC_DATA. (R385) -/
  | atticRead (m : Master)
  /-- ATTIC_CMD WRITE writes and verifies an Attic word, refusing the active option copy. (R385) -/
  | atticWrite (m : Master) (verified : Bool)
  /-- ATTIC_CMD OPT_COMMIT makes the inactive option copy active with GEN plus 1. (R388) -/
  | optCommit (m : Master)
  /-- An ENUM frame assigns or clears the step address and is forwarded. (R391) -/
  | stairEnum (f : StairFrame)
  /-- A READ frame addressed to this device reads a register and answers DATA. (R392) -/
  | stairRead (f : StairFrame) (addr : Nat)
  /-- A WRITE frame addressed to this device or broadcast writes a register and is acknowledged. (R392) -/
  | stairWrite (f : StairFrame) (addr : Nat) (w : Word)
  /-- A RESET frame with CONFIRM 0x42 is acknowledged and performs a device or host-side reset. (R394) -/
  | stairReset (f : StairFrame) (scope : Nat) (confirm : Nat)
  /-- A frame of another TYPE is answered ERR BAD_TYPE. (R390) -/
  | stairBadType (f : StairFrame) (ty : Nat) (payload : List Nat)
  /-- A response frame from downstream is repeated upstream. (R392) -/
  | stairUpstreamFrame (bytes : List Nat)
  /-- SC_DIN has no comma lock for 100 µs and the device becomes the chain end. (R389) -/
  | chainEndDetect
  /-- SC_UIN loses comma lock for 100 µs and the Stair chain master ID is reset. (R425) -/
  | stairLockLoss
  /-- BIST_CTRL.SHUTDOWN takes ports down, runs the host-side reset and all BIST groups. (R397) -/
  | bistShutdown (m : Master)
  /-- BIST_CTRL.START starts a logic BIST run. (R395) -/
  | bistStart (m : Master)
  /-- A BIST group ends; the next round starts or the record is written. (R395) -/
  | bistGroupDone (g : Nat) (pass : Bool)
  /-- A Secure write of BOOT_CTRL.OVERRIDE ends HALTED. (R398) -/
  | bistOverride (m : Master)
  /-- Hearth decides between quick start and a full BIST run. (R398) -/
  | bootDecision
  /-- A write to a register with no row of its own takes effect at once, after width, address and privilege
  checks; a host's request of several words is one write for each. (R405, R408) -/
  | registerWrite (m : Master) (a : Access) (data : List Word)
  /-- A read of an RC register returns and clears the sticky bits it returns. (R6) -/
  | rcRegisterRead (m : Master) (a : Access)
  /-- A read of INT_PEND returns and clears only the reading master's copy. (R414) -/
  | intPendRead (m : Master) (hi : Bool)
  /-- A write of WIDE_SEL captures the selected wide value into the writer's mailbox. (R416) -/
  | wideSelWrite (m : Master) (kind : Nat) (block : Nat) (index : Nat)
  /-- A MGMT READ is refused, queued or performed and answered with READ_RESP. (R418) -/
  | mgmtReadArrival (c : Option Cell)
  /-- A MGMT WRITE is refused, queued or performed and answered with WRITE_RESP. (R418) -/
  | mgmtWriteArrival (c : Option Cell)
  /-- A read of LATCH_TAKE takes a free Latch or returns BUSY. (R422) -/
  | latchTake (m : Master) (k : Nat)
  /-- A read of LATCH_WAIT takes a free Latch or stalls in arrival order. (R423) -/
  | latchWait (m : Master) (k : Nat)
  /-- A stalled LATCH_WAIT reaches STALL_US and returns BUSY. (R423) -/
  | latchWaitTimeout (k : Nat)
  /-- A holder's write to LATCH_RELEASE frees the Latch, granting the oldest stalled read. (R424) -/
  | latchRelease (m : Master) (k : Nat)
  /-- LATCH_FORCE.GO frees a held Latch and sets its FORCED mark. (R424) -/
  | latchForce (m : Master) (k : Nat)
  /-- A dump period boundary freezes bank D and starts a record, or skips the dump. (R433) -/
  | dumpPeriod
  /-- A record's body and then header word 0 are written to the dump ring. (R433) -/
  | dumpRecordDone
  /-- SNAP_CTRL.ARM arms a snapshot at SNAP_AT, firing at once if that time has passed. (R435) -/
  | snapArm (m : Master)
  /-- SNAP_CTRL.DISARM cancels the armed snapshot. (R435) -/
  | snapDisarm (m : Master)
  /-- Network time reaches SNAP_AT; bank S is frozen, or the snapshot is missed. (R435) -/
  | snapshotFire
  /-- A frozen bank S is written as a snapshot record once a record is free. (R436) -/
  | snapRecordWrite
  /-- The bound of blind-start step 3 or 4, or of stepped-negotiation tuning at 56 Gb/s, runs out; a lane that has
  not passed is marked failed with TRAIN_FOM or AM_LOST and training continues on the other lane, or
  LAST_RESULT reads FOM_56 and the attempt ends. (R171) -/
  | trainingStepBoundExpiry (p : Nat)
  /-- A Cellar read issued on a rank, key or flow-context cache miss returns, and the translation, key check or
  flow lookup that waited on it continues. (R89) -/
  | cellarReadDone (failed : Bool)
  /-- SC_UIN or SC_DIN gains comma lock; LOCK_UP or LOCK_DOWN is set, and a device that gains lock on SC_DIN stops
  being the chain end. (R389) -/
  | stairCommaLock (down : Bool)
deriving DecidableEq, Repr

end Sys2Proof
end

