-- ==== Sys2Proof/Decode.lean ====
section
/-! DEFINITION. The words of the table: no row of the manual's table of operations gives its command bits, so no word
spells a command. -/
namespace Sys2Proof

/-- The command a word spells by the table's bits: none, since no row has bits. -/
def decodeTableWord (_nbits _w : Nat) : Option Instr := none

end Sys2Proof
end

