-- ==== Sys2Proof/Config.lean ====
section
/-! DEFINITION. What one silicon or one board fixes, and the free values: opaque, so that no proof knows a value. -/
namespace Sys2Proof.Config

/-- DEVICE_ID.STEPPING: "Per silicon" (Table 16.8). -/
opaque stepping : BitVec 8

/-- DEVICE_ID.BIST_VERSION: pattern version of the BIST ROM, "Per silicon" (Table 16.8). -/
opaque bistVersion : BitVec 8

/-- COUNT_STAT.TOTAL: used counter slots, "Per silicon" (Table 17.3, R431). -/
opaque usedSlots : BitVec 16

/-- DDR5 capacity in GiB that training finds: what the board's DIMMs hold (R450). -/
opaque cellarGib : BitVec 16

/-- DDR5 data rate in units of 100 MT/s that training reaches (R450). -/
opaque cellarSpeed : BitVec 8

/-- A free value: the n-th value the manual leaves open that a run draws (R12, R281, R359, R363). -/
opaque freeNat : Nat → Nat

/-- Cells beyond its first that the acknowledgement and NACK queue holds, on chip and in a spill region of a size in MiB (R22). -/
opaque ackQueueCells : Nat → Nat

/-- Requests that the spill of the rendezvous get queue holds in a spill region of a size in MiB (R22, R237). -/
opaque rndvSpill : Nat → Nat

/-- What words 5 to 30 of a room's context hold: consumed count, written count, events, MATCH_ORDER and PARTITION in force, and the
word's number (R184 gives no layout). -/
opaque ctxState : Nat → Nat → Nat → Nat → Nat → Nat → Word

/-- The running state that words 5 to 30 give where the device did not write them: 0 consumed, 1 written, 2 events, 3 MATCH_ORDER,
4 PARTITION (R184, R216). -/
opaque ctxRun : List Word → Nat → Nat

end Sys2Proof.Config
end

