-- ==== Sys2Proof/Machine/RegNames.lean ====
section
/-! DEFINITION. The names of the register space: fault and register blocks (Tables 14.1, 16.3), access codes
(Tables 0.5, 16.2), the registers and every named field of every register table of the manual. -/
namespace Sys2Proof.Machine

/-- Register blocks by kind. `faultg` stands for the fault group of Table 14.11, which every block holds. -/
inductive Blk
  | GLOBAL | STAIR | ATTIC | FPLAN | HALL | SLUICE | CRYSTAL | RAKE | THRESH | PORCH | CELLAR | LATCH | COUNT
  | POWER | PORT | FAULTG
deriving DecidableEq, Repr

/-- Access codes of Table 0.5. -/
inductive Acc | RW | RO | RC | W1 | WO | RWP | RWS
deriving DecidableEq, Repr

/-- What a field's table adds to its access code: nothing, "Privileged or Secure masters only", "Secure only". -/
inductive Guard | byAccess | priv | secure
deriving DecidableEq, Repr

/-- How an out-of-range value is stored (R408): as written, as the nearest limit, or as one named value. -/
inductive Clamp | none | range (lo hi : Nat) | only (lo hi other : Nat)
deriving DecidableEq, Repr

/-- The registers of the register space, under the manual's names. -/
inductive Reg
  | OP_CTRL | VPOL_CFG | VPOL_STAT | VPOL_EVENTS | VPOL_SEED | CYCLE_METER | FPLAN_CTRL | FPLAN_DATA
  | FPLAN_ID | FPLAN_STAT | FPLAN_SERIAL | FPLAN_EVENTS | JOB_SLOT | HALL_MODE | HALL_ARB | HALL_STAT
  | HALL_EVENTS | HALL_AVAIL_LO | HALL_AVAIL_HI | HALL_FENCED_LO | HALL_FENCED_HI | HALL_DETOUR_LO
  | HALL_DETOUR_HI | PORT_MAP_RD | ESCAPE_RD | DETOUR_RD | PORT_CFG | PORT_CTRL | PORT_STAT | PORT_EVENTS
  | PORT_SEQ | PORT_VIOL | PORT_PARTNER | PORT_PARTNER_DIAG | LANDING_VC | PARTNER_VC | LANE_CFG
  | LANE_FOM_CFG | LANE_EVENTS | LANE_NEG | LANE_STAT | LANE_TXEQ | PORCH_CFG | BOXROOM_BASE | ROOM_CMD
  | ROOM_CMD_STAT | ROOM_CTX_SEL | ROOM_CTX_DATA | PORCH_STAT | PORCH_EVENTS | POOL_STAT | HPORT_STAT
  | CRYSTAL_CFG | CRYSTAL_STAT | CRYSTAL_EVENTS | PART_POSTED | PART_UNEXP | PART_STORE | THRESH_CFG
  | THRESH_ACK_CFG | THRESH_STAT | THRESH_EVENTS | KEY_SEL | KEY_CMD | KEY_CMD_STAT | KEY_DATA | FLOW_SEL
  | FLOW_CMD | FLOW_STAT0 | FLOW_STAT1 | XCTX_BASE | INV_MBOX0 | INV_MBOX1 | INV_RING | INV_STAT | PRQ_BASE
  | PRQ_CTRL | WALK_WIN_BASE | WALK_WIN_LIMIT | MISS_POP | MISS_VA | MISS_DONE | WALK_REQ | WALK_DATA
  | WALK_STAT | ATB_CMD | ATB_CMD_STAT | ATB_DATA0 | ATB_DATA1 | ATB_DATA2 | XLATE_STAT | XLATE_EVENTS
  | RANK_SEL | RANK_DATA | RANK_CMD | RANK_STAT | RAKE_CFG | RAKE_CTRL | RAKE_STAT | RAKE_EVENTS | TREE_JOB
  | TREE_ENTRY | TREE_CHILD | SLUICE_MODE | SLUICE_STAT | SLUICE_EVENTS | TICKET_CFG | TIME_CFG | TIME_STAT
  | TIME_SET_NS | TIME_ADJ | MARK_CFG | MARK_RATE | HIST_SEL | HIST_CTRL | HIST_BIN | TIME_DELAY | GATE_POS
  | SHAPE_CFG | SHAPE_STAT | JOB_SHAPE | FAULT_STAT | FAULT_EVENTS | FAULT_UNACK | FAULT_ACK | FAULT_CFG
  | RECOVERY_COUNT | FAULT_INJECT | DEV_FAULT | DEV_FAULT_CTRL | DEV_FAULT_BLOCKS_LO | DEV_FAULT_BLOCKS_HI
  | FENCE_SEL | FENCE_DATA | FENCE_CMD | FENCE_STAT | SUSPECT_CFG | SUSPECT_STAT | SUSPECT_EVENTS
  | SUSPECT_SEL | SUSPECT_ENTRY | DOMAIN_TARGET_LO | DOMAIN_TARGET_HI | DOMAIN_STAT_LO | DOMAIN_STAT_HI
  | DOMAIN_EVENTS | DOMAIN_REFUSE | RESET_CAUSE | RESET_CAUSE_CLR | RESET_CTRL | WDOG_CFG | THERM_CFG
  | THERM_STAT | BOOT_STAT | BOOT_CTRL | BOARD_TIME | BIST_CTRL | ATTIC_SEL | ATTIC_DATA | ATTIC_CMD
  | ATTIC_STAT | OPT_STAT | STAIR_STAT | STAIR_EVENTS | DEVICE_ID | NODE_ID | GLOBAL_EVENTS | ACCESS_LOG
  | MGMT_CFG | SCRATCH | INT_PEND_LO | INT_PEND_HI | INT_ROUTE | WIDE_SEL | WIDE_STAT | WIDE_DATA
  | CELLAR_STAT | LATCH_TAKE | LATCH_WAIT | LATCH_RELEASE | LATCH_FORCE | LATCH_STAT | LATCH_CFG
  | LATCH_EVENTS | COUNT_MODE | COUNT_STAT | COUNT_EVENTS | DUMP_CFG | DUMP_BASE | DUMP_HEAD | SNAP_AT
  | SNAP_CTRL | CAT_SEL | SHADOW_SEL | CAT_DATA | SHADOW_DATA | WRAP | BANK_SEL | BANK_VAL | COUNTER
  | TRACE_CFG | TRACE_FILTER | TRACE_BASE | TRACE_HEAD | TRACE_STAT
deriving DecidableEq, Repr

/-- The named fields of the registers: register name, underscore, field name. -/
inductive Fld
  | OP_CTRL_OP_POINT | VPOL_CFG_INTERVAL | VPOL_CFG_STEP | VPOL_CFG_DEADBAND | VPOL_CFG_VMIN | VPOL_CFG_VMAX
  | VPOL_CFG_HEARTBEAT | VPOL_STAT_VCORE_MV | VPOL_STAT_CORE_PERIOD_PS | VPOL_STAT_SLOWEST_METER
  | VPOL_STAT_SETTLED | VPOL_STAT_SHORTFALL | VPOL_STAT_POLICY_STALE | VPOL_STAT_SCALE
  | VPOL_EVENTS_SHORTFALL_SEEN | VPOL_EVENTS_STALE_SEEN | VPOL_EVENTS_VMAX_SEEN | VPOL_EVENTS_OP_DONE
  | VPOL_SEED_SEED_MV | CYCLE_METER_PERIOD_PS | CYCLE_METER_COUNTED | FPLAN_CTRL_OPEN | FPLAN_CTRL_KIND
  | FPLAN_CTRL_COMMIT | FPLAN_CTRL_ABORT | FPLAN_DATA_WORD | FPLAN_ID_PLAN_ID | FPLAN_STAT_STATE
  | FPLAN_STAT_OWNER | FPLAN_STAT_WORDS | FPLAN_STAT_REJECT | FPLAN_STAT_BAD_TYPE | FPLAN_STAT_BAD_WORD
  | FPLAN_SERIAL_SERIAL | FPLAN_SERIAL_PARTIALS | FPLAN_EVENTS_DONE | FPLAN_EVENTS_REJECTED
  | FPLAN_EVENTS_FOREIGN_WRITE | FPLAN_EVENTS_LATE | JOB_SLOT_JOB | JOB_SLOT_LAST_RANK | JOB_SLOT_RT_OFFSET
  | JOB_SLOT_VALID | HALL_MODE_CHECKED | HALL_MODE_PIN_ALL | HALL_MODE_DETOUR_EN | HALL_MODE_PIN_HOLD_NS
  | HALL_MODE_LIFE_US | HALL_ARB_W_TREE | HALL_ARB_W_REQ | HALL_ARB_W_RESP | HALL_STAT_VC_SET
  | HALL_STAT_DETOURS_ACTIVE | HALL_STAT_OLDEST_US | HALL_EVENTS_LIFETIME_SEEN | HALL_EVENTS_NO_ROUTE_SEEN
  | HALL_EVENTS_FENCE_DROP_SEEN | HALL_EVENTS_DETOUR_START | HALL_EVENTS_DETOUR_END
  | HALL_EVENTS_HDR_PARITY_SEEN | HALL_EVENTS_DIM_DONE_SEEN | HALL_AVAIL_LO_AVAIL | HALL_AVAIL_HI_AVAIL
  | HALL_FENCED_LO_FENCED | HALL_FENCED_HI_FENCED | HALL_DETOUR_LO_DETOUR | HALL_DETOUR_HI_DETOUR
  | PORT_MAP_RD_ENTRY | ESCAPE_RD_ENTRY | DETOUR_RD_ENTRY | PORT_CFG_FEC | PORT_CFG_ONE_LANE
  | PORT_CFG_RATE_MAX | PORT_CFG_ADMIN_DOWN | PORT_CFG_AUTO_UP | PORT_CFG_REPLAY_TO_US | PORT_CFG_VIOL_LIMIT
  | PORT_CFG_AUTO_UP_MS | PORT_CTRL_RETRAIN | PORT_CTRL_BRING_UP | PORT_STAT_STATE | PORT_STAT_FEC_ACTIVE
  | PORT_STAT_RATE_ACTIVE | PORT_STAT_ONE_LANE_ACTIVE | PORT_STAT_REPLAY_COUNT | PORT_STAT_DOWN_CAUSE
  | PORT_STAT_REPLAY_OCC | PORT_STAT_RETRAIN_CAUSE | PORT_EVENTS_UP_SEEN | PORT_EVENTS_DOWN_SEEN
  | PORT_EVENTS_RETRAIN_SEEN | PORT_EVENTS_RETRAIN_DONE | PORT_EVENTS_REPLAY_SEEN
  | PORT_EVENTS_VIOLATION_SEEN | PORT_EVENTS_NACK_RCVD | PORT_EVENTS_PARAM_MISMATCH
  | PORT_EVENTS_WIDTH_DEGRADED | PORT_SEQ_TX_NEXT | PORT_SEQ_TX_OLDEST | PORT_SEQ_RX_EXPECTED
  | PORT_VIOL_LAST_CODE | PORT_VIOL_LAST_SEQ | PORT_VIOL_LAST_VC | PORT_VIOL_WINDOW_COUNT
  | PORT_VIOL_LAST_NACK_RCVD | PORT_PARTNER_BLOCK_W0 | PORT_PARTNER_DIAG_WORD4 | LANDING_VC_OCC
  | LANDING_VC_RESERVED | LANDING_VC_SHARED_CAP | PARTNER_VC_SENDER_OCC | PARTNER_VC_P_RESERVED
  | PARTNER_VC_P_SHARED_CAP | LANE_CFG_ADAPT_FREEZE | LANE_CFG_TXEQ_HOLD | LANE_CFG_SKEW_MAX_NS
  | LANE_CFG_FAIL_WINDOW_US | LANE_CFG_STEP_WINDOW | LANE_FOM_CFG_THR_LIGHT | LANE_FOM_CFG_THR_HEAVY
  | LANE_FOM_CFG_FAIL | LANE_EVENTS_LOCK_SEEN | LANE_EVENTS_LANE_FAIL | LANE_EVENTS_BRINGUP_RETRY
  | LANE_EVENTS_NEG_DONE | LANE_EVENTS_NEG_FAIL | LANE_EVENTS_FOM_WARN | LANE_EVENTS_SELF_LOOP
  | LANE_NEG_PARTNER_CAPS | LANE_NEG_RATE_REACHED | LANE_NEG_LEADER | LANE_NEG_STEPS | LANE_NEG_LAST_RESULT
  | LANE_NEG_PARTNER_NODE | LANE_NEG_PARTNER_PORT | LANE_STAT_STATE | LANE_STAT_TX_CARRY | LANE_STAT_RX_CARRY
  | LANE_STAT_FAIL_CAUSE | LANE_STAT_FOM | LANE_STAT_FOM_MIN | LANE_STAT_PARTNER_FOM | LANE_STAT_SKEW_PS
  | LANE_TXEQ_C_M2 | LANE_TXEQ_C_M1 | LANE_TXEQ_C_0 | LANE_TXEQ_C_P1 | LANE_TXEQ_C_P2 | PORCH_CFG_RESCAN_US
  | PORCH_CFG_FETCH_BURST | PORCH_CFG_FULL_HINT_US | PORCH_CFG_PIN_LIMIT | PORCH_CFG_PARK_MAX_KIB
  | PORCH_CFG_BOX_HPORT | BOXROOM_BASE_BASE | ROOM_CMD_ROOM | ROOM_CMD_CMD | ROOM_CMD_STAT_BUSY
  | ROOM_CMD_STAT_RESULT | ROOM_CMD_STAT_ROOM | ROOM_CTX_SEL_ROOM | ROOM_CTX_SEL_WORD | ROOM_CTX_DATA_DATA
  | PORCH_STAT_RESIDENT | PORCH_STAT_PINNED_NOW | PORCH_STAT_ACTIVE | PORCH_EVENTS_RESIDENCY_FULL
  | PORCH_EVENTS_LB_POOL_EMPTY | PORCH_EVENTS_PICKUP_POOL_EMPTY | PORCH_EVENTS_CMD_DONE
  | PORCH_EVENTS_CMD_IGNORED | PORCH_EVENTS_QUEUE_RESET | PORCH_EVENTS_ROOM_ERROR | POOL_STAT_LB_FREE_KIB
  | POOL_STAT_PICKUP_FREE_KIB | HPORT_STAT_MODE | HPORT_STAT_LINK_UP | HPORT_STAT_WIDTH | HPORT_STAT_SPEED
  | HPORT_STAT_ATOMICOP | HPORT_STAT_BOXROOM | CRYSTAL_CFG_EAGER_MAX | CRYSTAL_CFG_FULL_HINT_US
  | CRYSTAL_STAT_MSG_IN_USE | CRYSTAL_STAT_REFILLING | CRYSTAL_STAT_HELD | CRYSTAL_EVENTS_POST_FULL
  | CRYSTAL_EVENTS_UNEXP_FULL | CRYSTAL_EVENTS_STORE_FULL | CRYSTAL_EVENTS_MSG_TABLE_FULL
  | CRYSTAL_EVENTS_VERIFY_BACK_FAIL | CRYSTAL_EVENTS_STORE_READ_FAIL | CRYSTAL_EVENTS_HOLD_EXPIRED
  | CRYSTAL_EVENTS_RNDV_REFUSED | PART_POSTED_ON_CHIP | PART_POSTED_SPILLED | PART_UNEXP_ON_CHIP
  | PART_UNEXP_SPILLED | PART_STORE_USED_TILES | THRESH_CFG_RTO_MIN_US | THRESH_CFG_RTO_MAX_US
  | THRESH_CFG_OP_TIMEOUT_MS | THRESH_CFG_PARK_BUDGET_US | THRESH_CFG_PAGE_HINT_US
  | THRESH_ACK_CFG_ACK_COAL_US | THRESH_ACK_CFG_ACK_COAL_SEGS | THRESH_ACK_CFG_FAST_RETX
  | THRESH_ACK_CFG_ATOMIC_HOLD_US | THRESH_ACK_CFG_ATOMIC_HINT_US | THRESH_ACK_CFG_ORPHAN_US
  | THRESH_ACK_CFG_RESP_MULT | THRESH_STAT_FLOWS_CACHED | THRESH_STAT_ATOMIC_USED | THRESH_STAT_TRACKER_USED
  | THRESH_STAT_VEST_PARKED_KIB | THRESH_EVENTS_KEY_FAULT_SEEN | THRESH_EVENTS_TIMEOUT_SEEN
  | THRESH_EVENTS_FLOW_RESET_SEEN | THRESH_EVENTS_STALE_EPOCH_SEEN | THRESH_EVENTS_ATOMIC_FULL
  | THRESH_EVENTS_TRACKER_FULL | THRESH_EVENTS_PARK_EXPIRED | THRESH_EVENTS_VEST_FULL
  | THRESH_EVENTS_ACK_SPILL_FULL | THRESH_EVENTS_ORPHAN_SEEN | KEY_SEL_INDEX | KEY_CMD_CMD
  | KEY_CMD_STAT_BUSY | KEY_CMD_STAT_RESULT | KEY_CMD_STAT_INDEX | KEY_DATA_WORD | FLOW_SEL_NODE_INDEX
  | FLOW_CMD_RESET | FLOW_STAT0_SEND_STATE | FLOW_STAT0_SEND_EPOCH | FLOW_STAT0_RECV_STATE
  | FLOW_STAT0_RECV_EPOCH | FLOW_STAT0_TX_NEXT | FLOW_STAT0_TX_ACKED | FLOW_STAT0_RX_W
  | FLOW_STAT1_OUTSTANDING | FLOW_STAT1_RTO_US | FLOW_STAT1_SRTT_NS | XCTX_BASE_LOG2 | XCTX_BASE_BASE
  | INV_MBOX0_KIND | INV_MBOX0_DRAIN | INV_MBOX0_FAIL | INV_MBOX0_VPAGE | INV_MBOX1_PAGES | INV_MBOX1_CTX
  | INV_RING_RING | INV_STAT_BUSY | INV_STAT_DONE_SEQ | INV_STAT_LAST_RESULT | PRQ_BASE_LOG2 | PRQ_BASE_BASE
  | PRQ_CTRL_VEC | PRQ_CTRL_ENABLE | PRQ_CTRL_HEAD | WALK_WIN_BASE_ENABLE | WALK_WIN_BASE_BASE
  | WALK_WIN_LIMIT_LIMIT | MISS_POP_VALID | MISS_POP_ID | MISS_POP_HPORT | MISS_POP_WRITE | MISS_POP_TARGET
  | MISS_POP_CTX | MISS_VA_VPAGE | MISS_DONE_ID | MISS_DONE_HPORT | MISS_DONE_STATUS | WALK_REQ_HPORT
  | WALK_REQ_ADDR | WALK_DATA_DATA | WALK_STAT_STATUS | ATB_CMD_CMD | ATB_CMD_HPORT | ATB_CMD_MISS_ID
  | ATB_CMD_HAS_MISS | ATB_CMD_INDEX | ATB_CMD_STAT_BUSY | ATB_CMD_STAT_RESULT | ATB_CMD_STAT_SLOT
  | ATB_CMD_STAT_REMOVED | ATB_DATA0_SIZE | ATB_DATA0_WRITE | ATB_DATA0_VALID | ATB_DATA0_VPAGE
  | ATB_DATA1_BPAGE | ATB_DATA2_CTX | ATB_DATA2_ALL_CTX | ATB_DATA2_PAGES | XLATE_STAT_MISSES0
  | XLATE_STAT_MISSES1 | XLATE_STAT_MISSES2 | XLATE_STAT_MISSES3 | XLATE_EVENTS_MISS_FULL
  | XLATE_EVENTS_WALK_FAULT_SEEN | XLATE_EVENTS_WALK_DEVICE_SEEN | XLATE_EVENTS_STALE_INSTALL
  | XLATE_EVENTS_INV_DONE | XLATE_EVENTS_INV_REFUSED | XLATE_EVENTS_PRQ_FULL | RANK_SEL_SLOT | RANK_SEL_RANK
  | RANK_DATA_ENTRY | RANK_CMD_CMD | RANK_STAT_BUSY | RANK_STAT_RESULT | RAKE_CFG_WINDOW_LOG2
  | RAKE_CFG_STALL_US | RAKE_CTRL_TREE | RAKE_CTRL_CMD | RAKE_STAT_CTX_FREE | RAKE_STAT_CTX_TOTAL
  | RAKE_STAT_OPS_ACTIVE | RAKE_STAT_WINDOW_LOG2 | RAKE_EVENTS_ABORT_SEEN | RAKE_EVENTS_MISMATCH_SEEN
  | RAKE_EVENTS_FENCED_SEEN | RAKE_EVENTS_STALL_SEEN | RAKE_EVENTS_CELL_FAIL | RAKE_EVENTS_DESYNC_SEEN
  | RAKE_EVENTS_CTX_WAIT | TREE_JOB_JOB | TREE_ENTRY_CHILD_HI | TREE_ENTRY_HOST | TREE_ENTRY_PARENT
  | TREE_ENTRY_ROLE | TREE_ENTRY_VALID | TREE_ENTRY_STATE | TREE_ENTRY_NEXT_SEQ | TREE_ENTRY_ABORTED_SEQ
  | TREE_ENTRY_ABORTED_VALID | TREE_ENTRY_WINDOW_LOG2 | TREE_CHILD_CHILD_LO | SLUICE_MODE_SCHEDULE
  | SLUICE_MODE_FORCE_MARKED | SLUICE_MODE_SERVICE | SLUICE_MODE_FALLBACK_CAUSE | SLUICE_MODE_FALLBACK_PORT
  | SLUICE_STAT_BUDGET_NOW | SLUICE_STAT_TICKET_RATE_NOW | SLUICE_STAT_WAITING | SLUICE_EVENTS_FALLBACK
  | SLUICE_EVENTS_SCHEDULED | SLUICE_EVENTS_SCHEDULE_REFUSED | SLUICE_EVENTS_TIME_STEP
  | SLUICE_EVENTS_TIME_UNSYNC | SLUICE_EVENTS_TIME_SYNC | SLUICE_EVENTS_SET_REFUSED
  | SLUICE_EVENTS_WAITLIST_FULL | SLUICE_EVENTS_TICKET_EXPIRED | SLUICE_EVENTS_TIME_FOREIGN
  | TICKET_CFG_LIFE_US | TICKET_CFG_RETRY_US | TICKET_CFG_BATCH | TIME_CFG_MASTER_NODE | TIME_CFG_MASTER
  | TIME_CFG_PERIOD_US | TIME_CFG_STEP_NS | TIME_STAT_SYNCED | TIME_STAT_HOLDOVER | TIME_STAT_PARENT_PORT
  | TIME_STAT_HOPS | TIME_STAT_THETA_PS | TIME_SET_NS_NS | TIME_ADJ_SET_FRAC | TIME_ADJ_TRIM_PPB
  | TIME_ADJ_SET | MARK_CFG_MARK_CELLS | MARK_CFG_MD_256 | MARK_CFG_AI_US | MARK_RATE_RATE_INIT
  | MARK_RATE_RATE_MIN | MARK_RATE_AI_STEP | HIST_SEL_QUEUE | HIST_SEL_KIND | HIST_CTRL_CLEAR
  | HIST_CTRL_SAMPLE_NS | HIST_BIN_COUNT | TIME_DELAY_DELAY_PS | GATE_POS_ENTRY | GATE_POS_MASK
  | GATE_POS_ACTING | SHAPE_CFG_RATE | SHAPE_CFG_BURST_KIB | SHAPE_CFG_OVERHEAD | SHAPE_CFG_SCALED
  | SHAPE_CFG_ENABLE | SHAPE_STAT_TOKENS | SHAPE_STAT_QUEUED | JOB_SHAPE_QUEUE | FAULT_STAT_LEVEL
  | FAULT_STAT_STICKY | FAULT_STAT_PARITY_STANDING | FAULT_STAT_FIRST_CLASS | FAULT_STAT_LAST_CLASS
  | FAULT_STAT_QUIET_LEFT_MS | FAULT_EVENTS_LEVEL_RAISED | FAULT_EVENTS_ESCALATED | FAULT_EVENTS_RECOVERED
  | FAULT_EVENTS_NOTICE_SUPPRESSED | FAULT_UNACK_UNACK | FAULT_ACK_ACK | FAULT_CFG_QUIET_MS
  | FAULT_CFG_NOTIFY_LEVEL | RECOVERY_COUNT_COUNT | FAULT_INJECT_CLASS | FAULT_INJECT_GO | DEV_FAULT_LEVEL
  | DEV_FAULT_CAUSE_BLOCK | DEV_FAULT_CAUSE_CLASS | DEV_FAULT_L4_RESET_PENDING | DEV_FAULT_HOST_RESET_BUSY
  | DEV_FAULT_CTRL_HOST_RESET | DEV_FAULT_CTRL_L4_HOLD | DEV_FAULT_CTRL_L4_RESET_MS
  | DEV_FAULT_BLOCKS_LO_AT_L1 | DEV_FAULT_BLOCKS_HI_AT_L1 | FENCE_SEL_WORD | FENCE_DATA_BITS
  | FENCE_CMD_NODE_INDEX | FENCE_CMD_CMD | FENCE_STAT_COUNT | FENCE_STAT_SELF | SUSPECT_CFG_FM_NODE
  | SUSPECT_CFG_FM_VALID | SUSPECT_CFG_HOLDOFF_MS | SUSPECT_CFG_JITTER_US | SUSPECT_STAT_USED
  | SUSPECT_EVENTS_SENT | SUSPECT_EVENTS_DROPPED | SUSPECT_EVENTS_CANCELLED | SUSPECT_SEL_ENTRY
  | SUSPECT_ENTRY_NODE_INDEX | SUSPECT_ENTRY_STATE | SUSPECT_ENTRY_KIND | SUSPECT_ENTRY_REPEAT
  | SUSPECT_ENTRY_OBS | SUSPECT_ENTRY_ROOMS | DOMAIN_TARGET_LO_TARGET | DOMAIN_TARGET_HI_TARGET
  | DOMAIN_STAT_LO_ON | DOMAIN_STAT_HI_ON | DOMAIN_STAT_HI_BUSY | DOMAIN_EVENTS_DONE | DOMAIN_EVENTS_REFUSED
  | DOMAIN_REFUSE_DOMAIN | DOMAIN_REFUSE_CAUSE | RESET_CAUSE_POWER_ON | RESET_CAUSE_PERST | RESET_CAUSE_STAIR
  | RESET_CAUSE_WATCHDOG | RESET_CAUSE_SOFTWARE | RESET_CAUSE_L4 | RESET_CAUSE_THERMAL
  | RESET_CAUSE_HOST_PORT | RESET_CAUSE_CLR_CLEAR | RESET_CTRL_DEVICE_RESET | RESET_CTRL_CONFIRM
  | RESET_CTRL_CRYSTAL | RESET_CTRL_RAKE | RESET_CTRL_COUNT | WDOG_CFG_TIMEOUT_MS | WDOG_CFG_ENABLE
  | WDOG_CFG_KICK | THERM_CFG_WARN_C | THERM_STAT_MAX_C | THERM_STAT_SENSOR | THERM_STAT_WARN
  | BOOT_STAT_PHASE | BOOT_STAT_QUICK | BOOT_STAT_OPT_BAD | BOOT_STAT_DONE_MASK | BOOT_STAT_FAIL_MASK
  | BOOT_CTRL_OVERRIDE | BOARD_TIME_SECONDS | BOARD_TIME_VALID | BIST_CTRL_SHUTDOWN | BIST_CTRL_START
  | BIST_CTRL_PARALLEL | ATTIC_SEL_WORD | ATTIC_DATA_DATA | ATTIC_CMD_CMD | ATTIC_STAT_BUSY
  | ATTIC_STAT_RESULT | OPT_STAT_ACTIVE | OPT_STAT_BAD | OPT_STAT_GEN | STAIR_STAT_STEP | STAIR_STAT_VALID
  | STAIR_STAT_CHAIN_END | STAIR_STAT_OVERFLOW | STAIR_STAT_LOCK_UP | STAIR_STAT_LOCK_DOWN
  | STAIR_EVENTS_ENUM_SEEN | STAIR_EVENTS_FRAME_FAIL | DEVICE_ID_PART | DEVICE_ID_STEPPING
  | DEVICE_ID_BIST_VERSION | NODE_ID_NODE | NODE_ID_INDEX | NODE_ID_VALID | GLOBAL_EVENTS_PRIV_REFUSED
  | GLOBAL_EVENTS_BAD_WIDTH | GLOBAL_EVENTS_UNMAPPED | GLOBAL_EVENTS_MGMT_REFUSED
  | GLOBAL_EVENTS_RESET_REFUSED | ACCESS_LOG_ADDR | ACCESS_LOG_MASTER | ACCESS_LOG_CAUSE | ACCESS_LOG_WRITE
  | MGMT_CFG_ENABLE | MGMT_CFG_USER_OK | MGMT_CFG_MGR_NODE | SCRATCH_VALUE | INT_PEND_LO_PEND
  | INT_PEND_HI_PEND | INT_ROUTE_HPORTS | WIDE_SEL_KIND | WIDE_SEL_BLOCK | WIDE_SEL_INDEX | WIDE_STAT_DONE
  | WIDE_STAT_VALID | WIDE_STAT_ERROR | WIDE_DATA_DATA | CELLAR_STAT_INSTALLED_GIB | CELLAR_STAT_TRAINED
  | CELLAR_STAT_SELF_REFRESH | CELLAR_STAT_SPEED | CELLAR_STAT_USABLE_MIB | LATCH_TAKE_VALUE
  | LATCH_WAIT_VALUE | LATCH_RELEASE_ANY | LATCH_FORCE_GO | LATCH_STAT_VALUE | LATCH_CFG_STALL_US
  | LATCH_EVENTS_ABANDONED_SEEN | LATCH_EVENTS_FORCED_SEEN | LATCH_EVENTS_NOT_OWNER | LATCH_EVENTS_WAIT_FULL
  | COUNT_MODE_METHOD | COUNT_STAT_TOTAL | COUNT_STAT_RECORD_KIB | COUNT_STAT_DUMP_BUSY
  | COUNT_STAT_SNAP_ARMED | COUNT_STAT_SNAP_PENDING | COUNT_EVENTS_DUMP_SKIPPED | COUNT_EVENTS_SNAP_DONE
  | COUNT_EVENTS_SNAP_MISSED | COUNT_EVENTS_SNAP_LATE | COUNT_EVENTS_WRAP_SEEN | COUNT_EVENTS_TRACE_LOST
  | DUMP_CFG_PERIOD_US | DUMP_CFG_LOG2 | DUMP_CFG_HPORT | DUMP_CFG_ENABLE | DUMP_BASE_BASE | DUMP_HEAD_HEAD
  | SNAP_AT_NS | SNAP_CTRL_ARM | SNAP_CTRL_DISARM | CAT_SEL_SLOT | SHADOW_SEL_SLOT | CAT_SEL_BLOCK
  | SHADOW_SEL_BLOCK | SHADOW_SEL_BANK | CAT_DATA_NAME_NO | CAT_DATA_INSTANCE | CAT_DATA_INST_KIND
  | CAT_DATA_USED | CAT_DATA_UNIT | SHADOW_DATA_VALUE | WRAP_WRAPPED | BANK_SEL_SLOT | BANK_VAL_VALUE
  | BANK_VAL_WRAP40 | COUNTER_VALUE | TRACE_CFG_ENABLE | TRACE_CFG_HALL_PORT | TRACE_CFG_LOG2
  | TRACE_FILTER_TYPES | TRACE_FILTER_VCS | TRACE_FILTER_NODE | TRACE_FILTER_NODE_MATCH | TRACE_BASE_BASE
  | TRACE_HEAD_HEAD | TRACE_STAT_TRACE_SEQ | TRACE_STAT_LOST
deriving DecidableEq, Repr

end Sys2Proof.Machine
end

