-- ==== Sys2Proof/Machine/RegMap.lean ====
section
/-! DEFINITION. Where every register lies (the offset tables of each chapter, R410) and what every field is: its
register, bits, access, reset value and storing rule, as the register tables of the manual give them. -/
namespace Sys2Proof.Machine

/-- Offset of a register inside its block: `off + stride * i + stride2 * j` for instances i below `count` and, for the
two-index registers of COUNT, j below `count2`. -/
structure Place where
  blk : Blk
  off : Nat
  stride : Nat := 8
  count : Nat := 1
  stride2 : Nat := 8
  count2 : Nat := 1
deriving DecidableEq, Repr

/-- One row of a register field table. -/
structure FldInfo where
  reg : Reg
  lo : Nat
  width : Nat
  acc : Acc
  reset : Nat
  clamp : Clamp := .none
  guard : Guard := .byAccess
deriving DecidableEq, Repr

/-- The offset tables of the chapters. -/
def Reg.place : Reg → Place
  | .OP_CTRL => ⟨.POWER, 0x0, 0x8, 1, 0x8, 1⟩
  | .VPOL_CFG => ⟨.POWER, 0x8, 0x8, 1, 0x8, 1⟩
  | .VPOL_STAT => ⟨.POWER, 0x10, 0x8, 1, 0x8, 1⟩
  | .VPOL_EVENTS => ⟨.POWER, 0x18, 0x8, 1, 0x8, 1⟩
  | .VPOL_SEED => ⟨.POWER, 0x20, 0x8, 3, 0x8, 1⟩
  | .CYCLE_METER => ⟨.POWER, 0x100, 0x8, 24, 0x8, 1⟩
  | .FPLAN_CTRL => ⟨.FPLAN, 0x0, 0x8, 1, 0x8, 1⟩
  | .FPLAN_DATA => ⟨.FPLAN, 0x8, 0x8, 1, 0x8, 1⟩
  | .FPLAN_ID => ⟨.FPLAN, 0x20, 0x8, 1, 0x8, 1⟩
  | .FPLAN_STAT => ⟨.FPLAN, 0x10, 0x8, 1, 0x8, 1⟩
  | .FPLAN_SERIAL => ⟨.FPLAN, 0x28, 0x8, 1, 0x8, 1⟩
  | .FPLAN_EVENTS => ⟨.FPLAN, 0x18, 0x8, 1, 0x8, 1⟩
  | .JOB_SLOT => ⟨.THRESH, 0x10000, 0x8, 4096, 0x8, 1⟩
  | .HALL_MODE => ⟨.HALL, 0x0, 0x8, 1, 0x8, 1⟩
  | .HALL_ARB => ⟨.HALL, 0x8, 0x8, 1, 0x8, 1⟩
  | .HALL_STAT => ⟨.HALL, 0x10, 0x8, 1, 0x8, 1⟩
  | .HALL_EVENTS => ⟨.HALL, 0x18, 0x8, 1, 0x8, 1⟩
  | .HALL_AVAIL_LO => ⟨.HALL, 0x20, 0x8, 1, 0x8, 1⟩
  | .HALL_AVAIL_HI => ⟨.HALL, 0x28, 0x8, 1, 0x8, 1⟩
  | .HALL_FENCED_LO => ⟨.HALL, 0x30, 0x8, 1, 0x8, 1⟩
  | .HALL_FENCED_HI => ⟨.HALL, 0x38, 0x8, 1, 0x8, 1⟩
  | .HALL_DETOUR_LO => ⟨.HALL, 0x40, 0x8, 1, 0x8, 1⟩
  | .HALL_DETOUR_HI => ⟨.HALL, 0x48, 0x8, 1, 0x8, 1⟩
  | .PORT_MAP_RD => ⟨.HALL, 0x1000, 0x8, 128, 0x8, 1⟩
  | .ESCAPE_RD => ⟨.HALL, 0x1400, 0x8, 128, 0x8, 1⟩
  | .DETOUR_RD => ⟨.HALL, 0x1800, 0x8, 72, 0x8, 1⟩
  | .PORT_CFG => ⟨.PORT, 0x0, 0x8, 1, 0x8, 1⟩
  | .PORT_CTRL => ⟨.PORT, 0x8, 0x8, 1, 0x8, 1⟩
  | .PORT_STAT => ⟨.PORT, 0x10, 0x8, 1, 0x8, 1⟩
  | .PORT_EVENTS => ⟨.PORT, 0x18, 0x8, 1, 0x8, 1⟩
  | .PORT_SEQ => ⟨.PORT, 0x20, 0x8, 1, 0x8, 1⟩
  | .PORT_VIOL => ⟨.PORT, 0x28, 0x8, 1, 0x8, 1⟩
  | .PORT_PARTNER => ⟨.PORT, 0x30, 0x8, 1, 0x8, 1⟩
  | .PORT_PARTNER_DIAG => ⟨.PORT, 0x38, 0x8, 1, 0x8, 1⟩
  | .LANDING_VC => ⟨.PORT, 0x40, 0x8, 8, 0x8, 1⟩
  | .PARTNER_VC => ⟨.PORT, 0x80, 0x8, 8, 0x8, 1⟩
  | .LANE_CFG => ⟨.PORT, 0x100, 0x8, 1, 0x8, 1⟩
  | .LANE_FOM_CFG => ⟨.PORT, 0x108, 0x8, 1, 0x8, 1⟩
  | .LANE_EVENTS => ⟨.PORT, 0x110, 0x8, 1, 0x8, 1⟩
  | .LANE_NEG => ⟨.PORT, 0x118, 0x8, 1, 0x8, 1⟩
  | .LANE_STAT => ⟨.PORT, 0x120, 0x8, 2, 0x8, 1⟩
  | .LANE_TXEQ => ⟨.PORT, 0x130, 0x8, 2, 0x8, 1⟩
  | .PORCH_CFG => ⟨.PORCH, 0x0, 0x8, 1, 0x8, 1⟩
  | .BOXROOM_BASE => ⟨.PORCH, 0x18, 0x8, 1, 0x8, 1⟩
  | .ROOM_CMD => ⟨.PORCH, 0x20, 0x8, 1, 0x8, 1⟩
  | .ROOM_CMD_STAT => ⟨.PORCH, 0x28, 0x8, 1, 0x8, 1⟩
  | .ROOM_CTX_SEL => ⟨.PORCH, 0x30, 0x8, 1, 0x8, 1⟩
  | .ROOM_CTX_DATA => ⟨.PORCH, 0x38, 0x8, 1, 0x8, 1⟩
  | .PORCH_STAT => ⟨.PORCH, 0x8, 0x8, 1, 0x8, 1⟩
  | .PORCH_EVENTS => ⟨.PORCH, 0x10, 0x8, 1, 0x8, 1⟩
  | .POOL_STAT => ⟨.PORCH, 0x40, 0x8, 1, 0x8, 1⟩
  | .HPORT_STAT => ⟨.PORCH, 0x100, 0x8, 4, 0x8, 1⟩
  | .CRYSTAL_CFG => ⟨.CRYSTAL, 0x0, 0x8, 1, 0x8, 1⟩
  | .CRYSTAL_STAT => ⟨.CRYSTAL, 0x8, 0x8, 1, 0x8, 1⟩
  | .CRYSTAL_EVENTS => ⟨.CRYSTAL, 0x10, 0x8, 1, 0x8, 1⟩
  | .PART_POSTED => ⟨.CRYSTAL, 0x1000, 0x8, 64, 0x8, 1⟩
  | .PART_UNEXP => ⟨.CRYSTAL, 0x1200, 0x8, 64, 0x8, 1⟩
  | .PART_STORE => ⟨.CRYSTAL, 0x1400, 0x8, 64, 0x8, 1⟩
  | .THRESH_CFG => ⟨.THRESH, 0x0, 0x8, 1, 0x8, 1⟩
  | .THRESH_ACK_CFG => ⟨.THRESH, 0x8, 0x8, 1, 0x8, 1⟩
  | .THRESH_STAT => ⟨.THRESH, 0x10, 0x8, 1, 0x8, 1⟩
  | .THRESH_EVENTS => ⟨.THRESH, 0x18, 0x8, 1, 0x8, 1⟩
  | .KEY_SEL => ⟨.THRESH, 0x20, 0x8, 1, 0x8, 1⟩
  | .KEY_CMD => ⟨.THRESH, 0x28, 0x8, 1, 0x8, 1⟩
  | .KEY_CMD_STAT => ⟨.THRESH, 0x30, 0x8, 1, 0x8, 1⟩
  | .KEY_DATA => ⟨.THRESH, 0x40, 0x8, 4, 0x8, 1⟩
  | .FLOW_SEL => ⟨.THRESH, 0x80, 0x8, 1, 0x8, 1⟩
  | .FLOW_CMD => ⟨.THRESH, 0x88, 0x8, 1, 0x8, 1⟩
  | .FLOW_STAT0 => ⟨.THRESH, 0x90, 0x8, 1, 0x8, 1⟩
  | .FLOW_STAT1 => ⟨.THRESH, 0x98, 0x8, 1, 0x8, 1⟩
  | .XCTX_BASE => ⟨.THRESH, 0x400, 0x40, 4, 0x8, 1⟩
  | .INV_MBOX0 => ⟨.THRESH, 0x408, 0x40, 4, 0x8, 1⟩
  | .INV_MBOX1 => ⟨.THRESH, 0x410, 0x40, 4, 0x8, 1⟩
  | .INV_RING => ⟨.THRESH, 0x418, 0x40, 4, 0x8, 1⟩
  | .INV_STAT => ⟨.THRESH, 0x420, 0x40, 4, 0x8, 1⟩
  | .PRQ_BASE => ⟨.THRESH, 0x428, 0x40, 4, 0x8, 1⟩
  | .PRQ_CTRL => ⟨.THRESH, 0x430, 0x40, 4, 0x8, 1⟩
  | .WALK_WIN_BASE => ⟨.THRESH, 0x600, 0x8, 32, 0x8, 1⟩
  | .WALK_WIN_LIMIT => ⟨.THRESH, 0x700, 0x8, 32, 0x8, 1⟩
  | .MISS_POP => ⟨.THRESH, 0x180, 0x8, 8, 0x8, 1⟩
  | .MISS_VA => ⟨.THRESH, 0x1C0, 0x8, 8, 0x8, 1⟩
  | .MISS_DONE => ⟨.THRESH, 0x200, 0x8, 1, 0x8, 1⟩
  | .WALK_REQ => ⟨.THRESH, 0x240, 0x8, 8, 0x8, 1⟩
  | .WALK_DATA => ⟨.THRESH, 0x280, 0x8, 8, 0x8, 1⟩
  | .WALK_STAT => ⟨.THRESH, 0x2C0, 0x8, 8, 0x8, 1⟩
  | .ATB_CMD => ⟨.THRESH, 0x140, 0x8, 1, 0x8, 1⟩
  | .ATB_CMD_STAT => ⟨.THRESH, 0x148, 0x8, 1, 0x8, 1⟩
  | .ATB_DATA0 => ⟨.THRESH, 0x150, 0x8, 1, 0x8, 1⟩
  | .ATB_DATA1 => ⟨.THRESH, 0x158, 0x8, 1, 0x8, 1⟩
  | .ATB_DATA2 => ⟨.THRESH, 0x160, 0x8, 1, 0x8, 1⟩
  | .XLATE_STAT => ⟨.THRESH, 0x100, 0x8, 1, 0x8, 1⟩
  | .XLATE_EVENTS => ⟨.THRESH, 0x108, 0x8, 1, 0x8, 1⟩
  | .RANK_SEL => ⟨.THRESH, 0x110, 0x8, 1, 0x8, 1⟩
  | .RANK_DATA => ⟨.THRESH, 0x118, 0x8, 1, 0x8, 1⟩
  | .RANK_CMD => ⟨.THRESH, 0x120, 0x8, 1, 0x8, 1⟩
  | .RANK_STAT => ⟨.THRESH, 0x128, 0x8, 1, 0x8, 1⟩
  | .RAKE_CFG => ⟨.RAKE, 0x0, 0x8, 1, 0x8, 1⟩
  | .RAKE_CTRL => ⟨.RAKE, 0x8, 0x8, 1, 0x8, 1⟩
  | .RAKE_STAT => ⟨.RAKE, 0x10, 0x8, 1, 0x8, 1⟩
  | .RAKE_EVENTS => ⟨.RAKE, 0x18, 0x8, 1, 0x8, 1⟩
  | .TREE_JOB => ⟨.RAKE, 0x2000, 0x8, 1024, 0x8, 1⟩
  | .TREE_ENTRY => ⟨.RAKE, 0x4000, 0x8, 1024, 0x8, 1⟩
  | .TREE_CHILD => ⟨.RAKE, 0x6000, 0x8, 1024, 0x8, 1⟩
  | .SLUICE_MODE => ⟨.SLUICE, 0x0, 0x8, 1, 0x8, 1⟩
  | .SLUICE_STAT => ⟨.SLUICE, 0x8, 0x8, 1, 0x8, 1⟩
  | .SLUICE_EVENTS => ⟨.SLUICE, 0x10, 0x8, 1, 0x8, 1⟩
  | .TICKET_CFG => ⟨.SLUICE, 0x18, 0x8, 1, 0x8, 1⟩
  | .TIME_CFG => ⟨.SLUICE, 0x20, 0x8, 1, 0x8, 1⟩
  | .TIME_STAT => ⟨.SLUICE, 0x28, 0x8, 1, 0x8, 1⟩
  | .TIME_SET_NS => ⟨.SLUICE, 0x30, 0x8, 1, 0x8, 1⟩
  | .TIME_ADJ => ⟨.SLUICE, 0x38, 0x8, 1, 0x8, 1⟩
  | .MARK_CFG => ⟨.SLUICE, 0x40, 0x8, 1, 0x8, 1⟩
  | .MARK_RATE => ⟨.SLUICE, 0x48, 0x8, 1, 0x8, 1⟩
  | .HIST_SEL => ⟨.SLUICE, 0x50, 0x8, 1, 0x8, 1⟩
  | .HIST_CTRL => ⟨.SLUICE, 0x58, 0x8, 1, 0x8, 1⟩
  | .HIST_BIN => ⟨.SLUICE, 0x80, 0x8, 16, 0x8, 1⟩
  | .TIME_DELAY => ⟨.SLUICE, 0x200, 0x8, 72, 0x8, 1⟩
  | .GATE_POS => ⟨.SLUICE, 0x600, 0x8, 72, 0x8, 1⟩
  | .SHAPE_CFG => ⟨.SLUICE, 0x1000, 0x8, 256, 0x8, 1⟩
  | .SHAPE_STAT => ⟨.SLUICE, 0x1800, 0x8, 256, 0x8, 1⟩
  | .JOB_SHAPE => ⟨.SLUICE, 0x4000, 0x8, 4096, 0x8, 1⟩
  | .FAULT_STAT => ⟨.FAULTG, 0xFF00, 0x8, 1, 0x8, 1⟩
  | .FAULT_EVENTS => ⟨.FAULTG, 0xFF08, 0x8, 1, 0x8, 1⟩
  | .FAULT_UNACK => ⟨.FAULTG, 0xFF10, 0x8, 1, 0x8, 1⟩
  | .FAULT_ACK => ⟨.FAULTG, 0xFF18, 0x8, 1, 0x8, 1⟩
  | .FAULT_CFG => ⟨.FAULTG, 0xFF20, 0x8, 1, 0x8, 1⟩
  | .RECOVERY_COUNT => ⟨.FAULTG, 0xFF28, 0x8, 1, 0x8, 1⟩
  | .FAULT_INJECT => ⟨.FAULTG, 0xFF30, 0x8, 1, 0x8, 1⟩
  | .DEV_FAULT => ⟨.GLOBAL, 0xFF40, 0x8, 1, 0x8, 1⟩
  | .DEV_FAULT_CTRL => ⟨.GLOBAL, 0xFF48, 0x8, 1, 0x8, 1⟩
  | .DEV_FAULT_BLOCKS_LO => ⟨.GLOBAL, 0xFF50, 0x8, 1, 0x8, 1⟩
  | .DEV_FAULT_BLOCKS_HI => ⟨.GLOBAL, 0xFF58, 0x8, 1, 0x8, 1⟩
  | .FENCE_SEL => ⟨.THRESH, 0x800, 0x8, 1, 0x8, 1⟩
  | .FENCE_DATA => ⟨.THRESH, 0x808, 0x8, 1, 0x8, 1⟩
  | .FENCE_CMD => ⟨.THRESH, 0x810, 0x8, 1, 0x8, 1⟩
  | .FENCE_STAT => ⟨.THRESH, 0x818, 0x8, 1, 0x8, 1⟩
  | .SUSPECT_CFG => ⟨.THRESH, 0x820, 0x8, 1, 0x8, 1⟩
  | .SUSPECT_STAT => ⟨.THRESH, 0x828, 0x8, 1, 0x8, 1⟩
  | .SUSPECT_EVENTS => ⟨.THRESH, 0x830, 0x8, 1, 0x8, 1⟩
  | .SUSPECT_SEL => ⟨.THRESH, 0x838, 0x8, 1, 0x8, 1⟩
  | .SUSPECT_ENTRY => ⟨.THRESH, 0x840, 0x8, 1, 0x8, 1⟩
  | .DOMAIN_TARGET_LO => ⟨.POWER, 0x200, 0x8, 1, 0x8, 1⟩
  | .DOMAIN_TARGET_HI => ⟨.POWER, 0x208, 0x8, 1, 0x8, 1⟩
  | .DOMAIN_STAT_LO => ⟨.POWER, 0x210, 0x8, 1, 0x8, 1⟩
  | .DOMAIN_STAT_HI => ⟨.POWER, 0x218, 0x8, 1, 0x8, 1⟩
  | .DOMAIN_EVENTS => ⟨.POWER, 0x220, 0x8, 1, 0x8, 1⟩
  | .DOMAIN_REFUSE => ⟨.POWER, 0x228, 0x8, 1, 0x8, 1⟩
  | .RESET_CAUSE => ⟨.POWER, 0x240, 0x8, 1, 0x8, 1⟩
  | .RESET_CAUSE_CLR => ⟨.POWER, 0x248, 0x8, 1, 0x8, 1⟩
  | .RESET_CTRL => ⟨.POWER, 0x250, 0x8, 1, 0x8, 1⟩
  | .WDOG_CFG => ⟨.POWER, 0x258, 0x8, 1, 0x8, 1⟩
  | .THERM_CFG => ⟨.POWER, 0x260, 0x8, 1, 0x8, 1⟩
  | .THERM_STAT => ⟨.POWER, 0x268, 0x8, 1, 0x8, 1⟩
  | .BOOT_STAT => ⟨.POWER, 0x280, 0x8, 1, 0x8, 1⟩
  | .BOOT_CTRL => ⟨.POWER, 0x288, 0x8, 1, 0x8, 1⟩
  | .BOARD_TIME => ⟨.POWER, 0x290, 0x8, 1, 0x8, 1⟩
  | .BIST_CTRL => ⟨.POWER, 0x298, 0x8, 1, 0x8, 1⟩
  | .ATTIC_SEL => ⟨.ATTIC, 0x0, 0x8, 1, 0x8, 1⟩
  | .ATTIC_DATA => ⟨.ATTIC, 0x8, 0x8, 1, 0x8, 1⟩
  | .ATTIC_CMD => ⟨.ATTIC, 0x10, 0x8, 1, 0x8, 1⟩
  | .ATTIC_STAT => ⟨.ATTIC, 0x18, 0x8, 1, 0x8, 1⟩
  | .OPT_STAT => ⟨.ATTIC, 0x20, 0x8, 1, 0x8, 1⟩
  | .STAIR_STAT => ⟨.STAIR, 0x0, 0x8, 1, 0x8, 1⟩
  | .STAIR_EVENTS => ⟨.STAIR, 0x8, 0x8, 1, 0x8, 1⟩
  | .DEVICE_ID => ⟨.GLOBAL, 0x0, 0x8, 1, 0x8, 1⟩
  | .NODE_ID => ⟨.GLOBAL, 0x8, 0x8, 1, 0x8, 1⟩
  | .GLOBAL_EVENTS => ⟨.GLOBAL, 0x10, 0x8, 1, 0x8, 1⟩
  | .ACCESS_LOG => ⟨.GLOBAL, 0x18, 0x8, 1, 0x8, 1⟩
  | .MGMT_CFG => ⟨.GLOBAL, 0x20, 0x8, 1, 0x8, 1⟩
  | .SCRATCH => ⟨.GLOBAL, 0x28, 0x8, 1, 0x8, 1⟩
  | .INT_PEND_LO => ⟨.GLOBAL, 0x40, 0x8, 1, 0x8, 1⟩
  | .INT_PEND_HI => ⟨.GLOBAL, 0x48, 0x8, 1, 0x8, 1⟩
  | .INT_ROUTE => ⟨.GLOBAL, 0x80, 0x8, 16, 0x8, 1⟩
  | .WIDE_SEL => ⟨.GLOBAL, 0x100, 0x8, 1, 0x8, 1⟩
  | .WIDE_STAT => ⟨.GLOBAL, 0x108, 0x8, 1, 0x8, 1⟩
  | .WIDE_DATA => ⟨.GLOBAL, 0x110, 0x8, 4, 0x8, 1⟩
  | .CELLAR_STAT => ⟨.CELLAR, 0x0, 0x8, 1, 0x8, 1⟩
  | .LATCH_TAKE => ⟨.LATCH, 0x0, 0x8, 512, 0x8, 1⟩
  | .LATCH_WAIT => ⟨.LATCH, 0x1000, 0x8, 512, 0x8, 1⟩
  | .LATCH_RELEASE => ⟨.LATCH, 0x2000, 0x8, 512, 0x8, 1⟩
  | .LATCH_FORCE => ⟨.LATCH, 0x3000, 0x8, 512, 0x8, 1⟩
  | .LATCH_STAT => ⟨.LATCH, 0x4000, 0x8, 512, 0x8, 1⟩
  | .LATCH_CFG => ⟨.LATCH, 0x8000, 0x8, 1, 0x8, 1⟩
  | .LATCH_EVENTS => ⟨.LATCH, 0x8008, 0x8, 1, 0x8, 1⟩
  | .COUNT_MODE => ⟨.COUNT, 0x0, 0x8, 1, 0x8, 1⟩
  | .COUNT_STAT => ⟨.COUNT, 0x8, 0x8, 1, 0x8, 1⟩
  | .COUNT_EVENTS => ⟨.COUNT, 0x10, 0x8, 1, 0x8, 1⟩
  | .DUMP_CFG => ⟨.COUNT, 0x18, 0x8, 1, 0x8, 1⟩
  | .DUMP_BASE => ⟨.COUNT, 0x20, 0x8, 1, 0x8, 1⟩
  | .DUMP_HEAD => ⟨.COUNT, 0x28, 0x8, 1, 0x8, 1⟩
  | .SNAP_AT => ⟨.COUNT, 0x30, 0x8, 1, 0x8, 1⟩
  | .SNAP_CTRL => ⟨.COUNT, 0x38, 0x8, 1, 0x8, 1⟩
  | .CAT_SEL => ⟨.COUNT, 0x50, 0x8, 1, 0x8, 1⟩
  | .SHADOW_SEL => ⟨.COUNT, 0x40, 0x8, 1, 0x8, 1⟩
  | .CAT_DATA => ⟨.COUNT, 0x58, 0x8, 1, 0x8, 1⟩
  | .SHADOW_DATA => ⟨.COUNT, 0x48, 0x8, 1, 0x8, 1⟩
  | .WRAP => ⟨.COUNT, 0x2000, 0x80, 88, 0x8, 16⟩
  | .BANK_SEL => ⟨.COUNT, 0x5000, 0x100, 88, 0x8, 16⟩
  | .BANK_VAL => ⟨.COUNT, 0x5080, 0x100, 88, 0x8, 16⟩
  | .COUNTER => ⟨.COUNT, 0x10000, 0x2000, 88, 0x8, 1024⟩
  | .TRACE_CFG => ⟨.COUNT, 0x80, 0x8, 1, 0x8, 1⟩
  | .TRACE_FILTER => ⟨.COUNT, 0x88, 0x8, 1, 0x8, 1⟩
  | .TRACE_BASE => ⟨.COUNT, 0x90, 0x8, 1, 0x8, 1⟩
  | .TRACE_HEAD => ⟨.COUNT, 0x98, 0x8, 1, 0x8, 1⟩
  | .TRACE_STAT => ⟨.COUNT, 0xA0, 0x8, 1, 0x8, 1⟩

/-- The register field tables of the chapters. -/
def Fld.info : Fld → FldInfo
  | .OP_CTRL_OP_POINT => ⟨.OP_CTRL, 0, 2, .RWP, 1, .none, .byAccess⟩
  | .VPOL_CFG_INTERVAL => ⟨.VPOL_CFG, 0, 8, .RWS, 20, .range 1 255, .byAccess⟩
  | .VPOL_CFG_STEP => ⟨.VPOL_CFG, 8, 8, .RWS, 5, .range 1 50, .byAccess⟩
  | .VPOL_CFG_DEADBAND => ⟨.VPOL_CFG, 16, 4, .RWS, 3, .range 1 15, .byAccess⟩
  | .VPOL_CFG_VMIN => ⟨.VPOL_CFG, 20, 12, .RWS, 550, .range 550 900, .byAccess⟩
  | .VPOL_CFG_VMAX => ⟨.VPOL_CFG, 32, 12, .RWS, 900, .range 550 900, .byAccess⟩
  | .VPOL_CFG_HEARTBEAT => ⟨.VPOL_CFG, 63, 1, .W1, 0, .none, .byAccess⟩
  | .VPOL_STAT_VCORE_MV => ⟨.VPOL_STAT, 0, 12, .RO, 800, .none, .byAccess⟩
  | .VPOL_STAT_CORE_PERIOD_PS => ⟨.VPOL_STAT, 12, 16, .RO, 0, .none, .byAccess⟩
  | .VPOL_STAT_SLOWEST_METER => ⟨.VPOL_STAT, 28, 5, .RO, 0, .none, .byAccess⟩
  | .VPOL_STAT_SETTLED => ⟨.VPOL_STAT, 33, 1, .RO, 0, .none, .byAccess⟩
  | .VPOL_STAT_SHORTFALL => ⟨.VPOL_STAT, 34, 1, .RO, 0, .none, .byAccess⟩
  | .VPOL_STAT_POLICY_STALE => ⟨.VPOL_STAT, 35, 1, .RO, 0, .none, .byAccess⟩
  | .VPOL_STAT_SCALE => ⟨.VPOL_STAT, 36, 16, .RO, 0x8000, .none, .byAccess⟩
  | .VPOL_EVENTS_SHORTFALL_SEEN => ⟨.VPOL_EVENTS, 0, 1, .RC, 0, .none, .byAccess⟩
  | .VPOL_EVENTS_STALE_SEEN => ⟨.VPOL_EVENTS, 1, 1, .RC, 0, .none, .byAccess⟩
  | .VPOL_EVENTS_VMAX_SEEN => ⟨.VPOL_EVENTS, 2, 1, .RC, 0, .none, .byAccess⟩
  | .VPOL_EVENTS_OP_DONE => ⟨.VPOL_EVENTS, 3, 1, .RC, 0, .none, .byAccess⟩
  | .VPOL_SEED_SEED_MV => ⟨.VPOL_SEED, 0, 12, .RWS, 0, .range 550 900, .byAccess⟩
  | .CYCLE_METER_PERIOD_PS => ⟨.CYCLE_METER, 0, 16, .RO, 0, .none, .byAccess⟩
  | .CYCLE_METER_COUNTED => ⟨.CYCLE_METER, 16, 1, .RO, 0, .none, .byAccess⟩
  | .FPLAN_CTRL_OPEN => ⟨.FPLAN_CTRL, 0, 1, .W1, 0, .none, .byAccess⟩
  | .FPLAN_CTRL_KIND => ⟨.FPLAN_CTRL, 1, 1, .RWP, 0, .none, .byAccess⟩
  | .FPLAN_CTRL_COMMIT => ⟨.FPLAN_CTRL, 4, 1, .W1, 0, .none, .byAccess⟩
  | .FPLAN_CTRL_ABORT => ⟨.FPLAN_CTRL, 5, 1, .W1, 0, .none, .byAccess⟩
  | .FPLAN_DATA_WORD => ⟨.FPLAN_DATA, 0, 64, .WO, 0, .none, .priv⟩
  | .FPLAN_ID_PLAN_ID => ⟨.FPLAN_ID, 0, 64, .RO, 0, .none, .byAccess⟩
  | .FPLAN_STAT_STATE => ⟨.FPLAN_STAT, 0, 4, .RO, 0, .none, .byAccess⟩
  | .FPLAN_STAT_OWNER => ⟨.FPLAN_STAT, 4, 4, .RO, 0, .none, .byAccess⟩
  | .FPLAN_STAT_WORDS => ⟨.FPLAN_STAT, 8, 20, .RO, 0, .none, .byAccess⟩
  | .FPLAN_STAT_REJECT => ⟨.FPLAN_STAT, 28, 8, .RO, 0, .none, .byAccess⟩
  | .FPLAN_STAT_BAD_TYPE => ⟨.FPLAN_STAT, 36, 4, .RO, 0, .none, .byAccess⟩
  | .FPLAN_STAT_BAD_WORD => ⟨.FPLAN_STAT, 40, 24, .RO, 0, .none, .byAccess⟩
  | .FPLAN_SERIAL_SERIAL => ⟨.FPLAN_SERIAL, 0, 32, .RO, 0, .none, .byAccess⟩
  | .FPLAN_SERIAL_PARTIALS => ⟨.FPLAN_SERIAL, 32, 16, .RO, 0, .none, .byAccess⟩
  | .FPLAN_EVENTS_DONE => ⟨.FPLAN_EVENTS, 0, 1, .RC, 0, .none, .byAccess⟩
  | .FPLAN_EVENTS_REJECTED => ⟨.FPLAN_EVENTS, 1, 1, .RC, 0, .none, .byAccess⟩
  | .FPLAN_EVENTS_FOREIGN_WRITE => ⟨.FPLAN_EVENTS, 2, 1, .RC, 0, .none, .byAccess⟩
  | .FPLAN_EVENTS_LATE => ⟨.FPLAN_EVENTS, 3, 1, .RC, 0, .none, .byAccess⟩
  | .JOB_SLOT_JOB => ⟨.JOB_SLOT, 0, 16, .RWP, 0, .none, .byAccess⟩
  | .JOB_SLOT_LAST_RANK => ⟨.JOB_SLOT, 16, 24, .RWP, 0, .none, .byAccess⟩
  | .JOB_SLOT_RT_OFFSET => ⟨.JOB_SLOT, 40, 16, .RWP, 0, .none, .byAccess⟩
  | .JOB_SLOT_VALID => ⟨.JOB_SLOT, 63, 1, .RWP, 0, .none, .byAccess⟩
  | .HALL_MODE_CHECKED => ⟨.HALL_MODE, 0, 1, .RWP, 0, .none, .byAccess⟩
  | .HALL_MODE_PIN_ALL => ⟨.HALL_MODE, 1, 1, .RWP, 0, .none, .byAccess⟩
  | .HALL_MODE_DETOUR_EN => ⟨.HALL_MODE, 2, 1, .RWP, 1, .none, .byAccess⟩
  | .HALL_MODE_PIN_HOLD_NS => ⟨.HALL_MODE, 8, 16, .RWP, 400, .range 0 4000, .byAccess⟩
  | .HALL_MODE_LIFE_US => ⟨.HALL_MODE, 24, 8, .RWP, 40, .range 1 40, .byAccess⟩
  | .HALL_ARB_W_TREE => ⟨.HALL_ARB, 0, 4, .RWP, 4, .range 1 15, .byAccess⟩
  | .HALL_ARB_W_REQ => ⟨.HALL_ARB, 4, 4, .RWP, 4, .range 1 15, .byAccess⟩
  | .HALL_ARB_W_RESP => ⟨.HALL_ARB, 8, 4, .RWP, 8, .range 1 15, .byAccess⟩
  | .HALL_STAT_VC_SET => ⟨.HALL_STAT, 0, 8, .RO, 0, .none, .byAccess⟩
  | .HALL_STAT_DETOURS_ACTIVE => ⟨.HALL_STAT, 8, 7, .RO, 0, .none, .byAccess⟩
  | .HALL_STAT_OLDEST_US => ⟨.HALL_STAT, 16, 16, .RO, 0, .none, .byAccess⟩
  | .HALL_EVENTS_LIFETIME_SEEN => ⟨.HALL_EVENTS, 0, 1, .RC, 0, .none, .byAccess⟩
  | .HALL_EVENTS_NO_ROUTE_SEEN => ⟨.HALL_EVENTS, 1, 1, .RC, 0, .none, .byAccess⟩
  | .HALL_EVENTS_FENCE_DROP_SEEN => ⟨.HALL_EVENTS, 2, 1, .RC, 0, .none, .byAccess⟩
  | .HALL_EVENTS_DETOUR_START => ⟨.HALL_EVENTS, 3, 1, .RC, 0, .none, .byAccess⟩
  | .HALL_EVENTS_DETOUR_END => ⟨.HALL_EVENTS, 4, 1, .RC, 0, .none, .byAccess⟩
  | .HALL_EVENTS_HDR_PARITY_SEEN => ⟨.HALL_EVENTS, 5, 1, .RC, 0, .none, .byAccess⟩
  | .HALL_EVENTS_DIM_DONE_SEEN => ⟨.HALL_EVENTS, 6, 1, .RC, 0, .none, .byAccess⟩
  | .HALL_AVAIL_LO_AVAIL => ⟨.HALL_AVAIL_LO, 0, 64, .RO, 0, .none, .byAccess⟩
  | .HALL_AVAIL_HI_AVAIL => ⟨.HALL_AVAIL_HI, 0, 8, .RO, 0, .none, .byAccess⟩
  | .HALL_FENCED_LO_FENCED => ⟨.HALL_FENCED_LO, 0, 64, .RO, 0, .none, .byAccess⟩
  | .HALL_FENCED_HI_FENCED => ⟨.HALL_FENCED_HI, 0, 8, .RO, 0, .none, .byAccess⟩
  | .HALL_DETOUR_LO_DETOUR => ⟨.HALL_DETOUR_LO, 0, 64, .RO, 0, .none, .byAccess⟩
  | .HALL_DETOUR_HI_DETOUR => ⟨.HALL_DETOUR_HI, 0, 8, .RO, 0, .none, .byAccess⟩
  | .PORT_MAP_RD_ENTRY => ⟨.PORT_MAP_RD, 0, 8, .RO, 0, .none, .byAccess⟩
  | .ESCAPE_RD_ENTRY => ⟨.ESCAPE_RD, 0, 8, .RO, 0, .none, .byAccess⟩
  | .DETOUR_RD_ENTRY => ⟨.DETOUR_RD, 0, 16, .RO, 0, .none, .byAccess⟩
  | .PORT_CFG_FEC => ⟨.PORT_CFG, 0, 1, .RWP, 0, .none, .byAccess⟩
  | .PORT_CFG_ONE_LANE => ⟨.PORT_CFG, 1, 1, .RWP, 0, .none, .byAccess⟩
  | .PORT_CFG_RATE_MAX => ⟨.PORT_CFG, 2, 2, .RWP, 0, .none, .byAccess⟩
  | .PORT_CFG_ADMIN_DOWN => ⟨.PORT_CFG, 4, 1, .RWP, 0, .none, .byAccess⟩
  | .PORT_CFG_AUTO_UP => ⟨.PORT_CFG, 5, 1, .RWP, 0, .none, .byAccess⟩
  | .PORT_CFG_REPLAY_TO_US => ⟨.PORT_CFG, 8, 8, .RWP, 4, .range 2 64, .byAccess⟩
  | .PORT_CFG_VIOL_LIMIT => ⟨.PORT_CFG, 16, 8, .RWP, 16, .range 1 255, .byAccess⟩
  | .PORT_CFG_AUTO_UP_MS => ⟨.PORT_CFG, 24, 8, .RWP, 100, .range 1 255, .byAccess⟩
  | .PORT_CTRL_RETRAIN => ⟨.PORT_CTRL, 0, 1, .W1, 0, .none, .byAccess⟩
  | .PORT_CTRL_BRING_UP => ⟨.PORT_CTRL, 1, 1, .W1, 0, .none, .byAccess⟩
  | .PORT_STAT_STATE => ⟨.PORT_STAT, 0, 3, .RO, 0, .none, .byAccess⟩
  | .PORT_STAT_FEC_ACTIVE => ⟨.PORT_STAT, 3, 1, .RO, 0, .none, .byAccess⟩
  | .PORT_STAT_RATE_ACTIVE => ⟨.PORT_STAT, 4, 2, .RO, 0, .none, .byAccess⟩
  | .PORT_STAT_ONE_LANE_ACTIVE => ⟨.PORT_STAT, 6, 1, .RO, 0, .none, .byAccess⟩
  | .PORT_STAT_REPLAY_COUNT => ⟨.PORT_STAT, 8, 3, .RO, 0, .none, .byAccess⟩
  | .PORT_STAT_DOWN_CAUSE => ⟨.PORT_STAT, 12, 4, .RO, 8, .none, .byAccess⟩
  | .PORT_STAT_REPLAY_OCC => ⟨.PORT_STAT, 16, 11, .RO, 0, .none, .byAccess⟩
  | .PORT_STAT_RETRAIN_CAUSE => ⟨.PORT_STAT, 32, 4, .RO, 0, .none, .byAccess⟩
  | .PORT_EVENTS_UP_SEEN => ⟨.PORT_EVENTS, 0, 1, .RC, 0, .none, .byAccess⟩
  | .PORT_EVENTS_DOWN_SEEN => ⟨.PORT_EVENTS, 1, 1, .RC, 0, .none, .byAccess⟩
  | .PORT_EVENTS_RETRAIN_SEEN => ⟨.PORT_EVENTS, 2, 1, .RC, 0, .none, .byAccess⟩
  | .PORT_EVENTS_RETRAIN_DONE => ⟨.PORT_EVENTS, 3, 1, .RC, 0, .none, .byAccess⟩
  | .PORT_EVENTS_REPLAY_SEEN => ⟨.PORT_EVENTS, 4, 1, .RC, 0, .none, .byAccess⟩
  | .PORT_EVENTS_VIOLATION_SEEN => ⟨.PORT_EVENTS, 5, 1, .RC, 0, .none, .byAccess⟩
  | .PORT_EVENTS_NACK_RCVD => ⟨.PORT_EVENTS, 6, 1, .RC, 0, .none, .byAccess⟩
  | .PORT_EVENTS_PARAM_MISMATCH => ⟨.PORT_EVENTS, 7, 1, .RC, 0, .none, .byAccess⟩
  | .PORT_EVENTS_WIDTH_DEGRADED => ⟨.PORT_EVENTS, 8, 1, .RC, 0, .none, .byAccess⟩
  | .PORT_SEQ_TX_NEXT => ⟨.PORT_SEQ, 0, 16, .RO, 0, .none, .byAccess⟩
  | .PORT_SEQ_TX_OLDEST => ⟨.PORT_SEQ, 16, 16, .RO, 0, .none, .byAccess⟩
  | .PORT_SEQ_RX_EXPECTED => ⟨.PORT_SEQ, 32, 16, .RO, 0, .none, .byAccess⟩
  | .PORT_VIOL_LAST_CODE => ⟨.PORT_VIOL, 0, 8, .RO, 0, .none, .byAccess⟩
  | .PORT_VIOL_LAST_SEQ => ⟨.PORT_VIOL, 8, 16, .RO, 0, .none, .byAccess⟩
  | .PORT_VIOL_LAST_VC => ⟨.PORT_VIOL, 24, 3, .RO, 0, .none, .byAccess⟩
  | .PORT_VIOL_WINDOW_COUNT => ⟨.PORT_VIOL, 32, 8, .RO, 0, .none, .byAccess⟩
  | .PORT_VIOL_LAST_NACK_RCVD => ⟨.PORT_VIOL, 40, 8, .RO, 0, .none, .byAccess⟩
  | .PORT_PARTNER_BLOCK_W0 => ⟨.PORT_PARTNER, 0, 39, .RO, 0, .none, .byAccess⟩
  | .PORT_PARTNER_DIAG_WORD4 => ⟨.PORT_PARTNER_DIAG, 0, 48, .RO, 0, .none, .byAccess⟩
  | .LANDING_VC_OCC => ⟨.LANDING_VC, 0, 12, .RO, 0, .none, .byAccess⟩
  | .LANDING_VC_RESERVED => ⟨.LANDING_VC, 16, 12, .RO, 0, .none, .byAccess⟩
  | .LANDING_VC_SHARED_CAP => ⟨.LANDING_VC, 32, 12, .RO, 0, .none, .byAccess⟩
  | .PARTNER_VC_SENDER_OCC => ⟨.PARTNER_VC, 0, 12, .RO, 0, .none, .byAccess⟩
  | .PARTNER_VC_P_RESERVED => ⟨.PARTNER_VC, 16, 12, .RO, 0, .none, .byAccess⟩
  | .PARTNER_VC_P_SHARED_CAP => ⟨.PARTNER_VC, 32, 12, .RO, 0, .none, .byAccess⟩
  | .LANE_CFG_ADAPT_FREEZE => ⟨.LANE_CFG, 0, 1, .RWP, 0, .none, .byAccess⟩
  | .LANE_CFG_TXEQ_HOLD => ⟨.LANE_CFG, 1, 1, .RWP, 0, .none, .byAccess⟩
  | .LANE_CFG_SKEW_MAX_NS => ⟨.LANE_CFG, 8, 8, .RWP, 40, .range 1 60, .byAccess⟩
  | .LANE_CFG_FAIL_WINDOW_US => ⟨.LANE_CFG, 16, 8, .RWP, 50, .range 5 255, .byAccess⟩
  | .LANE_CFG_STEP_WINDOW => ⟨.LANE_CFG, 24, 8, .RWP, 80, .range 1 255, .byAccess⟩
  | .LANE_FOM_CFG_THR_LIGHT => ⟨.LANE_FOM_CFG, 0, 8, .RWP, 104, .none, .byAccess⟩
  | .LANE_FOM_CFG_THR_HEAVY => ⟨.LANE_FOM_CFG, 8, 8, .RWP, 80, .none, .byAccess⟩
  | .LANE_FOM_CFG_FAIL => ⟨.LANE_FOM_CFG, 16, 8, .RWP, 64, .none, .byAccess⟩
  | .LANE_EVENTS_LOCK_SEEN => ⟨.LANE_EVENTS, 0, 1, .RC, 0, .none, .byAccess⟩
  | .LANE_EVENTS_LANE_FAIL => ⟨.LANE_EVENTS, 1, 1, .RC, 0, .none, .byAccess⟩
  | .LANE_EVENTS_BRINGUP_RETRY => ⟨.LANE_EVENTS, 2, 1, .RC, 0, .none, .byAccess⟩
  | .LANE_EVENTS_NEG_DONE => ⟨.LANE_EVENTS, 3, 1, .RC, 0, .none, .byAccess⟩
  | .LANE_EVENTS_NEG_FAIL => ⟨.LANE_EVENTS, 4, 1, .RC, 0, .none, .byAccess⟩
  | .LANE_EVENTS_FOM_WARN => ⟨.LANE_EVENTS, 5, 1, .RC, 0, .none, .byAccess⟩
  | .LANE_EVENTS_SELF_LOOP => ⟨.LANE_EVENTS, 6, 1, .RC, 0, .none, .byAccess⟩
  | .LANE_NEG_PARTNER_CAPS => ⟨.LANE_NEG, 0, 4, .RO, 0, .none, .byAccess⟩
  | .LANE_NEG_RATE_REACHED => ⟨.LANE_NEG, 4, 2, .RO, 0, .none, .byAccess⟩
  | .LANE_NEG_LEADER => ⟨.LANE_NEG, 6, 1, .RO, 0, .none, .byAccess⟩
  | .LANE_NEG_STEPS => ⟨.LANE_NEG, 8, 4, .RO, 0, .none, .byAccess⟩
  | .LANE_NEG_LAST_RESULT => ⟨.LANE_NEG, 12, 4, .RO, 0, .none, .byAccess⟩
  | .LANE_NEG_PARTNER_NODE => ⟨.LANE_NEG, 16, 20, .RO, 0, .none, .byAccess⟩
  | .LANE_NEG_PARTNER_PORT => ⟨.LANE_NEG, 36, 7, .RO, 0, .none, .byAccess⟩
  | .LANE_STAT_STATE => ⟨.LANE_STAT, 0, 3, .RO, 0, .none, .byAccess⟩
  | .LANE_STAT_TX_CARRY => ⟨.LANE_STAT, 3, 1, .RO, 0, .none, .byAccess⟩
  | .LANE_STAT_RX_CARRY => ⟨.LANE_STAT, 4, 1, .RO, 0, .none, .byAccess⟩
  | .LANE_STAT_FAIL_CAUSE => ⟨.LANE_STAT, 5, 3, .RO, 0, .none, .byAccess⟩
  | .LANE_STAT_FOM => ⟨.LANE_STAT, 8, 8, .RO, 0, .none, .byAccess⟩
  | .LANE_STAT_FOM_MIN => ⟨.LANE_STAT, 16, 8, .RC, 255, .none, .byAccess⟩
  | .LANE_STAT_PARTNER_FOM => ⟨.LANE_STAT, 24, 8, .RO, 0, .none, .byAccess⟩
  | .LANE_STAT_SKEW_PS => ⟨.LANE_STAT, 32, 16, .RO, 0, .none, .byAccess⟩
  | .LANE_TXEQ_C_M2 => ⟨.LANE_TXEQ, 0, 8, .RWP, 0, .none, .byAccess⟩
  | .LANE_TXEQ_C_M1 => ⟨.LANE_TXEQ, 8, 8, .RWP, 250, .none, .byAccess⟩
  | .LANE_TXEQ_C_0 => ⟨.LANE_TXEQ, 16, 8, .RWP, 50, .none, .byAccess⟩
  | .LANE_TXEQ_C_P1 => ⟨.LANE_TXEQ, 24, 8, .RWP, 248, .none, .byAccess⟩
  | .LANE_TXEQ_C_P2 => ⟨.LANE_TXEQ, 32, 8, .RWP, 0, .none, .byAccess⟩
  | .PORCH_CFG_RESCAN_US => ⟨.PORCH_CFG, 0, 8, .RWP, 1, .range 1 255, .byAccess⟩
  | .PORCH_CFG_FETCH_BURST => ⟨.PORCH_CFG, 8, 4, .RWP, 8, .only 1 8 8, .byAccess⟩
  | .PORCH_CFG_FULL_HINT_US => ⟨.PORCH_CFG, 16, 8, .RWP, 20, .range 1 255, .byAccess⟩
  | .PORCH_CFG_PIN_LIMIT => ⟨.PORCH_CFG, 24, 12, .RWP, 3584, .range 0 4032, .byAccess⟩
  | .PORCH_CFG_PARK_MAX_KIB => ⟨.PORCH_CFG, 36, 16, .RWP, 256, .range 1 65535, .byAccess⟩
  | .PORCH_CFG_BOX_HPORT => ⟨.PORCH_CFG, 52, 2, .RWP, 0, .none, .byAccess⟩
  | .BOXROOM_BASE_BASE => ⟨.BOXROOM_BASE, 24, 40, .RWP, 0, .none, .byAccess⟩
  | .ROOM_CMD_ROOM => ⟨.ROOM_CMD, 0, 16, .RWP, 0, .none, .byAccess⟩
  | .ROOM_CMD_CMD => ⟨.ROOM_CMD, 16, 4, .RWP, 0, .none, .byAccess⟩
  | .ROOM_CMD_STAT_BUSY => ⟨.ROOM_CMD_STAT, 0, 1, .RO, 0, .none, .byAccess⟩
  | .ROOM_CMD_STAT_RESULT => ⟨.ROOM_CMD_STAT, 4, 4, .RO, 0, .none, .byAccess⟩
  | .ROOM_CMD_STAT_ROOM => ⟨.ROOM_CMD_STAT, 16, 16, .RO, 0, .none, .byAccess⟩
  | .ROOM_CTX_SEL_ROOM => ⟨.ROOM_CTX_SEL, 0, 16, .RWP, 0, .none, .byAccess⟩
  | .ROOM_CTX_SEL_WORD => ⟨.ROOM_CTX_SEL, 16, 5, .RWP, 0, .none, .byAccess⟩
  | .ROOM_CTX_DATA_DATA => ⟨.ROOM_CTX_DATA, 0, 64, .RWP, 0, .none, .byAccess⟩
  | .PORCH_STAT_RESIDENT => ⟨.PORCH_STAT, 0, 13, .RO, 0, .none, .byAccess⟩
  | .PORCH_STAT_PINNED_NOW => ⟨.PORCH_STAT, 13, 13, .RO, 0, .none, .byAccess⟩
  | .PORCH_STAT_ACTIVE => ⟨.PORCH_STAT, 26, 17, .RO, 0, .none, .byAccess⟩
  | .PORCH_EVENTS_RESIDENCY_FULL => ⟨.PORCH_EVENTS, 0, 1, .RC, 0, .none, .byAccess⟩
  | .PORCH_EVENTS_LB_POOL_EMPTY => ⟨.PORCH_EVENTS, 1, 1, .RC, 0, .none, .byAccess⟩
  | .PORCH_EVENTS_PICKUP_POOL_EMPTY => ⟨.PORCH_EVENTS, 2, 1, .RC, 0, .none, .byAccess⟩
  | .PORCH_EVENTS_CMD_DONE => ⟨.PORCH_EVENTS, 3, 1, .RC, 0, .none, .byAccess⟩
  | .PORCH_EVENTS_CMD_IGNORED => ⟨.PORCH_EVENTS, 4, 1, .RC, 0, .none, .byAccess⟩
  | .PORCH_EVENTS_QUEUE_RESET => ⟨.PORCH_EVENTS, 5, 1, .RC, 0, .none, .byAccess⟩
  | .PORCH_EVENTS_ROOM_ERROR => ⟨.PORCH_EVENTS, 6, 1, .RC, 0, .none, .byAccess⟩
  | .POOL_STAT_LB_FREE_KIB => ⟨.POOL_STAT, 0, 13, .RO, 4096, .none, .byAccess⟩
  | .POOL_STAT_PICKUP_FREE_KIB => ⟨.POOL_STAT, 16, 13, .RO, 4096, .none, .byAccess⟩
  | .HPORT_STAT_MODE => ⟨.HPORT_STAT, 0, 1, .RO, 0, .none, .byAccess⟩
  | .HPORT_STAT_LINK_UP => ⟨.HPORT_STAT, 1, 1, .RO, 0, .none, .byAccess⟩
  | .HPORT_STAT_WIDTH => ⟨.HPORT_STAT, 2, 5, .RO, 0, .none, .byAccess⟩
  | .HPORT_STAT_SPEED => ⟨.HPORT_STAT, 8, 8, .RO, 0, .none, .byAccess⟩
  | .HPORT_STAT_ATOMICOP => ⟨.HPORT_STAT, 16, 1, .RO, 0, .none, .byAccess⟩
  | .HPORT_STAT_BOXROOM => ⟨.HPORT_STAT, 17, 1, .RO, 0, .none, .byAccess⟩
  | .CRYSTAL_CFG_EAGER_MAX => ⟨.CRYSTAL_CFG, 0, 15, .RWP, 0x4000, .range 64 16384, .byAccess⟩
  | .CRYSTAL_CFG_FULL_HINT_US => ⟨.CRYSTAL_CFG, 16, 8, .RWP, 10, .range 1 255, .byAccess⟩
  | .CRYSTAL_STAT_MSG_IN_USE => ⟨.CRYSTAL_STAT, 0, 16, .RO, 0, .none, .byAccess⟩
  | .CRYSTAL_STAT_REFILLING => ⟨.CRYSTAL_STAT, 16, 1, .RO, 0, .none, .byAccess⟩
  | .CRYSTAL_STAT_HELD => ⟨.CRYSTAL_STAT, 32, 16, .RO, 0, .none, .byAccess⟩
  | .CRYSTAL_EVENTS_POST_FULL => ⟨.CRYSTAL_EVENTS, 0, 1, .RC, 0, .none, .byAccess⟩
  | .CRYSTAL_EVENTS_UNEXP_FULL => ⟨.CRYSTAL_EVENTS, 1, 1, .RC, 0, .none, .byAccess⟩
  | .CRYSTAL_EVENTS_STORE_FULL => ⟨.CRYSTAL_EVENTS, 2, 1, .RC, 0, .none, .byAccess⟩
  | .CRYSTAL_EVENTS_MSG_TABLE_FULL => ⟨.CRYSTAL_EVENTS, 3, 1, .RC, 0, .none, .byAccess⟩
  | .CRYSTAL_EVENTS_VERIFY_BACK_FAIL => ⟨.CRYSTAL_EVENTS, 4, 1, .RC, 0, .none, .byAccess⟩
  | .CRYSTAL_EVENTS_STORE_READ_FAIL => ⟨.CRYSTAL_EVENTS, 5, 1, .RC, 0, .none, .byAccess⟩
  | .CRYSTAL_EVENTS_HOLD_EXPIRED => ⟨.CRYSTAL_EVENTS, 6, 1, .RC, 0, .none, .byAccess⟩
  | .CRYSTAL_EVENTS_RNDV_REFUSED => ⟨.CRYSTAL_EVENTS, 7, 1, .RC, 0, .none, .byAccess⟩
  | .PART_POSTED_ON_CHIP => ⟨.PART_POSTED, 0, 19, .RO, 0, .none, .byAccess⟩
  | .PART_POSTED_SPILLED => ⟨.PART_POSTED, 32, 32, .RO, 0, .none, .byAccess⟩
  | .PART_UNEXP_ON_CHIP => ⟨.PART_UNEXP, 0, 19, .RO, 0, .none, .byAccess⟩
  | .PART_UNEXP_SPILLED => ⟨.PART_UNEXP, 32, 32, .RO, 0, .none, .byAccess⟩
  | .PART_STORE_USED_TILES => ⟨.PART_STORE, 0, 32, .RO, 0, .none, .byAccess⟩
  | .THRESH_CFG_RTO_MIN_US => ⟨.THRESH_CFG, 0, 8, .RWP, 4, .range 4 255, .byAccess⟩
  | .THRESH_CFG_RTO_MAX_US => ⟨.THRESH_CFG, 8, 16, .RWP, 128, .range 4 4096, .byAccess⟩
  | .THRESH_CFG_OP_TIMEOUT_MS => ⟨.THRESH_CFG, 24, 8, .RWP, 10, .range 1 100, .byAccess⟩
  | .THRESH_CFG_PARK_BUDGET_US => ⟨.THRESH_CFG, 32, 16, .RWP, 50, .range 1 10000, .byAccess⟩
  | .THRESH_CFG_PAGE_HINT_US => ⟨.THRESH_CFG, 48, 16, .RWP, 200, .range 1 65535, .byAccess⟩
  | .THRESH_ACK_CFG_ACK_COAL_US => ⟨.THRESH_ACK_CFG, 0, 8, .RWP, 2, .range 1 64, .byAccess⟩
  | .THRESH_ACK_CFG_ACK_COAL_SEGS => ⟨.THRESH_ACK_CFG, 8, 8, .RWP, 8, .range 1 64, .byAccess⟩
  | .THRESH_ACK_CFG_FAST_RETX => ⟨.THRESH_ACK_CFG, 16, 4, .RWP, 3, .none, .byAccess⟩
  | .THRESH_ACK_CFG_ATOMIC_HOLD_US => ⟨.THRESH_ACK_CFG, 24, 16, .RWP, 256, .none, .byAccess⟩
  | .THRESH_ACK_CFG_ATOMIC_HINT_US => ⟨.THRESH_ACK_CFG, 40, 8, .RWP, 10, .range 1 255, .byAccess⟩
  | .THRESH_ACK_CFG_ORPHAN_US => ⟨.THRESH_ACK_CFG, 48, 8, .RWP, 100, .range 1 200, .byAccess⟩
  | .THRESH_ACK_CFG_RESP_MULT => ⟨.THRESH_ACK_CFG, 56, 4, .RWP, 2, .range 1 15, .byAccess⟩
  | .THRESH_STAT_FLOWS_CACHED => ⟨.THRESH_STAT, 0, 16, .RO, 0, .none, .byAccess⟩
  | .THRESH_STAT_ATOMIC_USED => ⟨.THRESH_STAT, 16, 14, .RO, 0, .none, .byAccess⟩
  | .THRESH_STAT_TRACKER_USED => ⟨.THRESH_STAT, 30, 13, .RO, 0, .none, .byAccess⟩
  | .THRESH_STAT_VEST_PARKED_KIB => ⟨.THRESH_STAT, 43, 14, .RO, 0, .none, .byAccess⟩
  | .THRESH_EVENTS_KEY_FAULT_SEEN => ⟨.THRESH_EVENTS, 0, 1, .RC, 0, .none, .byAccess⟩
  | .THRESH_EVENTS_TIMEOUT_SEEN => ⟨.THRESH_EVENTS, 1, 1, .RC, 0, .none, .byAccess⟩
  | .THRESH_EVENTS_FLOW_RESET_SEEN => ⟨.THRESH_EVENTS, 2, 1, .RC, 0, .none, .byAccess⟩
  | .THRESH_EVENTS_STALE_EPOCH_SEEN => ⟨.THRESH_EVENTS, 3, 1, .RC, 0, .none, .byAccess⟩
  | .THRESH_EVENTS_ATOMIC_FULL => ⟨.THRESH_EVENTS, 4, 1, .RC, 0, .none, .byAccess⟩
  | .THRESH_EVENTS_TRACKER_FULL => ⟨.THRESH_EVENTS, 5, 1, .RC, 0, .none, .byAccess⟩
  | .THRESH_EVENTS_PARK_EXPIRED => ⟨.THRESH_EVENTS, 6, 1, .RC, 0, .none, .byAccess⟩
  | .THRESH_EVENTS_VEST_FULL => ⟨.THRESH_EVENTS, 7, 1, .RC, 0, .none, .byAccess⟩
  | .THRESH_EVENTS_ACK_SPILL_FULL => ⟨.THRESH_EVENTS, 8, 1, .RC, 0, .none, .byAccess⟩
  | .THRESH_EVENTS_ORPHAN_SEEN => ⟨.THRESH_EVENTS, 9, 1, .RC, 0, .none, .byAccess⟩
  | .KEY_SEL_INDEX => ⟨.KEY_SEL, 0, 24, .RWP, 0, .none, .byAccess⟩
  | .KEY_CMD_CMD => ⟨.KEY_CMD, 0, 2, .WO, 0, .none, .byAccess⟩
  | .KEY_CMD_STAT_BUSY => ⟨.KEY_CMD_STAT, 0, 1, .RO, 0, .none, .byAccess⟩
  | .KEY_CMD_STAT_RESULT => ⟨.KEY_CMD_STAT, 4, 4, .RO, 0, .none, .byAccess⟩
  | .KEY_CMD_STAT_INDEX => ⟨.KEY_CMD_STAT, 8, 24, .RO, 0, .none, .byAccess⟩
  | .KEY_DATA_WORD => ⟨.KEY_DATA, 0, 64, .RWP, 0, .none, .byAccess⟩
  | .FLOW_SEL_NODE_INDEX => ⟨.FLOW_SEL, 0, 17, .RWP, 0, .none, .byAccess⟩
  | .FLOW_CMD_RESET => ⟨.FLOW_CMD, 0, 1, .W1, 0, .none, .byAccess⟩
  | .FLOW_STAT0_SEND_STATE => ⟨.FLOW_STAT0, 0, 2, .RO, 0, .none, .byAccess⟩
  | .FLOW_STAT0_SEND_EPOCH => ⟨.FLOW_STAT0, 2, 2, .RO, 0, .none, .byAccess⟩
  | .FLOW_STAT0_RECV_STATE => ⟨.FLOW_STAT0, 4, 2, .RO, 0, .none, .byAccess⟩
  | .FLOW_STAT0_RECV_EPOCH => ⟨.FLOW_STAT0, 6, 2, .RO, 0, .none, .byAccess⟩
  | .FLOW_STAT0_TX_NEXT => ⟨.FLOW_STAT0, 8, 16, .RO, 0, .none, .byAccess⟩
  | .FLOW_STAT0_TX_ACKED => ⟨.FLOW_STAT0, 24, 16, .RO, 0, .none, .byAccess⟩
  | .FLOW_STAT0_RX_W => ⟨.FLOW_STAT0, 40, 16, .RO, 0, .none, .byAccess⟩
  | .FLOW_STAT1_OUTSTANDING => ⟨.FLOW_STAT1, 0, 11, .RO, 0, .none, .byAccess⟩
  | .FLOW_STAT1_RTO_US => ⟨.FLOW_STAT1, 16, 16, .RO, 0, .none, .byAccess⟩
  | .FLOW_STAT1_SRTT_NS => ⟨.FLOW_STAT1, 32, 16, .RO, 0, .none, .byAccess⟩
  | .XCTX_BASE_LOG2 => ⟨.XCTX_BASE, 0, 5, .RWP, 0, .range 0 20, .byAccess⟩
  | .XCTX_BASE_BASE => ⟨.XCTX_BASE, 12, 52, .RWP, 0, .none, .byAccess⟩
  | .INV_MBOX0_KIND => ⟨.INV_MBOX0, 0, 3, .RWP, 0, .none, .byAccess⟩
  | .INV_MBOX0_DRAIN => ⟨.INV_MBOX0, 3, 1, .RWP, 0, .none, .byAccess⟩
  | .INV_MBOX0_FAIL => ⟨.INV_MBOX0, 4, 1, .RWP, 0, .none, .byAccess⟩
  | .INV_MBOX0_VPAGE => ⟨.INV_MBOX0, 12, 36, .RWP, 0, .none, .byAccess⟩
  | .INV_MBOX1_PAGES => ⟨.INV_MBOX1, 0, 36, .RWP, 0, .none, .byAccess⟩
  | .INV_MBOX1_CTX => ⟨.INV_MBOX1, 44, 20, .RWP, 0, .none, .byAccess⟩
  | .INV_RING_RING => ⟨.INV_RING, 0, 1, .W1, 0, .none, .byAccess⟩
  | .INV_STAT_BUSY => ⟨.INV_STAT, 0, 1, .RO, 0, .none, .byAccess⟩
  | .INV_STAT_DONE_SEQ => ⟨.INV_STAT, 16, 16, .RO, 0, .none, .byAccess⟩
  | .INV_STAT_LAST_RESULT => ⟨.INV_STAT, 32, 4, .RO, 0, .none, .byAccess⟩
  | .PRQ_BASE_LOG2 => ⟨.PRQ_BASE, 0, 5, .RWP, 4, .none, .byAccess⟩
  | .PRQ_BASE_BASE => ⟨.PRQ_BASE, 12, 52, .RWP, 0, .none, .byAccess⟩
  | .PRQ_CTRL_VEC => ⟨.PRQ_CTRL, 0, 11, .RWP, 0, .none, .byAccess⟩
  | .PRQ_CTRL_ENABLE => ⟨.PRQ_CTRL, 15, 1, .RWP, 0, .none, .byAccess⟩
  | .PRQ_CTRL_HEAD => ⟨.PRQ_CTRL, 32, 32, .RWP, 0, .none, .byAccess⟩
  | .WALK_WIN_BASE_ENABLE => ⟨.WALK_WIN_BASE, 0, 1, .RWP, 0, .none, .byAccess⟩
  | .WALK_WIN_BASE_BASE => ⟨.WALK_WIN_BASE, 12, 52, .RWP, 0, .none, .byAccess⟩
  | .WALK_WIN_LIMIT_LIMIT => ⟨.WALK_WIN_LIMIT, 12, 52, .RWP, 0, .none, .byAccess⟩
  | .MISS_POP_VALID => ⟨.MISS_POP, 0, 1, .RWS, 0, .none, .byAccess⟩
  | .MISS_POP_ID => ⟨.MISS_POP, 1, 6, .RWS, 0, .none, .byAccess⟩
  | .MISS_POP_HPORT => ⟨.MISS_POP, 7, 2, .RWS, 0, .none, .byAccess⟩
  | .MISS_POP_WRITE => ⟨.MISS_POP, 9, 1, .RWS, 0, .none, .byAccess⟩
  | .MISS_POP_TARGET => ⟨.MISS_POP, 10, 1, .RWS, 0, .none, .byAccess⟩
  | .MISS_POP_CTX => ⟨.MISS_POP, 12, 20, .RWS, 0, .none, .byAccess⟩
  | .MISS_VA_VPAGE => ⟨.MISS_VA, 12, 52, .RWS, 0, .none, .byAccess⟩
  | .MISS_DONE_ID => ⟨.MISS_DONE, 0, 6, .RWS, 0, .none, .byAccess⟩
  | .MISS_DONE_HPORT => ⟨.MISS_DONE, 6, 2, .RWS, 0, .none, .byAccess⟩
  | .MISS_DONE_STATUS => ⟨.MISS_DONE, 8, 4, .RWS, 0, .none, .byAccess⟩
  | .WALK_REQ_HPORT => ⟨.WALK_REQ, 0, 2, .RWS, 0, .none, .byAccess⟩
  | .WALK_REQ_ADDR => ⟨.WALK_REQ, 3, 49, .RWS, 0, .none, .byAccess⟩
  | .WALK_DATA_DATA => ⟨.WALK_DATA, 0, 64, .RWS, 0, .none, .byAccess⟩
  | .WALK_STAT_STATUS => ⟨.WALK_STAT, 0, 2, .RWS, 0, .none, .byAccess⟩
  | .ATB_CMD_CMD => ⟨.ATB_CMD, 0, 2, .RWS, 0, .none, .byAccess⟩
  | .ATB_CMD_HPORT => ⟨.ATB_CMD, 2, 2, .RWS, 0, .none, .byAccess⟩
  | .ATB_CMD_MISS_ID => ⟨.ATB_CMD, 4, 6, .RWS, 0, .none, .byAccess⟩
  | .ATB_CMD_HAS_MISS => ⟨.ATB_CMD, 10, 1, .RWS, 0, .none, .byAccess⟩
  | .ATB_CMD_INDEX => ⟨.ATB_CMD, 11, 10, .RWS, 0, .none, .byAccess⟩
  | .ATB_CMD_STAT_BUSY => ⟨.ATB_CMD_STAT, 0, 1, .RWS, 0, .none, .byAccess⟩
  | .ATB_CMD_STAT_RESULT => ⟨.ATB_CMD_STAT, 4, 4, .RWS, 0, .none, .byAccess⟩
  | .ATB_CMD_STAT_SLOT => ⟨.ATB_CMD_STAT, 8, 10, .RWS, 0, .none, .byAccess⟩
  | .ATB_CMD_STAT_REMOVED => ⟨.ATB_CMD_STAT, 18, 11, .RWS, 0, .none, .byAccess⟩
  | .ATB_DATA0_SIZE => ⟨.ATB_DATA0, 0, 2, .RWS, 0, .none, .byAccess⟩
  | .ATB_DATA0_WRITE => ⟨.ATB_DATA0, 2, 1, .RWS, 0, .none, .byAccess⟩
  | .ATB_DATA0_VALID => ⟨.ATB_DATA0, 3, 1, .RWS, 0, .none, .byAccess⟩
  | .ATB_DATA0_VPAGE => ⟨.ATB_DATA0, 12, 36, .RWS, 0, .none, .byAccess⟩
  | .ATB_DATA1_BPAGE => ⟨.ATB_DATA1, 12, 40, .RWS, 0, .none, .byAccess⟩
  | .ATB_DATA2_CTX => ⟨.ATB_DATA2, 0, 20, .RWS, 0, .none, .byAccess⟩
  | .ATB_DATA2_ALL_CTX => ⟨.ATB_DATA2, 20, 1, .RWS, 0, .none, .byAccess⟩
  | .ATB_DATA2_PAGES => ⟨.ATB_DATA2, 27, 37, .RWS, 0, .none, .byAccess⟩
  | .XLATE_STAT_MISSES0 => ⟨.XLATE_STAT, 0, 7, .RO, 0, .none, .byAccess⟩
  | .XLATE_STAT_MISSES1 => ⟨.XLATE_STAT, 7, 7, .RO, 0, .none, .byAccess⟩
  | .XLATE_STAT_MISSES2 => ⟨.XLATE_STAT, 14, 7, .RO, 0, .none, .byAccess⟩
  | .XLATE_STAT_MISSES3 => ⟨.XLATE_STAT, 21, 7, .RO, 0, .none, .byAccess⟩
  | .XLATE_EVENTS_MISS_FULL => ⟨.XLATE_EVENTS, 0, 1, .RC, 0, .none, .byAccess⟩
  | .XLATE_EVENTS_WALK_FAULT_SEEN => ⟨.XLATE_EVENTS, 1, 1, .RC, 0, .none, .byAccess⟩
  | .XLATE_EVENTS_WALK_DEVICE_SEEN => ⟨.XLATE_EVENTS, 2, 1, .RC, 0, .none, .byAccess⟩
  | .XLATE_EVENTS_STALE_INSTALL => ⟨.XLATE_EVENTS, 3, 1, .RC, 0, .none, .byAccess⟩
  | .XLATE_EVENTS_INV_DONE => ⟨.XLATE_EVENTS, 4, 1, .RC, 0, .none, .byAccess⟩
  | .XLATE_EVENTS_INV_REFUSED => ⟨.XLATE_EVENTS, 5, 1, .RC, 0, .none, .byAccess⟩
  | .XLATE_EVENTS_PRQ_FULL => ⟨.XLATE_EVENTS, 6, 1, .RC, 0, .none, .byAccess⟩
  | .RANK_SEL_SLOT => ⟨.RANK_SEL, 0, 12, .RWP, 0, .none, .byAccess⟩
  | .RANK_SEL_RANK => ⟨.RANK_SEL, 16, 24, .RWP, 0, .none, .byAccess⟩
  | .RANK_DATA_ENTRY => ⟨.RANK_DATA, 0, 64, .RWP, 0, .none, .byAccess⟩
  | .RANK_CMD_CMD => ⟨.RANK_CMD, 0, 2, .WO, 0, .none, .byAccess⟩
  | .RANK_STAT_BUSY => ⟨.RANK_STAT, 0, 1, .RO, 0, .none, .byAccess⟩
  | .RANK_STAT_RESULT => ⟨.RANK_STAT, 4, 4, .RO, 0, .none, .byAccess⟩
  | .RAKE_CFG_WINDOW_LOG2 => ⟨.RAKE_CFG, 0, 4, .RWP, 10, .range 8 12, .byAccess⟩
  | .RAKE_CFG_STALL_US => ⟨.RAKE_CFG, 8, 16, .RWP, 1000, .range 100 60000, .byAccess⟩
  | .RAKE_CTRL_TREE => ⟨.RAKE_CTRL, 0, 10, .RWP, 0, .none, .byAccess⟩
  | .RAKE_CTRL_CMD => ⟨.RAKE_CTRL, 12, 2, .WO, 0, .none, .byAccess⟩
  | .RAKE_STAT_CTX_FREE => ⟨.RAKE_STAT, 0, 8, .RO, 62, .none, .byAccess⟩
  | .RAKE_STAT_CTX_TOTAL => ⟨.RAKE_STAT, 8, 8, .RO, 62, .none, .byAccess⟩
  | .RAKE_STAT_OPS_ACTIVE => ⟨.RAKE_STAT, 16, 11, .RO, 0, .none, .byAccess⟩
  | .RAKE_STAT_WINDOW_LOG2 => ⟨.RAKE_STAT, 27, 4, .RO, 10, .none, .byAccess⟩
  | .RAKE_EVENTS_ABORT_SEEN => ⟨.RAKE_EVENTS, 0, 1, .RC, 0, .none, .byAccess⟩
  | .RAKE_EVENTS_MISMATCH_SEEN => ⟨.RAKE_EVENTS, 1, 1, .RC, 0, .none, .byAccess⟩
  | .RAKE_EVENTS_FENCED_SEEN => ⟨.RAKE_EVENTS, 2, 1, .RC, 0, .none, .byAccess⟩
  | .RAKE_EVENTS_STALL_SEEN => ⟨.RAKE_EVENTS, 3, 1, .RC, 0, .none, .byAccess⟩
  | .RAKE_EVENTS_CELL_FAIL => ⟨.RAKE_EVENTS, 4, 1, .RC, 0, .none, .byAccess⟩
  | .RAKE_EVENTS_DESYNC_SEEN => ⟨.RAKE_EVENTS, 5, 1, .RC, 0, .none, .byAccess⟩
  | .RAKE_EVENTS_CTX_WAIT => ⟨.RAKE_EVENTS, 6, 1, .RC, 0, .none, .byAccess⟩
  | .TREE_JOB_JOB => ⟨.TREE_JOB, 0, 16, .RWP, 0, .none, .byAccess⟩
  | .TREE_ENTRY_CHILD_HI => ⟨.TREE_ENTRY, 0, 8, .RO, 0, .none, .byAccess⟩
  | .TREE_ENTRY_HOST => ⟨.TREE_ENTRY, 8, 1, .RO, 0, .none, .byAccess⟩
  | .TREE_ENTRY_PARENT => ⟨.TREE_ENTRY, 9, 7, .RO, 0, .none, .byAccess⟩
  | .TREE_ENTRY_ROLE => ⟨.TREE_ENTRY, 16, 2, .RO, 0, .none, .byAccess⟩
  | .TREE_ENTRY_VALID => ⟨.TREE_ENTRY, 18, 1, .RO, 0, .none, .byAccess⟩
  | .TREE_ENTRY_STATE => ⟨.TREE_ENTRY, 20, 2, .RO, 0, .none, .byAccess⟩
  | .TREE_ENTRY_NEXT_SEQ => ⟨.TREE_ENTRY, 24, 8, .RO, 0, .none, .byAccess⟩
  | .TREE_ENTRY_ABORTED_SEQ => ⟨.TREE_ENTRY, 32, 8, .RO, 0, .none, .byAccess⟩
  | .TREE_ENTRY_ABORTED_VALID => ⟨.TREE_ENTRY, 40, 1, .RO, 0, .none, .byAccess⟩
  | .TREE_ENTRY_WINDOW_LOG2 => ⟨.TREE_ENTRY, 48, 5, .RO, 0, .none, .byAccess⟩
  | .TREE_CHILD_CHILD_LO => ⟨.TREE_CHILD, 0, 64, .RO, 0, .none, .byAccess⟩
  | .SLUICE_MODE_SCHEDULE => ⟨.SLUICE_MODE, 0, 1, .W1, 0, .none, .byAccess⟩
  | .SLUICE_MODE_FORCE_MARKED => ⟨.SLUICE_MODE, 1, 1, .RWP, 0, .none, .byAccess⟩
  | .SLUICE_MODE_SERVICE => ⟨.SLUICE_MODE, 2, 1, .RO, 0, .none, .byAccess⟩
  | .SLUICE_MODE_FALLBACK_CAUSE => ⟨.SLUICE_MODE, 4, 4, .RO, 6, .none, .byAccess⟩
  | .SLUICE_MODE_FALLBACK_PORT => ⟨.SLUICE_MODE, 8, 7, .RO, 0, .none, .byAccess⟩
  | .SLUICE_STAT_BUDGET_NOW => ⟨.SLUICE_STAT, 0, 16, .RO, 0, .none, .byAccess⟩
  | .SLUICE_STAT_TICKET_RATE_NOW => ⟨.SLUICE_STAT, 16, 16, .RO, 0, .none, .byAccess⟩
  | .SLUICE_STAT_WAITING => ⟨.SLUICE_STAT, 32, 14, .RO, 0, .none, .byAccess⟩
  | .SLUICE_EVENTS_FALLBACK => ⟨.SLUICE_EVENTS, 0, 1, .RC, 0, .none, .byAccess⟩
  | .SLUICE_EVENTS_SCHEDULED => ⟨.SLUICE_EVENTS, 1, 1, .RC, 0, .none, .byAccess⟩
  | .SLUICE_EVENTS_SCHEDULE_REFUSED => ⟨.SLUICE_EVENTS, 2, 1, .RC, 0, .none, .byAccess⟩
  | .SLUICE_EVENTS_TIME_STEP => ⟨.SLUICE_EVENTS, 3, 1, .RC, 0, .none, .byAccess⟩
  | .SLUICE_EVENTS_TIME_UNSYNC => ⟨.SLUICE_EVENTS, 4, 1, .RC, 0, .none, .byAccess⟩
  | .SLUICE_EVENTS_TIME_SYNC => ⟨.SLUICE_EVENTS, 5, 1, .RC, 0, .none, .byAccess⟩
  | .SLUICE_EVENTS_SET_REFUSED => ⟨.SLUICE_EVENTS, 6, 1, .RC, 0, .none, .byAccess⟩
  | .SLUICE_EVENTS_WAITLIST_FULL => ⟨.SLUICE_EVENTS, 7, 1, .RC, 0, .none, .byAccess⟩
  | .SLUICE_EVENTS_TICKET_EXPIRED => ⟨.SLUICE_EVENTS, 8, 1, .RC, 0, .none, .byAccess⟩
  | .SLUICE_EVENTS_TIME_FOREIGN => ⟨.SLUICE_EVENTS, 9, 1, .RC, 0, .none, .byAccess⟩
  | .TICKET_CFG_LIFE_US => ⟨.TICKET_CFG, 0, 16, .RWP, 20, .range 1 65535, .byAccess⟩
  | .TICKET_CFG_RETRY_US => ⟨.TICKET_CFG, 16, 8, .RWP, 10, .range 1 255, .byAccess⟩
  | .TICKET_CFG_BATCH => ⟨.TICKET_CFG, 24, 4, .RWP, 8, .range 1 15, .byAccess⟩
  | .TIME_CFG_MASTER_NODE => ⟨.TIME_CFG, 0, 20, .RWP, 0, .none, .byAccess⟩
  | .TIME_CFG_MASTER => ⟨.TIME_CFG, 20, 1, .RWP, 0, .none, .byAccess⟩
  | .TIME_CFG_PERIOD_US => ⟨.TIME_CFG, 24, 4, .RWP, 2, .range 1 15, .byAccess⟩
  | .TIME_CFG_STEP_NS => ⟨.TIME_CFG, 32, 16, .RWP, 1000, .range 16 65535, .byAccess⟩
  | .TIME_STAT_SYNCED => ⟨.TIME_STAT, 0, 1, .RO, 0, .none, .byAccess⟩
  | .TIME_STAT_HOLDOVER => ⟨.TIME_STAT, 1, 1, .RO, 0, .none, .byAccess⟩
  | .TIME_STAT_PARENT_PORT => ⟨.TIME_STAT, 2, 7, .RO, 127, .none, .byAccess⟩
  | .TIME_STAT_HOPS => ⟨.TIME_STAT, 9, 3, .RO, 7, .none, .byAccess⟩
  | .TIME_STAT_THETA_PS => ⟨.TIME_STAT, 16, 32, .RO, 0, .none, .byAccess⟩
  | .TIME_SET_NS_NS => ⟨.TIME_SET_NS, 0, 64, .RWP, 0, .none, .byAccess⟩
  | .TIME_ADJ_SET_FRAC => ⟨.TIME_ADJ, 0, 16, .RWP, 0, .none, .byAccess⟩
  | .TIME_ADJ_TRIM_PPB => ⟨.TIME_ADJ, 16, 24, .RWP, 0, .none, .byAccess⟩
  | .TIME_ADJ_SET => ⟨.TIME_ADJ, 63, 1, .W1, 0, .none, .byAccess⟩
  | .MARK_CFG_MARK_CELLS => ⟨.MARK_CFG, 0, 12, .RWP, 256, .range 1 2457, .byAccess⟩
  | .MARK_CFG_MD_256 => ⟨.MARK_CFG, 12, 8, .RWP, 64, .range 1 255, .byAccess⟩
  | .MARK_CFG_AI_US => ⟨.MARK_CFG, 20, 8, .RWP, 2, .range 1 255, .byAccess⟩
  | .MARK_RATE_RATE_INIT => ⟨.MARK_RATE, 0, 20, .RWP, 0x2710, .none, .byAccess⟩
  | .MARK_RATE_RATE_MIN => ⟨.MARK_RATE, 20, 20, .RWP, 100, .range 1 1048575, .byAccess⟩
  | .MARK_RATE_AI_STEP => ⟨.MARK_RATE, 40, 20, .RWP, 500, .none, .byAccess⟩
  | .HIST_SEL_QUEUE => ⟨.HIST_SEL, 0, 10, .RWP, 0, .range 0 831, .byAccess⟩
  | .HIST_SEL_KIND => ⟨.HIST_SEL, 10, 1, .RWP, 0, .none, .byAccess⟩
  | .HIST_CTRL_CLEAR => ⟨.HIST_CTRL, 0, 1, .W1, 0, .none, .byAccess⟩
  | .HIST_CTRL_SAMPLE_NS => ⟨.HIST_CTRL, 16, 16, .RWP, 1024, .range 64 65535, .byAccess⟩
  | .HIST_BIN_COUNT => ⟨.HIST_BIN, 0, 48, .RO, 0, .none, .byAccess⟩
  | .TIME_DELAY_DELAY_PS => ⟨.TIME_DELAY, 0, 32, .RO, 0, .none, .byAccess⟩
  | .GATE_POS_ENTRY => ⟨.GATE_POS, 0, 8, .RO, 0, .none, .byAccess⟩
  | .GATE_POS_MASK => ⟨.GATE_POS, 8, 8, .RO, 0, .none, .byAccess⟩
  | .GATE_POS_ACTING => ⟨.GATE_POS, 16, 1, .RO, 0, .none, .byAccess⟩
  | .SHAPE_CFG_RATE => ⟨.SHAPE_CFG, 0, 20, .RWP, 0, .none, .byAccess⟩
  | .SHAPE_CFG_BURST_KIB => ⟨.SHAPE_CFG, 20, 12, .RWP, 64, .none, .byAccess⟩
  | .SHAPE_CFG_OVERHEAD => ⟨.SHAPE_CFG, 32, 8, .RWP, 5, .none, .byAccess⟩
  | .SHAPE_CFG_SCALED => ⟨.SHAPE_CFG, 40, 1, .RWP, 1, .none, .byAccess⟩
  | .SHAPE_CFG_ENABLE => ⟨.SHAPE_CFG, 41, 1, .RWP, 0, .none, .byAccess⟩
  | .SHAPE_STAT_TOKENS => ⟨.SHAPE_STAT, 0, 32, .RO, 0, .none, .byAccess⟩
  | .SHAPE_STAT_QUEUED => ⟨.SHAPE_STAT, 32, 16, .RO, 0, .none, .byAccess⟩
  | .JOB_SHAPE_QUEUE => ⟨.JOB_SHAPE, 0, 8, .RWP, 0, .none, .byAccess⟩
  | .FAULT_STAT_LEVEL => ⟨.FAULT_STAT, 0, 3, .RO, 0, .none, .byAccess⟩
  | .FAULT_STAT_STICKY => ⟨.FAULT_STAT, 3, 1, .RO, 0, .none, .byAccess⟩
  | .FAULT_STAT_PARITY_STANDING => ⟨.FAULT_STAT, 4, 1, .RO, 0, .none, .byAccess⟩
  | .FAULT_STAT_FIRST_CLASS => ⟨.FAULT_STAT, 8, 6, .RO, 0, .none, .byAccess⟩
  | .FAULT_STAT_LAST_CLASS => ⟨.FAULT_STAT, 16, 6, .RO, 0, .none, .byAccess⟩
  | .FAULT_STAT_QUIET_LEFT_MS => ⟨.FAULT_STAT, 32, 14, .RO, 0, .none, .byAccess⟩
  | .FAULT_EVENTS_LEVEL_RAISED => ⟨.FAULT_EVENTS, 0, 1, .RC, 0, .none, .byAccess⟩
  | .FAULT_EVENTS_ESCALATED => ⟨.FAULT_EVENTS, 1, 1, .RC, 0, .none, .byAccess⟩
  | .FAULT_EVENTS_RECOVERED => ⟨.FAULT_EVENTS, 2, 1, .RC, 0, .none, .byAccess⟩
  | .FAULT_EVENTS_NOTICE_SUPPRESSED => ⟨.FAULT_EVENTS, 3, 1, .RC, 0, .none, .byAccess⟩
  | .FAULT_UNACK_UNACK => ⟨.FAULT_UNACK, 1, 63, .RO, 0, .none, .byAccess⟩
  | .FAULT_ACK_ACK => ⟨.FAULT_ACK, 1, 63, .W1, 0, .none, .byAccess⟩
  | .FAULT_CFG_QUIET_MS => ⟨.FAULT_CFG, 0, 14, .RWP, 10, .range 1 10000, .byAccess⟩
  | .FAULT_CFG_NOTIFY_LEVEL => ⟨.FAULT_CFG, 16, 3, .RWP, 2, .range 1 4, .byAccess⟩
  | .RECOVERY_COUNT_COUNT => ⟨.RECOVERY_COUNT, 0, 32, .RO, 0, .none, .byAccess⟩
  | .FAULT_INJECT_CLASS => ⟨.FAULT_INJECT, 0, 6, .RWS, 0, .none, .byAccess⟩
  | .FAULT_INJECT_GO => ⟨.FAULT_INJECT, 8, 1, .W1, 0, .none, .byAccess⟩
  | .DEV_FAULT_LEVEL => ⟨.DEV_FAULT, 0, 3, .RO, 0, .none, .byAccess⟩
  | .DEV_FAULT_CAUSE_BLOCK => ⟨.DEV_FAULT, 3, 8, .RO, 0, .none, .byAccess⟩
  | .DEV_FAULT_CAUSE_CLASS => ⟨.DEV_FAULT, 11, 6, .RO, 0, .none, .byAccess⟩
  | .DEV_FAULT_L4_RESET_PENDING => ⟨.DEV_FAULT, 17, 1, .RO, 0, .none, .byAccess⟩
  | .DEV_FAULT_HOST_RESET_BUSY => ⟨.DEV_FAULT, 18, 1, .RO, 0, .none, .byAccess⟩
  | .DEV_FAULT_CTRL_HOST_RESET => ⟨.DEV_FAULT_CTRL, 0, 1, .W1, 0, .none, .priv⟩
  | .DEV_FAULT_CTRL_L4_HOLD => ⟨.DEV_FAULT_CTRL, 1, 1, .RWS, 0, .none, .byAccess⟩
  | .DEV_FAULT_CTRL_L4_RESET_MS => ⟨.DEV_FAULT_CTRL, 8, 16, .RWS, 100, .range 1 60000, .byAccess⟩
  | .DEV_FAULT_BLOCKS_LO_AT_L1 => ⟨.DEV_FAULT_BLOCKS_LO, 0, 64, .RO, 0, .none, .byAccess⟩
  | .DEV_FAULT_BLOCKS_HI_AT_L1 => ⟨.DEV_FAULT_BLOCKS_HI, 0, 24, .RO, 0, .none, .byAccess⟩
  | .FENCE_SEL_WORD => ⟨.FENCE_SEL, 0, 11, .RWP, 0, .none, .byAccess⟩
  | .FENCE_DATA_BITS => ⟨.FENCE_DATA, 0, 64, .RWP, 0, .none, .byAccess⟩
  | .FENCE_CMD_NODE_INDEX => ⟨.FENCE_CMD, 0, 17, .WO, 0, .none, .byAccess⟩
  | .FENCE_CMD_CMD => ⟨.FENCE_CMD, 17, 2, .WO, 0, .none, .byAccess⟩
  | .FENCE_STAT_COUNT => ⟨.FENCE_STAT, 0, 18, .RO, 0, .none, .byAccess⟩
  | .FENCE_STAT_SELF => ⟨.FENCE_STAT, 18, 1, .RO, 0, .none, .byAccess⟩
  | .SUSPECT_CFG_FM_NODE => ⟨.SUSPECT_CFG, 0, 20, .RWP, 0, .none, .byAccess⟩
  | .SUSPECT_CFG_FM_VALID => ⟨.SUSPECT_CFG, 20, 1, .RWP, 0, .none, .byAccess⟩
  | .SUSPECT_CFG_HOLDOFF_MS => ⟨.SUSPECT_CFG, 24, 8, .RWP, 50, .range 1 255, .byAccess⟩
  | .SUSPECT_CFG_JITTER_US => ⟨.SUSPECT_CFG, 32, 16, .RWP, 2000, .range 0 10000, .byAccess⟩
  | .SUSPECT_STAT_USED => ⟨.SUSPECT_STAT, 0, 7, .RO, 0, .none, .byAccess⟩
  | .SUSPECT_EVENTS_SENT => ⟨.SUSPECT_EVENTS, 0, 1, .RC, 0, .none, .byAccess⟩
  | .SUSPECT_EVENTS_DROPPED => ⟨.SUSPECT_EVENTS, 1, 1, .RC, 0, .none, .byAccess⟩
  | .SUSPECT_EVENTS_CANCELLED => ⟨.SUSPECT_EVENTS, 2, 1, .RC, 0, .none, .byAccess⟩
  | .SUSPECT_SEL_ENTRY => ⟨.SUSPECT_SEL, 0, 6, .RWP, 0, .none, .byAccess⟩
  | .SUSPECT_ENTRY_NODE_INDEX => ⟨.SUSPECT_ENTRY, 0, 17, .RO, 0, .none, .byAccess⟩
  | .SUSPECT_ENTRY_STATE => ⟨.SUSPECT_ENTRY, 17, 2, .RO, 0, .none, .byAccess⟩
  | .SUSPECT_ENTRY_KIND => ⟨.SUSPECT_ENTRY, 19, 2, .RO, 0, .none, .byAccess⟩
  | .SUSPECT_ENTRY_REPEAT => ⟨.SUSPECT_ENTRY, 21, 1, .RO, 0, .none, .byAccess⟩
  | .SUSPECT_ENTRY_OBS => ⟨.SUSPECT_ENTRY, 32, 16, .RO, 0, .none, .byAccess⟩
  | .SUSPECT_ENTRY_ROOMS => ⟨.SUSPECT_ENTRY, 48, 16, .RO, 0, .none, .byAccess⟩
  | .DOMAIN_TARGET_LO_TARGET => ⟨.DOMAIN_TARGET_LO, 0, 64, .RWP, 0, .none, .byAccess⟩
  | .DOMAIN_TARGET_HI_TARGET => ⟨.DOMAIN_TARGET_HI, 0, 16, .RWP, 0x4f00, .none, .byAccess⟩
  | .DOMAIN_STAT_LO_ON => ⟨.DOMAIN_STAT_LO, 0, 64, .RO, 0, .none, .byAccess⟩
  | .DOMAIN_STAT_HI_ON => ⟨.DOMAIN_STAT_HI, 0, 16, .RO, 0x4f00, .none, .byAccess⟩
  | .DOMAIN_STAT_HI_BUSY => ⟨.DOMAIN_STAT_HI, 16, 4, .RO, 0, .none, .byAccess⟩
  | .DOMAIN_EVENTS_DONE => ⟨.DOMAIN_EVENTS, 0, 1, .RC, 0, .none, .byAccess⟩
  | .DOMAIN_EVENTS_REFUSED => ⟨.DOMAIN_EVENTS, 1, 1, .RC, 0, .none, .byAccess⟩
  | .DOMAIN_REFUSE_DOMAIN => ⟨.DOMAIN_REFUSE, 0, 7, .RO, 0, .none, .byAccess⟩
  | .DOMAIN_REFUSE_CAUSE => ⟨.DOMAIN_REFUSE, 8, 4, .RO, 0, .none, .byAccess⟩
  | .RESET_CAUSE_POWER_ON => ⟨.RESET_CAUSE, 0, 1, .RO, 1, .none, .byAccess⟩
  | .RESET_CAUSE_PERST => ⟨.RESET_CAUSE, 1, 1, .RO, 0, .none, .byAccess⟩
  | .RESET_CAUSE_STAIR => ⟨.RESET_CAUSE, 2, 1, .RO, 0, .none, .byAccess⟩
  | .RESET_CAUSE_WATCHDOG => ⟨.RESET_CAUSE, 3, 1, .RO, 0, .none, .byAccess⟩
  | .RESET_CAUSE_SOFTWARE => ⟨.RESET_CAUSE, 4, 1, .RO, 0, .none, .byAccess⟩
  | .RESET_CAUSE_L4 => ⟨.RESET_CAUSE, 5, 1, .RO, 0, .none, .byAccess⟩
  | .RESET_CAUSE_THERMAL => ⟨.RESET_CAUSE, 6, 1, .RO, 0, .none, .byAccess⟩
  | .RESET_CAUSE_HOST_PORT => ⟨.RESET_CAUSE, 8, 4, .RO, 0, .none, .byAccess⟩
  | .RESET_CAUSE_CLR_CLEAR => ⟨.RESET_CAUSE_CLR, 0, 12, .W1, 0, .none, .byAccess⟩
  | .RESET_CTRL_DEVICE_RESET => ⟨.RESET_CTRL, 0, 1, .W1, 0, .none, .priv⟩
  | .RESET_CTRL_CONFIRM => ⟨.RESET_CTRL, 8, 8, .WO, 0, .none, .byAccess⟩
  | .RESET_CTRL_CRYSTAL => ⟨.RESET_CTRL, 16, 1, .W1, 0, .none, .priv⟩
  | .RESET_CTRL_RAKE => ⟨.RESET_CTRL, 17, 1, .W1, 0, .none, .priv⟩
  | .RESET_CTRL_COUNT => ⟨.RESET_CTRL, 18, 1, .W1, 0, .none, .priv⟩
  | .WDOG_CFG_TIMEOUT_MS => ⟨.WDOG_CFG, 0, 16, .RWS, 2000, .range 10 60000, .byAccess⟩
  | .WDOG_CFG_ENABLE => ⟨.WDOG_CFG, 16, 1, .RWS, 1, .none, .byAccess⟩
  | .WDOG_CFG_KICK => ⟨.WDOG_CFG, 63, 1, .W1, 0, .none, .secure⟩
  | .THERM_CFG_WARN_C => ⟨.THERM_CFG, 0, 8, .RWP, 100, .range 60 110, .byAccess⟩
  | .THERM_STAT_MAX_C => ⟨.THERM_STAT, 0, 8, .RO, 0, .none, .byAccess⟩
  | .THERM_STAT_SENSOR => ⟨.THERM_STAT, 8, 4, .RO, 0, .none, .byAccess⟩
  | .THERM_STAT_WARN => ⟨.THERM_STAT, 12, 1, .RO, 0, .none, .byAccess⟩
  | .BOOT_STAT_PHASE => ⟨.BOOT_STAT, 0, 4, .RO, 0, .none, .byAccess⟩
  | .BOOT_STAT_QUICK => ⟨.BOOT_STAT, 4, 1, .RO, 0, .none, .byAccess⟩
  | .BOOT_STAT_OPT_BAD => ⟨.BOOT_STAT, 5, 1, .RO, 0, .none, .byAccess⟩
  | .BOOT_STAT_DONE_MASK => ⟨.BOOT_STAT, 16, 16, .RO, 0, .none, .byAccess⟩
  | .BOOT_STAT_FAIL_MASK => ⟨.BOOT_STAT, 32, 16, .RO, 0, .none, .byAccess⟩
  | .BOOT_CTRL_OVERRIDE => ⟨.BOOT_CTRL, 0, 1, .W1, 0, .none, .secure⟩
  | .BOARD_TIME_SECONDS => ⟨.BOARD_TIME, 0, 40, .RWP, 0, .none, .byAccess⟩
  | .BOARD_TIME_VALID => ⟨.BOARD_TIME, 63, 1, .RO, 0, .none, .byAccess⟩
  | .BIST_CTRL_SHUTDOWN => ⟨.BIST_CTRL, 0, 1, .W1, 0, .none, .priv⟩
  | .BIST_CTRL_START => ⟨.BIST_CTRL, 1, 1, .W1, 0, .none, .secure⟩
  | .BIST_CTRL_PARALLEL => ⟨.BIST_CTRL, 32, 4, .RWS, 6, .range 1 6, .byAccess⟩
  | .ATTIC_SEL_WORD => ⟨.ATTIC_SEL, 0, 11, .RWS, 0, .none, .byAccess⟩
  | .ATTIC_DATA_DATA => ⟨.ATTIC_DATA, 0, 64, .RWS, 0, .none, .byAccess⟩
  | .ATTIC_CMD_CMD => ⟨.ATTIC_CMD, 0, 2, .RWS, 0, .none, .byAccess⟩
  | .ATTIC_STAT_BUSY => ⟨.ATTIC_STAT, 0, 1, .RO, 0, .none, .byAccess⟩
  | .ATTIC_STAT_RESULT => ⟨.ATTIC_STAT, 4, 4, .RO, 0, .none, .byAccess⟩
  | .OPT_STAT_ACTIVE => ⟨.OPT_STAT, 0, 1, .RO, 0, .none, .byAccess⟩
  | .OPT_STAT_BAD => ⟨.OPT_STAT, 1, 1, .RO, 0, .none, .byAccess⟩
  | .OPT_STAT_GEN => ⟨.OPT_STAT, 32, 32, .RO, 0, .none, .byAccess⟩
  | .STAIR_STAT_STEP => ⟨.STAIR_STAT, 0, 7, .RO, 0, .none, .byAccess⟩
  | .STAIR_STAT_VALID => ⟨.STAIR_STAT, 7, 1, .RO, 0, .none, .byAccess⟩
  | .STAIR_STAT_CHAIN_END => ⟨.STAIR_STAT, 8, 1, .RO, 0, .none, .byAccess⟩
  | .STAIR_STAT_OVERFLOW => ⟨.STAIR_STAT, 9, 1, .RO, 0, .none, .byAccess⟩
  | .STAIR_STAT_LOCK_UP => ⟨.STAIR_STAT, 10, 1, .RO, 0, .none, .byAccess⟩
  | .STAIR_STAT_LOCK_DOWN => ⟨.STAIR_STAT, 11, 1, .RO, 0, .none, .byAccess⟩
  | .STAIR_EVENTS_ENUM_SEEN => ⟨.STAIR_EVENTS, 0, 1, .RC, 0, .none, .byAccess⟩
  | .STAIR_EVENTS_FRAME_FAIL => ⟨.STAIR_EVENTS, 1, 1, .RC, 0, .none, .byAccess⟩
  | .DEVICE_ID_PART => ⟨.DEVICE_ID, 0, 16, .RO, 0x4200, .none, .byAccess⟩
  | .DEVICE_ID_STEPPING => ⟨.DEVICE_ID, 16, 8, .RO, 0, .none, .byAccess⟩
  | .DEVICE_ID_BIST_VERSION => ⟨.DEVICE_ID, 24, 8, .RO, 0, .none, .byAccess⟩
  | .NODE_ID_NODE => ⟨.NODE_ID, 0, 20, .RO, 0, .none, .byAccess⟩
  | .NODE_ID_INDEX => ⟨.NODE_ID, 20, 17, .RO, 0, .none, .byAccess⟩
  | .NODE_ID_VALID => ⟨.NODE_ID, 63, 1, .RO, 0, .none, .byAccess⟩
  | .GLOBAL_EVENTS_PRIV_REFUSED => ⟨.GLOBAL_EVENTS, 0, 1, .RC, 0, .none, .byAccess⟩
  | .GLOBAL_EVENTS_BAD_WIDTH => ⟨.GLOBAL_EVENTS, 1, 1, .RC, 0, .none, .byAccess⟩
  | .GLOBAL_EVENTS_UNMAPPED => ⟨.GLOBAL_EVENTS, 2, 1, .RC, 0, .none, .byAccess⟩
  | .GLOBAL_EVENTS_MGMT_REFUSED => ⟨.GLOBAL_EVENTS, 3, 1, .RC, 0, .none, .byAccess⟩
  | .GLOBAL_EVENTS_RESET_REFUSED => ⟨.GLOBAL_EVENTS, 4, 1, .RC, 0, .none, .byAccess⟩
  | .ACCESS_LOG_ADDR => ⟨.ACCESS_LOG, 3, 23, .RO, 0, .none, .byAccess⟩
  | .ACCESS_LOG_MASTER => ⟨.ACCESS_LOG, 28, 4, .RO, 0, .none, .byAccess⟩
  | .ACCESS_LOG_CAUSE => ⟨.ACCESS_LOG, 32, 3, .RO, 0, .none, .byAccess⟩
  | .ACCESS_LOG_WRITE => ⟨.ACCESS_LOG, 35, 1, .RO, 0, .none, .byAccess⟩
  | .MGMT_CFG_ENABLE => ⟨.MGMT_CFG, 0, 1, .RWS, 0, .none, .byAccess⟩
  | .MGMT_CFG_USER_OK => ⟨.MGMT_CFG, 1, 1, .RWS, 0, .none, .byAccess⟩
  | .MGMT_CFG_MGR_NODE => ⟨.MGMT_CFG, 20, 20, .RWS, 0, .none, .byAccess⟩
  | .SCRATCH_VALUE => ⟨.SCRATCH, 0, 64, .RW, 0, .none, .byAccess⟩
  | .INT_PEND_LO_PEND => ⟨.INT_PEND_LO, 0, 64, .RC, 0, .none, .byAccess⟩
  | .INT_PEND_HI_PEND => ⟨.INT_PEND_HI, 0, 24, .RC, 0, .none, .byAccess⟩
  | .INT_ROUTE_HPORTS => ⟨.INT_ROUTE, 0, 4, .RWP, 0, .none, .byAccess⟩
  | .WIDE_SEL_KIND => ⟨.WIDE_SEL, 0, 4, .RW, 0, .none, .byAccess⟩
  | .WIDE_SEL_BLOCK => ⟨.WIDE_SEL, 8, 8, .RW, 0, .none, .byAccess⟩
  | .WIDE_SEL_INDEX => ⟨.WIDE_SEL, 16, 8, .RW, 0, .none, .byAccess⟩
  | .WIDE_STAT_DONE => ⟨.WIDE_STAT, 0, 1, .RO, 0, .none, .byAccess⟩
  | .WIDE_STAT_VALID => ⟨.WIDE_STAT, 1, 1, .RO, 0, .none, .byAccess⟩
  | .WIDE_STAT_ERROR => ⟨.WIDE_STAT, 2, 1, .RO, 0, .none, .byAccess⟩
  | .WIDE_DATA_DATA => ⟨.WIDE_DATA, 0, 64, .RO, 0, .none, .byAccess⟩
  | .CELLAR_STAT_INSTALLED_GIB => ⟨.CELLAR_STAT, 0, 16, .RO, 0, .none, .byAccess⟩
  | .CELLAR_STAT_TRAINED => ⟨.CELLAR_STAT, 16, 1, .RO, 0, .none, .byAccess⟩
  | .CELLAR_STAT_SELF_REFRESH => ⟨.CELLAR_STAT, 17, 1, .RO, 0, .none, .byAccess⟩
  | .CELLAR_STAT_SPEED => ⟨.CELLAR_STAT, 24, 8, .RO, 0, .none, .byAccess⟩
  | .CELLAR_STAT_USABLE_MIB => ⟨.CELLAR_STAT, 32, 32, .RO, 0, .none, .byAccess⟩
  | .LATCH_TAKE_VALUE => ⟨.LATCH_TAKE, 0, 64, .RC, 0, .none, .byAccess⟩
  | .LATCH_WAIT_VALUE => ⟨.LATCH_WAIT, 0, 64, .RC, 0, .none, .byAccess⟩
  | .LATCH_RELEASE_ANY => ⟨.LATCH_RELEASE, 0, 64, .WO, 0, .none, .byAccess⟩
  | .LATCH_FORCE_GO => ⟨.LATCH_FORCE, 0, 1, .W1, 0, .none, .priv⟩
  | .LATCH_STAT_VALUE => ⟨.LATCH_STAT, 0, 64, .RO, 0, .none, .byAccess⟩
  | .LATCH_CFG_STALL_US => ⟨.LATCH_CFG, 0, 6, .RWP, 8, .range 1 40, .byAccess⟩
  | .LATCH_EVENTS_ABANDONED_SEEN => ⟨.LATCH_EVENTS, 0, 1, .RC, 0, .none, .byAccess⟩
  | .LATCH_EVENTS_FORCED_SEEN => ⟨.LATCH_EVENTS, 1, 1, .RC, 0, .none, .byAccess⟩
  | .LATCH_EVENTS_NOT_OWNER => ⟨.LATCH_EVENTS, 2, 1, .RC, 0, .none, .byAccess⟩
  | .LATCH_EVENTS_WAIT_FULL => ⟨.LATCH_EVENTS, 3, 1, .RC, 0, .none, .byAccess⟩
  | .COUNT_MODE_METHOD => ⟨.COUNT_MODE, 0, 1, .RWP, 0, .none, .byAccess⟩
  | .COUNT_STAT_TOTAL => ⟨.COUNT_STAT, 0, 16, .RO, 0, .none, .byAccess⟩
  | .COUNT_STAT_RECORD_KIB => ⟨.COUNT_STAT, 16, 8, .RO, 0, .none, .byAccess⟩
  | .COUNT_STAT_DUMP_BUSY => ⟨.COUNT_STAT, 24, 1, .RO, 0, .none, .byAccess⟩
  | .COUNT_STAT_SNAP_ARMED => ⟨.COUNT_STAT, 25, 1, .RO, 0, .none, .byAccess⟩
  | .COUNT_STAT_SNAP_PENDING => ⟨.COUNT_STAT, 26, 1, .RO, 0, .none, .byAccess⟩
  | .COUNT_EVENTS_DUMP_SKIPPED => ⟨.COUNT_EVENTS, 0, 1, .RC, 0, .none, .byAccess⟩
  | .COUNT_EVENTS_SNAP_DONE => ⟨.COUNT_EVENTS, 1, 1, .RC, 0, .none, .byAccess⟩
  | .COUNT_EVENTS_SNAP_MISSED => ⟨.COUNT_EVENTS, 2, 1, .RC, 0, .none, .byAccess⟩
  | .COUNT_EVENTS_SNAP_LATE => ⟨.COUNT_EVENTS, 3, 1, .RC, 0, .none, .byAccess⟩
  | .COUNT_EVENTS_WRAP_SEEN => ⟨.COUNT_EVENTS, 4, 1, .RC, 0, .none, .byAccess⟩
  | .COUNT_EVENTS_TRACE_LOST => ⟨.COUNT_EVENTS, 5, 1, .RC, 0, .none, .byAccess⟩
  | .DUMP_CFG_PERIOD_US => ⟨.DUMP_CFG, 0, 20, .RWP, 1000, .range 1000 1000000, .byAccess⟩
  | .DUMP_CFG_LOG2 => ⟨.DUMP_CFG, 20, 4, .RWP, 4, .range 1 10, .byAccess⟩
  | .DUMP_CFG_HPORT => ⟨.DUMP_CFG, 24, 2, .RWP, 0, .none, .byAccess⟩
  | .DUMP_CFG_ENABLE => ⟨.DUMP_CFG, 26, 1, .RWP, 0, .none, .byAccess⟩
  | .DUMP_BASE_BASE => ⟨.DUMP_BASE, 12, 52, .RWP, 0, .none, .byAccess⟩
  | .DUMP_HEAD_HEAD => ⟨.DUMP_HEAD, 0, 32, .RWP, 0, .none, .byAccess⟩
  | .SNAP_AT_NS => ⟨.SNAP_AT, 0, 64, .RWP, 0, .none, .byAccess⟩
  | .SNAP_CTRL_ARM => ⟨.SNAP_CTRL, 0, 1, .W1, 0, .none, .byAccess⟩
  | .SNAP_CTRL_DISARM => ⟨.SNAP_CTRL, 1, 1, .W1, 0, .none, .byAccess⟩
  | .CAT_SEL_SLOT => ⟨.CAT_SEL, 0, 10, .RWP, 0, .none, .byAccess⟩
  | .SHADOW_SEL_SLOT => ⟨.SHADOW_SEL, 0, 10, .RWP, 0, .none, .byAccess⟩
  | .CAT_SEL_BLOCK => ⟨.CAT_SEL, 16, 8, .RWP, 0, .none, .byAccess⟩
  | .SHADOW_SEL_BLOCK => ⟨.SHADOW_SEL, 16, 8, .RWP, 0, .none, .byAccess⟩
  | .SHADOW_SEL_BANK => ⟨.SHADOW_SEL, 24, 1, .RWP, 0, .none, .byAccess⟩
  | .CAT_DATA_NAME_NO => ⟨.CAT_DATA, 0, 16, .RO, 0, .none, .byAccess⟩
  | .CAT_DATA_INSTANCE => ⟨.CAT_DATA, 16, 16, .RO, 0, .none, .byAccess⟩
  | .CAT_DATA_INST_KIND => ⟨.CAT_DATA, 32, 4, .RO, 0, .none, .byAccess⟩
  | .CAT_DATA_USED => ⟨.CAT_DATA, 36, 1, .RO, 0, .none, .byAccess⟩
  | .CAT_DATA_UNIT => ⟨.CAT_DATA, 37, 3, .RO, 0, .none, .byAccess⟩
  | .SHADOW_DATA_VALUE => ⟨.SHADOW_DATA, 0, 48, .RO, 0, .none, .byAccess⟩
  | .WRAP_WRAPPED => ⟨.WRAP, 0, 64, .RC, 0, .none, .byAccess⟩
  | .BANK_SEL_SLOT => ⟨.BANK_SEL, 0, 10, .RWP, 0, .none, .byAccess⟩
  | .BANK_VAL_VALUE => ⟨.BANK_VAL, 0, 40, .RC, 0, .none, .byAccess⟩
  | .BANK_VAL_WRAP40 => ⟨.BANK_VAL, 63, 1, .RC, 0, .none, .byAccess⟩
  | .COUNTER_VALUE => ⟨.COUNTER, 0, 48, .RO, 0, .none, .byAccess⟩
  | .TRACE_CFG_ENABLE => ⟨.TRACE_CFG, 0, 1, .RWP, 0, .none, .byAccess⟩
  | .TRACE_CFG_HALL_PORT => ⟨.TRACE_CFG, 1, 7, .RWP, 0, .none, .byAccess⟩
  | .TRACE_CFG_LOG2 => ⟨.TRACE_CFG, 8, 4, .RWP, 8, .none, .byAccess⟩
  | .TRACE_FILTER_TYPES => ⟨.TRACE_FILTER, 0, 16, .RWP, 0xffff, .none, .byAccess⟩
  | .TRACE_FILTER_VCS => ⟨.TRACE_FILTER, 16, 8, .RWP, 255, .none, .byAccess⟩
  | .TRACE_FILTER_NODE => ⟨.TRACE_FILTER, 24, 20, .RWP, 0, .none, .byAccess⟩
  | .TRACE_FILTER_NODE_MATCH => ⟨.TRACE_FILTER, 44, 2, .RWP, 0, .none, .byAccess⟩
  | .TRACE_BASE_BASE => ⟨.TRACE_BASE, 12, 52, .RWP, 0, .none, .byAccess⟩
  | .TRACE_HEAD_HEAD => ⟨.TRACE_HEAD, 0, 32, .RWP, 0, .none, .byAccess⟩
  | .TRACE_STAT_TRACE_SEQ => ⟨.TRACE_STAT, 0, 31, .RO, 0, .none, .byAccess⟩
  | .TRACE_STAT_LOST => ⟨.TRACE_STAT, 32, 32, .RO, 0, .none, .byAccess⟩

/-- The fields of a register, in bit order. -/
def Reg.fields : Reg → List Fld
  | .OP_CTRL => [.OP_CTRL_OP_POINT]
  | .VPOL_CFG => [.VPOL_CFG_INTERVAL, .VPOL_CFG_STEP, .VPOL_CFG_DEADBAND, .VPOL_CFG_VMIN, .VPOL_CFG_VMAX, .VPOL_CFG_HEARTBEAT]
  | .VPOL_STAT => [.VPOL_STAT_VCORE_MV, .VPOL_STAT_CORE_PERIOD_PS, .VPOL_STAT_SLOWEST_METER, .VPOL_STAT_SETTLED, .VPOL_STAT_SHORTFALL, .VPOL_STAT_POLICY_STALE, .VPOL_STAT_SCALE]
  | .VPOL_EVENTS => [.VPOL_EVENTS_SHORTFALL_SEEN, .VPOL_EVENTS_STALE_SEEN, .VPOL_EVENTS_VMAX_SEEN, .VPOL_EVENTS_OP_DONE]
  | .VPOL_SEED => [.VPOL_SEED_SEED_MV]
  | .CYCLE_METER => [.CYCLE_METER_PERIOD_PS, .CYCLE_METER_COUNTED]
  | .FPLAN_CTRL => [.FPLAN_CTRL_OPEN, .FPLAN_CTRL_KIND, .FPLAN_CTRL_COMMIT, .FPLAN_CTRL_ABORT]
  | .FPLAN_DATA => [.FPLAN_DATA_WORD]
  | .FPLAN_ID => [.FPLAN_ID_PLAN_ID]
  | .FPLAN_STAT => [.FPLAN_STAT_STATE, .FPLAN_STAT_OWNER, .FPLAN_STAT_WORDS, .FPLAN_STAT_REJECT, .FPLAN_STAT_BAD_TYPE, .FPLAN_STAT_BAD_WORD]
  | .FPLAN_SERIAL => [.FPLAN_SERIAL_SERIAL, .FPLAN_SERIAL_PARTIALS]
  | .FPLAN_EVENTS => [.FPLAN_EVENTS_DONE, .FPLAN_EVENTS_REJECTED, .FPLAN_EVENTS_FOREIGN_WRITE, .FPLAN_EVENTS_LATE]
  | .JOB_SLOT => [.JOB_SLOT_JOB, .JOB_SLOT_LAST_RANK, .JOB_SLOT_RT_OFFSET, .JOB_SLOT_VALID]
  | .HALL_MODE => [.HALL_MODE_CHECKED, .HALL_MODE_PIN_ALL, .HALL_MODE_DETOUR_EN, .HALL_MODE_PIN_HOLD_NS, .HALL_MODE_LIFE_US]
  | .HALL_ARB => [.HALL_ARB_W_TREE, .HALL_ARB_W_REQ, .HALL_ARB_W_RESP]
  | .HALL_STAT => [.HALL_STAT_VC_SET, .HALL_STAT_DETOURS_ACTIVE, .HALL_STAT_OLDEST_US]
  | .HALL_EVENTS => [.HALL_EVENTS_LIFETIME_SEEN, .HALL_EVENTS_NO_ROUTE_SEEN, .HALL_EVENTS_FENCE_DROP_SEEN, .HALL_EVENTS_DETOUR_START, .HALL_EVENTS_DETOUR_END, .HALL_EVENTS_HDR_PARITY_SEEN, .HALL_EVENTS_DIM_DONE_SEEN]
  | .HALL_AVAIL_LO => [.HALL_AVAIL_LO_AVAIL]
  | .HALL_AVAIL_HI => [.HALL_AVAIL_HI_AVAIL]
  | .HALL_FENCED_LO => [.HALL_FENCED_LO_FENCED]
  | .HALL_FENCED_HI => [.HALL_FENCED_HI_FENCED]
  | .HALL_DETOUR_LO => [.HALL_DETOUR_LO_DETOUR]
  | .HALL_DETOUR_HI => [.HALL_DETOUR_HI_DETOUR]
  | .PORT_MAP_RD => [.PORT_MAP_RD_ENTRY]
  | .ESCAPE_RD => [.ESCAPE_RD_ENTRY]
  | .DETOUR_RD => [.DETOUR_RD_ENTRY]
  | .PORT_CFG => [.PORT_CFG_FEC, .PORT_CFG_ONE_LANE, .PORT_CFG_RATE_MAX, .PORT_CFG_ADMIN_DOWN, .PORT_CFG_AUTO_UP, .PORT_CFG_REPLAY_TO_US, .PORT_CFG_VIOL_LIMIT, .PORT_CFG_AUTO_UP_MS]
  | .PORT_CTRL => [.PORT_CTRL_RETRAIN, .PORT_CTRL_BRING_UP]
  | .PORT_STAT => [.PORT_STAT_STATE, .PORT_STAT_FEC_ACTIVE, .PORT_STAT_RATE_ACTIVE, .PORT_STAT_ONE_LANE_ACTIVE, .PORT_STAT_REPLAY_COUNT, .PORT_STAT_DOWN_CAUSE, .PORT_STAT_REPLAY_OCC, .PORT_STAT_RETRAIN_CAUSE]
  | .PORT_EVENTS => [.PORT_EVENTS_UP_SEEN, .PORT_EVENTS_DOWN_SEEN, .PORT_EVENTS_RETRAIN_SEEN, .PORT_EVENTS_RETRAIN_DONE, .PORT_EVENTS_REPLAY_SEEN, .PORT_EVENTS_VIOLATION_SEEN, .PORT_EVENTS_NACK_RCVD, .PORT_EVENTS_PARAM_MISMATCH, .PORT_EVENTS_WIDTH_DEGRADED]
  | .PORT_SEQ => [.PORT_SEQ_TX_NEXT, .PORT_SEQ_TX_OLDEST, .PORT_SEQ_RX_EXPECTED]
  | .PORT_VIOL => [.PORT_VIOL_LAST_CODE, .PORT_VIOL_LAST_SEQ, .PORT_VIOL_LAST_VC, .PORT_VIOL_WINDOW_COUNT, .PORT_VIOL_LAST_NACK_RCVD]
  | .PORT_PARTNER => [.PORT_PARTNER_BLOCK_W0]
  | .PORT_PARTNER_DIAG => [.PORT_PARTNER_DIAG_WORD4]
  | .LANDING_VC => [.LANDING_VC_OCC, .LANDING_VC_RESERVED, .LANDING_VC_SHARED_CAP]
  | .PARTNER_VC => [.PARTNER_VC_SENDER_OCC, .PARTNER_VC_P_RESERVED, .PARTNER_VC_P_SHARED_CAP]
  | .LANE_CFG => [.LANE_CFG_ADAPT_FREEZE, .LANE_CFG_TXEQ_HOLD, .LANE_CFG_SKEW_MAX_NS, .LANE_CFG_FAIL_WINDOW_US, .LANE_CFG_STEP_WINDOW]
  | .LANE_FOM_CFG => [.LANE_FOM_CFG_THR_LIGHT, .LANE_FOM_CFG_THR_HEAVY, .LANE_FOM_CFG_FAIL]
  | .LANE_EVENTS => [.LANE_EVENTS_LOCK_SEEN, .LANE_EVENTS_LANE_FAIL, .LANE_EVENTS_BRINGUP_RETRY, .LANE_EVENTS_NEG_DONE, .LANE_EVENTS_NEG_FAIL, .LANE_EVENTS_FOM_WARN, .LANE_EVENTS_SELF_LOOP]
  | .LANE_NEG => [.LANE_NEG_PARTNER_CAPS, .LANE_NEG_RATE_REACHED, .LANE_NEG_LEADER, .LANE_NEG_STEPS, .LANE_NEG_LAST_RESULT, .LANE_NEG_PARTNER_NODE, .LANE_NEG_PARTNER_PORT]
  | .LANE_STAT => [.LANE_STAT_STATE, .LANE_STAT_TX_CARRY, .LANE_STAT_RX_CARRY, .LANE_STAT_FAIL_CAUSE, .LANE_STAT_FOM, .LANE_STAT_FOM_MIN, .LANE_STAT_PARTNER_FOM, .LANE_STAT_SKEW_PS]
  | .LANE_TXEQ => [.LANE_TXEQ_C_M2, .LANE_TXEQ_C_M1, .LANE_TXEQ_C_0, .LANE_TXEQ_C_P1, .LANE_TXEQ_C_P2]
  | .PORCH_CFG => [.PORCH_CFG_RESCAN_US, .PORCH_CFG_FETCH_BURST, .PORCH_CFG_FULL_HINT_US, .PORCH_CFG_PIN_LIMIT, .PORCH_CFG_PARK_MAX_KIB, .PORCH_CFG_BOX_HPORT]
  | .BOXROOM_BASE => [.BOXROOM_BASE_BASE]
  | .ROOM_CMD => [.ROOM_CMD_ROOM, .ROOM_CMD_CMD]
  | .ROOM_CMD_STAT => [.ROOM_CMD_STAT_BUSY, .ROOM_CMD_STAT_RESULT, .ROOM_CMD_STAT_ROOM]
  | .ROOM_CTX_SEL => [.ROOM_CTX_SEL_ROOM, .ROOM_CTX_SEL_WORD]
  | .ROOM_CTX_DATA => [.ROOM_CTX_DATA_DATA]
  | .PORCH_STAT => [.PORCH_STAT_RESIDENT, .PORCH_STAT_PINNED_NOW, .PORCH_STAT_ACTIVE]
  | .PORCH_EVENTS => [.PORCH_EVENTS_RESIDENCY_FULL, .PORCH_EVENTS_LB_POOL_EMPTY, .PORCH_EVENTS_PICKUP_POOL_EMPTY, .PORCH_EVENTS_CMD_DONE, .PORCH_EVENTS_CMD_IGNORED, .PORCH_EVENTS_QUEUE_RESET, .PORCH_EVENTS_ROOM_ERROR]
  | .POOL_STAT => [.POOL_STAT_LB_FREE_KIB, .POOL_STAT_PICKUP_FREE_KIB]
  | .HPORT_STAT => [.HPORT_STAT_MODE, .HPORT_STAT_LINK_UP, .HPORT_STAT_WIDTH, .HPORT_STAT_SPEED, .HPORT_STAT_ATOMICOP, .HPORT_STAT_BOXROOM]
  | .CRYSTAL_CFG => [.CRYSTAL_CFG_EAGER_MAX, .CRYSTAL_CFG_FULL_HINT_US]
  | .CRYSTAL_STAT => [.CRYSTAL_STAT_MSG_IN_USE, .CRYSTAL_STAT_REFILLING, .CRYSTAL_STAT_HELD]
  | .CRYSTAL_EVENTS => [.CRYSTAL_EVENTS_POST_FULL, .CRYSTAL_EVENTS_UNEXP_FULL, .CRYSTAL_EVENTS_STORE_FULL, .CRYSTAL_EVENTS_MSG_TABLE_FULL, .CRYSTAL_EVENTS_VERIFY_BACK_FAIL, .CRYSTAL_EVENTS_STORE_READ_FAIL, .CRYSTAL_EVENTS_HOLD_EXPIRED, .CRYSTAL_EVENTS_RNDV_REFUSED]
  | .PART_POSTED => [.PART_POSTED_ON_CHIP, .PART_POSTED_SPILLED]
  | .PART_UNEXP => [.PART_UNEXP_ON_CHIP, .PART_UNEXP_SPILLED]
  | .PART_STORE => [.PART_STORE_USED_TILES]
  | .THRESH_CFG => [.THRESH_CFG_RTO_MIN_US, .THRESH_CFG_RTO_MAX_US, .THRESH_CFG_OP_TIMEOUT_MS, .THRESH_CFG_PARK_BUDGET_US, .THRESH_CFG_PAGE_HINT_US]
  | .THRESH_ACK_CFG => [.THRESH_ACK_CFG_ACK_COAL_US, .THRESH_ACK_CFG_ACK_COAL_SEGS, .THRESH_ACK_CFG_FAST_RETX, .THRESH_ACK_CFG_ATOMIC_HOLD_US, .THRESH_ACK_CFG_ATOMIC_HINT_US, .THRESH_ACK_CFG_ORPHAN_US, .THRESH_ACK_CFG_RESP_MULT]
  | .THRESH_STAT => [.THRESH_STAT_FLOWS_CACHED, .THRESH_STAT_ATOMIC_USED, .THRESH_STAT_TRACKER_USED, .THRESH_STAT_VEST_PARKED_KIB]
  | .THRESH_EVENTS => [.THRESH_EVENTS_KEY_FAULT_SEEN, .THRESH_EVENTS_TIMEOUT_SEEN, .THRESH_EVENTS_FLOW_RESET_SEEN, .THRESH_EVENTS_STALE_EPOCH_SEEN, .THRESH_EVENTS_ATOMIC_FULL, .THRESH_EVENTS_TRACKER_FULL, .THRESH_EVENTS_PARK_EXPIRED, .THRESH_EVENTS_VEST_FULL, .THRESH_EVENTS_ACK_SPILL_FULL, .THRESH_EVENTS_ORPHAN_SEEN]
  | .KEY_SEL => [.KEY_SEL_INDEX]
  | .KEY_CMD => [.KEY_CMD_CMD]
  | .KEY_CMD_STAT => [.KEY_CMD_STAT_BUSY, .KEY_CMD_STAT_RESULT, .KEY_CMD_STAT_INDEX]
  | .KEY_DATA => [.KEY_DATA_WORD]
  | .FLOW_SEL => [.FLOW_SEL_NODE_INDEX]
  | .FLOW_CMD => [.FLOW_CMD_RESET]
  | .FLOW_STAT0 => [.FLOW_STAT0_SEND_STATE, .FLOW_STAT0_SEND_EPOCH, .FLOW_STAT0_RECV_STATE, .FLOW_STAT0_RECV_EPOCH, .FLOW_STAT0_TX_NEXT, .FLOW_STAT0_TX_ACKED, .FLOW_STAT0_RX_W]
  | .FLOW_STAT1 => [.FLOW_STAT1_OUTSTANDING, .FLOW_STAT1_RTO_US, .FLOW_STAT1_SRTT_NS]
  | .XCTX_BASE => [.XCTX_BASE_LOG2, .XCTX_BASE_BASE]
  | .INV_MBOX0 => [.INV_MBOX0_KIND, .INV_MBOX0_DRAIN, .INV_MBOX0_FAIL, .INV_MBOX0_VPAGE]
  | .INV_MBOX1 => [.INV_MBOX1_PAGES, .INV_MBOX1_CTX]
  | .INV_RING => [.INV_RING_RING]
  | .INV_STAT => [.INV_STAT_BUSY, .INV_STAT_DONE_SEQ, .INV_STAT_LAST_RESULT]
  | .PRQ_BASE => [.PRQ_BASE_LOG2, .PRQ_BASE_BASE]
  | .PRQ_CTRL => [.PRQ_CTRL_VEC, .PRQ_CTRL_ENABLE, .PRQ_CTRL_HEAD]
  | .WALK_WIN_BASE => [.WALK_WIN_BASE_ENABLE, .WALK_WIN_BASE_BASE]
  | .WALK_WIN_LIMIT => [.WALK_WIN_LIMIT_LIMIT]
  | .MISS_POP => [.MISS_POP_VALID, .MISS_POP_ID, .MISS_POP_HPORT, .MISS_POP_WRITE, .MISS_POP_TARGET, .MISS_POP_CTX]
  | .MISS_VA => [.MISS_VA_VPAGE]
  | .MISS_DONE => [.MISS_DONE_ID, .MISS_DONE_HPORT, .MISS_DONE_STATUS]
  | .WALK_REQ => [.WALK_REQ_HPORT, .WALK_REQ_ADDR]
  | .WALK_DATA => [.WALK_DATA_DATA]
  | .WALK_STAT => [.WALK_STAT_STATUS]
  | .ATB_CMD => [.ATB_CMD_CMD, .ATB_CMD_HPORT, .ATB_CMD_MISS_ID, .ATB_CMD_HAS_MISS, .ATB_CMD_INDEX]
  | .ATB_CMD_STAT => [.ATB_CMD_STAT_BUSY, .ATB_CMD_STAT_RESULT, .ATB_CMD_STAT_SLOT, .ATB_CMD_STAT_REMOVED]
  | .ATB_DATA0 => [.ATB_DATA0_SIZE, .ATB_DATA0_WRITE, .ATB_DATA0_VALID, .ATB_DATA0_VPAGE]
  | .ATB_DATA1 => [.ATB_DATA1_BPAGE]
  | .ATB_DATA2 => [.ATB_DATA2_CTX, .ATB_DATA2_ALL_CTX, .ATB_DATA2_PAGES]
  | .XLATE_STAT => [.XLATE_STAT_MISSES0, .XLATE_STAT_MISSES1, .XLATE_STAT_MISSES2, .XLATE_STAT_MISSES3]
  | .XLATE_EVENTS => [.XLATE_EVENTS_MISS_FULL, .XLATE_EVENTS_WALK_FAULT_SEEN, .XLATE_EVENTS_WALK_DEVICE_SEEN, .XLATE_EVENTS_STALE_INSTALL, .XLATE_EVENTS_INV_DONE, .XLATE_EVENTS_INV_REFUSED, .XLATE_EVENTS_PRQ_FULL]
  | .RANK_SEL => [.RANK_SEL_SLOT, .RANK_SEL_RANK]
  | .RANK_DATA => [.RANK_DATA_ENTRY]
  | .RANK_CMD => [.RANK_CMD_CMD]
  | .RANK_STAT => [.RANK_STAT_BUSY, .RANK_STAT_RESULT]
  | .RAKE_CFG => [.RAKE_CFG_WINDOW_LOG2, .RAKE_CFG_STALL_US]
  | .RAKE_CTRL => [.RAKE_CTRL_TREE, .RAKE_CTRL_CMD]
  | .RAKE_STAT => [.RAKE_STAT_CTX_FREE, .RAKE_STAT_CTX_TOTAL, .RAKE_STAT_OPS_ACTIVE, .RAKE_STAT_WINDOW_LOG2]
  | .RAKE_EVENTS => [.RAKE_EVENTS_ABORT_SEEN, .RAKE_EVENTS_MISMATCH_SEEN, .RAKE_EVENTS_FENCED_SEEN, .RAKE_EVENTS_STALL_SEEN, .RAKE_EVENTS_CELL_FAIL, .RAKE_EVENTS_DESYNC_SEEN, .RAKE_EVENTS_CTX_WAIT]
  | .TREE_JOB => [.TREE_JOB_JOB]
  | .TREE_ENTRY => [.TREE_ENTRY_CHILD_HI, .TREE_ENTRY_HOST, .TREE_ENTRY_PARENT, .TREE_ENTRY_ROLE, .TREE_ENTRY_VALID, .TREE_ENTRY_STATE, .TREE_ENTRY_NEXT_SEQ, .TREE_ENTRY_ABORTED_SEQ, .TREE_ENTRY_ABORTED_VALID, .TREE_ENTRY_WINDOW_LOG2]
  | .TREE_CHILD => [.TREE_CHILD_CHILD_LO]
  | .SLUICE_MODE => [.SLUICE_MODE_SCHEDULE, .SLUICE_MODE_FORCE_MARKED, .SLUICE_MODE_SERVICE, .SLUICE_MODE_FALLBACK_CAUSE, .SLUICE_MODE_FALLBACK_PORT]
  | .SLUICE_STAT => [.SLUICE_STAT_BUDGET_NOW, .SLUICE_STAT_TICKET_RATE_NOW, .SLUICE_STAT_WAITING]
  | .SLUICE_EVENTS => [.SLUICE_EVENTS_FALLBACK, .SLUICE_EVENTS_SCHEDULED, .SLUICE_EVENTS_SCHEDULE_REFUSED, .SLUICE_EVENTS_TIME_STEP, .SLUICE_EVENTS_TIME_UNSYNC, .SLUICE_EVENTS_TIME_SYNC, .SLUICE_EVENTS_SET_REFUSED, .SLUICE_EVENTS_WAITLIST_FULL, .SLUICE_EVENTS_TICKET_EXPIRED, .SLUICE_EVENTS_TIME_FOREIGN]
  | .TICKET_CFG => [.TICKET_CFG_LIFE_US, .TICKET_CFG_RETRY_US, .TICKET_CFG_BATCH]
  | .TIME_CFG => [.TIME_CFG_MASTER_NODE, .TIME_CFG_MASTER, .TIME_CFG_PERIOD_US, .TIME_CFG_STEP_NS]
  | .TIME_STAT => [.TIME_STAT_SYNCED, .TIME_STAT_HOLDOVER, .TIME_STAT_PARENT_PORT, .TIME_STAT_HOPS, .TIME_STAT_THETA_PS]
  | .TIME_SET_NS => [.TIME_SET_NS_NS]
  | .TIME_ADJ => [.TIME_ADJ_SET_FRAC, .TIME_ADJ_TRIM_PPB, .TIME_ADJ_SET]
  | .MARK_CFG => [.MARK_CFG_MARK_CELLS, .MARK_CFG_MD_256, .MARK_CFG_AI_US]
  | .MARK_RATE => [.MARK_RATE_RATE_INIT, .MARK_RATE_RATE_MIN, .MARK_RATE_AI_STEP]
  | .HIST_SEL => [.HIST_SEL_QUEUE, .HIST_SEL_KIND]
  | .HIST_CTRL => [.HIST_CTRL_CLEAR, .HIST_CTRL_SAMPLE_NS]
  | .HIST_BIN => [.HIST_BIN_COUNT]
  | .TIME_DELAY => [.TIME_DELAY_DELAY_PS]
  | .GATE_POS => [.GATE_POS_ENTRY, .GATE_POS_MASK, .GATE_POS_ACTING]
  | .SHAPE_CFG => [.SHAPE_CFG_RATE, .SHAPE_CFG_BURST_KIB, .SHAPE_CFG_OVERHEAD, .SHAPE_CFG_SCALED, .SHAPE_CFG_ENABLE]
  | .SHAPE_STAT => [.SHAPE_STAT_TOKENS, .SHAPE_STAT_QUEUED]
  | .JOB_SHAPE => [.JOB_SHAPE_QUEUE]
  | .FAULT_STAT => [.FAULT_STAT_LEVEL, .FAULT_STAT_STICKY, .FAULT_STAT_PARITY_STANDING, .FAULT_STAT_FIRST_CLASS, .FAULT_STAT_LAST_CLASS, .FAULT_STAT_QUIET_LEFT_MS]
  | .FAULT_EVENTS => [.FAULT_EVENTS_LEVEL_RAISED, .FAULT_EVENTS_ESCALATED, .FAULT_EVENTS_RECOVERED, .FAULT_EVENTS_NOTICE_SUPPRESSED]
  | .FAULT_UNACK => [.FAULT_UNACK_UNACK]
  | .FAULT_ACK => [.FAULT_ACK_ACK]
  | .FAULT_CFG => [.FAULT_CFG_QUIET_MS, .FAULT_CFG_NOTIFY_LEVEL]
  | .RECOVERY_COUNT => [.RECOVERY_COUNT_COUNT]
  | .FAULT_INJECT => [.FAULT_INJECT_CLASS, .FAULT_INJECT_GO]
  | .DEV_FAULT => [.DEV_FAULT_LEVEL, .DEV_FAULT_CAUSE_BLOCK, .DEV_FAULT_CAUSE_CLASS, .DEV_FAULT_L4_RESET_PENDING, .DEV_FAULT_HOST_RESET_BUSY]
  | .DEV_FAULT_CTRL => [.DEV_FAULT_CTRL_HOST_RESET, .DEV_FAULT_CTRL_L4_HOLD, .DEV_FAULT_CTRL_L4_RESET_MS]
  | .DEV_FAULT_BLOCKS_LO => [.DEV_FAULT_BLOCKS_LO_AT_L1]
  | .DEV_FAULT_BLOCKS_HI => [.DEV_FAULT_BLOCKS_HI_AT_L1]
  | .FENCE_SEL => [.FENCE_SEL_WORD]
  | .FENCE_DATA => [.FENCE_DATA_BITS]
  | .FENCE_CMD => [.FENCE_CMD_NODE_INDEX, .FENCE_CMD_CMD]
  | .FENCE_STAT => [.FENCE_STAT_COUNT, .FENCE_STAT_SELF]
  | .SUSPECT_CFG => [.SUSPECT_CFG_FM_NODE, .SUSPECT_CFG_FM_VALID, .SUSPECT_CFG_HOLDOFF_MS, .SUSPECT_CFG_JITTER_US]
  | .SUSPECT_STAT => [.SUSPECT_STAT_USED]
  | .SUSPECT_EVENTS => [.SUSPECT_EVENTS_SENT, .SUSPECT_EVENTS_DROPPED, .SUSPECT_EVENTS_CANCELLED]
  | .SUSPECT_SEL => [.SUSPECT_SEL_ENTRY]
  | .SUSPECT_ENTRY => [.SUSPECT_ENTRY_NODE_INDEX, .SUSPECT_ENTRY_STATE, .SUSPECT_ENTRY_KIND, .SUSPECT_ENTRY_REPEAT, .SUSPECT_ENTRY_OBS, .SUSPECT_ENTRY_ROOMS]
  | .DOMAIN_TARGET_LO => [.DOMAIN_TARGET_LO_TARGET]
  | .DOMAIN_TARGET_HI => [.DOMAIN_TARGET_HI_TARGET]
  | .DOMAIN_STAT_LO => [.DOMAIN_STAT_LO_ON]
  | .DOMAIN_STAT_HI => [.DOMAIN_STAT_HI_ON, .DOMAIN_STAT_HI_BUSY]
  | .DOMAIN_EVENTS => [.DOMAIN_EVENTS_DONE, .DOMAIN_EVENTS_REFUSED]
  | .DOMAIN_REFUSE => [.DOMAIN_REFUSE_DOMAIN, .DOMAIN_REFUSE_CAUSE]
  | .RESET_CAUSE => [.RESET_CAUSE_POWER_ON, .RESET_CAUSE_PERST, .RESET_CAUSE_STAIR, .RESET_CAUSE_WATCHDOG, .RESET_CAUSE_SOFTWARE, .RESET_CAUSE_L4, .RESET_CAUSE_THERMAL, .RESET_CAUSE_HOST_PORT]
  | .RESET_CAUSE_CLR => [.RESET_CAUSE_CLR_CLEAR]
  | .RESET_CTRL => [.RESET_CTRL_DEVICE_RESET, .RESET_CTRL_CONFIRM, .RESET_CTRL_CRYSTAL, .RESET_CTRL_RAKE, .RESET_CTRL_COUNT]
  | .WDOG_CFG => [.WDOG_CFG_TIMEOUT_MS, .WDOG_CFG_ENABLE, .WDOG_CFG_KICK]
  | .THERM_CFG => [.THERM_CFG_WARN_C]
  | .THERM_STAT => [.THERM_STAT_MAX_C, .THERM_STAT_SENSOR, .THERM_STAT_WARN]
  | .BOOT_STAT => [.BOOT_STAT_PHASE, .BOOT_STAT_QUICK, .BOOT_STAT_OPT_BAD, .BOOT_STAT_DONE_MASK, .BOOT_STAT_FAIL_MASK]
  | .BOOT_CTRL => [.BOOT_CTRL_OVERRIDE]
  | .BOARD_TIME => [.BOARD_TIME_SECONDS, .BOARD_TIME_VALID]
  | .BIST_CTRL => [.BIST_CTRL_SHUTDOWN, .BIST_CTRL_START, .BIST_CTRL_PARALLEL]
  | .ATTIC_SEL => [.ATTIC_SEL_WORD]
  | .ATTIC_DATA => [.ATTIC_DATA_DATA]
  | .ATTIC_CMD => [.ATTIC_CMD_CMD]
  | .ATTIC_STAT => [.ATTIC_STAT_BUSY, .ATTIC_STAT_RESULT]
  | .OPT_STAT => [.OPT_STAT_ACTIVE, .OPT_STAT_BAD, .OPT_STAT_GEN]
  | .STAIR_STAT => [.STAIR_STAT_STEP, .STAIR_STAT_VALID, .STAIR_STAT_CHAIN_END, .STAIR_STAT_OVERFLOW, .STAIR_STAT_LOCK_UP, .STAIR_STAT_LOCK_DOWN]
  | .STAIR_EVENTS => [.STAIR_EVENTS_ENUM_SEEN, .STAIR_EVENTS_FRAME_FAIL]
  | .DEVICE_ID => [.DEVICE_ID_PART, .DEVICE_ID_STEPPING, .DEVICE_ID_BIST_VERSION]
  | .NODE_ID => [.NODE_ID_NODE, .NODE_ID_INDEX, .NODE_ID_VALID]
  | .GLOBAL_EVENTS => [.GLOBAL_EVENTS_PRIV_REFUSED, .GLOBAL_EVENTS_BAD_WIDTH, .GLOBAL_EVENTS_UNMAPPED, .GLOBAL_EVENTS_MGMT_REFUSED, .GLOBAL_EVENTS_RESET_REFUSED]
  | .ACCESS_LOG => [.ACCESS_LOG_ADDR, .ACCESS_LOG_MASTER, .ACCESS_LOG_CAUSE, .ACCESS_LOG_WRITE]
  | .MGMT_CFG => [.MGMT_CFG_ENABLE, .MGMT_CFG_USER_OK, .MGMT_CFG_MGR_NODE]
  | .SCRATCH => [.SCRATCH_VALUE]
  | .INT_PEND_LO => [.INT_PEND_LO_PEND]
  | .INT_PEND_HI => [.INT_PEND_HI_PEND]
  | .INT_ROUTE => [.INT_ROUTE_HPORTS]
  | .WIDE_SEL => [.WIDE_SEL_KIND, .WIDE_SEL_BLOCK, .WIDE_SEL_INDEX]
  | .WIDE_STAT => [.WIDE_STAT_DONE, .WIDE_STAT_VALID, .WIDE_STAT_ERROR]
  | .WIDE_DATA => [.WIDE_DATA_DATA]
  | .CELLAR_STAT => [.CELLAR_STAT_INSTALLED_GIB, .CELLAR_STAT_TRAINED, .CELLAR_STAT_SELF_REFRESH, .CELLAR_STAT_SPEED, .CELLAR_STAT_USABLE_MIB]
  | .LATCH_TAKE => [.LATCH_TAKE_VALUE]
  | .LATCH_WAIT => [.LATCH_WAIT_VALUE]
  | .LATCH_RELEASE => [.LATCH_RELEASE_ANY]
  | .LATCH_FORCE => [.LATCH_FORCE_GO]
  | .LATCH_STAT => [.LATCH_STAT_VALUE]
  | .LATCH_CFG => [.LATCH_CFG_STALL_US]
  | .LATCH_EVENTS => [.LATCH_EVENTS_ABANDONED_SEEN, .LATCH_EVENTS_FORCED_SEEN, .LATCH_EVENTS_NOT_OWNER, .LATCH_EVENTS_WAIT_FULL]
  | .COUNT_MODE => [.COUNT_MODE_METHOD]
  | .COUNT_STAT => [.COUNT_STAT_TOTAL, .COUNT_STAT_RECORD_KIB, .COUNT_STAT_DUMP_BUSY, .COUNT_STAT_SNAP_ARMED, .COUNT_STAT_SNAP_PENDING]
  | .COUNT_EVENTS => [.COUNT_EVENTS_DUMP_SKIPPED, .COUNT_EVENTS_SNAP_DONE, .COUNT_EVENTS_SNAP_MISSED, .COUNT_EVENTS_SNAP_LATE, .COUNT_EVENTS_WRAP_SEEN, .COUNT_EVENTS_TRACE_LOST]
  | .DUMP_CFG => [.DUMP_CFG_PERIOD_US, .DUMP_CFG_LOG2, .DUMP_CFG_HPORT, .DUMP_CFG_ENABLE]
  | .DUMP_BASE => [.DUMP_BASE_BASE]
  | .DUMP_HEAD => [.DUMP_HEAD_HEAD]
  | .SNAP_AT => [.SNAP_AT_NS]
  | .SNAP_CTRL => [.SNAP_CTRL_ARM, .SNAP_CTRL_DISARM]
  | .CAT_SEL => [.CAT_SEL_SLOT, .CAT_SEL_BLOCK]
  | .SHADOW_SEL => [.SHADOW_SEL_SLOT, .SHADOW_SEL_BLOCK, .SHADOW_SEL_BANK]
  | .CAT_DATA => [.CAT_DATA_NAME_NO, .CAT_DATA_INSTANCE, .CAT_DATA_INST_KIND, .CAT_DATA_USED, .CAT_DATA_UNIT]
  | .SHADOW_DATA => [.SHADOW_DATA_VALUE]
  | .WRAP => [.WRAP_WRAPPED]
  | .BANK_SEL => [.BANK_SEL_SLOT]
  | .BANK_VAL => [.BANK_VAL_VALUE, .BANK_VAL_WRAP40]
  | .COUNTER => [.COUNTER_VALUE]
  | .TRACE_CFG => [.TRACE_CFG_ENABLE, .TRACE_CFG_HALL_PORT, .TRACE_CFG_LOG2]
  | .TRACE_FILTER => [.TRACE_FILTER_TYPES, .TRACE_FILTER_VCS, .TRACE_FILTER_NODE, .TRACE_FILTER_NODE_MATCH]
  | .TRACE_BASE => [.TRACE_BASE_BASE]
  | .TRACE_HEAD => [.TRACE_HEAD_HEAD]
  | .TRACE_STAT => [.TRACE_STAT_TRACE_SEQ, .TRACE_STAT_LOST]

/-- The registers of a block. -/
def Blk.regs : Blk → List Reg
  | .GLOBAL => [.DEV_FAULT, .DEV_FAULT_CTRL, .DEV_FAULT_BLOCKS_LO, .DEV_FAULT_BLOCKS_HI, .DEVICE_ID, .NODE_ID, .GLOBAL_EVENTS, .ACCESS_LOG, .MGMT_CFG, .SCRATCH, .INT_PEND_LO, .INT_PEND_HI, .INT_ROUTE, .WIDE_SEL, .WIDE_STAT, .WIDE_DATA]
  | .STAIR => [.STAIR_STAT, .STAIR_EVENTS]
  | .ATTIC => [.ATTIC_SEL, .ATTIC_DATA, .ATTIC_CMD, .ATTIC_STAT, .OPT_STAT]
  | .FPLAN => [.FPLAN_CTRL, .FPLAN_DATA, .FPLAN_ID, .FPLAN_STAT, .FPLAN_SERIAL, .FPLAN_EVENTS]
  | .HALL => [.HALL_MODE, .HALL_ARB, .HALL_STAT, .HALL_EVENTS, .HALL_AVAIL_LO, .HALL_AVAIL_HI, .HALL_FENCED_LO, .HALL_FENCED_HI, .HALL_DETOUR_LO, .HALL_DETOUR_HI, .PORT_MAP_RD, .ESCAPE_RD, .DETOUR_RD]
  | .SLUICE => [.SLUICE_MODE, .SLUICE_STAT, .SLUICE_EVENTS, .TICKET_CFG, .TIME_CFG, .TIME_STAT, .TIME_SET_NS, .TIME_ADJ, .MARK_CFG, .MARK_RATE, .HIST_SEL, .HIST_CTRL, .HIST_BIN, .TIME_DELAY, .GATE_POS, .SHAPE_CFG, .SHAPE_STAT, .JOB_SHAPE]
  | .CRYSTAL => [.CRYSTAL_CFG, .CRYSTAL_STAT, .CRYSTAL_EVENTS, .PART_POSTED, .PART_UNEXP, .PART_STORE]
  | .RAKE => [.RAKE_CFG, .RAKE_CTRL, .RAKE_STAT, .RAKE_EVENTS, .TREE_JOB, .TREE_ENTRY, .TREE_CHILD]
  | .THRESH => [.JOB_SLOT, .THRESH_CFG, .THRESH_ACK_CFG, .THRESH_STAT, .THRESH_EVENTS, .KEY_SEL, .KEY_CMD, .KEY_CMD_STAT, .KEY_DATA, .FLOW_SEL, .FLOW_CMD, .FLOW_STAT0, .FLOW_STAT1, .XCTX_BASE, .INV_MBOX0, .INV_MBOX1, .INV_RING, .INV_STAT, .PRQ_BASE, .PRQ_CTRL, .WALK_WIN_BASE, .WALK_WIN_LIMIT, .MISS_POP, .MISS_VA, .MISS_DONE, .WALK_REQ, .WALK_DATA, .WALK_STAT, .ATB_CMD, .ATB_CMD_STAT, .ATB_DATA0, .ATB_DATA1, .ATB_DATA2, .XLATE_STAT, .XLATE_EVENTS, .RANK_SEL, .RANK_DATA, .RANK_CMD, .RANK_STAT, .FENCE_SEL, .FENCE_DATA, .FENCE_CMD, .FENCE_STAT, .SUSPECT_CFG, .SUSPECT_STAT, .SUSPECT_EVENTS, .SUSPECT_SEL, .SUSPECT_ENTRY]
  | .PORCH => [.PORCH_CFG, .BOXROOM_BASE, .ROOM_CMD, .ROOM_CMD_STAT, .ROOM_CTX_SEL, .ROOM_CTX_DATA, .PORCH_STAT, .PORCH_EVENTS, .POOL_STAT, .HPORT_STAT]
  | .CELLAR => [.CELLAR_STAT]
  | .LATCH => [.LATCH_TAKE, .LATCH_WAIT, .LATCH_RELEASE, .LATCH_FORCE, .LATCH_STAT, .LATCH_CFG, .LATCH_EVENTS]
  | .COUNT => [.COUNT_MODE, .COUNT_STAT, .COUNT_EVENTS, .DUMP_CFG, .DUMP_BASE, .DUMP_HEAD, .SNAP_AT, .SNAP_CTRL, .CAT_SEL, .SHADOW_SEL, .CAT_DATA, .SHADOW_DATA, .WRAP, .BANK_SEL, .BANK_VAL, .COUNTER, .TRACE_CFG, .TRACE_FILTER, .TRACE_BASE, .TRACE_HEAD, .TRACE_STAT]
  | .POWER => [.OP_CTRL, .VPOL_CFG, .VPOL_STAT, .VPOL_EVENTS, .VPOL_SEED, .CYCLE_METER, .DOMAIN_TARGET_LO, .DOMAIN_TARGET_HI, .DOMAIN_STAT_LO, .DOMAIN_STAT_HI, .DOMAIN_EVENTS, .DOMAIN_REFUSE, .RESET_CAUSE, .RESET_CAUSE_CLR, .RESET_CTRL, .WDOG_CFG, .THERM_CFG, .THERM_STAT, .BOOT_STAT, .BOOT_CTRL, .BOARD_TIME, .BIST_CTRL]
  | .PORT => [.PORT_CFG, .PORT_CTRL, .PORT_STAT, .PORT_EVENTS, .PORT_SEQ, .PORT_VIOL, .PORT_PARTNER, .PORT_PARTNER_DIAG, .LANDING_VC, .PARTNER_VC, .LANE_CFG, .LANE_FOM_CFG, .LANE_EVENTS, .LANE_NEG, .LANE_STAT, .LANE_TXEQ]
  | .FAULTG => [.FAULT_STAT, .FAULT_EVENTS, .FAULT_UNACK, .FAULT_ACK, .FAULT_CFG, .RECOVERY_COUNT, .FAULT_INJECT]

/-- The value a field holds at reset. Table 1.12 gives VPOL_SEED[op] one value per operating point; DEVICE_ID and
COUNT_STAT hold what the silicon fixes (`Config`). -/
def Fld.resetAt (f : Fld) (i : Nat) : Nat :=
  match f with
  | .VPOL_SEED_SEED_MV => if i = 0 then 820 else if i = 1 then 720 else 600
  | .DEVICE_ID_STEPPING => (Config.stepping).toNat
  | .DEVICE_ID_BIST_VERSION => (Config.bistVersion).toNat
  | .COUNT_STAT_TOTAL => (Config.usedSlots).toNat
  | .COUNT_STAT_RECORD_KIB => ((64 + 8 * (Config.usedSlots).toNat + 4095) / 4096 * 4) % 256
  | f => f.info.reset

end Sys2Proof.Machine
end

