-- ==== Sys2Proof/Machine/Tab.lean ====
section
/-! DEFINITION. Tables: finite data keyed by numbers, in one canonical form (keys strictly rising). The addressed stores
of the block (the register space, the Attic, the Cellar's keys and rank tables) are tables whose unlisted entries
read as a stated default and hold no entry equal to it. -/
namespace Sys2Proof.Machine

/-- A table: key and value pairs. -/
abbrev Tab (α : Type) := List (Nat × α)

/-- The entry at a key, if one is listed. -/
def Tab.find? {α : Type} (t : Tab α) (k : Nat) : Option α :=
  match t with
  | [] => none
  | (j, v) :: r => if j = k then some v else Tab.find? r k

/-- The value at a key, `d` where none is listed. -/
def Tab.get {α : Type} (t : Tab α) (k : Nat) (d : α) : α := (Tab.find? t k).getD d

/-- List `v` at key `k`, keys kept rising. -/
def Tab.put {α : Type} (t : Tab α) (k : Nat) (v : α) : Tab α :=
  match t with
  | [] => [(k, v)]
  | (j, w) :: r => if k < j then (k, v) :: (j, w) :: r else if k = j then (k, v) :: r else (j, w) :: Tab.put r k v

/-- Unlist a key. -/
def Tab.del {α : Type} (t : Tab α) (k : Nat) : Tab α := t.filter (fun e => e.1 != k)

/-- Write `v` at `k` in a table whose unlisted entries read `d`: writing the default unlists the key. -/
def Tab.set {α : Type} [DecidableEq α] (t : Tab α) (k : Nat) (v d : α) : Tab α :=
  if v = d then Tab.del t k else Tab.put t k v

/-- Change the listed entry at a key, if there is one. -/
def Tab.modify {α : Type} (t : Tab α) (k : Nat) (f : α → α) : Tab α :=
  t.map (fun e => if e.1 = k then (e.1, f e.2) else e)

/-- Change every listed value; an entry that becomes the default is unlisted. -/
def Tab.mapD {α : Type} [DecidableEq α] (t : Tab α) (d : α) (f : Nat → α → α) : Tab α :=
  (t.map (fun e => (e.1, f e.1 e.2))).filter (fun e => decide (e.2 ≠ d))

/-- The canonical form: keys strictly rising. -/
abbrev Tab.wf {α : Type} (t : Tab α) : Prop := t.Pairwise (fun a b => a.1 < b.1)

/-- The canonical form of a table with defaults: keys strictly rising and no entry equal to its default. -/
abbrev Tab.wfD {α : Type} (t : Tab α) (d : Nat → α) : Prop := Tab.wf t ∧ ∀ e ∈ t, e.2 ≠ d e.1

/-- The value of a little-endian list of bytes. -/
def leNat (bs : List Nat) : Nat := bs.foldr (fun b a => b % 256 + 256 * a) 0

/-- The low `n` bytes of a number, least significant first (R5). -/
def leBytes (n x : Nat) : List Nat := (List.range n).map (fun i => (x >>> (8 * i)) % 256)

/-- The bytes of 64-bit words, each least significant byte first (R67). -/
def wordsBytes (ws : List Word) : List Nat := ws.flatMap (fun w => leBytes 8 w.toNat)

/-- One byte step of the reflected CRC-32C (polynomial 0x1EDC_6F41, R83). -/
def crcByte (c b : Nat) : Nat :=
  (List.range 8).foldl (fun x _ => if x % 2 = 1 then (x / 2) ^^^ 0x82F63B78 else x / 2) (c ^^^ (b % 256))

/-- CRC-32C: initial value and final XOR 0xFFFF_FFFF, input and output reflected (R83). -/
def crc32c (bs : List Nat) : Nat := (bs.foldl crcByte 0xFFFFFFFF) ^^^ 0xFFFFFFFF

/-- One byte step of the CRC-16 of the Stair chain (polynomial 0x1021, R390). -/
def crc16Byte (c b : Nat) : Nat :=
  (List.range 8).foldl (fun x _ => if x.testBit 15 then ((x * 2) % 65536) ^^^ 0x1021 else (x * 2) % 65536)
    (c ^^^ ((b % 256) * 256))

/-- CRC-16 of the Stair chain: initial value 0xFFFF, no reflection, no final XOR (R390). -/
def crc16 (bs : List Nat) : Nat := bs.foldl crc16Byte 0xFFFF

end Sys2Proof.Machine
end

