-- ==== Sys2Proof/Machine/State.lean ====
section
/-! DEFINITION. The state of the block as plain data: every register field, queue, buffer, timer, table and mode the manual
gives it, the queue of waiting commands, and the log of what has left the device; the reasons a command stops; and the
state after reset. -/
namespace Sys2Proof.Machine

/-- One entry of a history queue: bits 63:0 (network time, ns) and bits 127:64 (Tables 6.19 and 14.6). -/
structure HistEntry where
  ns : Nat
  hi : Nat
deriving DecidableEq, Repr

/-- What leaves the device: writes and reads toward host memory, messages, cells and frames, answers to masters, and
levels on pins. -/
inductive Output
  /-- A write of 64-bit words to host memory of a host port at a bus or translated address. -/
  | hostWrite (h addr : Nat) (ws : List Word)
  /-- A write of bytes to host memory. -/
  | hostBytes (h addr : Nat) (bs : List Nat)
  /-- A read request to host memory: port, address, bytes, and the tag its answer carries. -/
  | hostRead (h addr n tag : Nat)
  /-- A PCIe atomic request of 8 bytes: opcode of Table 4.6, its two operands, and the tag of its answer. -/
  | hostAtomic (h addr op : Nat) (a b : Word) (tag : Nat)
  /-- An MSI-X message. -/
  | msix (h v : Nat)
  /-- A line frame leaves a port. -/
  | frame (p : Nat) (hdr : FrameHdr) (slots : List Slot)
  /-- A parameter frame leaves a port. -/
  | param (p : Nat) (hdr : FrameHdr) (blk : ParamBlock)
  /-- A line frame leaves a lane as PAM4 levels. -/
  | lane (p k : Nat) (levels : List Nat)
  /-- A training frame's control word leaves a lane: its fields, and the sync pattern and two words sent. -/
  | training (p k : Nat) (t : TCW) (ws : List Word)
  /-- An alignment marker leaves a lane, as its 160-bit number. -/
  | marker (p k bits : Nat)
  /-- A register read is answered to a master. -/
  | reg (m : Master) (w : Word)
  /-- A room page read is answered. -/
  | page (h : Nat) (w : Word)
  /-- A frame leaves the Stair chain upstream or downstream, as body bytes. -/
  | stairUp (bytes : List Nat)
  | stairDown (bytes : List Nat)
  /-- An AVSBus set-point write. -/
  | avs (mv : Nat)
  /-- THERMTRIP_L driven low (true) or released. -/
  | thermtrip (low : Bool)
  /-- A Housekeeper interrupt: 0 translation miss, 1 invalidate mailbox; argument. -/
  | hkIrq (kind arg : Nat)
  /-- A management cell handed to the Housekeepers' software. -/
  | toHearth (c : Cell)
deriving DecidableEq, Repr

/-- A cell waiting at a Hall input or in a Landing, with its arrival stamp (R115). -/
structure HCell where
  cell : Cell
  input : Nat
  stamp : Nat
  /-- Channel it arrived on; its Landing credit is returned on this channel. -/
  vcIn : Nat
  /-- It still occupies its Landing slot (R137). -/
  inLanding : Bool := false
  /-- Since when a pinned cell has waited for credit (R118). -/
  pinWait : Option Nat := none
  /-- Ports left of its replication set (R120). -/
  copies : List Nat := []
  /-- It asks for replication. -/
  multicast : Bool := false
  /-- The segment is to be pinned at the source (R117). -/
  wantPin : Bool := false
  /-- Operation of the Letterbox packet whose last cell this is (R202). -/
  lbOp : Option Nat := none
deriving DecidableEq, Repr

/-- A cell in a Landing that has not entered the Hall input yet. -/
structure LCell where
  cell : Cell
  vcIn : Nat
  at_ : Nat
  /-- Held for its tile under Checked forwarding (R54). -/
  held : Bool := false
deriving DecidableEq, Repr

/-- A cell granted to a port: in its Hall-to-transmit queue or its replay buffer. -/
structure TxCell where
  /-- As transmitted (R105). -/
  cell : Cell
  /-- VC, HOP and DIM_DONE as before the grant (R146). -/
  before : Cell
  input : Nat
  vcIn : Nat
  stamp : Nat
  seq : Nat := 0
  queuedAt : Nat := 0
  /-- Instant of its latest transmission. -/
  sentAt : Nat := 0
deriving DecidableEq, Repr

/-- A partly arrived tile held by Checked forwarding (R54). -/
structure TileHold where
  src : Nat
  dest : Nat
  seq : Nat
  epoch : Nat
  tile : Nat
  /-- Arrival of its first cell, cells of the tile, and cells arrived. -/
  first : Nat
  cells : Nat
  got : Nat := 0
  released : Bool := false
  /-- Its first cell arrived under Cut-through (R56). -/
  unchecked : Bool := false
deriving DecidableEq, Repr

/-- One lane of a port beyond its registers (R162 to R171). -/
structure LaneSt where
  signal : Bool := false
  fomGood : Bool := false
  fomLowSince : Option Nat := none
  /-- Bad or missing expected markers in a row (R163). -/
  badRun : Nat := 0
  amSent : Nat := 0
  /-- Transmit taps in use, two's complement bytes; none while LANE_TXEQ holds. -/
  taps : Option (List Nat) := none
  /-- Equaliser settings last used by RATE code (R170). -/
  stored : Tab (List Nat) := []
  /-- SEQ of the last partner request answered, and whether it was refused. -/
  eqAnswer : Option (Nat × Bool) := none
  tcwSeen : Bool := false
  /-- The training control word last sent. -/
  tcw : Option TCW := none
  /-- The received polarity is inverted, and corrected (R159). -/
  inverted : Bool := false
  /-- Its skew has been measured since it locked (R162). -/
  deskewed : Bool := false
  /-- FEC and RATE of the latest good marker received (R161). -/
  rxFec : Nat := 0
  rxRate : Nat := 0
deriving DecidableEq, Repr

/-- A transmit lane between alignment markers (R159, R160): scrambler, bits sent since the marker, BIP8. -/
structure LaneLine where
  scr : Nat := 2 ^ 58 - 1
  pos : Nat := 0
  bip : Nat := 0
deriving DecidableEq, Repr

/-- The transmit line coding of a port: line frames since the latest marker, the FEC that marker named, the three latest logical
frames as the interleaver holds them, and the lanes. -/
structure LineSt where
  frames : Nat := 0
  fec : Nat := 0
  hist : List (List Nat) := []
  lanes : List LaneLine := [{}, {}]
deriving DecidableEq, Repr

/-- Phase of a port's lanes and link within its state. -/
inductive PortPhase
  | idle | waitEmpty | blindAdapt | blindLock | caps | tune | stepReq | tuneRate | backStep | doneLock
  | param | pauseReq | drain | train | paramRetrain | replay
deriving DecidableEq, Repr

/-- One network port beyond its registers (chapters 6 and 7). -/
structure PortSt where
  htq : List TxCell := []
  replay : List TxCell := []
  /-- Cells of the replay buffer still to be replayed. -/
  replayNext : List Nat := []
  sentCum : List Nat := [0, 0, 0, 0, 0, 0, 0, 0]
  creditRx : List Nat := [0, 0, 0, 0, 0, 0, 0, 0]
  creditTx : List Nat := [0, 0, 0, 0, 0, 0, 0, 0]
  landing : List LCell := []
  holds : List TileHold := []
  replayAt : Option Nat := none
  retrainAt : Option Nat := none
  /-- Retrain of cause REPLAY: replay 5 follows (R144). -/
  resumeReplay5 : Bool := false
  phase : PortPhase := .idle
  phaseAt : Nat := 0
  attemptAt : Option Nat := none
  attempt : Nat := 0
  /-- Causes of the retrain that follows at once (R149). -/
  again : List Nat := []
  /-- The retrain that follows was asked for by the partner. -/
  againAsked : Bool := false
  /-- Both lanes train at the next retrain (R150). -/
  bothLanes : Bool := false
  /-- Causes that have joined the retrain in progress (R149). -/
  joined : List Nat := []
  /-- The settings that this end's PAUSE_REQ asked for, and the partner's of its PAUSE_REQ or PAUSE_ACK, as EVENT_ARG (R148). -/
  reqSent : Option Nat := none
  agreed : Option Nat := none
  /-- RATE_MAX as step 5 of the retrain began. -/
  rateAsked : Nat := 0
  /-- The settings that this end's parameter blocks of the present exchange name, as EVENT_ARG. -/
  sel : Nat := 0
  /-- Frames with a reserved EVENT code (R131). -/
  reservedEvents : Nat := 0
  /-- The lane that each land receives (R162). -/
  lands : List Nat := [0, 1]
  /-- STEP_WINDOW of the step in progress (Table 7.9). -/
  stepWindow : Nat := 80
  blockGot : Bool := false
  paramAck : Bool := false
  paramSent : Bool := false
  adminAt : Option Nat := none
  downAsked : Nat := 1
  goingDownAt : Option Nat := none
  downAt : Nat := 0
  eventOut : Option (Nat × Nat × Nat) := none
  eventIn : Nat := 0
  nackOut : Option (Nat × Nat) := none
  violWindowAt : Nat := 0
  /-- Violations of the present window and the limit in force in it (R155). -/
  violCount : Nat := 0
  violLimit : Nat := 16
  violRetrainEnd : Option Nat := none
  crcFailCum : Nat := 0
  fecCorrCum : Nat := 0
  lanes : List LaneSt := [{}, {}]
  /-- RATE code of the training in progress, the last that passed, the one a STEP_REQ names, the one before a retrain. -/
  rate : Nat := 0
  rateLast : Nat := 3
  rateWant : Nat := 0
  priorRate : Nat := 0
  /-- The STEP_REQ in progress has its STEP_ACK since this instant. -/
  stepAcked : Option Nat := none
  stepsLeft : Bool := true
  steps : Nat := 0
  leader : Bool := false
  /-- TXEQ_HOLD as this training began (Table 7.9). -/
  eqHold : Bool := false
  tcwSeq : Nat := 0
  /-- Last TIME cell received: TX_NS, TX_FRAC and this device's receive instant in units of 2^-16 ns. -/
  timeEcho : Option (Nat × Nat × Int) := none
  timeDelays : List Int := []
  timeNext : Nat := 0
  /-- SYNCED, MASTER_NODE and HOPS of the partner's last accepted TIME cell (R320). -/
  timeLast : Option (Bool × Nat × Nat) := none
  /-- When a foreign TIME cell was last counted (R321). -/
  timeForeign : Option Nat := none
deriving DecidableEq, Repr

/-- The arbitration memory of one Hall output (R98). -/
structure OutSt where
  rr : Nat := 0
  left : List Nat := [0, 0, 0]
  vc0Run : Nat := 8
deriving DecidableEq, Repr

/-- The route of a pinned segment at its source (R117): its Hall input, SEG_SEQ, EPOCH and destination, the ORDER fixed by its first
routed cell, and its cells not yet routed or discarded. -/
structure PinHold where
  input : Nat
  seq : Nat
  epoch : Nat
  dest : Nat
  order : Option Nat := none
  left : Nat := 0
deriving DecidableEq, Repr

/-- The Hall beyond its registers (chapter 5). -/
structure HallSt where
  waiting : List HCell := []
  outs : Tab OutSt := []
  /-- Rotating pointer per input (R104). -/
  rot : Tab Nat := []
  detourAt : Tab Nat := []
  /-- Route choices held for pinned segments. -/
  pins : List PinHold := []
  /-- Lifetime discards by input port and channel, input × 8 + channel (R115). -/
  lifeBy : Tab Nat := []
  /-- Injection queues of Hall inputs 72 to 79. -/
  inj : Tab (List HCell) := []
  /-- Ejection queues of outputs 77, 78 and 79, with the arrival port. -/
  eject : Tab (List (Nat × Cell)) := []
deriving DecidableEq, Repr

/-- A gate list of the plan (Table 2.5). -/
structure GateList where
  offset : Nat
  entries : List (Nat × Nat)
deriving DecidableEq, Repr

/-- The installed Floor Plan, as far as no register mirrors it (Tables 2.4 and 2.5). -/
structure PlanSt where
  installed : Bool := false
  dims : Nat := 0
  service : Bool := false
  sizes : List Nat := [1, 1, 1, 1]
  roles : List Nat := []
  vcs : List Nat := []
  crystal : List (Nat × Nat) := []
  gates : Tab GateList := []
  /-- Replaced gate lists that wait for the old list's cycle boundary: instant and list. -/
  gatesNext : Tab (Nat × GateList) := []
  budgets : List (Nat × Nat × Nat) := []
  cellar : List (Nat × Nat) := []
deriving DecidableEq, Repr

/-- The load session (R42, R43). -/
structure SessionSt where
  kind : Nat := 0
  words : List Word := []
  lastNs : Nat := 0
  owner : Option Nat := none
  /-- Option words 1 to 13 in force when COMMIT was written (R388). -/
  shadow : List Word := []
deriving DecidableEq, Repr

/-- Where a segment's payload comes from. -/
inductive SegData
  | none_ | host (h : Nat) (pages : List (Nat × Nat)) | words (ws : List Word)
deriving DecidableEq, Repr

/-- A posted receive (R218, R219). -/
structure Posted where
  room : Nat
  part : Nat
  ctx : Nat
  rank : Nat
  tag : Nat
  anyTag : Bool
  addr : Nat
  len : Nat
  lkey : Nat
  cookie : Nat
  pickup : Bool
  silent : Bool
  stamp : Nat := 0
  spilled : Bool := false
deriving DecidableEq, Repr

/-- A segment at its source: in a shaper queue, in a wait list, or outstanding (R251, R258, R332). A payload in host
memory is named by its port and the bus address and bytes of each page it lies in. -/
structure Seg where
  opId : Nat
  peer : Nat
  /-- The Hall input its cells enter. -/
  input : Nat
  /-- Order in which the segments reached the Sluice. -/
  no : Nat := 0
  room : Nat
  lead : List Word
  cells : Nat
  bytes : Nat
  resp : Bool
  data : SegData
  q : Nat := 0
  seq : Nat := 0
  epoch : Nat := 0
  enq : Nat := 0
  firstNs : Option Nat := none
  timerAt : Option Nat := none
  rto : Nat := 0
  retx : Nat := 0
  fastAt : Option Nat := none
  hint : Option Nat := none
  resendAt : Option Nat := none
  unticketed : Nat := 0
  pinned : Bool := false
  /-- Operation timeout of its first transmission (Table 10.15). -/
  toMs : Nat := 10
  /-- Tickets of this device's own issue budget it still lacks (R336). -/
  ownNeed : Option Nat := none
  /-- It has taken a ticket. -/
  ticketed : Bool := false
deriving DecidableEq, Repr

/-- The kind of an operation at its source. -/
inductive OpKind
  | send | rndvSend | put | get | atomic | rndvGet | zeroGet | response
deriving DecidableEq, Repr

/-- An operation between its entry's consumption and its completion (R244 to R268). -/
structure OpSt where
  kind : OpKind
  room : Nat
  code : Nat
  entry : List Word
  peer : Nat
  dest : Nat
  destRoom : Nat
  msgId : Nat
  segs : Nat
  len : Nat
  done : List Nat := []
  fails : List (Nat × Nat × Nat) := []
  lb : Option (List Word) := none
  recv : Option Posted := none
  /-- Response timer: running until this instant (R265). -/
  respAt : Option Nat := none
  reqAcked : Bool := false
  firstNs : Option Nat := none
  /-- It has its MSG_ID. -/
  msgSet : Bool := false
  /-- Bytes of a Pickup receive. -/
  pick : List Nat := []
  /-- Rendezvous send: bytes of the get and its segments acknowledged. -/
  getLen : Option Nat := none
  /-- A response: the request it answers (requesting node index, MSG_ID). -/
  answers : Option (Nat × Nat) := none
  /-- The latest request segment of a get or atomic, and the epochs and numbers of all of them. -/
  req : Option Seg := none
  reqs : List (Nat × Nat) := []
  /-- OP_TIMEOUT_MS as its first segment was first transmitted. -/
  toMs : Nat := 10
  /-- It hangs until its timeout expires: an unpredictable outcome (R12). -/
  hung : Bool := false
deriving DecidableEq, Repr

/-- State of one segment in the receive window (R252). -/
inductive RState | empty | inProgress | complete | nacked (code sub : Nat)
deriving DecidableEq, Repr

/-- Why a segment is parked or held (Table 10.9). -/
inductive Park | residency | order | xlate | reads
deriving DecidableEq, Repr

/-- A segment in reassembly at the target (R253). -/
structure RSeg where
  seq : Nat
  cells : Nat
  st : RState
  lead : Option Cell := none
  got : List Cell := []
  ce : Bool := false
  first : Nat := 0
  park : Option Park := none
  /-- When it was first parked. -/
  parkAt : Option Nat := none
  /-- The lead has passed its checks and its delivery is under way. -/
  accepted : Bool := false
  msgId : Nat := 0
  /-- Host port, and bus address and bytes of each page of the access, once translated (R291). -/
  access : Option (Nat × List (Nat × Nat)) := none
  /-- Misses it waits on: host port, context, page. -/
  misses : List (Nat × Nat × Nat) := []
  /-- Its delivery command, or its read-back from the unexpected store, is on its way. -/
  queued : Bool := false
deriving DecidableEq, Repr

/-- The send side of a peer flow (R251, R271). -/
structure SendSt where
  st : Nat := 0
  epoch : Nat := 0
  next : Nat := 0
  acked : Nat := 0xFFFF
  sendCtr : Nat := 0
  opCtr : Nat := 0
  out : List Seg := []
  wait : List Seg := []
  /-- Segments that wait for the flow to open. -/
  pend : List Seg := []
  srtt : Nat := 0
  rttvar : Nat := 0
  sampled : Bool := false
  lastAdvance : Option Nat := none
  deferred : Option Bool := none
  conf : List Nat := []
  /-- Response segments to ask for again: sequence of the request, operation, offset, instant (R267). -/
  respHints : List (Nat × Nat × Nat × Nat) := []
  rate : Option Nat := none
  nextOk : Nat := 0
  lastCut : Nat := 0
  lastAi : Nat := 0
  held : List Nat := []
  seen : Nat := 0
  lastNeed : Nat := 0
  lastReq : Option Nat := none
  lastGrant : Nat := 0
  syncAt : Nat := 0
  syncStart : Nat := 0
deriving DecidableEq, Repr

/-- The receive side of a peer flow (R252, R271). -/
structure RecvSt where
  st : Nat := 0
  epoch : Nat := 0
  w : Nat := 0xFFFF
  segs : List RSeg := []
  n : Nat := 0
  sinceAck : Nat := 0
  coalAt : Option Nat := none
  ce : Nat := 0
  lastReset : Option Nat := none
  /-- It entered RESYNC from FRESH. -/
  fresh : Bool := false
  cum : Nat := 0
  pending : Nat := 0
  /-- Tiles that failed at delivery, counted against the peer flow (R85). -/
  tileFails : Nat := 0
deriving DecidableEq, Repr

/-- A peer flow context (R250). -/
structure Flow where
  node : Nat := 0
  send : SendSt := {}
  recv : RecvSt := {}
deriving DecidableEq, Repr

/-- A stored segment of an unexpected message: its offset, its data words and, from the store, the check that stands beside each tile
(Table 4.7); data of an inline message stands in its header entry and has none. -/
structure StoredSeg where
  off : Nat
  words : List Word
  checks : List Nat := []
deriving DecidableEq, Repr

/-- An unexpected message (R219, R234). -/
structure Unexp where
  /-- The model's number of the message. -/
  id : Nat
  room : Nat
  part : Nat
  ctx : Nat
  rank : Nat
  tag : Nat
  src : Nat
  msgId : Nat
  lead : List Word
  rndv : Bool
  stamp : Nat := 0
  spilled : Bool := false
  tiles : Nat := 0
  /-- Segments whose tiles a failed read-back freed (R234). -/
  freed : List Nat := []
  /-- Stored segments. -/
  stored : List StoredSeg := []
deriving DecidableEq, Repr

/-- A message entry of the Crystalliser (R223). -/
structure MsgEntry where
  /-- The model's number of the message. -/
  id : Nat
  src : Nat
  msgId : Nat
  room : Nat
  total : Nat
  done : List Nat := []
  recv : Option Posted := none
  discarding : Bool := false
  lastNs : Nat := 0
  written : Nat := 0
  /-- Offset of the first tile that failed (R228). -/
  failOff : Option Nat := none
  /-- End of the highest bytes written. -/
  top : Nat := 0
  lead : List Word := []
  /-- Bytes of a Pickup receive. -/
  pick : List Nat := []
  /-- Stored segments still to be delivered to its receive. -/
  stored : List StoredSeg := []
  /-- Misses the delivery of its stored segments waits on: host port, context, page. -/
  misses : List (Nat × Nat × Nat) := []
deriving DecidableEq, Repr

/-- An operation at the Crystalliser's input (R233). -/
inductive CrOp
  | arrive (src seq : Nat) | post (p : Posted) | cancel (room : Nat) (e : List Word)
  /-- The removal of a room that leaves service; with its posted receives at a reset (R239). -/
  | remove (room : Nat) (posted : Bool)
deriving DecidableEq, Repr

/-- A rendezvous get request (R225). -/
structure RndvGet where
  room : Nat
  dest : Nat
  destRoom : Nat
  keyIdx : Nat
  keyGen : Nat
  remote : Nat
  msgId : Nat
  len : Nat
  recv : Option Posted
  rank : Nat
  ctx : Nat
  tag : Nat
  imm : Option Nat
  /-- Bytes the announcement offered. -/
  total : Nat := 0
deriving DecidableEq, Repr

/-- The Crystalliser beyond its registers (chapter 9). -/
structure CrystalSt where
  posted : List Posted := []
  unexp : List Unexp := []
  msgs : List MsgEntry := []
  input : List CrOp := []
  /-- Rooms whose lookup waits for a Cellar read, with the operation (R233). -/
  holding : List (Nat × CrOp) := []
  gets : List RndvGet := []
  /-- Zero-byte gets that found the get queue and its spill full and wait for room (R22, R239). -/
  owed : List RndvGet := []
  postStamp : Tab Nat := []
  arrStamp : Tab Nat := []
  nextId : Nat := 0
  /-- The next tile read from the unexpected store meets an uncorrectable DDR5 error (Table 14.3, DDR_UE). -/
  ueNext : Bool := false
deriving DecidableEq, Repr

/-- A work entry in the fetch queue. -/
structure WorkItem where
  room : Nat
  entry : List Word
  lb : Option (List Word) := none
  at_ : Nat := 0
  /-- Misses it waits on: host port, context, page. -/
  misses : List (Nat × Nat × Nat) := []
  /-- Its operation and the next segment to offer, once it has been checked. -/
  cont : Option (Nat × Nat) := none
deriving DecidableEq, Repr

/-- A delivery or result command of the Porch (Table 1.4). -/
inductive Delivery
  /-- Deliver a received segment's payload at the target: flow, sequence number. -/
  | seg (src seq : Nat)
  /-- Deliver a stored unexpected message's segments to its receive: the model's number of the message. -/
  | stored (id : Nat)
deriving DecidableEq, Repr

/-- A room: its room table entry, its context and its queues (R183, Tables 8.3 and 8.7). -/
structure Room where
  st : Nat := 0
  err : Nat := 0
  job : Nat := 0
  hport : Nat := 0
  everActive : Bool := false
  knocks : Nat := 0
  head : Nat := 0
  armed : Bool := false
  ctx : List Word := [0, 0, 0, 0, 0]
  resident : Bool := false
  fetching : Bool := false
  dirty : Bool := false
  lastUse : Nat := 0
  consumed : Nat := 0
  written : Nat := 0
  reserved : Nat := 0
  outstanding : Nat := 0
  events : Nat := 0
  reading : Option (Nat × Nat) := none
  stopped : Bool := false
  rescanAt : Option Nat := none
  /-- MATCH_ORDER and PARTITION as read at activation. -/
  order : Nat := 0
  part : Nat := 0
  grant : Nat := 0
  heldLb : Nat := 0
  openPkt : List Word := []
  dropping : Bool := false
  /-- Closed packets and, with a completion status other than 0, packets that only complete with it. -/
  closed : List (Nat × List Word) := []
  pickUsed : Nat := 0
  /-- Visible Pickup packets, the unread words of each; and the cookie and space of each. -/
  pickups : List (List Word × Nat × Nat) := []
  stalled : List (Nat × Nat) := []
  /-- An event was recorded while the context was parked. -/
  late : Bool := false
  /-- An unpredictable outcome has fallen on the room, and lasts until its reset (R12, R14). -/
  risk : Bool := false
deriving DecidableEq, Repr

/-- An MSI-X vector: its table entry (message address, message data, mask) and its pending bit. -/
structure MsixSt where
  addr : Nat := 0
  data : Nat := 0
  masked : Bool := true
  pending : Bool := false
deriving DecidableEq, Repr

/-- The Porch beyond its registers (chapter 8). -/
structure PorchSt where
  rooms : Tab Room := []
  fetchQ : List WorkItem := []
  /-- Work entries stalled at the source (R270), with the reason's start. -/
  stalled : List WorkItem := []
  deliveries : List Delivery := []
  msix : Tab MsixSt := []
  lbUsed : Nat := 0
  pickUsed : Nat := 0
  waitSlot : List Nat := []
  cmdRoom : Option (Nat × Nat) := none
deriving DecidableEq, Repr

/-- A key entry in the Cellar (Table 10.1): four words. -/
structure KeyEntry where
  w0 : Word
  w1 : Word
  w2 : Word
  w3 : Word
deriving DecidableEq, Repr

/-- An atomic response cache entry (R264). -/
structure AtomEntry where
  src : Nat
  msgId : Nat
  value : Word
  at_ : Nat
  hold : Nat
  acked : Bool := false
deriving DecidableEq, Repr

/-- A target tracker entry (R246). -/
structure TrackEntry where
  src : Nat
  msgId : Nat
  room : Nat
  lead : List Word
  total : Nat
  done : List Nat := []
  lastNs : Nat
deriving DecidableEq, Repr

/-- A miss table entry (R284). -/
structure Miss where
  ctx : Nat
  page : Nat
  write : Bool
  target : Bool
  queued : Bool := true
  stale : Bool := false
  lastReq : Option Nat := none
deriving DecidableEq, Repr

/-- An entry of an address translation buffer (R280). -/
structure AtbEntry where
  size : Nat
  write : Bool
  vpage : Nat
  bpage : Nat
  ctx : Nat
deriving DecidableEq, Repr

/-- What a walk has come to (R283, R285): the next table, a page to install (SIZE, WRITE, bus page), WALK_FAULT, a read that was
refused, or a page that is not present. -/
inductive WalkNext
  | table (t : Nat) | page (size : Nat) (write : Bool) (bpage : Nat) | fault | device | absent
deriving DecidableEq, Repr

/-- A stalled read of WALK_DATA: its Housekeeper's port, the master that reads, the halves it reads, and the end of its stall. -/
structure WalkStall where
  hk : Nat
  m : Master
  low : Bool
  high : Bool
  till : Nat
deriving DecidableEq, Repr

/-- A miss that Housekeeper `hk` popped and walks: its names, the level it reads next (5 the context table entry), the tables it
goes by, whether its read is in flight, and what it has come to (R283, R285). -/
structure MissWalk where
  hk : Nat
  h : Nat
  id : Nat
  ctx : Nat
  page : Nat
  write : Bool
  level : Nat := 5
  root : Nat := 0
  table : Nat := 0
  asked : Bool := false
  ending : Option WalkNext := none
  abandoned : Bool := false
deriving DecidableEq, Repr

/-- An invalidation in progress: its result, whether it drains, the bus ranges (first byte, bytes) of the entries it removed, and the
context (none: every one) and pages it covers (R289, R290). -/
structure InvSt where
  result : Nat := 0
  drain : Bool := false
  ranges : List (Nat × Nat) := []
  ctx : Option Nat := none
  run : Nat × Nat := (0, 0)
deriving DecidableEq, Repr

/-- A host memory read in flight, and what its answer is for: the payload of a segment, an atomic's operand (address, segment,
descriptor, and whether the host executes it), a collective's contribution. -/
inductive HRead
  | payload (peer seq epoch : Nat) | atomic (h addr src seq epoch : Nat) (lead : List Word) (host : Bool) | coll (t seq : Nat)
deriving DecidableEq, Repr

/-- A response segment whose read waits for a translation (R267): the request it answers and the bytes it reads. -/
structure RespWait where
  seg : Seg
  src : Nat
  seq : Nat
  at_ : Nat
  h : Nat
  ctx : Nat
  addr : Nat
  misses : List (Nat × Nat × Nat)
deriving DecidableEq, Repr

/-- A Cellar read that a cache miss issued (R89): a rank entry (job, rank) or a key entry. -/
inductive CellarRead
  | rank (job r : Nat) | key (i : Nat)
deriving DecidableEq, Repr

/-- The Threshold beyond its registers (chapters 10 and 11). -/
structure ThreshSt where
  flows : Tab Flow := []
  ops : Tab OpSt := []
  nextOp : Nat := 1
  keys : Tab KeyEntry := []
  keyCache : List Nat := []
  keyBusy : Option (Nat × Nat) := none
  ranks : Tab Word := []
  rankCache : List (Nat × Nat × Word) := []
  atomics : List AtomEntry := []
  tracker : List TrackEntry := []
  atb : Tab (Tab AtbEntry) := []
  misses : Tab (Tab Miss) := []
  missOrder : List (Nat × Nat) := []
  prqTail : Tab Nat := []
  prqHeld : List (Nat × Nat × Nat × Bool) := []
  invBusy : Tab InvSt := []
  walks : Tab Nat := []
  /-- Reads of WALK_DATA that stall until their Housekeeper's read has ended (R286). -/
  walkStall : List WalkStall := []
  /-- Misses that Housekeepers walk, in the order they were popped (R285). -/
  walking : List MissWalk := []
  reads : Tab HRead := []
  nextTag : Nat := 0
  admitQ : List Seg := []
  segNo : Nat := 0
  respWait : List RespWait := []
  /-- Cellar reads in flight, and the last that failed. -/
  cellarWait : List CellarRead := []
  cellarFailed : Option CellarRead := none
  /-- Cells discarded because the CRC of their body failed (R75, R76), and cells of SEG_CELLS_MISMATCH (R80); no register shows either. -/
  badBodies : Nat := 0
  cellMismatch : Nat := 0
  /-- NACKs of a reserved CODE (R260); no register shows them. -/
  reservedNacks : Nat := 0
deriving DecidableEq, Repr

/-- A collective operation of one tree entry at this Rake (R307). -/
structure TreeSt where
  /-- The operation has begun; before that the entry holds only its head register and a grant (R308). -/
  begun : Bool := false
  opSeq : Nat := 0
  cop : Nat := 0
  ctype : Nat := 0
  fast : Bool := false
  len : Nat := 0
  /-- The host's entry: room and words. -/
  host : Option (Nat × List Word) := none
  /-- The host's contribution, once read. -/
  contrib : Option (List Word) := none
  /-- Chunks of the contribution already taken as inputs. -/
  hostFed : Nat := 0
  /-- Child ports whose head has arrived. -/
  heads : List Nat := []
  pruned : List Nat := []
  members : Nat := 0
  fenced : Nat := 0
  sources : Nat := 0
  headSent : Bool := false
  /-- Arrived chunk inputs in arrival order: chunk, port (72 for the host), words. -/
  ins : List (Nat × Nat × List Word) := []
  /-- DATA cells arrived per child port. -/
  got : Tab Nat := []
  /-- End of the stall limit of an incomplete chunk that has an input. -/
  firstAt : Tab Nat := []
  upSent : Nat := 0
  downGot : Nat := 0
  downHead : Bool := false
  window : Nat := 2
  ctxLog2 : Option Nat := none
  granted : Nat := 2
deriving DecidableEq, Repr

/-- A collective's result on its way to host memory (R307, step 7): the Porch's 256-cell delivery queue holds its chunks. -/
structure CollDel where
  tree : Nat
  seq : Nat
  room : Nat
  entry : List Word
  /-- Status, MEMBERS and FENCED of the down head. -/
  head : Option (Nat × Nat × Nat) := none
  chunks : List (Nat × List Word) := []
  total : Nat := 0
  done : Nat := 0
  written : Nat := 0
  keyFail : Bool := false
  /-- Since when its result write has waited for the link of its host port (R456). -/
  waitAt : Option Nat := none
  /-- The result range as translated at admission (R291, R299): host port, and bus address and bytes of each page. -/
  pages : Option (Nat × List (Nat × Nat)) := none
deriving DecidableEq, Repr

/-- The Rake beyond its registers (chapter 12). -/
structure RakeSt where
  trees : Tab TreeSt := []
  /-- Trees that wait for a context, in the order their operations began (R309). -/
  waiters : List Nat := []
  /-- COLL entries waiting for admission: room and words. -/
  colls : List WorkItem := []
  /-- Recorded aborts of operations not begun: tree, number, status (R312). -/
  recorded : List (Nat × Nat × Nat) := []
  /-- Tree and port whose DATA cells belong to an aborted operation (R310). -/
  dropping : List (Nat × Nat) := []
  dels : List CollDel := []
deriving DecidableEq, Repr

/-- The Sluice beyond its registers (chapter 13). -/
structure SluiceSt where
  queues : Tab (List Seg) := []
  /-- Device budget and ticket issue budget in units of 1/327680. -/
  budget : Nat := 0
  issue : Nat := 0
  /-- Shaper tokens in units of 1/327680 byte. -/
  tokens : Tab Int := []
  shapeAt : Tab Nat := []
  waitCount : Nat := 0
  rrFlow : Nat := 0
  hist : Tab Nat := []
  lastPortDown : Option Nat := none
  lastFence : Option Nat := none
  lastLife : Option Nat := none
  budgetAt : Nat := 0
  issueAt : Nat := 0
  histAt : Nat := 0
  syncRun : Nat := 0
  lastSample : Nat := 0
  opPoint : Nat := 1
deriving DecidableEq, Repr

/-- The device's clocks: elapsed time, network time in units of 2^-16 ns, and the servo (R319, R325). -/
structure ClockSt where
  ns : Nat := 0
  net : Int := 0
  freq : Int := 0
  acc : Int := 0
  slew : Int := 0
  slewTicks : Nat := 0
deriving DecidableEq, Repr

/-- A suspect table entry (R363). -/
structure Suspect where
  node : Nat
  st : Nat
  kind : Nat
  rpt : Bool := false
  obs : Nat := 1
  rooms : List Nat := []
  first : Nat := 0
  until_ : Nat := 0
  port : Nat := 127
  cause : Nat := 0
  fenceSeen : Bool := false
  order : Nat := 0
deriving DecidableEq, Repr

/-- Fault state beyond the fault registers (chapter 14). -/
structure FaultSt where
  hist : Tab (List HistEntry) := []
  quietAt : Tab Nat := []
  noticeAt : Tab Nat := []
  standing : List ParitySite := []
  l3 : List Nat := []
  l4 : Bool := false
  l4At : Option Nat := none
  suspects : Tab Suspect := []
  suspectNo : Nat := 0
  fences : List Nat := []
deriving DecidableEq, Repr

/-- A domain transition in progress: domain, direction (R375). -/
structure Trans where
  d : Nat
  on : Bool
deriving DecidableEq, Repr

/-- Power, reset and start-up beyond the registers (chapters 1 and 15). -/
structure PowerSt where
  inReset : Bool := false
  thermHold : Bool := false
  hkHeld : Bool := true
  trans : List Trans := []
  /-- Table 1.6, steps 3 and 4: the seed has been sent and not yet reached; steps 1 to 6. -/
  seedDue : Bool := false
  opTrans : Bool := false
  /-- P above T at VMAX in the previous interval (R27). -/
  atVmax : Bool := false
  /-- The end of the policy interval that runs (R27). -/
  vpolDue : Option Nat := none
  /-- A seed of Table 1.6, step 3, that Hearth has still to send. -/
  seedOwed : Bool := false
  /-- A window of the cycle meters has ended (Table 1.12). -/
  metered : Bool := false
  /-- The latest set-point write: failed attempts, the set-point before it, and the one it asks for while it may be retried. -/
  avsFails : Nat := 0
  avsPrev : Nat := 800
  avsWant : Option Nat := none
  heartbeatAt : Nat := 0
  /-- The watchdog's limit (R382). -/
  wdogAt : Nat := 0
  /-- When BOARD_TIME was written, and its value. -/
  boardAt : Nat := 0
  boardBase : Nat := 0
  boardValidAt : Option Nat := none
  hearthAt : Nat := 0
  /-- Groups of the BIST run still to start, and those running. -/
  bistLeft : List Nat := []
  bistRun : List Nat := []
  bistOn : Bool := false
  /-- A run has passed in this start. -/
  bistPassed : Bool := false
  shutdown : Bool := false
  /-- Readings of the thermal sensors, and since when every one is below 95 °C. -/
  temps : Tab Nat := []
  thermLowAt : Option Nat := none
  /-- Hearth's voltage policy has run since the reset (R30). -/
  policyRan : Bool := false
  shadow : List Word := []
  attic : Tab Word := []
deriving DecidableEq, Repr

/-- The Stair chain beyond its registers (R389 to R394). -/
structure StairSt where
  /-- READ frames whose read of LATCH_WAIT stalls: Latch, TAG and STEP. -/
  queue : List (Nat × Nat × Nat) := []
deriving DecidableEq, Repr

/-- One Latch (R421). -/
structure LatchSt where
  owner : Option Nat := none
  abandoned : Bool := false
  forced : Bool := false
  /-- Stalled reads: master ID and deadline, oldest first. -/
  waiters : List (Master × Nat) := []
deriving DecidableEq, Repr

/-- The header of a freeze (Table 17.1). -/
structure FreezeHdr where
  ns : Nat
  frac : Nat
  synced : Bool
  late : Bool
  level : Nat
  snapAt : Nat
  seq : Nat
deriving DecidableEq, Repr

/-- Counters and observation beyond the registers (chapter 17). -/
structure CountSt where
  ctr : Tab Nat := []
  bankD : Tab Nat := []
  bankS : Tab Nat := []
  hdrD : Option FreezeHdr := none
  hdrS : Option FreezeHdr := none
  dumpSeq : Nat := 0
  skipped : Nat := 0
  dumpAt : Nat := 0
  armed : Bool := false
  armAt : Nat := 0
  /-- Network time was stepped past the armed time (R435). -/
  jumped : Bool := false
  /-- The record being written: of a snapshot (true) or a dump. -/
  writing : Option Bool := none
  traceBuf : List (List Word) := []
deriving DecidableEq, Repr

/-- Management requests held at the target (R418): those whose read of LATCH_WAIT stalls, with the Latch. -/
structure MgmtSt where
  queue : List (Nat × Cell) := []
  /-- VC0 cells discarded because the CRC of their body failed (R75); no register shows it. -/
  badBodies : Nat := 0
deriving DecidableEq, Repr

/-- Reasons a command stops with a fault. No command of this block does: no constructor is raised by a meaning, and the
type is closed over the one reason the host's interface needs a name for. -/
inductive Fault
  /-- Never raised (safe: it allows nothing). -/
  | none_
deriving DecidableEq, Repr

/-- Reasons a command is refused. -/
inductive Refusal
  /-- A command whose meaning is not written yet is rejected by name (safe: nothing can be proved of it). -/
  | notModelled (mnemonic : String)
deriving DecidableEq, Repr

/-- The state of the block. -/
structure State where
  /-- Register fields off their reset values, keyed by field and instance. -/
  fld : Tab Nat := []
  clk : ClockSt := {}
  plan : PlanSt := {}
  session : SessionSt := {}
  hall : HallSt := {}
  ports : Tab PortSt := []
  line : Tab LineSt := []
  porch : PorchSt := {}
  thresh : ThreshSt := {}
  crystal : CrystalSt := {}
  rake : RakeSt := {}
  sluice : SluiceSt := {}
  fault : FaultSt := {}
  power : PowerSt := {}
  stair : StairSt := {}
  latch : Tab LatchSt := []
  count : CountSt := {}
  mgmt : MgmtSt := {}
  /-- Free values already drawn: the model's own counter (no statement rests on its value). -/
  free : Nat := 0
  /-- What has left the device, latest first: the model's own log. -/
  out : List Output := []
  /-- The commands that wait, first in first out. -/
  pending : List Instr := []
deriving DecidableEq, Repr

/-- The state after reset: every register field at its reset value (no field listed), no plan, every queue empty, both
clocks at 0, and no command waiting. -/
def State.reset : State := {}

end Sys2Proof.Machine
end

