-- ==== Sys2Proof/Machine/Operands.lean ====
section
/-! DEFINITION. Operand forms: the header words of a cell, the lead descriptor, work and completion entries, the bodies of
single cells, and node identifiers (chapters 4, 8, 10). Plain functions of numbers and words. -/
namespace Sys2Proof.Machine

/-- A number as a 64-bit word. -/
def wd (n : Nat) : Word := BitVec.ofNat 64 n

/-- Word `i` of a list of words as a number; 0 beyond its end. -/
def wn (ws : List Word) (i : Nat) : Nat := (ws.getD i 0).toNat

/-- Bits [lo + width - 1 : lo] of word `i`. -/
def wf_ (ws : List Word) (i lo width : Nat) : Nat := bits (wn ws i) lo width

/-- Pad or cut a list of words to `n` words. -/
def padWords (n : Nat) (ws : List Word) : List Word := (ws ++ List.replicate n 0).take n

/-- A field value placed at a bit position. -/
def at_ (v lo width : Nat) : Nat := (v % 2 ^ width) * 2 ^ lo

/-! Cell types and opcodes (Tables 4.3 and 4.6). -/
def tyLead : Nat := 0
def tyPayload : Nat := 1
def tyAck : Nat := 2
def tyNack : Nat := 3
def tyTicket : Nat := 4
def tyTreeUp : Nat := 5
def tyTreeDown : Nat := 6
def tyTime : Nat := 7
def tyMgmt : Nat := 8
def tyFault : Nat := 9
def tySuspect : Nat := 10

/-- Header word 0 (Table 4.1). -/
def Cell.word0 (c : Cell) : Nat :=
  at_ c.ty 60 4 + at_ c.vc 57 3 + at_ c.hop 54 3 + at_ c.dimDone 50 4 + at_ (b2n c.ce) 49 1 + at_ (b2n c.echo) 48 1
    + at_ (b2n c.last) 47 1 + at_ (b2n c.pin) 46 1 + at_ c.order 41 5 + at_ c.dest 21 20 + at_ c.src 1 20

/-- Header word 1 (Table 4.2). -/
def Cell.word1 (c : Cell) : Nat :=
  at_ c.seq 48 16 + at_ c.epoch 46 2 + at_ c.idx 39 7 + at_ c.segCells 32 7 + at_ c.check 0 32

/-- The CRC-32C of a cell body (R69, R75). -/
def bodyCrc (body : List Word) : Nat := crc32c (wordsBytes (padWords 8 body))

/-- The tile check over the bodies of a tile's cells, in CELL_IDX order (R83). -/
def tileCheck (bodies : List (List Word)) : Nat := crc32c (bodies.flatMap (fun b => wordsBytes (padWords 8 b)))

/-- The 64 bytes of one cell body from data words, padded with zeros (R81). -/
def chunks8 (ws : List Word) (n : Nat) : List (List Word) := (List.range n).map (fun i => padWords 8 (ws.drop (8 * i)))

/-- Bytes laid into a list of bytes from an offset on; the bytes between read as zero. -/
def layBytes (l : List Nat) (off : Nat) (bs : List Nat) : List Nat :=
  if bs.isEmpty then l else (l ++ List.replicate (off - l.length) 0).take off ++ bs ++ l.drop (off + bs.length)

/-- Tile number of a payload cell (R83). -/
def tileOf (idx : Nat) : Nat := (idx - 1) / 4

/-- Cells of tile `t` in a segment of `cells` cells (R54). -/
def tileCells (cells t : Nat) : Nat := min 4 ((cells - 1) - 4 * t)

/-! Lead descriptor fields (Table 4.4). -/
def leadOp (l : List Word) : Nat := wf_ l 0 0 8
def leadFlags (l : List Word) : Nat := wf_ l 0 8 8
def leadDestRoom (l : List Word) : Nat := wf_ l 0 16 16
def leadSrcRoom (l : List Word) : Nat := wf_ l 0 32 16
def leadJob (l : List Word) : Nat := wf_ l 0 48 16
def leadKeyIdx (l : List Word) : Nat := wf_ l 1 0 24
def leadKeyGen (l : List Word) : Nat := wf_ l 1 24 8
def leadMsg (l : List Word) : Nat := wf_ l 1 32 32
def leadRemote (l : List Word) : Nat := wn l 2
def leadLen (l : List Word) : Nat := wf_ l 3 0 32
def leadOff (l : List Word) : Nat := wf_ l 3 32 32
def leadCtx (l : List Word) : Nat := wf_ l 4 0 16
def leadRank (l : List Word) : Nat := wf_ l 4 16 24
def leadTag (l : List Word) : Nat := wf_ l 5 0 32
def leadImm (l : List Word) : Nat := wf_ l 5 32 32
def leadInline (l : List Word) : Bool := (leadFlags l).testBit 0
def leadHasImm (l : List Word) : Bool := (leadFlags l).testBit 1
def leadCqe (l : List Word) : Bool := (leadFlags l).testBit 2
def leadRndv (l : List Word) : Bool := (leadFlags l).testBit 3

/-- A lead descriptor from its fields (Table 4.4). -/
def mkLead (op flags destRoom srcRoom job keyIdx keyGen msg remote len off ctx rank tag imm : Nat) (w6 w7 : Word) :
    List Word :=
  [wd (at_ op 0 8 + at_ flags 8 8 + at_ destRoom 16 16 + at_ srcRoom 32 16 + at_ job 48 16),
   wd (at_ keyIdx 0 24 + at_ keyGen 24 8 + at_ msg 32 32), wd remote,
   wd (at_ len 0 32 + at_ off 32 32), wd (at_ ctx 0 16 + at_ rank 16 24), wd (at_ tag 0 32 + at_ imm 32 32), w6, w7]

/-- The MSG_ID of a lead replaced. -/
def setLeadMsg (l : List Word) (msg : Nat) : List Word :=
  l.set 1 (wd (at_ (leadKeyIdx l) 0 24 + at_ (leadKeyGen l) 24 8 + at_ msg 32 32))

/-- Wire opcodes of Table 4.6. -/
def knownOpcode (o : Nat) : Bool :=
  o == 0x01 || o == 0x10 || o == 0x20 || o == 0x21 || (decide (0x30 ≤ o) && decide (o ≤ 0x36)) || o == 0x3F

/-- The atomics among the wire opcodes. -/
def isAtomic (o : Nat) : Bool := decide (0x30 ≤ o) && decide (o ≤ 0x36)

/-- Response-class opcodes. -/
def isResp (o : Nat) : Bool := o == 0x21 || o == 0x3F

/-- Segments of a message of `len` bytes (R79). -/
def segCount (len : Nat) : Nat := if len = 0 then 1 else ceilDiv len 4096

/-- A segment's byte count (R79). -/
def segBytes (len off : Nat) : Nat := min 4096 (len - 4096 * off)

/-- Payload cells of a segment (Table 4.6). -/
def payloadCells (l : List Word) : Nat :=
  let o := leadOp l
  if o == 0x01 then (if leadInline l || leadRndv l then 0 else ceilDiv (segBytes (leadLen l) (leadOff l)) 64)
  else if o == 0x10 then (if leadInline l then 0 else ceilDiv (segBytes (leadLen l) (leadOff l)) 64)
  else if o == 0x21 then ceilDiv (segBytes (leadLen l) (leadOff l)) 64
  else 0

/-- The length checks of step 2 of R91: SEG_CELLS and SEG_OFFSET (R79), the length of an eager SEND (R224), the run
of a GET_REQ (R266). -/
def lengthsHold (l : List Word) (segCells : Nat) : Bool :=
  let o := leadOp l
  if o == 0x20 then
    segCells == 1 && leadImm l != 0 && decide (leadOff l + leadImm l ≤ segCount (leadLen l))
  else
    (segCells == 1 + payloadCells l) && decide (leadOff l < segCount (leadLen l))
      && !(o == 0x01 && !leadRndv l && decide (16384 < leadLen l))

/-! Work entry fields (Table 8.8). -/
def weOp (e : List Word) : Nat := wf_ e 0 0 8
def weFlags (e : List Word) : Nat := wf_ e 0 8 8
def weCtx (e : List Word) : Nat := wf_ e 0 16 16
def weRank (e : List Word) : Nat := wf_ e 0 32 24
def wePhase (e : List Word) : Nat := wf_ e 0 63 1
def weAddr (e : List Word) : Nat := wn e 1
def weLen (e : List Word) : Nat := wf_ e 2 0 32
def weCookie (e : List Word) : Nat := wf_ e 2 32 32
def weRemote (e : List Word) : Nat := wn e 3
def weRkey (e : List Word) : Nat := wf_ e 4 0 32
def weLkey (e : List Word) : Nat := wf_ e 4 32 32
def weTag (e : List Word) : Nat := wf_ e 5 0 32
def weImm (e : List Word) : Nat := wf_ e 5 32 32
def weInline (e : List Word) : Bool := (weFlags e).testBit 0
def weHasImm (e : List Word) : Bool := (weFlags e).testBit 1
def weCqe (e : List Word) : Bool := (weFlags e).testBit 2
def weAnyTag (e : List Word) : Bool := (weFlags e).testBit 3
def wePickup (e : List Word) : Bool := (weFlags e).testBit 4
def weFast (e : List Word) : Bool := (weFlags e).testBit 5
def weSilent (e : List Word) : Bool := (weFlags e).testBit 6
def weTree (e : List Word) : Nat := wf_ e 5 0 10
def weCop (e : List Word) : Nat := wf_ e 5 12 4
def weCtype (e : List Word) : Nat := wf_ e 5 16 4

/-- A completion entry (Table 8.11) but for its PHASE bit. -/
structure Cmpl where
  op : Nat
  status : Nat
  rank : Nat := 0
  ctx : Nat := 0
  target : Bool := false
  cookie : Nat := 0
  imm : Nat := 0
  len : Nat := 0
  tag : Nat := 0
  fail : Nat := 0
  aux : Nat := 0
deriving DecidableEq, Repr

/-- The four words of a completion entry. -/
def Cmpl.words (c : Cmpl) (phase : Nat) : List Word :=
  [wd (at_ c.op 0 8 + at_ c.status 8 8 + at_ c.rank 16 24 + at_ c.ctx 40 16 + at_ (b2n c.target) 62 1 + at_ phase 63 1),
   wd (at_ c.cookie 0 32 + at_ c.imm 32 32), wd (at_ c.len 0 32 + at_ c.tag 32 32),
   wd (at_ c.fail 0 32 + at_ c.aux 32 16)]

/-! Completion status codes (Table 8.12). -/
def stOk : Nat := 0
def stPartial : Nat := 1
def stFenced : Nat := 2
def stBadJob : Nat := 3
def stBadRank : Nat := 4
def stNoRoute : Nat := 5
def stBadOpcode : Nat := 6
def stBadAlign : Nat := 7
def stBadLength : Nat := 8
def stKeyFault : Nat := 12
def stWalkFault : Nat := 13
def stWalkDevice : Nat := 14
def stTimeout : Nat := 15
def stQueueReset : Nat := 16
def stCancelled : Nat := 17
def stTruncated : Nat := 18
def stWildcard : Nat := 19
def stBadMode : Nat := 20
def stModeMismatch : Nat := 21
def stLbOverflow : Nat := 22
def stLbLength : Nat := 23
def stPickupFull : Nat := 24
def stNotReady : Nat := 25
def stFlowReset : Nat := 26

/-- The completion status of a final NACK code (Table 10.7). -/
def nackStatus (code : Nat) : Nat :=
  match code with
  | 2 => 6 | 3 => 7 | 4 => 8 | 5 => 9 | 6 => 10 | 7 => 11 | 8 => 12 | 9 => 13 | 10 => 14 | _ => 25

/-- The PHASE of entry `n` in a ring of `size` entries: 1 on an even lap (R190). -/
def phaseOf (n size : Nat) : Nat := if (n / size) % 2 = 0 then 1 else 0

/-! Node identifiers (R86, R87, R101). -/

/-- Coordinate `d` of a node identifier. -/
def coord (id d : Nat) : Nat := bits id (5 * d) 5

/-- The identifier with coordinate `d` replaced. -/
def setCoord (id d x : Nat) : Nat := setBits id (5 * d) 5 x

/-- Size of dimension `d`. -/
def dimSize (sizes : List Nat) (d : Nat) : Nat := sizes.getD d 1

/-- Node index of an identifier (R87). -/
def nodeIndex (sizes : List Nat) (id : Nat) : Nat :=
  coord id 0 + dimSize sizes 0 * (coord id 1 + dimSize sizes 1 * (coord id 2 + dimSize sizes 2 * coord id 3))

/-- The identifier is configured (R86): D is the highest configured dimension. -/
def configuredId (dims : Nat) (sizes : List Nat) (id : Nat) : Bool :=
  (List.range 4).all (fun d =>
    if d + 1 < dims then decide (coord id d < dimSize sizes d)
    else if d + 1 = dims then decide (coord id d < 2 * dimSize sizes d)
    else coord id d == 0)
  && decide (nodeIndex sizes id < 131072) && decide (id < 2 ^ 20)

/-- The identifier names a service node. -/
def isService (dims : Nat) (sizes : List Nat) (id : Nat) : Bool :=
  decide (dimSize sizes (dims - 1) ≤ coord id (dims - 1))

/-- Routing coordinate (R101). -/
def rcoord (dims : Nat) (sizes : List Nat) (id d : Nat) : Nat :=
  if d + 1 = dims ∧ dimSize sizes d ≤ coord id d then coord id d - dimSize sizes d else coord id d

/-- Dimensions in which two identifiers' routing coordinates differ. -/
def diffDims (dims : Nat) (sizes : List Nat) (a b : Nat) : List Nat :=
  (List.range dims).filter (fun d => rcoord dims sizes a d != rcoord dims sizes b d)

/-- Minimal length of a cell's route (R102). -/
def minLength (dims : Nat) (sizes : List Nat) (src dst : Nat) : Nat :=
  (diffDims dims sizes src dst).length + b2n (isService dims sizes src) + b2n (isService dims sizes dst)

/-- DIM_DONE of a new cell: the dimensions in which source and destination agree (Table 4.1). -/
def dimDone0 (dims : Nat) (sizes : List Nat) (src dst : Nat) : Nat :=
  (List.range 4).foldl (fun a d =>
    if decide (d < dims) && rcoord dims sizes src d != rcoord dims sizes dst d then a else a + 2 ^ d) 0

/-- Position of `x` in a list. -/
def posIn (x : Nat) (l : List Nat) : Nat := l.idxOf x

/-- ORDER of the dimension order (a, b, c, d) (R70). -/
def orderCode (a b c : Nat) : Nat :=
  let r := (List.range 4).filter (fun d => d != a)
  let r2 := r.filter (fun d => d != b)
  6 * a + 2 * posIn b r + posIn c r2

/-- The dimension order an ORDER value names (R70). -/
def orderDims (o : Nat) : List Nat :=
  let a := o / 6
  let r := (List.range 4).filter (fun d => d != a)
  let b := r.getD ((o % 6) / 2) 0
  let r2 := r.filter (fun d => d != b)
  let c := r2.getD (o % 2) 0
  [a, b, c] ++ (r2.filter (fun d => d != c))

/-- Rotate a list left. -/
def rotl (n : Nat) (l : List Nat) : List Nat := l.drop n ++ l.take n

/-- A single cell of a type other than LEAD and PAYLOAD (R75). -/
def single (ty vc src dst dd : Nat) (body : List Word) : Cell :=
  let ws := padWords 8 body
  { ty := ty, vc := vc, dest := dst, src := src, dimDone := dd, last := true, idx := 0, segCells := 1,
    check := bodyCrc ws, body := ws }

/-- Class of a channel: 0 management, 1 tree, 2 request, 3 response (Table 5.3). -/
def vcClass (v : Nat) : Nat := if v = 0 then 0 else if v = 1 then 1 else if v ≤ 4 then 2 else 3

/-- Adaptive, escape and detour channels of a class (R103). -/
def avOf (cls : Nat) : Nat := if cls = 2 then 2 else if cls = 3 then 5 else 0
def evOf (cls : Nat) : Nat := if cls = 2 then 3 else if cls = 3 then 6 else 0
def dvOf (cls : Nat) : Nat := if cls = 2 then 4 else if cls = 3 then 7 else 0

/-- Channels Table 4.3 permits for a cell type. -/
def vcAllowed (ty vc : Nat) : Bool :=
  if ty ≤ 1 then decide (2 ≤ vc) && decide (vc ≤ 7)
  else if ty ≤ 4 then decide (5 ≤ vc) && decide (vc ≤ 7)
  else if ty ≤ 6 then vc == 1 else vc == 0

/-- Channel sets of Table 5.4. -/
def legalVcSets : List Nat := [0xFF, 0xFD, 0x6F, 0x6D, 0x4B, 0x49, 0x03]

end Sys2Proof.Machine
end

