-- ==== Sys2Proof/Machine/Flags.lean ====
section
/-! DEFINITION. Reading and writing register fields, sticky event bits and the interrupts they raise (R414), MSI-X messages,
event counters with their wrap bits (R427 to R430, R438), and the log of what leaves the device. -/
namespace Sys2Proof.Machine

/-- Key of a field's instance in the register store. -/
def fkey (f : Fld) (i : Nat) : Nat := i * 1024 + f.ctorIdx

/-- The value of a register field. -/
def State.get (s : State) (f : Fld) (i : Nat := 0) : Nat := Tab.get s.fld (fkey f i) (f.resetAt i)

/-- Write a register field: the value is cut to the field's width. -/
def State.set (s : State) (f : Fld) (v : Nat) (i : Nat := 0) : State :=
  { s with fld := Tab.set s.fld (fkey f i) (v % 2 ^ f.info.width) (f.resetAt i) }

/-- A one-bit field as a Bool. -/
def State.flag (s : State) (f : Fld) (i : Nat := 0) : Bool := s.get f i != 0

/-- Elapsed time in ns. -/
def State.now (s : State) : Nat := s.clk.ns

/-- Network time in whole ns and its 16-bit fraction (R319). -/
def State.netNs (s : State) : Nat := (s.clk.net / 65536).toNat
def State.netFrac (s : State) : Nat := (s.clk.net % 65536).toNat

/-- Log something that leaves the device. -/
def emit (o : Output) (s : State) : State := { s with out := o :: s.out }

/-- Draw a free value: nothing constrains it. -/
def draw (s : State) : Nat × State := (Config.freeNat s.free, { s with free := s.free + 1 })

/-- Master IDs that hold a copy of the pending bits (Table 16.1). -/
def masterIds : List Nat := [0, 1, 2, 3, 4, 5, 8, 9, 10, 11, 12, 13, 14, 15]

/-- MSI-X vector of a block's interrupt (Table 16.4). -/
def blockVector (b : Nat) : Nat :=
  if b = 0 then 0 else if b = 1 ∨ b = 2 then 12 else if b = 3 then 1 else if b ≤ 13 then b - 2
  else if b < 40 then 13 else if b < 64 then 14 else 15

/-- Send one MSI-X message on vector `v` of host port `h`: nothing while the link is down, the pending bit while the
vector is masked (R214). -/
def sendMsix (h v : Nat) (s : State) : State :=
  if s.flag .HPORT_STAT_LINK_UP h then
    let e := Tab.get s.porch.msix (h * 2048 + v) {}
    if e.masked then
      { s with porch := { s.porch with msix := Tab.set s.porch.msix (h * 2048 + v) { e with pending := true } {} } }
    else emit (.msix h v) s
  else s

/-- Set a pending bit in one master's copy; a host port's 0-to-1 change sends the routed message (R414). -/
def pendOne (b m : Nat) (s : State) : State :=
  let f := if b < 64 then Fld.INT_PEND_LO_PEND else Fld.INT_PEND_HI_PEND
  let was := s.get f m
  if was.testBit (b % 64) then s
  else
    let s1 := s.set f (was + 2 ^ (b % 64)) m
    if m < 4 ∧ (s.get .INT_ROUTE_HPORTS (blockVector b)).testBit m then sendMsix m (blockVector b) s1 else s1

/-- A block raises its interrupt (R414). -/
def interrupt (b : Nat) (s : State) : State := masterIds.foldl (fun a m => pendOne b m a) s

/-- Set a sticky event bit; the interrupt is raised when the bit becomes set. -/
def event (b : Nat) (f : Fld) (s : State) (i : Nat := 0) : State :=
  if s.flag f i then s else interrupt b (s.set f 1 i)

/-- Key of a counter. -/
def ckey (b slot : Nat) : Nat := b * 1024 + slot

/-- Mark the bank entries of block `b` that name the slot as wrapped (R438). -/
def bankWrap (b slot : Nat) (s : State) : State :=
  (List.range 16).foldl (fun a i =>
    if a.get .BANK_SEL_SLOT (b * 16 + i) = slot then a.set .BANK_VAL_WRAP40 1 (b * 16 + i) else a) s

/-- Count `n` events in a slot; a wrap of the 48 bits sets the wrap bit and WRAP_SEEN (R427, R430), a wrap of the low
40 bits marks the bank entries (R438). -/
def count (b slot n : Nat) (s : State) : State :=
  let v := Tab.get s.count.ctr (ckey b slot) 0
  let s1 := { s with count := { s.count with ctr := Tab.set s.count.ctr (ckey b slot) ((v + n) % 2 ^ 48) 0 } }
  let s2 := if v % 2 ^ 40 + n < 2 ^ 40 then s1 else bankWrap b slot s1
  if v + n < 2 ^ 48 then s2
  else
    let w := b * 16 + slot / 64
    let m := s2.get .WRAP_WRAPPED w
    event 12 .COUNT_EVENTS_WRAP_SEEN (if m.testBit (slot % 64) then s2 else s2.set .WRAP_WRAPPED (m + 2 ^ (slot % 64)) w)

/-- The event counters the chapters name, in the order of their counting statements (R427). -/
inductive Ctr
  | PRIV_REFUSED | BAD_WIDTH | UNMAPPED | MGMT_REFUSED | MGMT_SERVED | RESET_REFUSED
  | PLAN_DONE | PLAN_REJECTED | FOREIGN_WRITE | PLAN_LATE
  | LIFETIME_DISCARD | NO_ROUTE | FENCED_DROP | DETOUR_TAKEN | ESCAPE_TAKEN | PIN_ESCAPE | DIM_DONE_MISMATCH | HDR_PARITY
  | FRAME_TX | FRAME_CRC_FAIL | FEC_CORR | FEC_UNCORR | SEQ_GAP | DUP_CELL_LINK | VOID_SENT | VOID_RX | REPLAY | RETRAIN
  | CREDIT_OVERRUN | SEQ_WINDOW | MALFORMED | ILLEGAL_VC | UNKNOWN_TYPE | NACK_RCVD | NACK_SUPPRESSED | CHECK_FAIL
  | CHECK_SKIPPED | AM_BAD | BIP_ERR | LOCK_LOSS | LANE_FAIL | BRINGUP_RETRY
  | FOREIGN_PAGE | KNOCK_INACTIVE | KNOCK_EXCESS | LB_OVERFLOW | LB_LENGTH | PICKUP_EMPTY | NOT_READY_SENT_PORCH | CTX_FETCH
  | MATCH_ON_ARRIVAL | MATCH_ON_POST | UNEXP_ADD | SPILL_ADD | SPILL_LOOKUP | REFILL | ORDER_HOLD | STALE_SEND
  | NOT_READY_SENT | POST_FULL | TRUNCATED | CANCEL_HIT | CANCEL_MISS | VERIFY_BACK_FAIL | ENTRIES_WALKED
  | KEY_FAULT | RETX | FAST_RETX | DUP_CELL | DUP_SEG | SEQ_AHEAD | STALE_EPOCH | ORPHAN_DISCARD | VEST_FULL
  | NOT_READY_RCVD | FLOW_RESET | ATOMIC_REPLAY | FENCED_SRC | TIMEOUT
  | ATB_HIT | ATB_MISS | MISS_MERGED | WALK_READ | WALK_FAULT | WALK_DEVICE | PAGE_REQUEST | STALE_INSTALL | INV_REQUEST
  | FENCE_SET | FENCE_LIFT | SAFE_DISCARD | SUSPECT_SENT | SUSPECT_DROPPED | SUSPECT_CANCELLED | SUSPECT_UNSENT
  | OPS_BEGUN | OPS_OK | OPS_FENCED | OPS_ABORTED | CHUNKS_IN | CHUNKS_OUT | CELL_CRC_FAIL | WINDOW_VIOLATION | CTX_WAIT
  | SEG_ADMITTED | TICKETED | UNTICKETED | TICKET_REQ_SENT | TICKET_GRANT_SENT | TICKET_EXPIRED | PACE_WAIT | WAITLIST_FULL
  | TIME_SAMPLE | TIME_OUTLIER | TIME_STEP | TIME_FOREIGN | FALLBACK | SET_REFUSED
  | TAKEN | BUSY_RETURNED | WAIT_TIMEOUT | ABANDONED | FORCED | NOT_OWNER | WAIT_FULL
  | DUMP_SKIPPED | SNAP_MISSED | SNAP_LATE | TRACE_LOST
deriving DecidableEq, Repr

/-- Block, first slot, instances and instance kind (Table 17.4) of a counter. Port counters belong to PORT[n]; their
block is 16 here and the instance's port is added by `countPort`. -/
structure CtrAt where
  blk : Nat
  slot : Nat
  inst : Nat := 1
  kind : Nat := 0
  unit : Nat := 0
deriving DecidableEq, Repr

/-- The slots of the counters. -/
def Ctr.at_ : Ctr → CtrAt
  | .PRIV_REFUSED => ⟨0, 64, 1, 0, 0⟩
  | .BAD_WIDTH => ⟨0, 65, 1, 0, 0⟩
  | .UNMAPPED => ⟨0, 66, 1, 0, 0⟩
  | .MGMT_REFUSED => ⟨0, 67, 1, 0, 0⟩
  | .MGMT_SERVED => ⟨0, 68, 1, 0, 0⟩
  | .RESET_REFUSED => ⟨0, 69, 1, 0, 0⟩
  | .PLAN_DONE => ⟨3, 64, 1, 0, 0⟩
  | .PLAN_REJECTED => ⟨3, 65, 1, 0, 0⟩
  | .FOREIGN_WRITE => ⟨3, 66, 1, 0, 0⟩
  | .PLAN_LATE => ⟨3, 67, 1, 0, 0⟩
  | .LIFETIME_DISCARD => ⟨4, 64, 80, 1, 1⟩
  | .NO_ROUTE => ⟨4, 144, 80, 1, 1⟩
  | .FENCED_DROP => ⟨4, 224, 80, 1, 1⟩
  | .DETOUR_TAKEN => ⟨4, 304, 80, 1, 1⟩
  | .ESCAPE_TAKEN => ⟨4, 384, 80, 1, 1⟩
  | .PIN_ESCAPE => ⟨4, 464, 80, 1, 1⟩
  | .DIM_DONE_MISMATCH => ⟨4, 544, 80, 1, 1⟩
  | .HDR_PARITY => ⟨4, 624, 80, 1, 1⟩
  | .FRAME_TX => ⟨16, 64, 1, 0, 3⟩
  | .FRAME_CRC_FAIL => ⟨16, 65, 1, 0, 3⟩
  | .FEC_CORR => ⟨16, 66, 1, 0, 3⟩
  | .FEC_UNCORR => ⟨16, 67, 1, 0, 3⟩
  | .SEQ_GAP => ⟨16, 68, 1, 0, 1⟩
  | .DUP_CELL_LINK => ⟨16, 69, 1, 0, 1⟩
  | .VOID_SENT => ⟨16, 70, 1, 0, 1⟩
  | .VOID_RX => ⟨16, 71, 1, 0, 1⟩
  | .REPLAY => ⟨16, 72, 1, 0, 0⟩
  | .RETRAIN => ⟨16, 73, 1, 0, 0⟩
  | .CREDIT_OVERRUN => ⟨16, 74, 1, 5, 0⟩
  | .SEQ_WINDOW => ⟨16, 75, 1, 5, 0⟩
  | .MALFORMED => ⟨16, 76, 1, 5, 0⟩
  | .ILLEGAL_VC => ⟨16, 77, 1, 5, 0⟩
  | .UNKNOWN_TYPE => ⟨16, 78, 1, 5, 0⟩
  | .NACK_RCVD => ⟨16, 79, 1, 0, 0⟩
  | .NACK_SUPPRESSED => ⟨16, 80, 1, 0, 0⟩
  | .CHECK_FAIL => ⟨16, 81, 1, 0, 0⟩
  | .CHECK_SKIPPED => ⟨16, 82, 1, 0, 0⟩
  | .AM_BAD => ⟨16, 83, 2, 4, 0⟩
  | .BIP_ERR => ⟨16, 85, 2, 4, 0⟩
  | .LOCK_LOSS => ⟨16, 87, 2, 4, 0⟩
  | .LANE_FAIL => ⟨16, 89, 2, 4, 0⟩
  | .BRINGUP_RETRY => ⟨16, 91, 1, 0, 0⟩
  | .FOREIGN_PAGE => ⟨9, 64, 4, 2, 0⟩
  | .KNOCK_INACTIVE => ⟨9, 68, 4, 2, 0⟩
  | .KNOCK_EXCESS => ⟨9, 72, 4, 2, 0⟩
  | .LB_OVERFLOW => ⟨9, 76, 4, 2, 0⟩
  | .LB_LENGTH => ⟨9, 80, 4, 2, 0⟩
  | .PICKUP_EMPTY => ⟨9, 84, 4, 2, 0⟩
  | .NOT_READY_SENT_PORCH => ⟨9, 88, 4, 2, 0⟩
  | .CTX_FETCH => ⟨9, 92, 4, 2, 0⟩
  | .MATCH_ON_ARRIVAL => ⟨6, 64, 1, 0, 0⟩
  | .MATCH_ON_POST => ⟨6, 65, 1, 0, 0⟩
  | .UNEXP_ADD => ⟨6, 66, 1, 0, 0⟩
  | .SPILL_ADD => ⟨6, 67, 1, 0, 0⟩
  | .SPILL_LOOKUP => ⟨6, 68, 1, 0, 0⟩
  | .REFILL => ⟨6, 69, 1, 0, 0⟩
  | .ORDER_HOLD => ⟨6, 70, 1, 0, 0⟩
  | .STALE_SEND => ⟨6, 71, 1, 0, 0⟩
  | .NOT_READY_SENT => ⟨6, 72, 1, 0, 0⟩
  | .POST_FULL => ⟨6, 73, 1, 0, 0⟩
  | .TRUNCATED => ⟨6, 74, 1, 0, 0⟩
  | .CANCEL_HIT => ⟨6, 75, 1, 0, 0⟩
  | .CANCEL_MISS => ⟨6, 76, 1, 0, 0⟩
  | .VERIFY_BACK_FAIL => ⟨6, 77, 1, 0, 0⟩
  | .ENTRIES_WALKED => ⟨6, 78, 1, 0, 0⟩
  | .KEY_FAULT => ⟨8, 64, 1, 0, 0⟩
  | .RETX => ⟨8, 65, 1, 0, 0⟩
  | .FAST_RETX => ⟨8, 66, 1, 0, 0⟩
  | .DUP_CELL => ⟨8, 67, 1, 0, 1⟩
  | .DUP_SEG => ⟨8, 68, 1, 0, 0⟩
  | .SEQ_AHEAD => ⟨8, 69, 1, 0, 0⟩
  | .STALE_EPOCH => ⟨8, 70, 1, 0, 0⟩
  | .ORPHAN_DISCARD => ⟨8, 71, 1, 0, 0⟩
  | .VEST_FULL => ⟨8, 72, 1, 0, 0⟩
  | .NOT_READY_RCVD => ⟨8, 73, 1, 0, 0⟩
  | .FLOW_RESET => ⟨8, 74, 1, 0, 0⟩
  | .ATOMIC_REPLAY => ⟨8, 75, 1, 0, 0⟩
  | .FENCED_SRC => ⟨8, 76, 1, 0, 0⟩
  | .TIMEOUT => ⟨8, 77, 1, 0, 0⟩
  | .ATB_HIT => ⟨8, 78, 4, 2, 0⟩
  | .ATB_MISS => ⟨8, 82, 4, 2, 0⟩
  | .MISS_MERGED => ⟨8, 86, 4, 2, 0⟩
  | .WALK_READ => ⟨8, 90, 4, 2, 0⟩
  | .WALK_FAULT => ⟨8, 94, 4, 2, 0⟩
  | .WALK_DEVICE => ⟨8, 98, 4, 2, 0⟩
  | .PAGE_REQUEST => ⟨8, 102, 4, 2, 0⟩
  | .STALE_INSTALL => ⟨8, 106, 4, 2, 0⟩
  | .INV_REQUEST => ⟨8, 110, 4, 2, 0⟩
  | .FENCE_SET => ⟨8, 114, 1, 0, 0⟩
  | .FENCE_LIFT => ⟨8, 115, 1, 0, 0⟩
  | .SAFE_DISCARD => ⟨8, 116, 1, 0, 0⟩
  | .SUSPECT_SENT => ⟨8, 117, 1, 0, 0⟩
  | .SUSPECT_DROPPED => ⟨8, 118, 1, 0, 0⟩
  | .SUSPECT_CANCELLED => ⟨8, 119, 1, 0, 0⟩
  | .SUSPECT_UNSENT => ⟨8, 120, 1, 0, 0⟩
  | .OPS_BEGUN => ⟨7, 64, 1, 0, 0⟩
  | .OPS_OK => ⟨7, 65, 1, 0, 0⟩
  | .OPS_FENCED => ⟨7, 66, 1, 0, 0⟩
  | .OPS_ABORTED => ⟨7, 67, 1, 0, 0⟩
  | .CHUNKS_IN => ⟨7, 68, 1, 0, 0⟩
  | .CHUNKS_OUT => ⟨7, 69, 1, 0, 0⟩
  | .CELL_CRC_FAIL => ⟨7, 70, 1, 0, 0⟩
  | .WINDOW_VIOLATION => ⟨7, 71, 1, 0, 0⟩
  | .CTX_WAIT => ⟨7, 72, 1, 0, 0⟩
  | .SEG_ADMITTED => ⟨5, 64, 1, 0, 0⟩
  | .TICKETED => ⟨5, 65, 1, 0, 0⟩
  | .UNTICKETED => ⟨5, 66, 1, 0, 0⟩
  | .TICKET_REQ_SENT => ⟨5, 67, 1, 0, 0⟩
  | .TICKET_GRANT_SENT => ⟨5, 68, 1, 0, 0⟩
  | .TICKET_EXPIRED => ⟨5, 69, 1, 0, 0⟩
  | .PACE_WAIT => ⟨5, 70, 1, 0, 0⟩
  | .WAITLIST_FULL => ⟨5, 71, 1, 0, 0⟩
  | .TIME_SAMPLE => ⟨5, 72, 1, 0, 0⟩
  | .TIME_OUTLIER => ⟨5, 73, 1, 0, 0⟩
  | .TIME_STEP => ⟨5, 74, 1, 0, 0⟩
  | .TIME_FOREIGN => ⟨5, 75, 1, 0, 0⟩
  | .FALLBACK => ⟨5, 76, 1, 0, 0⟩
  | .SET_REFUSED => ⟨5, 77, 1, 0, 0⟩
  | .TAKEN => ⟨11, 64, 1, 0, 0⟩
  | .BUSY_RETURNED => ⟨11, 65, 1, 0, 0⟩
  | .WAIT_TIMEOUT => ⟨11, 66, 1, 0, 0⟩
  | .ABANDONED => ⟨11, 67, 1, 0, 0⟩
  | .FORCED => ⟨11, 68, 1, 0, 0⟩
  | .NOT_OWNER => ⟨11, 69, 1, 0, 0⟩
  | .WAIT_FULL => ⟨11, 70, 1, 0, 0⟩
  | .DUMP_SKIPPED => ⟨12, 64, 1, 0, 0⟩
  | .SNAP_MISSED => ⟨12, 65, 1, 0, 0⟩
  | .SNAP_LATE => ⟨12, 66, 1, 0, 0⟩
  | .TRACE_LOST => ⟨12, 67, 1, 0, 0⟩

/-- The catalogue rows of one block: first slot, instances, instance kind, unit, name number (R431). A port's violations are one name
with an instance for each cause (R153, R156; DEDUCED, log 59: Table 17.4 has the instance kind "cause"). -/
def catalogue : Nat → List (Nat × Nat × Nat × Nat × Nat)
  | 0 => [(64, 1, 0, 0, 1), (65, 1, 0, 0, 2), (66, 1, 0, 0, 3), (67, 1, 0, 0, 4), (68, 1, 0, 0, 5), (69, 1, 0, 0, 6)]
  | 3 => [(64, 1, 0, 0, 1), (65, 1, 0, 0, 2), (66, 1, 0, 0, 3), (67, 1, 0, 0, 4)]
  | 4 => [(64, 80, 1, 1, 1), (144, 80, 1, 1, 2), (224, 80, 1, 1, 3), (304, 80, 1, 1, 4), (384, 80, 1, 1, 5), (464, 80, 1, 1, 6),
     (544, 80, 1, 1, 7), (624, 80, 1, 1, 8)]
  | 16 => [(64, 1, 0, 3, 1), (65, 1, 0, 3, 2), (66, 1, 0, 3, 3), (67, 1, 0, 3, 4), (68, 1, 0, 1, 5), (69, 1, 0, 1, 6),
     (70, 1, 0, 1, 7), (71, 1, 0, 1, 8), (72, 1, 0, 0, 9), (73, 1, 0, 0, 10), (74, 5, 5, 0, 11),
     (79, 1, 0, 0, 12), (80, 1, 0, 0, 13), (81, 1, 0, 0, 14), (82, 1, 0, 0, 15), (83, 2, 4, 0, 16), (85, 2, 4, 0, 17),
     (87, 2, 4, 0, 18), (89, 2, 4, 0, 19), (91, 1, 0, 0, 20)]
  | 9 => [(64, 4, 2, 0, 1), (68, 4, 2, 0, 2), (72, 4, 2, 0, 3), (76, 4, 2, 0, 4), (80, 4, 2, 0, 5), (84, 4, 2, 0, 6),
     (88, 4, 2, 0, 7), (92, 4, 2, 0, 8)]
  | 6 => [(64, 1, 0, 0, 1), (65, 1, 0, 0, 2), (66, 1, 0, 0, 3), (67, 1, 0, 0, 4), (68, 1, 0, 0, 5), (69, 1, 0, 0, 6),
     (70, 1, 0, 0, 7), (71, 1, 0, 0, 8), (72, 1, 0, 0, 9), (73, 1, 0, 0, 10), (74, 1, 0, 0, 11), (75, 1, 0, 0, 12),
     (76, 1, 0, 0, 13), (77, 1, 0, 0, 14), (78, 1, 0, 0, 15)]
  | 8 => [(64, 1, 0, 0, 1), (65, 1, 0, 0, 2), (66, 1, 0, 0, 3), (67, 1, 0, 1, 4), (68, 1, 0, 0, 5), (69, 1, 0, 0, 6),
     (70, 1, 0, 0, 7), (71, 1, 0, 0, 8), (72, 1, 0, 0, 9), (73, 1, 0, 0, 10), (74, 1, 0, 0, 11), (75, 1, 0, 0, 12),
     (76, 1, 0, 0, 13), (77, 1, 0, 0, 14), (78, 4, 2, 0, 15), (82, 4, 2, 0, 16), (86, 4, 2, 0, 17), (90, 4, 2, 0, 18),
     (94, 4, 2, 0, 19), (98, 4, 2, 0, 20), (102, 4, 2, 0, 21), (106, 4, 2, 0, 22), (110, 4, 2, 0, 23), (114, 1, 0, 0, 24),
     (115, 1, 0, 0, 25), (116, 1, 0, 0, 26), (117, 1, 0, 0, 27), (118, 1, 0, 0, 28), (119, 1, 0, 0, 29), (120, 1, 0, 0, 30)]
  | 7 => [(64, 1, 0, 0, 1), (65, 1, 0, 0, 2), (66, 1, 0, 0, 3), (67, 1, 0, 0, 4), (68, 1, 0, 0, 5), (69, 1, 0, 0, 6),
     (70, 1, 0, 0, 7), (71, 1, 0, 0, 8), (72, 1, 0, 0, 9)]
  | 5 => [(64, 1, 0, 0, 1), (65, 1, 0, 0, 2), (66, 1, 0, 0, 3), (67, 1, 0, 0, 4), (68, 1, 0, 0, 5), (69, 1, 0, 0, 6),
     (70, 1, 0, 0, 7), (71, 1, 0, 0, 8), (72, 1, 0, 0, 9), (73, 1, 0, 0, 10), (74, 1, 0, 0, 11), (75, 1, 0, 0, 12),
     (76, 1, 0, 0, 13), (77, 1, 0, 0, 14)]
  | 11 => [(64, 1, 0, 0, 1), (65, 1, 0, 0, 2), (66, 1, 0, 0, 3), (67, 1, 0, 0, 4), (68, 1, 0, 0, 5), (69, 1, 0, 0, 6),
     (70, 1, 0, 0, 7)]
  | 12 => [(64, 1, 0, 0, 1), (65, 1, 0, 0, 2), (66, 1, 0, 0, 3), (67, 1, 0, 0, 4)]
  | _ => []

/-- Count one event in a counter's instance. -/
def tally (c : Ctr) (s : State) (i : Nat := 0) : State := count c.at_.blk (c.at_.slot + i) 1 s

/-- Count `n` events. -/
def tallyN (c : Ctr) (n : Nat) (s : State) (i : Nat := 0) : State := count c.at_.blk (c.at_.slot + i) n s

/-- Count an event of PORT[p]. -/
def tallyPort (c : Ctr) (p : Nat) (s : State) (i : Nat := 0) : State := count (16 + p) (c.at_.slot + i) 1 s

/-- Count `n` events of PORT[p]. -/
def tallyPortN (c : Ctr) (p n : Nat) (s : State) (i : Nat := 0) : State := count (16 + p) (c.at_.slot + i) n s

end Sys2Proof.Machine
end

