-- ==== Sys2Proof/Machine/Residency.lean ====
section
/-! DEFINITION. Rooms by number, the fields of their contexts, residency in the 4,096 context slots, and the pools of the Letterbox and
of Pickup (R183, R184, R202, R207, R210, R211). -/
namespace Sys2Proof.Machine

/-- A room. -/
def State.room (s : State) (r : Nat) : Room := Tab.get s.porch.rooms r {}

/-- Replace a room. -/
def State.setRoom (s : State) (r : Nat) (x : Room) : State :=
  { s with porch := { s.porch with rooms := Tab.set s.porch.rooms r x {} } }

/-- Change a room. -/
def State.modRoom (s : State) (r : Nat) (f : Room → Room) : State := s.setRoom r (f (s.room r))

/-- Run a state change for each item of a list, in order. -/
def forEach {α : Type} (l : List α) (f : α → State → State) (s : State) : State := l.foldl (fun a x => f x a) s

/-- Ring sizes of a room's context (Table 8.3). -/
def Room.workSize (r : Room) : Nat := 2 ^ (wf_ r.ctx 1 0 5)
def Room.cmplSize (r : Room) : Nat := 2 ^ (wf_ r.ctx 2 0 5)
def Room.workBase (r : Room) : Nat := wf_ r.ctx 1 12 52 * 4096
def Room.cmplBase (r : Room) : Nat := wf_ r.ctx 2 12 52 * 4096
def Room.xctx (r : Room) : Nat := wf_ r.ctx 3 32 20
def Room.outMax (r : Room) : Nat := wf_ r.ctx 3 0 13
def Room.pickMax (r : Room) : Nat := wf_ r.ctx 3 16 5
def Room.pinSeg (r : Room) : Bool := (wn r.ctx 0).testBit 24
def Room.pinned (r : Room) : Bool := (wn r.ctx 0).testBit 26
def Room.cmplNotify (r : Room) : Bool := (wn r.ctx 0).testBit 27
def Room.pickNotify (r : Room) : Bool := (wn r.ctx 0).testBit 28
def Room.cmplVec (r : Room) : Nat := wf_ r.ctx 0 32 11
def Room.pickVec (r : Room) : Nat := wf_ r.ctx 0 43 11
def Room.myRank (r : Room) : Nat := wf_ r.ctx 4 0 24
def Room.ctxJob (r : Room) : Nat := wf_ r.ctx 0 0 16
def Room.ctxHport (r : Room) : Nat := wf_ r.ctx 0 16 2
def Room.ctxPart (r : Room) : Nat := wf_ r.ctx 0 18 6
def Room.ctxOrder (r : Room) : Nat := wf_ r.ctx 0 25 1

/-- Free completion slots (R198). -/
def Room.free (r : Room) : Nat := r.cmplSize - (subMod r.written r.head (2 ^ 32)) - r.reserved

/-- Set a bit of ROOM_EVENTS (Table 8.7). -/
def roomEvent (rid bit : Nat) (s : State) : State :=
  s.modRoom rid (fun r => { r with events := if r.events.testBit bit then r.events else r.events + 2 ^ bit, dirty := true,
                                   late := r.late || !r.resident })

/-! Contexts and residency (R183, R184, R210, R211). -/

/-- Words 5 to 30 are as ACTIVATE and RESET clear them: nothing has been counted or recorded since (Tables 8.4 and 8.21). -/
def ctxClear (r : Room) : Bool := r.consumed == 0 && r.written == 0 && r.events == 0

/-- Words 0 to 30 of a room's context; the layout of the device state in words 5 to 30 is open (log 14). -/
def ctxWords (r : Room) : List Word :=
  padWords 5 r.ctx ++ (List.range 26).map (fun i =>
    if ctxClear r then 0 else Config.ctxState r.consumed r.written r.events r.order r.part (5 + i))

/-- The 32 words with CTX_CRC in word 31 (R184). -/
def ctxFull (r : Room) : List Word := ctxWords r ++ [wd (crc32c (wordsBytes (ctxWords r)))]

/-- A fetched context verifies: CTX_CRC over words 0 to 30. -/
def ctxCrcOk (ws : List Word) : Bool := wn ws 31 == crc32c (wordsBytes (padWords 31 ws))

/-- A room takes its fetched context: the device state that it wrote there is the state it keeps; words that it did not write give
values that are not stated, and events recorded meanwhile stand (log 14). -/
def loadCtx (r : Room) (ws : List Word) : Room :=
  let own := (ws.take 31).drop 5
  if own = (ctxWords r).drop 5 ∨ r.late then { r with ctx := padWords 5 ws, late := false }
  else { r with ctx := padWords 5 ws, consumed := Config.ctxRun own 0 % 2 ^ 32, written := Config.ctxRun own 1 % 2 ^ 32,
                events := Config.ctxRun own 2 % 256, order := Config.ctxRun own 3 % 2, part := Config.ctxRun own 4 % 64 }

/-- Bus address of a room's context in the Box room. -/
def boxAddr (s : State) (r : Nat) : Nat := s.get .BOXROOM_BASE_BASE * 2 ^ 24 + 256 * r

/-- Write a room's context to the Box room. -/
def writeBox (r : Nat) (s : State) : State :=
  emit (.hostWrite (s.get .PORCH_CFG_BOX_HPORT) (boxAddr s r) (ctxFull (s.room r))) s

/-- Ask the Box room for a room's context. -/
def readBox (r : Nat) (s : State) : State := emit (.hostRead (s.get .PORCH_CFG_BOX_HPORT) (boxAddr s r) 256 r) s

/-- Rooms that hold or await an on-chip slot. -/
def slotRooms (s : State) : List (Nat × Room) := s.porch.rooms.filter (fun e => e.2.resident || e.2.fetching)

/-- Resident rooms with PINNED set, and those honoured (PIN_LIMIT). -/
def pinnedRooms (s : State) : List Nat := ((s.porch.rooms.filter (fun e => e.2.resident && e.2.pinned)).map (·.1))
def pinHonoured (s : State) (r : Nat) : Bool := ((pinnedRooms s).take (s.get .PORCH_CFG_PIN_LIMIT)).contains r

/-- Segments of a flow's receive side that a room holds parked or held. -/
def parkedOf (s : State) (r : Nat) : List RSeg :=
  s.thresh.flows.flatMap (fun e => e.2.recv.segs.filter (fun g =>
    g.park.isSome && g.park != some .reads && (match g.lead with | some c => leadDestRoom c.body == r | none => false)))

/-- Vestibule bytes of a segment (R212): 80 for each cell held. -/
def vestBytes (g : RSeg) : Nat := 80 * (g.got.length + b2n g.lead.isSome)

/-- A room may be parked (R210). An accepted arrival that holds a completion slot of the room counts as an operation outstanding
(log 14). -/
def evictable (s : State) (r : Nat) : Bool :=
  let q := s.room r
  q.resident && !pinHonoured s r && q.outstanding == 0 && q.grant == 0 && q.heldLb == 0 && q.openPkt.isEmpty && q.closed.isEmpty
    && q.reserved == 0 && q.pickups.isEmpty && (parkedOf s r).isEmpty && (s.porch.cmdRoom.all (fun c => c.1 != r))

/-- The evictable room used least recently. -/
def victim (s : State) : Option Nat :=
  (s.porch.rooms.filter (fun e => evictable s e.1)).foldl (fun (b : Option (Nat × Nat)) e =>
    match b with
    | some x => if e.2.lastUse < x.2 then some (e.1, e.2.lastUse) else b
    | none => some (e.1, e.2.lastUse)) none |>.map (·.1)

/-- Park a room: its context goes back to the Box room if it changed. -/
def parkRoom (r : Nat) (s : State) : State :=
  let s1 := if (s.room r).dirty then writeBox r s else s
  s1.modRoom r (fun q => { q with resident := false, dirty := false })

/-- Read a room's context from the Box room. -/
def issueFetch (r : Nat) (s : State) : State :=
  readBox r (tally .CTX_FETCH ({ s with porch := { s.porch with waitSlot := s.porch.waitSlot.filter (· != r) } }.modRoom r
    (fun q => { q with fetching := true })) (s.room r).hport)

/-- A slot is free, or a room in one can be parked. -/
def slotAvail (s : State) : Bool := decide ((slotRooms s).length < 4096) || (victim s).isSome

/-- A room takes a slot that is available, the victim's where none is free (R210). -/
def takeSlot (r : Nat) (s : State) : State :=
  issueFetch r (if (slotRooms s).length < 4096 then s else forEach (victim s).toList parkRoom s)

/-- Start making a room resident (Table 8.19); with no slot free and no victim, it waits (R210). -/
def startFetch (r : Nat) (s : State) : State :=
  if (s.room r).resident || (s.room r).fetching then s
  else if slotAvail s then takeSlot r s
  else event 9 .PORCH_EVENTS_RESIDENCY_FULL { s with porch := { s.porch with
        waitSlot := if s.porch.waitSlot.contains r then s.porch.waitSlot else s.porch.waitSlot ++ [r] } }

/-- A request that waits for a slot takes one that has become free or evictable. -/
def serveSlots (s : State) : State :=
  match s.porch.waitSlot with
  | [] => s
  | r :: _ => if slotAvail s && !((s.room r).resident || (s.room r).fetching) then takeSlot r s else s

/-- A room command ends with a RESULT. -/
def endCmd (result : Nat) (s : State) : State :=
  serveSlots (event 9 .PORCH_EVENTS_CMD_DONE ((({ s with porch := { s.porch with cmdRoom := none } }.set .ROOM_CMD_STAT_BUSY 0)).set
    .ROOM_CMD_STAT_RESULT result))

/-- Give Letterbox bytes that a room holds back to the pool; a reset has given them back already (Table 8.21). -/
def lbReturn (r n : Nat) (s : State) : State :=
  let k := min n (s.room r).heldLb
  let s1 := s.modRoom r (fun q => { q with heldLb := q.heldLb - k })
  serveSlots { s1 with porch := { s1.porch with lbUsed := s1.porch.lbUsed - k } }

/-- Bytes of a packet: its work entry and its payload words. -/
def packetBytes (payload : List Word) : Nat := 64 + 8 * payload.length

/-- The Letterbox bytes of an operation return as its packet's last cell enters the Hall, or as the packet is discarded (R202). -/
def lbDone (i : Nat) (s : State) : State :=
  match Tab.find? s.thresh.ops i with
  | some o =>
    match o.lb with
    | some ws => lbReturn o.room (packetBytes ws) { s with thresh := { s.thresh with ops := Tab.modify s.thresh.ops i (fun o => { o with lb := none }) } }
    | none => s
  | none => s

/-- Free Pickup space that a room holds. -/
def pickReturn (r n : Nat) (s : State) : State :=
  let k := min n (s.room r).pickUsed
  let s1 := s.modRoom r (fun q => { q with pickUsed := q.pickUsed - k })
  serveSlots { s1 with porch := { s1.porch with pickUsed := s1.porch.pickUsed - k } }

end Sys2Proof.Machine
end

