-- ==== Sys2Proof/Machine/Ops.lean ====
section
/-! DEFINITION. The named operations the commands share: ports, rooms and flows by number, names of nodes, jobs and ports,
cell injection, completion entries and room notices, faults (R349 to R361), suspects (R362 to R365), fall-back to Marked
service (R62, R343). -/
namespace Sys2Proof.Machine

/-! Ports, rooms and flows by number. -/

/-- A port's state. -/
def State.port (s : State) (p : Nat) : PortSt := Tab.get s.ports p {}

/-- Replace a port's state. -/
def State.setPort (s : State) (p : Nat) (x : PortSt) : State := { s with ports := Tab.set s.ports p x {} }

/-- Change a port's state. -/
def State.modPort (s : State) (p : Nat) (f : PortSt → PortSt) : State := s.setPort p (f (s.port p))

/-- A peer flow context. -/
def State.flow (s : State) (x : Nat) : Flow := Tab.get s.thresh.flows x {}

/-- Replace a flow context. -/
def State.setFlow (s : State) (x : Nat) (f : Flow) : State :=
  { s with thresh := { s.thresh with flows := Tab.set s.thresh.flows x f {} } }

/-- Change a flow context. -/
def State.modFlow (s : State) (x : Nat) (f : Flow → Flow) : State := s.setFlow x (f (s.flow x))

/-- Change the send side of a flow. -/
def State.modSend (s : State) (x : Nat) (f : SendSt → SendSt) : State :=
  s.modFlow x (fun w => { w with send := f w.send })

/-- Change the receive side of a flow. -/
def State.modRecv (s : State) (x : Nat) (f : RecvSt → RecvSt) : State :=
  s.modFlow x (fun w => { w with recv := f w.recv })

/-- The first element that satisfies a test. -/
def pick {α : Type} (l : List α) (p : α → Bool) : Option α := l.find? p

/-! Names. -/

/-- This device's node identifier. -/
def State.own (s : State) : Nat := s.get .NODE_ID_NODE

/-- Node index of an identifier under the installed plan (R87). -/
def State.idxOf (s : State) (id : Nat) : Nat := nodeIndex s.plan.sizes id

/-- This device's node index. -/
def State.ownIdx (s : State) : Nat := s.idxOf s.own

/-- The identifier with a node index (the inverse of R87). -/
def State.nodeOf (s : State) (x : Nat) : Nat :=
  let a := dimSize s.plan.sizes 0
  let b := dimSize s.plan.sizes 1
  let c := dimSize s.plan.sizes 2
  if s.plan.dims = 1 then x
  else if s.plan.dims = 2 then x % a + 32 * (x / a)
  else if s.plan.dims = 3 then x % a + 32 * (x / a % b) + 1024 * (x / a / b)
  else x % a + 32 * (x / a % b) + 1024 * (x / a / b % c) + 32768 * (x / a / b / c)

/-- The fence bit of a node index. -/
def State.fenced (s : State) (x : Nat) : Bool := s.fault.fences.contains x

/-- A domain is on (R375). -/
def State.domainOn (s : State) (d : Nat) : Bool :=
  if d < 64 then (s.get .DOMAIN_STAT_LO_ON).testBit d else (s.get .DOMAIN_STAT_HI_ON).testBit (d - 64)

/-- PORT_ROLES word of a port (Table 2.4). -/
def State.roleWord (s : State) (p : Nat) : Nat := s.plan.roles.getD p 0

/-- ROLE of a port. -/
def State.role (s : State) (p : Nat) : Nat := bits (s.roleWord p) 0 3

/-- PEER_COORD of a port. -/
def State.peerCoord (s : State) (p : Nat) : Nat := bits (s.roleWord p) 3 5

/-- The peer of a port (chapter 5): by coordinate for a dimension port, PEER_NODE for a service port. -/
def State.peerNode (s : State) (p : Nat) : Nat :=
  let r := s.role p
  if 1 ≤ r ∧ r ≤ 4 then setCoord s.own (r - 1) (s.peerCoord p) else bits (s.roleWord p) 20 20

/-- The port's link is up and neither paused nor retraining, and its domain is on (R100). -/
def State.linkUp (s : State) (p : Nat) : Bool := s.get .PORT_STAT_STATE p == 3 && s.domainOn p

/-- The peer of the port is fenced. -/
def State.peerFenced (s : State) (p : Nat) : Bool := s.role p != 0 && s.fenced (s.idxOf (s.peerNode p))

/-- The port is available for routing (R100). -/
def State.avail (s : State) (p : Nat) : Bool := decide (p < 72) && s.linkUp p && !s.peerFenced p

/-- Unavailable only because the peer is fenced (R100). -/
def State.fencedOff (s : State) (p : Nat) : Bool := decide (p < 72) && s.linkUp p && s.peerFenced p

/-- The job slot that is valid and holds a job (R89, R91). DESIGN CHOICE, log 12: where two valid slots hold one job, which R94 calls
unpredictable, the lower one is used beside the free outcome that fell on the job as the second became valid. -/
def State.jobSlot (s : State) (job : Nat) : Option Nat :=
  s.fld.findSome? (fun e =>
    if e.1 % 1024 = Fld.JOB_SLOT_VALID.ctorIdx ∧ e.2 = 1 ∧ s.get .JOB_SLOT_JOB (e.1 / 1024) = job then some (e.1 / 1024)
    else none)

/-- A channel of the installed plan exists (R108). -/
def State.hasVc (s : State) (v : Nat) : Bool := (s.get .HALL_STAT_VC_SET).testBit v

/-- Level of a fault block. -/
def State.level (s : State) (b : Nat) : Nat := s.get .FAULT_STAT_LEVEL b

/-- Device level (R353). -/
def State.devLevel (s : State) : Nat := s.get .DEV_FAULT_LEVEL

/-- Host-side work is stopped: device level L3 or above (R354), or the host-side reset runs (R356). -/
def State.hostStopped (s : State) : Bool := decide (3 ≤ s.devLevel) || s.flag .DEV_FAULT_HOST_RESET_BUSY

/-- The Crystalliser serves (its domain on, not isolated: Table 14.1). -/
def State.crystalOn (s : State) : Bool := s.domainOn 76 && decide (s.level 6 < 2)

/-- The Rake serves. -/
def State.rakeOn (s : State) : Bool := s.domainOn 77 && decide (s.level 7 < 2)

/-- The Cellar serves. -/
def State.cellarOn (s : State) : Bool := s.domainOn 78 && decide (s.level 10 < 2)

/-- Core scale of R26 for the selected operating point: the target period T in ps (R25). -/
def targetPs (op : Nat) : Nat := if op = 0 then 450 else if op = 1 then 550 else 800

/-- Word `i` of the budgets of the operating point in force (Table 2.5): allowance KiB, segments per µs, tickets per µs. -/
def State.budgetRow (s : State) : Nat × Nat × Nat := s.plan.budgets.getD s.sluice.opPoint (0, 0, 0)

/-! Cells. -/

/-- A new single cell from this device to a node (R75). -/
def State.mkCell (s : State) (ty vc dst : Nat) (body : List Word) : Cell :=
  single ty vc s.own dst (dimDone0 s.plan.dims s.plan.sizes s.own dst) body

/-- Put cells into the injection queue of a Hall input 72 to 79. -/
def inject (input : Nat) (cs : List Cell) (s : State) (pin : Bool := false) (lb : Option Nat := none) : State :=
  let new := cs.map (fun c => ({ cell := c, input := input, stamp := 0, vcIn := c.vc, wantPin := pin,
                                 lbOp := if c.last then lb else none } : HCell))
  { s with hall := { s.hall with inj := Tab.set s.hall.inj input (Tab.get s.hall.inj input [] ++ new) [] } }

/-- Put one cell with a replication set into the Rake's input (R120). -/
def injectTree (c : Cell) (copies : List Nat) (s : State) : State :=
  let new : HCell := { cell := c, input := 77, stamp := 0, vcIn := 1, copies := copies, multicast := true }
  { s with hall := { s.hall with inj := Tab.set s.hall.inj 77 (Tab.get s.hall.inj 77 [] ++ [new]) [] } }

/-- A cell of this device on the response adaptive channel (ACK, NACK, TICKET), from the Threshold (Table 5.1). A set without
VC5 sends it on the escape channel. -/
def sendResp (ty dst : Nat) (body : List Word) (s : State) : State :=
  inject 78 [s.mkCell ty (if s.hasVc 5 then 5 else 6) dst body] s

/-! Completion entries and room notices (R195 to R198, R213, R214, R455). -/

/-- A completion entry reaches the ring: words 1 to 3 first, word 0 with PHASE last (R197). -/
def writeEntry (rid : Nat) (c : Cmpl) (s : State) : State :=
  let r := s.room rid
  let m := r.cmplSize
  let addr := r.cmplBase + 32 * (r.written % m)
  let ws := c.words (phaseOf r.written m)
  let s1 := s.setRoom rid { r with written := (r.written + 1) % 2 ^ 32, dirty := true,
                                   armed := r.armed && !r.cmplNotify }
  let s2 := if s.flag .HPORT_STAT_MODE r.hport then emit (.hostWrite r.hport addr ws) s1
    else emit (.hostWrite r.hport addr (ws.take 1)) (emit (.hostWrite r.hport (addr + 8) (ws.drop 1)) s1)
  if r.cmplNotify && r.armed then sendMsix r.hport r.cmplVec s2 else s2

/-- A completion under an unpredictable outcome (R12): lost, written twice, with another status, or as it is. -/
def riskyEntry (rid : Nat) (c : Cmpl) (silent : Bool) (s : State) : State :=
  let (v, s1) := draw s
  let c1 := if v % 4 = 1 then { c with status := v / 4 % 27 } else c
  if v % 4 = 2 || (silent && c1.status == 0) then s1
  else if v % 4 = 3 then writeEntry rid c1 (writeEntry rid c1 s1) else writeEntry rid c1 s1

/-- Complete: release the reserved slot if one is held, and write the entry while the room is ACTIVE (R455, R215) unless
the completion is a silent OK (Table 8.10). Nothing is written at L3 or above (R355). -/
def complete (rid : Nat) (c : Cmpl) (slot : Bool) (silent : Bool) (s : State) : State :=
  let s1 := s.modRoom rid (fun r => { r with reserved := r.reserved - b2n slot })
  serveSlots (if s1.hostStopped || (s1.room rid).st != 1 then s1
    else if (s1.room rid).risk then riskyEntry rid c silent s1
    else if silent && c.status == 0 then s1 else writeEntry rid c s1)

/-- Complete a work entry: its operation is no longer outstanding (R194). -/
def completeWork (rid : Nat) (e : List Word) (c : Cmpl) (s : State) : State :=
  complete rid c true (weSilent e) (s.modRoom rid (fun r => { r with outstanding := r.outstanding - 1 }))

/-- A completion of a work entry with a status and no data. -/
def statusOf (e : List Word) (status aux : Nat) : Cmpl :=
  { op := weOp e, status := status, rank := weRank e, ctx := if weOp e = 2 then weCtx e else 0,
    cookie := weCookie e, tag := if weOp e = 0x40 then weTag e else 0, aux := aux }

/-- Complete a work entry with a status. -/
def failWork (rid : Nat) (e : List Word) (status : Nat) (s : State) (aux : Nat := 0) : State :=
  completeWork rid e (statusOf e status aux) s

/-- A room enters ERROR with a cause (R213): ERROR_SEEN, the Porch event, the error notice. For a context that could not be
used (causes 1 and 2) the vector is not known and is a free value; an INACTIVE room enters ERROR for such a context too. -/
def roomError (rid cause : Nat) (s : State) : State :=
  let r := s.room rid
  let bad := decide (cause = 1 ∨ cause = 2)
  if r.st != 1 && !(bad && r.st == 0) then s
  else
    let s1 := event 9 .PORCH_EVENTS_ROOM_ERROR (roomEvent rid 5 (s.setRoom rid { r with st := 2, err := cause, armed := false }))
    if cause = 1 ∨ cause = 2 then
      let (v, s2) := draw s1
      sendMsix r.hport (16 + v % 2032) s2
    else sendMsix r.hport r.cmplVec s1

/-! Service (R62, R343). -/

/-- Effects of Scheduled to Marked on flows: held tickets discarded, requests stop, rates start at RATE_INIT (Table 13.4). -/
def marksBegin (s : State) : State :=
  { s with thresh := { s.thresh with flows := Tab.mapD s.thresh.flows {} (fun _ f =>
      { f with send := { f.send with held := [], rate := none, lastReq := none } }) } }

/-- The device falls back to Marked service for a cause (R62); a fall-back names its first cause only. -/
def serviceFallback (cause port : Nat) (s : State) : State :=
  if s.flag .SLUICE_MODE_SERVICE then
    let s1 := ((s.set .SLUICE_MODE_SERVICE 0).set .SLUICE_MODE_FALLBACK_CAUSE cause).set .SLUICE_MODE_FALLBACK_PORT port
    event 5 .SLUICE_EVENTS_FALLBACK (tally .FALLBACK (marksBegin s1))
  else s

/-- Bin of a depth or sojourn histogram (R344). -/
def histBin (v : Nat) : Nat := if v = 0 then 0 else min 15 (Nat.log2 v + 1)

/-- Key of a histogram bin: queue, kind (0 depth, 1 delay), bin. -/
def histKey (q kind b : Nat) : Nat := q * 32 + kind * 16 + b

/-- Add 1 to the bin of a value; a bin of 48 bits holds at its largest value (R344). -/
def histAdd (q kind v : Nat) (s : State) : State :=
  let k := histKey q kind (histBin v)
  let n := Tab.get s.sluice.hist k 0
  { s with sluice := { s.sluice with hist := Tab.set s.sluice.hist k (min (n + 1) (2 ^ 48 - 1)) 0 } }

/-! Suspects (R362 to R365). -/

/-- Send a VC0 cell of this device through the Housekeepers' Hall input (Table 5.1). -/
def sendVc0 (ty dst : Nat) (body : List Word) (s : State) : State := inject 79 [s.mkCell ty 0 dst body] s

/-- Send the notice of a suspect entry (R365, Table 14.9). -/
def sendSuspect (e : Suspect) (kind : Nat) (s : State) : State :=
  if s.flag .SUSPECT_CFG_FM_VALID then
    let body := [wd (at_ e.node 0 17 + at_ kind 17 2 + at_ (if kind = 1 then e.port else 127) 19 7
      + at_ (if kind = 1 then e.cause else 0) 26 4 + at_ (b2n e.rpt) 30 1 + at_ e.obs 48 16), wd e.first,
      wd (at_ (min e.rooms.length 65535) 0 16)]
    event 8 .SUSPECT_EVENTS_SENT (tally .SUSPECT_SENT (sendVc0 tySuspect (s.get .SUSPECT_CFG_FM_NODE) body s))
  else tally .SUSPECT_UNSENT s

/-- Replace an entry of the suspect table. -/
def putSuspect (i : Nat) (e : Suspect) (s : State) : State :=
  { s with fault := { s.fault with suspects := Tab.put s.fault.suspects i e } }

/-- Free an entry of the suspect table. -/
def freeSuspect (i : Nat) (s : State) : State :=
  { s with fault := { s.fault with suspects := Tab.del s.fault.suspects i } }

/-- End of a hold-off that starts now. -/
def holdEnd (s : State) : Nat := s.now + s.get .SUSPECT_CFG_HOLDOFF_MS * 1000000

/-- A new observation of a node that has an entry (R363, step 1). -/
def observeAgain (i : Nat) (e : Suspect) (kind : Nat) (room : Option Nat) (port cause : Nat) (s : State) : State :=
  let rooms := match room with
    | some r => if kind = 2 ∧ !e.rooms.contains r then e.rooms ++ [r] else e.rooms
    | none => e.rooms
  let e1 := { e with obs := min 65535 (e.obs + 1), rooms := rooms, rpt := e.rpt || e.st == 2 }
  if kind = 1 ∧ e.st = 1 then
    let e2 := { e1 with port := port, cause := cause }
    sendSuspect e2 1 (putSuspect i { e2 with st := 2, until_ := holdEnd s } s)
  else putSuspect i e1 s

/-- The entry a new observation takes: a FREE one, else the oldest HOLD entry without REPEAT (R363, step 2). -/
def suspectSlot (s : State) : Option Nat :=
  match (List.range 64).find? (fun i => (Tab.find? s.fault.suspects i).isNone) with
  | some i => some i
  | none =>
    (s.fault.suspects.filter (fun e => e.2.st == 2 && !e.2.rpt)).foldl (fun (b : Option (Nat × Suspect)) e =>
      match b with
      | some x => if e.2.order < x.2.order then some e else some x
      | none => some e) none |>.map (·.1)

/-- A suspect observation of a node index (R363). Kind 1 LINK, 2 END_TO_END. -/
def suspectObserve (kind x : Nat) (room : Option Nat) (port cause : Nat) (s : State) : State :=
  match List.find? (fun e => e.2.node == x) s.fault.suspects with
  | some (i, e) => observeAgain i e kind room port cause s
  | none =>
    match suspectSlot s with
    | none => event 8 .SUSPECT_EVENTS_DROPPED (tally .SUSPECT_DROPPED s)
    | some i =>
      let s1 := { s with fault := { s.fault with suspectNo := s.fault.suspectNo + 1 } }
      let rooms := match room with
        | some r => if kind = 2 then [r] else []
        | none => []
      if kind = 1 then
        let e : Suspect := { node := x, st := 2, kind := 1, first := s.netNs, until_ := holdEnd s, port := port,
                             cause := cause, order := s.fault.suspectNo }
        sendSuspect e 1 (putSuspect i e s1)
      else
        let (j, s2) := draw s1
        putSuspect i { node := x, st := 1, kind := 2, rooms := rooms, first := s.netNs, order := s.fault.suspectNo,
                       until_ := s.now + (j % (s.get .SUSPECT_CFG_JITTER_US + 1)) * 1000 } s2

/-! Faults (R346 to R361). -/

/-- The ceiling of a block is L2 (Table 14.1). -/
def ceilingL2 (b : Nat) : Bool := !(b == 0 || b == 4 || b == 5 || b == 8 || b == 9 || b == 10)

/-- A class escalates (Table 14.3). -/
def escalates (c : Nat) : Bool := !(c == 6 || c == 7 || c == 8 || c == 9)

/-- Block IDs (Table 14.1). -/
def blockIds : List Nat := List.range 14 ++ (List.range 72).map (· + 16)

/-- What a block contributes to the device level (R353). -/
def contribution (s : State) (b : Nat) : Nat :=
  let l := s.level b
  let c := if l < 2 then l else if b = 4 then 4 else if ceilingL2 b then 2 else 3
  if s.fault.l3.contains b then max c 3 else c

/-- The device level the blocks give now (R353). -/
def levelNow (s : State) : Nat :=
  if s.fault.l4 then 4 else blockIds.foldl (fun m b => max m (contribution s b)) 0

/-- Level of a class when first raised (Table 14.3). -/
def classLevel (c : Nat) : Nat :=
  if c = 1 ∨ c = 8 ∨ c = 18 then 2 else if c = 2 then 3
  else if c = 3 ∨ c = 7 ∨ c = 12 ∨ c = 14 ∨ c = 15 ∨ c = 17 ∨ c = 19 ∨ c = 21 ∨ c = 23 ∨ c = 24 then 1 else 0

/-- The classes Table 14.3 gives a block. -/
def classOf (b c : Nat) : Bool :=
  let port := decide (16 ≤ b) && decide (b ≤ 87)
  if c = 1 ∨ c = 2 then port || decide (b ≤ 13)
  else if c = 3 then port || b == 0 || (decide (4 ≤ b) && decide (b ≤ 10))
  else if c = 4 then port || b == 4
  else if 5 ≤ c ∧ c ≤ 9 then port
  else if c = 10 then b == 8
  else if c = 11 ∨ (16 ≤ c ∧ c ≤ 18) then b == 10
  else if c = 12 then b == 6 || b == 8
  else if c = 13 ∨ c = 14 then b == 6
  else if c = 15 ∨ c = 19 then b == 9
  else if c = 20 ∨ c = 21 then port || b == 0 || b == 3 || (decide (4 ≤ b) && decide (b ≤ 10)) || b == 12
  else if c = 22 then b == 5
  else if c = 23 then b == 13
  else if c = 24 then b == 2
  else if c = 25 then b == 1
  else c == 26 && b == 7

/-- Add an entry to a history queue of 8 (R157, R360). -/
def addHist (b hi : Nat) (s : State) : State :=
  let q := Tab.get s.fault.hist b []
  { s with fault := { s.fault with hist := Tab.set s.fault.hist b (({ ns := s.netNs, hi := hi } :: q).take 8) [] } }

/-- A port history event (Table 6.19). -/
def portHist (p ev detail lseq vc : Nat) (s : State) : State :=
  addHist (16 + p) (at_ ev 0 8 + at_ detail 8 8 + at_ lseq 16 16 + at_ vc 32 3) s

/-- Body of a FAULT_NOTICE (Table 14.7). -/
def noticeBody (s : State) (b cls devl : Nat) (esc : Bool) (unit detail : Nat) : List Word :=
  [wd (at_ s.own 0 20 + at_ b 20 8 + at_ cls 28 6 + at_ (s.level b) 34 3 + at_ devl 37 3 + at_ (b2n esc) 40 1),
   wd s.netNs, wd (at_ unit 0 16 + at_ detail 32 32), wd (s.get .RECOVERY_COUNT_COUNT b)]

/-- Send a FAULT_NOTICE, at most one per block in 1 ms, while FM_VALID is 1 (R361). -/
def sendNotice (b cls devl : Nat) (esc : Bool) (unit detail : Nat) (s : State) : State :=
  if !s.flag .SUSPECT_CFG_FM_VALID then s
  else if (match Tab.find? s.fault.noticeAt b with | some t => decide (s.now < t + 1000000) | none => false) then
    event b .FAULT_EVENTS_NOTICE_SUPPRESSED s b
  else
    sendVc0 tyFault (s.get .SUSPECT_CFG_FM_NODE) (noticeBody s b cls devl esc unit detail)
      { s with fault := { s.fault with noticeAt := Tab.put s.fault.noticeAt b s.now } }

/-- The lanes of a port that goes down: off unless failed, and carrying nothing (Table 7.13). -/
def lanesDown (p : Nat) (s : State) : State :=
  forEach [2 * p, 2 * p + 1] (fun i a =>
    let a1 := if a.get .LANE_STAT_STATE i = 5 then a else a.set .LANE_STAT_STATE 0 i
    (a1.set .LANE_STAT_TX_CARRY 0 i).set .LANE_STAT_RX_CARRY 0 i) s

/-- A network port that is not down begins the sequence of R151 toward a down cause; one in bring-up goes down at once. -/
def drainPort (cause p : Nat) (s : State) : State :=
  let st := s.get .PORT_STAT_STATE p
  if st = 0 then s
  else if st < 3 then
    let s1 := (s.set .PORT_STAT_STATE 0 p).set .PORT_STAT_DOWN_CAUSE cause p
    event (16 + p) .PORT_EVENTS_DOWN_SEEN (portHist p 2 cause 0 0 (lanesDown p
      (s1.modPort p (fun x => { x with phase := .idle, downAt := s.now, adminAt := none, goingDownAt := none, attemptAt := none })))) p
  else (s.set .PORT_STAT_STATE 6 p).modPort p (fun x =>
    { x with downAsked := cause, adminAt := some (s.now + 100000), goingDownAt := none, retrainAt := none })

/-- Every ACTIVE room enters ERROR with cause PORCH_FAULT (Table 14.4, step 4). -/
def stopRooms (s : State) : State := forEach (s.porch.rooms.map (·.1)) (fun r a => roomError r 4 a) s

/-- Host-side work stops (Table 14.4, steps 2 to 4). -/
def enterSafe (s : State) : State := stopRooms (serviceFallback 3 0 s)

/-- Entry to L4 beyond the steps of L3 (R357): every port drains, and the reset counts down. -/
def enterOff (s : State) : State :=
  let s1 := forEach (List.range 72) (fun p a => drainPort 7 p a) s
  let hold := s.flag .DEV_FAULT_CTRL_L4_HOLD
  let s2 := s1.set .DEV_FAULT_L4_RESET_PENDING (b2n (!hold))
  let at1 := s.now + s.get .DEV_FAULT_CTRL_L4_RESET_MS * 1000000
  { s2 with fault := { s2.fault with l4At := if hold then none else some at1 } }

/-- Set DEV_FAULT to a new device level and its cause. -/
def setDevFault (l b cls : Nat) (s : State) : State :=
  ((s.set .DEV_FAULT_LEVEL l).set .DEV_FAULT_CAUSE_BLOCK b).set .DEV_FAULT_CAUSE_CLASS cls

/-- The device level after a fault of a block: a rise enters the Safe state (R354) or the Off-fabric state (R357). The level
falls below L3 and L4 only through resets (R353). -/
def updateDevice (b cls : Nat) (s : State) : State :=
  let old := s.devLevel
  let new := levelNow s
  if new ≤ old then s
  else
    let s1 := if 3 ≤ new ∧ old < 3 then enterSafe s else s
    let s2 := if 4 ≤ new then enterOff s1 else s1
    setDevFault new b cls s2

/-- The device level after a block's level fell (R353): it does not fall from L3 or L4. -/
def recomputeDevice (s : State) : State :=
  let new := levelNow s
  if 3 ≤ s.devLevel then s
  else if new = 0 then setDevFault 0 0 0 s
  else
    match blockIds.find? (fun b => contribution s b == new) with
    | some b => setDevFault new b (s.get .FAULT_STAT_FIRST_CLASS b) s
    | none => s

/-- A repeat of a class that has not been acknowledged escalates it (R349). -/
def faultEscalates (b cls : Nat) (s : State) : Bool := escalates cls && (s.get .FAULT_UNACK_UNACK b).testBit (cls - 1)

/-- The block's level after a class is detected at a level: it rises to it, up to the block's ceiling (R349, R351). -/
def faultLevel (b l : Nat) (s : State) : Nat := max (s.level b) (min l (if ceilingL2 b then 2 else 3))

/-- The fault registers after a class is detected at level `l` (Table 14.5), and a block lost beyond repair (CONTAINED). -/
def faultMarks (b cls l : Nat) (esc : Bool) (s : State) : State :=
  let un := s.get .FAULT_UNACK_UNACK b
  let s1 := if un.testBit (cls - 1) then s else s.set .FAULT_UNACK_UNACK (un + 2 ^ (cls - 1)) b
  let s2 := (s1.set .FAULT_STAT_LEVEL (faultLevel b l s) b).set .FAULT_STAT_LAST_CLASS cls b
  let s3 := if s.level b < faultLevel b l s then s2.set .FAULT_STAT_FIRST_CLASS cls b else s2
  let s4 := if ceilingL2 b ∧ 2 < l ∧ cls ≠ 2 then s3.set .FAULT_STAT_STICKY 1 b else s3
  if cls = 2 then { s4 with fault := { s4.fault with l3 := if s4.fault.l3.contains b then s4.fault.l3 else b :: s4.fault.l3,
                                                     l4 := s4.fault.l4 || esc } } else s4

/-- A detected fault is recorded and counted, and the block's events are set; a level above 1 ends Scheduled service. -/
def faultRecord (b cls l unit d : Nat) (esc injected rises : Bool) (s : State) : State :=
  let s1 := if b < 16 then addHist b (at_ cls 0 6 + at_ l 6 3 + at_ (b2n esc) 9 1 + at_ (b2n injected) 10 1 + at_ unit 16 16 + at_ d 32 32) s
    else if escalates cls then portHist (b - 16) 10 cls unit 0 s else s
  let s2 := count b cls 1 (count b 0 1 s1)
  let s3 := if rises then event b .FAULT_EVENTS_LEVEL_RAISED s2 b else s2
  let s4 := if esc then event b .FAULT_EVENTS_ESCALATED s3 b else s3
  if 2 ≤ s4.level b then serviceFallback 3 0 s4 else s4

/-- The device follows a block's fault: its level, its notice, and the block's quiet period (R353, R361, R350). -/
def faultDevice (b cls l unit d : Nat) (esc : Bool) (s : State) : State :=
  let dev := levelNow s
  let s1 := updateDevice b cls s
  let s2 := if s.get .FAULT_CFG_NOTIFY_LEVEL b ≤ l ∨ (3 ≤ dev ∧ s.devLevel < dev) then
    sendNotice b cls (max dev s.devLevel) esc unit d s1 else s1
  { s2 with fault := { s2.fault with quietAt := Tab.put s2.fault.quietAt b (s.now + s.get .FAULT_CFG_QUIET_MS b * 1000000) } }

/-- A block detects a fault (R349). A block at L2 or above is a fall-back cause (R62). -/
def raiseCore (b cls lvl unit detail : Nat) (s : State) (injected : Bool := false) : State :=
  let esc := faultEscalates b cls s
  let l := lvl + b2n esc
  let d := if injected then 0xFFFFFFFF else detail
  let rises := decide (s.level b < faultLevel b l s)
  faultDevice b cls l unit d esc (faultRecord b cls l unit d esc injected rises (faultMarks b cls l esc s))

/-- Raise a class at its level of Table 14.3. -/
def raise (b cls unit detail : Nat) (s : State) : State := raiseCore b cls (classLevel cls) unit detail s

/-! Unpredictable outcomes (R12 to R14). -/

/-- An unpredictable outcome may raise a class in a block: the block's level stays within the cap, and no link goes down. -/
def riskClass (b cap c : Nat) (s : State) : Bool :=
  let esc := faultEscalates b c s
  classOf b c && b != 4 && !(c == 2 && esc) && decide (max (s.level b) (classLevel c + b2n esc) ≤ max (s.level b) cap)
    && decide (classLevel c + b2n esc ≤ cap)

/-- Host memory of a room, as bus address and bytes: its rings, and the pages that the address translation buffer holds for its
context. -/
def roomMemory (s : State) (rid : Nat) : List (Nat × Nat) :=
  let r := s.room rid
  [(r.workBase, 64 * r.workSize), (r.cmplBase, 32 * r.cmplSize)]
    ++ ((Tab.get s.thresh.atb r.hport []).filter (fun e => e.2.ctx == r.xctx)).map (fun e => (e.2.bpage * 4096, 4096 * 2 ^ (9 * e.2.size)))

/-- Wrong data: whether a range is written, where in it, and with which bytes are free values. -/
def wildWrite (h : Nat) (range : Nat × Nat) (s : State) : State :=
  let (v, s1) := draw s
  let (n, s2) := draw s1
  let at1 := v / 2 % (range.2 + 1)
  let len := n % (range.2 + 1 - at1)
  if v % 2 = 0 then s2
  else emit (.hostBytes h (range.1 + at1) ((List.range len).map (fun i => Config.freeNat (s2.free + i) % 256)))
    { s2 with free := s2.free + len }

/-- An operation of the room may hang until its timeout. -/
def wildOp (i : Nat) (s : State) : State :=
  let (v, s1) := draw s
  if v % 2 = 0 then s1
  else { s1 with thresh := { s1.thresh with ops := Tab.modify s1.thresh.ops i (fun o => { o with hung := true }) } }

/-- An unpredictable outcome falls on a room (R12): until its reset, its completions may be lost, doubled or carry a wrong status;
wrong data may be written to its memory; its operations may hang; and it may enter ERROR with a cause from 1 to 4. -/
def unpredictableRoom (rid : Nat) (s : State) : State :=
  let s1 := s.modRoom rid (fun r => { r with risk := true })
  let s2 := forEach (roomMemory s1 rid) (wildWrite (s1.room rid).hport) s1
  let s3 := forEach ((s2.thresh.ops.filter (fun e => e.2.room == rid)).map (·.1)) wildOp s2
  let (v, s4) := draw s3
  if v % 2 = 1 ∧ (s4.room rid).st = 1 then roomError rid (1 + v / 2 % 4) s4 else s4

/-- A tile read from the Cellar failed its check (Tables 4.7 and 14.3). -/
def cellarTileFault (s : State) : State := raise 10 11 0 0 s

end Sys2Proof.Machine
end

