-- ==== Sys2Proof/Machine/Access.lean ====
section
/-! DEFINITION. Masters and privilege: who may reach a field, and what a refused write does (R401 to R403). -/
namespace Sys2Proof.Machine

/-- Privilege of a master (Table 16.1). -/
def privOf : Master → Priv
  | .host _ => .privileged
  | .stair => .secure
  | .mgmt true => .privileged
  | .mgmt false => .user
  | .hk _ true => .secure
  | .hk _ false => .privileged

/-- Master ID (Table 16.1). -/
def masterId : Master → Nat
  | .host h => h % 4
  | .stair => 4
  | .mgmt _ => 5
  | .hk i _ => 8 + i % 8

/-- A master may read a field (Table 16.2). -/
def mayRead (p : Priv) (f : Fld) : Bool :=
  match f.info.acc with
  | .RO => true
  | .RC | .RW | .W1 | .WO | .RWP => p != .user
  | .RWS => p == .secure

/-- A master may write a field: Table 16.2, and the descriptions that take precedence over it (R402). -/
def mayWrite (p : Priv) (f : Fld) : Bool :=
  match f.info.guard, f.info.acc with
  | .secure, _ => p == .secure
  | .priv, _ => p != .user
  | .byAccess, .RO => false
  | .byAccess, .RC => false
  | .byAccess, .RWS => p == .secure
  | .byAccess, _ => p != .user

/-- A host port's BARs can be reached: its domain is on (Table 15.2). -/
def hostReaches (s : State) (h : Nat) : Bool := s.domainOn (72 + h % 4)

/-- A master's accesses reach the device. -/
def reaches (s : State) : Master → Bool
  | .host h => hostReaches s h
  | _ => true

/-- Byte address of the first register space byte of a block; ports and fault groups by instance (Table 16.3). -/
def blkBase (b : Blk) (i : Nat) : Nat :=
  match b with
  | .GLOBAL => 0 | .STAIR => 0x100000 | .ATTIC => 0x200000 | .FPLAN => 0x300000 | .HALL => 0x400000 | .SLUICE => 0x500000
  | .CRYSTAL => 0x600000 | .RAKE => 0x700000 | .THRESH => 0x800000 | .PORCH => 0x900000 | .CELLAR => 0xA00000
  | .LATCH => 0xB00000 | .COUNT => 0xC00000 | .POWER => 0xD00000
  | .PORT => 0x1000000 + i * 0x10000
  | .FAULTG => if i < 16 then i * 0x100000 else 0x1000000 + (i - 16) * 0x10000

/-- Block ID of a register block; ports and fault groups by instance. -/
def blkId (b : Blk) (i : Nat) : Nat :=
  match b with
  | .GLOBAL => 0 | .STAIR => 1 | .ATTIC => 2 | .FPLAN => 3 | .HALL => 4 | .SLUICE => 5 | .CRYSTAL => 6 | .RAKE => 7
  | .THRESH => 8 | .PORCH => 9 | .CELLAR => 10 | .LATCH => 11 | .COUNT => 12 | .POWER => 13
  | .PORT => 16 + i
  | .FAULTG => i

/-- Byte address of an instance of a register. -/
def regAddr (r : Reg) (i : Nat) : Nat :=
  let p := r.place
  let n := p.count * p.count2
  let own := if p.blk = .FAULTG then i else i / n
  let k := if p.blk = .FAULTG then 0 else i % n
  blkBase p.blk own + p.off + p.stride * (k / p.count2) + (if p.count2 = 1 then 0 else p.stride2 * (k % p.count2))

/-- Record a refused access in ACCESS_LOG (Table 16.8). -/
def logAccess (m : Master) (addr cause : Nat) (write : Bool) (s : State) : State :=
  (((s.set .ACCESS_LOG_ADDR (addr / 8)).set .ACCESS_LOG_MASTER (masterId m)).set .ACCESS_LOG_CAUSE cause).set
    .ACCESS_LOG_WRITE (b2n write)

/-- An access refused in part (R403). -/
def refusePriv (m : Master) (addr : Nat) (write : Bool) (s : State) : State :=
  event 0 .GLOBAL_EVENTS_PRIV_REFUSED (tally .PRIV_REFUSED (logAccess m addr 1 write s))

/-! Parity (R358, R409). -/

/-- Block of a parity site. -/
def siteBlock : ParitySite → Nat
  | .reg b _ => b
  | .plan b _ _ => b

/-- PARITY_STANDING follows the mismatches that stand (R358). -/
def notePar (b : Nat) (s : State) : State :=
  s.set .FAULT_STAT_PARITY_STANDING (b2n (s.fault.standing.any (fun x => siteBlock x == b))) b

/-- Mismatches that a rewrite has mended no longer stand (R358). -/
def mendSites (b : Nat) (p : ParitySite → Bool) (s : State) : State :=
  if s.fault.standing.any p then
    notePar b { s with fault := { s.fault with standing := s.fault.standing.filter (fun x => !p x) } }
  else s

/-- Byte offset of an instance of a register inside its block. -/
def regOff (r : Reg) (i : Nat) : Nat :=
  let p := r.place
  regAddr r i - blkBase p.blk (if p.blk = .FAULTG then i else i / (p.count * p.count2))

/-- Block ID of an instance of a register. -/
def regBlk (r : Reg) (i : Nat) : Nat :=
  let p := r.place
  blkId p.blk (if p.blk = .FAULTG then i else i / (p.count * p.count2))

/-- A write restores the parity of the halves it writes (R409); a mismatch is named by the byte offset of its half. -/
def mendReg (r : Reg) (i : Nat) (low high : Bool) (s : State) : State :=
  mendSites (regBlk r i) (fun x =>
    (low && x == .reg (regBlk r i) (regOff r i)) || (high && x == .reg (regBlk r i) (regOff r i + 4))) s

/-! Answers to the masters whose accesses arrive in a cell or a frame. -/

/-- Body bytes of a Stair frame (R390). -/
def stairFrame (ty tag step : Nat) (payload : List Nat) : List Nat :=
  let bs := [at_ ty 0 4 + at_ tag 4 4, step % 128] ++ payload
  let c := crc16 bs
  bs ++ [c / 256, c % 256]

/-- DATA of a READ frame (Table 15.8). -/
def stairData (tag step : Nat) (w : Word) (s : State) : State := emit (.stairUp (stairFrame 9 tag step (wordsBytes [w]))) s

/-- A response to a MGMT request (Table 16.6). -/
def mgmtAnswer (c : Cell) (kind status : Nat) (data : Word) (s : State) : State :=
  let w0 := at_ kind 0 2 + at_ (wf_ c.body 0 2 1) 2 1 + at_ status 4 4 + at_ (wf_ c.body 0 16 16) 16 16
  sendVc0 tyMgmt c.src [wd w0, wd (wf_ c.body 1 0 26), data] s

/-- The half of a word that a 32-bit access reaches, in the low bits. -/
def halfOf (hi : Bool) (w : Word) : Word := if hi then wd (w.toNat / 2 ^ 32) else wd (w.toNat % 2 ^ 32)

/-- READ_RESP of a request, with the half it asked for. -/
def mgmtData (c : Cell) (w : Word) (s : State) : State :=
  let x := if wf_ c.body 0 2 1 = 1 then halfOf ((wn c.body 1).testBit 2) w else w
  tally .MGMT_SERVED (mgmtAnswer c 2 0 x s)

/-- Answer a stalled read of Latch `k`: on the path it came by. -/
def answerStall (m : Master) (k : Nat) (w : Word) (s : State) : State :=
  match m with
  | .mgmt _ =>
    match s.mgmt.queue.find? (fun e => e.1 == k) with
    | some (_, c) => mgmtData c w { s with mgmt := { s.mgmt with queue := s.mgmt.queue.eraseP (fun e => e.1 == k) } }
    | none => emit (.reg m w) s
  | .stair =>
    match s.stair.queue.find? (fun e => e.1 == k) with
    | some (_, tag, step) => stairData tag step w { s with stair := { s.stair with queue := s.stair.queue.eraseP (fun e => e.1 == k) } }
    | none => emit (.reg m w) s
  | _ => emit (.reg m w) s

/-! Writes that act. -/

/-- A write that reaches one field whose write acts: the act, if the master may write it, and a refusal otherwise. -/
def guarded (m : Master) (f : Fld) (i : Nat) (act : State → State) (s : State) : State :=
  if !reaches s m then s
  else if mayWrite (privOf m) f then mendReg f.info.reg i true true (act s) else refusePriv m (regAddr f.info.reg i) true s

/-- The same for a field that holds a value: a refused write of zero is served without count or record. -/
def guardedV (m : Master) (f : Fld) (i v : Nat) (act : State → State) (s : State) : State :=
  if !reaches s m then s
  else if mayWrite (privOf m) f then mendReg f.info.reg i true true (act s) else if v = 0 then s else refusePriv m (regAddr f.info.reg i) true s

end Sys2Proof.Machine
end

