-- ==== Sys2Proof/Machine/Queues.lean ====
section
/-! DEFINITION. The decoupling and crossing queues: their depths (Tables 1.3 and 1.4), what they keep for responses (R21), and whether a
sender holds a credit (R18). A list of the state holds a queue's entries and, beyond its depth, what waits at its sender for a credit
(log 17). -/
namespace Sys2Proof.Machine

/-- Depth of a queue, in its unit (Tables 1.3 and 1.4). The depth of the acknowledgement and NACK queue is not given. -/
def queueDepth : QueueId → Nat
  | .rxCrossing _ | .txCrossing _ => 16
  | .porchHallCrossing _ | .crystalCrossing _ | .rakeCrossing _ | .vestCrossing _ => 64
  | .returnCrossing _ => 128
  | .hkCrossing _ => 32
  | .fetch _ | .rakeToHall | .hallToRake | .cellarClient _ | .hkPath => 256
  | .porchThresh _ | .sluiceHall _ | .completion _ => 512
  | .threshSluice | .delivery => 1024
  | .landing _ => 2457
  | .hallTx _ _ => 48
  | .ejection | .rendezvous => 4096
  | .threshCrystal | .threshPorch => 2048
  | .ackNack => 1

/-- Entries that a queue keeps for responses (Table 1.4). -/
def queueReserve : QueueId → Nat
  | .porchThresh _ => 64
  | .threshSluice => 128
  | .ejection => 1024
  | .threshPorch => 512
  | _ => 0

/-- A queue with `reqs` request and `resps` response entries has credit for `n` more of a class (R21): requests never occupy the
reserve, responses use it first and share the rest. -/
def hasCredit (q : QueueId) (reqs resps n : Nat) (resp : Bool) : Bool :=
  if resp then decide (reqs + resps + n ≤ queueDepth q)
  else decide (reqs + (resps - queueReserve q) + n ≤ queueDepth q - queueReserve q)

/-- Entries of a host port in the fetch queue and the Porch-to-Threshold queue. -/
def fetchLen (s : State) (h : Nat) : Nat := (s.porch.fetchQ.filter (fun e => (s.room e.room).hport == h)).length

/-- Entries that the reads of a host port's rings in flight may bring. -/
def fetchComing (s : State) (h : Nat) : Nat :=
  ((s.porch.rooms.filter (fun e => e.2.hport == h)).map (fun e => (e.2.reading.getD (0, 0)).2)).sum

/-- Work entries that the Porch-to-Threshold queue of a port takes: all but its reserve for responses. -/
def porchThreshWork : Nat := queueDepth (.porchThresh 0) - queueReserve (.porchThresh 0)

/-- The fetch queue of a port has room for `n` more entries, and the queue it feeds with it (R19, R20). -/
def fetchTakes (s : State) (h n : Nat) : Bool :=
  decide (fetchLen s h + fetchComing s h + n ≤ queueDepth (.fetch h) + porchThreshWork)

/-- The Threshold-to-Sluice queue has credit for a segment of a class. -/
def sluiceTakes (s : State) (resp : Bool) : Bool :=
  let (a, b) := s.thresh.admitQ.partition (·.resp)
  hasCredit .threshSluice b.length a.length 1 resp

/-- The Sluice-to-Hall queue of a Hall input has credit for a cell of a channel: 64 entries are kept for each channel in use. -/
def hallTakes (s : State) (input vc : Nat) : Bool :=
  let occ := fun v => ((Tab.get s.hall.inj input []).filter (fun h => h.cell.vc == v)).length
  let used := (List.range 8).filter s.hasVc
  decide (occ vc < 64) || decide ((used.map (fun v => occ v - 64)).sum + 64 * used.length < queueDepth (.sluiceHall 0))

/-- The Threshold-to-Crystalliser queue has credit. -/
def crystalTakes (s : State) : Bool := hasCredit .threshCrystal s.crystal.input.length 0 1 false

/-- A client of the Cellar has credit for a request. -/
def cellarTakes (s : State) : Bool := hasCredit (.cellarClient 0) s.thresh.cellarWait.length 0 1 false

end Sys2Proof.Machine
end

