-- ==== Sys2Proof/Machine/Porch.lean ====
section
/-! DEFINITION. The Porch's rooms: commands, contexts and residency, the room page, knocks and work fetch, Letterbox and Pickup
(R178 to R217). -/
namespace Sys2Proof.Machine

/-- A room was used. -/
def touch (r : Nat) (s : State) : State := s.modRoom r (fun q => { q with lastUse := s.now })

/-! Room commands (R185). -/

/-- A write to ROOM_CMD: ignored while a command runs, else the command begins. -/
def beginCmd (r cmd : Nat) (body : State → State) (s : State) : State :=
  if s.flag .ROOM_CMD_STAT_BUSY then event 9 .PORCH_EVENTS_CMD_IGNORED s
  else
    let s1 := (((s.set .ROOM_CMD_ROOM r).set .ROOM_CMD_CMD cmd).set .ROOM_CMD_STAT_BUSY 1).set .ROOM_CMD_STAT_ROOM r
    body { s1 with porch := { s1.porch with cmdRoom := some (r, cmd) } }

/-- The partition of a context allows Relaxed order (RELAXED_OK). -/
def relaxedOk (s : State) (part : Nat) : Bool := (s.plan.crystal.getD part (0, 0)).2.testBit 8

/-- The checks of BAD_CTX (Table 8.5). -/
def ctxBad (s : State) (r : Room) : Bool :=
  let w := wf_ r.ctx 1 0 5
  let c := wf_ r.ctx 2 0 5
  !(decide (4 ≤ w) && decide (w ≤ 16) && decide (4 ≤ c) && decide (c ≤ 16))
    || r.workBase % (max 4096 (64 * 2 ^ w)) != 0 || r.cmplBase % (max 4096 (32 * 2 ^ c)) != 0 || decide (2 ^ c < r.outMax)
    || decide (r.cmplVec < 16) || decide (r.pickVec < 16) || decide (16 < r.pickMax) || !s.flag .HPORT_STAT_LINK_UP r.ctxHport

/-- RESULT of ACTIVATE on a resident context, in the order of Table 8.5. -/
def activateResult (s : State) (r : Room) : Nat :=
  if r.st ≠ 0 then 1 else if !s.plan.installed then 2 else if (s.jobSlot r.ctxJob).isNone then 3 else if ctxBad s r then 4
  else if r.ctxOrder = 1 ∧ !relaxedOk s r.ctxPart then 5 else 0

/-- The room becomes ACTIVE with its counters cleared (Table 8.4). -/
def makeActive (r : Nat) (s : State) : State :=
  s.modRoom r (fun q => { q with
    st := 1, err := 0, job := q.ctxJob, hport := q.ctxHport, everActive := true, knocks := 0, head := 0, armed := false, dirty := true,
    consumed := 0, written := 0, reserved := 0, outstanding := 0, events := 0, reading := none, stopped := false,
    rescanAt := none, order := q.ctxOrder, part := q.ctxPart, openPkt := [], dropping := false, closed := [] })

/-- ACTIVATE on a resident context. -/
def activateNow (r : Nat) (s : State) : State :=
  let res := activateResult s (s.room r)
  endCmd res (if res = 0 then makeActive r s else s)

/-- ACTIVATE: a parked context is fetched first. -/
def activateCmd (r : Nat) (s : State) : State :=
  if (s.room r).st ≠ 0 then endCmd 1 s else if !s.plan.installed then endCmd 2 s
  else if (s.room r).resident then activateNow r s else startFetch r s

/-- ROOM_ACTIVATE (R185). -/
def execRoomActivate (m : Master) (r : Nat) (s : State) : Host.Outcome State Fault Refusal :=
  .next (guarded m .ROOM_CMD_CMD 0 (beginCmd r 1 (activateCmd r)) s)

/-- EVICT: parks the room if it is evictable, and a room that is not resident is not (R210). The command itself does not count
against the room. -/
def evictCmd (r : Nat) (s : State) : State :=
  let s1 := { s with porch := { s.porch with cmdRoom := none } }
  if evictable s1 r then endCmd 0 (parkRoom r s1) else endCmd 1 s

/-- ROOM_EVICT (R210). -/
def execRoomEvict (m : Master) (r : Nat) (s : State) : Host.Outcome State Fault Refusal :=
  .next (guarded m .ROOM_CMD_CMD 0 (beginCmd r 5 (evictCmd r)) s)

/-- ROOM_CMD_INVALID (R185). -/
def execRoomCmdInvalid (m : Master) (r cmd : Nat) (s : State) : Host.Outcome State Fault Refusal :=
  .next (guarded m .ROOM_CMD_CMD 0 (beginCmd r cmd (endCmd 6)) s)

/-- FETCH. -/
def fetchCmd (r : Nat) (s : State) : State := if (s.room r).resident then endCmd 0 s else startFetch r s

/-- ROOM_FETCH (R211): a command, a pending knock, a stalled page read, or a parked lead asks for the room. -/
def execRoomFetch (r : Nat) (by_ : FetchBy) (s : State) : Host.Outcome State Fault Refusal :=
  match by_ with
  | .command => .next (beginCmd r 4 (fetchCmd r) s)
  | .knock => .next (if (s.room r).knocks = 0 then s else startFetch r s)
  | .pageRead => .next (if (s.room r).stalled.isEmpty then s else startFetch r s)
  | .lead => .next (if (parkedOf s r).isEmpty then s else startFetch r s)

/-- The fault that an unpredictable outcome of a room may raise in the Porch, at L2 or below (R12). -/
def riskPorch (s : State) : State :=
  let (v, s1) := draw s
  if riskClass 9 2 v s1 then raise 9 v 0 0 s1 else s1

/-- A context word whose change while running is unpredictable (Table 8.3). -/
def ctxRisky (k : Nat) (old new : Word) : Bool :=
  (decide (k = 1 ∨ k = 2) && old != new) || (k == 3 && bits old.toNat 32 20 != bits new.toNat 32 20)

/-- The fields of a context word (Table 8.3): the other bits are reserved. -/
def ctxFields (k : Nat) (w : Word) : Word :=
  let n := w.toNat
  if k = 0 then wd (at_ n 0 29 + at_ (n / 2 ^ 32) 32 22)
  else if k = 1 ∨ k = 2 then wd (at_ n 0 5 + at_ (n / 2 ^ 12) 12 52)
  else if k = 3 then wd (at_ n 0 13 + at_ (n / 2 ^ 16) 16 5 + at_ (n / 2 ^ 32) 32 20)
  else wd (at_ n 0 24)

/-- Write the selected context word (R184); a parked context is written to the Box room whole. -/
def writeCtx (w : Word) (s : State) : State :=
  let r := s.get .ROOM_CTX_SEL_ROOM
  let k := s.get .ROOM_CTX_SEL_WORD
  let v := ctxFields k w
  if 5 ≤ k then s
  else
    let q := s.room r
    let risky := q.st == 1 && ctxRisky k (q.ctx.getD k 0) v
    let s1 := s.setRoom r { q with ctx := (padWords 5 q.ctx).set k v, dirty := q.dirty || q.resident }
    let s2 := if q.resident then serveSlots s1 else writeBox r s1
    if risky then riskPorch (unpredictableRoom r s2) else s2

/-- ROOM_CTX_WRITE (R184). -/
def execRoomCtxWrite (m : Master) (w : Word) (s : State) : Host.Outcome State Fault Refusal :=
  .next (guardedV m .ROOM_CTX_DATA_DATA 0 w.toNat (writeCtx w) s)

/-- A word of a room's context, CTX_CRC in word 31 (R184). -/
def Room.ctxWord (r : Room) (k : Nat) : Word := (ctxFull r).getD k 0

/-- Read the selected context word: on chip, or from the Box room. What a failed read of the Box room returns is not stated. -/
def readCtx (m : Master) (res : HostRead) (s : State) : State :=
  let r := s.get .ROOM_CTX_SEL_ROOM
  let k := s.get .ROOM_CTX_SEL_WORD
  if (s.room r).resident then emit (.reg m ((s.room r).ctxWord k)) s
  else
    let s0 := readBox r s
    match res with
    | .data ws => emit (.reg m (ws.getD k 0)) s0
    | _ =>
      let (v, s1) := draw s0
      emit (.reg m (wd v)) s1

/-- ROOM_CTX_READ (R184). -/
def execRoomCtxRead (m : Master) (res : HostRead) (s : State) : Host.Outcome State Fault Refusal :=
  .next (if !reaches s m then s
    else if mayRead (privOf m) .ROOM_CTX_DATA_DATA then readCtx m res s
    else emit (.reg m 0) (refusePriv m (regAddr .ROOM_CTX_DATA 0) false s))

/-! The room page (R182, R186). -/

/-- The page of a room is served by a host port: the room is bound to it. -/
def bound (s : State) (h r : Nat) : Bool := (s.room r).everActive && (s.room r).hport == h

/-- An access to a page of another port's room, or of a room never activated. -/
def foreignPage (h : Nat) (s : State) : State := tally .FOREIGN_PAGE s h

/-- Count the rooms a write reaches only in ACTIVE: the write, or what R182 makes of it. -/
def pageWrite (h r : Nat) (act : State → State) (s : State) : State :=
  if !hostReaches s h then s else if !bound s h r then foreignPage h s else if (s.room r).st ≠ 1 then s else act (touch r s)

/-- Free space of the 4 MiB pools. -/
def lbFree (s : State) : Nat := 4194304 - s.porch.lbUsed
def pickFree (s : State) : Nat := 4194304 - s.porch.pickUsed

/-- Reserve Letterbox space for a room (R202). -/
def lbReserve (r : Nat) (s : State) : State :=
  let q := s.room r
  let n := min (8192 - q.grant - q.heldLb) (lbFree s) / 64 * 64
  let s1 := if lbFree s = 0 then event 9 .PORCH_EVENTS_LB_POOL_EMPTY s else s
  let s2 := s1.modRoom r (fun x => { x with grant := x.grant + n })
  { s2 with porch := { s2.porch with lbUsed := s2.porch.lbUsed + n } }

/-- ROOM_STATUS (Table 8.7). -/
def roomStatus (q : Room) : Nat :=
  at_ q.st 0 2 + at_ q.err 4 4 + at_ (b2n (q.free == 0)) 8 1 + at_ (b2n (!q.openPkt.isEmpty)) 9 1 + at_ q.written 32 32

/-- PICKUP_EMPTY: the window was read or skipped with no packet. -/
def pickEmpty (h r : Nat) (s : State) : State := tally .PICKUP_EMPTY (roomEvent r 6 s) h

/-- Read the next word of the packet at the head (R207). -/
def pickRead (h r : Nat) (s : State) : State :=
  match (s.room r).pickups with
  | (w :: ws, ck, sp) :: rest =>
    let s1 := s.modRoom r (fun q => { q with pickups := if ws.isEmpty then rest else (ws, ck, sp) :: rest })
    emit (.page h w) (if ws.isEmpty then pickReturn r sp s1 else s1)
  | _ => emit (.page h 0) (pickEmpty h r s)

/-- A 64-bit read of a room-page register of an ACTIVE, resident room. -/
def pageReg (h r off : Nat) (s : State) : State :=
  let q := s.room r
  if off = 0x40 then emit (.page h (wd (q.consumed + 2 ^ 32 * q.knocks))) s
  else if off = 0x48 then emit (.page h (wd q.head)) s
  else if off = 0x50 then emit (.page h (wd (roomStatus q))) s
  else if off = 0x60 then
    let s1 := lbReserve r s
    emit (.page h (wd (s1.room r).grant)) s1
  else if off = 0x68 then emit (.page h (wd (at_ q.grant 0 14 + at_ (q.heldLb / 64) 16 12))) s
  else if off = 0x78 then emit (.page h (wd q.pickups.length)) s
  else if off = 0x80 then emit (.page h (wd (match q.pickups with | p :: _ => p.1.length | [] => 0))) s
  else if off = 0x90 then emit (.page h (wd q.events)) (s.modRoom r (fun x => { x with events := 0, dirty := true }))
  else if 0xC00 ≤ off ∧ off < 0x1000 then pickRead h r s
  else emit (.page h 0) s

/-- A 64-bit read of a room page (R182, R186): a register of a room that is not resident stalls (R202: LB_GRANT for at most
2 µs). -/
def pageRead (h r off : Nat) (s : State) : State :=
  if !hostReaches s h then s
  else if !bound s h r then emit (.page h 0) (foreignPage h s)
  else if (s.room r).st ≠ 1 then emit (.page h (if off = 0x50 then wd (roomStatus (s.room r)) else 0)) s
  else if (s.room r).resident then pageReg h r off (touch r s)
  else s.modRoom r (fun q => { q with stalled := q.stalled ++ [(off, s.now + (if off = 0x60 then 2000 else 40000))] })

/-- The stalled reads of a room proceed; one past its limit returns 0 and does nothing. -/
def answerStalled (r : Nat) (s : State) : State :=
  let q := s.room r
  forEach q.stalled (fun e a => if e.2 < a.now then emit (.page q.hport 0) a else pageRead q.hport r e.1 a)
    (s.modRoom r (fun x => { x with stalled := [] }))

/-- A 32-bit access the page refuses (R186). -/
def pageNarrow (h r : Nat) (s : State) : State :=
  if !hostReaches s h then s else if !bound s h r then foreignPage h s else if (s.room r).st ≠ 1 then s else roomEvent r 7 s

/-! Knocks and work fetch (R191 to R194). -/

/-- Count knocks (R191): those beyond the ring size are discarded. -/
def addKnocks (h r k : Nat) (s : State) : State :=
  let q := s.room r
  let n := min k (q.workSize - q.knocks)
  let s1 := s.setRoom r { q with knocks := q.knocks + n, stopped := false, rescanAt := none, lastUse := s.now }
  if n = k then s1 else tallyN .KNOCK_EXCESS (k - n) (roomEvent r 4 s1) h

/-- A write to KNOCK of `k` words, each of them a knock (R182, R191). -/
def knockWrite (h r k : Nat) (s : State) : State :=
  if !hostReaches s h then s
  else if !bound s h r then foreignPage h s else if (s.room r).st ≠ 1 then tallyN .KNOCK_INACTIVE k s h else addKnocks h r k s

/-- KNOCK (R191). -/
def execKnock (h r k : Nat) (s : State) : Host.Outcome State Fault Refusal := .next (knockWrite h r k s)

/-- An operation of the room may be consumed (R194). -/
def mayConsume (q : Room) : Bool := decide (q.outstanding < q.outMax) && decide (0 < q.free)

/-- Entries the next read carries: within the knocks, FETCH_BURST and the ring's end (R192). -/
def burst (s : State) (q : Room) : Nat :=
  min (min q.knocks (s.get .PORCH_CFG_FETCH_BURST)) (q.workSize - q.consumed % q.workSize)

/-- WORK_FETCH_START (R192). -/
def execWorkFetchStart (r : Nat) (s : State) : Host.Outcome State Fault Refusal :=
  let q := s.room r
  let n := burst s q
  if q.st == 1 && q.resident && !s.hostStopped && s.flag .HPORT_STAT_LINK_UP q.hport && decide (0 < q.knocks) && q.reading.isNone
      && !q.stopped && mayConsume q && fetchTakes s q.hport n then
    .next (emit (.hostRead q.hport (q.workBase + 64 * (q.consumed % q.workSize)) (64 * n) r)
      (s.setRoom r { q with reading := some (q.consumed, n), lastUse := s.now }))
  else .next s

/-- Bytes of Pickup space of a receive (R205). -/
def pickSpace (len : Nat) : Nat := 32 + 64 * ceilDiv len 64

/-- A consumed entry: it reserves a completion slot; a Pickup receive reserves its space or completes at once (R205), and its packet, if
it came in one, is discarded (R202). -/
def consumeEntry (r : Nat) (e : List Word) (lb : Option (List Word)) (s : State) : State :=
  let s1 := s.modRoom r (fun q => { q with reserved := q.reserved + 1, outstanding := q.outstanding + 1 })
  let ends := fun (status : Nat) (a : State) => failWork r e status (match lb with
    | some ws => lbReturn r (packetBytes ws) a
    | none => a)
  let push := fun (a : State) =>
    { a with porch := { a.porch with fetchQ := a.porch.fetchQ ++ [{ room := r, entry := e, lb := lb, at_ := a.now }] } }
  if weOp e = 2 && wePickup e then
    if 4096 < weLen e then ends stBadLength s1
    else
      let n := pickSpace (weLen e)
      if (s.room r).pickMax * 1024 < (s.room r).pickUsed + n ∨ pickFree s < n then
        ends stPickupFull (event 9 .PORCH_EVENTS_PICKUP_POOL_EMPTY s1)
      else
        let s2 := s1.modRoom r (fun q => { q with pickUsed := q.pickUsed + n })
        push { s2 with porch := { s2.porch with pickUsed := s2.porch.pickUsed + n } }
  else push s1

/-- Take the entries of a read in order until one belongs to software, or may not be consumed yet (R192, R194). -/
def takeEntries (r : Nat) : List (List Word) → State → State
  | [], s => s
  | e :: rest, s =>
    let q := s.room r
    if wePhase e != phaseOf q.consumed q.workSize then
      s.setRoom r { q with stopped := true, rescanAt := some (s.now + s.get .PORCH_CFG_RESCAN_US * 1000) }
    else if !mayConsume q then s
    else
      takeEntries r rest (consumeEntry r e none
        (s.setRoom r { q with consumed := (q.consumed + 1) % 2 ^ 32, knocks := q.knocks - 1, dirty := true }))

/-- WORK_FETCH_DONE (R192). The entries of a read whose room was parked meanwhile are not consumed: they are read again once the room
is resident (log 86). -/
def execWorkFetchDone (r : Nat) (entries : List (List Word)) (s : State) : Host.Outcome State Fault Refusal :=
  let q := s.room r
  match q.reading with
  | none => .next s
  | some (_, n) =>
    let s1 := s.setRoom r { q with reading := none }
    if q.st != 1 || s.hostStopped || !q.resident then .next s1 else .next (takeEntries r ((entries.take n).map (padWords 8)) s1)

/-- RESCAN_TIMER (R193). -/
def execRescanTimer (r : Nat) (s : State) : Host.Outcome State Fault Refusal :=
  let q := s.room r
  match q.rescanAt with
  | none => .next s
  | some t => if q.stopped ∧ 0 < q.knocks ∧ t ≤ s.now then .next (s.setRoom r { q with stopped := false, rescanAt := none }) else .next s

/-! Completion head and notices (R198, R214). -/

/-- CMPL_HEAD_WRITE (R198). -/
def execCmplHeadWrite (h r v : Nat) (s : State) : Host.Outcome State Fault Refusal :=
  .next (pageWrite h r (fun a => a.modRoom r (fun q => { q with head := v % 2 ^ 32 })) s)

/-- Arm one completion notice, or raise it at once (R214). -/
def armRoom (r : Nat) (s : State) : State :=
  let q := s.room r
  if q.written = q.head then s.setRoom r { q with armed := true }
  else
    let s1 := s.setRoom r { q with armed := false }
    if q.cmplNotify then sendMsix q.hport q.cmplVec s1 else s1

/-- ARM_WRITE (R214): a W1 field. -/
def execArmWrite (h r v : Nat) (s : State) : Host.Outcome State Fault Refusal :=
  .next (pageWrite h r (fun a => if v.testBit 0 then armRoom r a else a) s)

/-! Letterbox (R200 to R204). -/

/-- LB_GRANT_READ (R202). -/
def execLbGrantRead (h r : Nat) (s : State) : Host.Outcome State Fault Refusal := .next (pageRead h r 0x60 s)

/-- Return the unused grant to the pool. -/
def lbGiveBack (r : Nat) (s : State) : State :=
  let n := (s.room r).grant
  let s1 := s.modRoom r (fun q => { q with grant := 0 })
  serveSlots { s1 with porch := { s1.porch with lbUsed := s1.porch.lbUsed - n } }

/-- LB_RELEASE (R202): a W1 field. -/
def execLbRelease (h r v : Nat) (s : State) : Host.Outcome State Fault Refusal :=
  .next (pageWrite h r (fun a => if v.testBit 0 then lbGiveBack r a else a) s)

/-- What a discarded packet leaves: a completion with a status, its OP if word 0 arrived and its COOKIE if word 2 did. -/
def ghost (status : Nat) (ws : List Word) : Nat × List Word := (status, padWords 8 (ws.take 3))

/-- A word without grant (R203): it and the open packet are discarded, and later words up to the next end mark. The completion that
follows needs the room's ring: a parked room is fetched for it. -/
def lbOverflow (h r : Nat) (last : Bool) (s : State) : State :=
  let q := s.room r
  let s1 := lbReturn r (8 * q.openPkt.length) s
  let s2 := s1.modRoom r (fun x => { x with openPkt := [], dropping := !last, closed := x.closed ++ [ghost stLbOverflow q.openPkt] })
  tally .LB_OVERFLOW (startFetch r (roomEvent r 0 s2)) h

/-- Append a word to the open packet; the end mark closes it (R200). -/
def lbAppend (h r : Nat) (w : Word) (last : Bool) (s : State) : State :=
  let q := s.room r
  if q.dropping then (if last then s.setRoom r { q with dropping := false } else s)
  else if q.grant < 8 then lbOverflow h r last s
  else
    let p := q.openPkt ++ [w]
    s.setRoom r { q with grant := q.grant - 8, heldLb := q.heldLb + 8, openPkt := if last then [] else p,
                         closed := if last then q.closed ++ [(0, p)] else q.closed }

/-- LETTERBOX_WORD (R200). -/
def execLetterboxWord (h r : Nat) (w : Word) (is32 : Bool) (s : State) : Host.Outcome State Fault Refusal :=
  .next (if is32 then pageNarrow h r s else pageWrite h r (lbAppend h r w false) s)

/-- LB_END_WORD (R200). -/
def execLbEndWord (h r : Nat) (w : Word) (is32 : Bool) (s : State) : Host.Outcome State Fault Refusal :=
  .next (if is32 then pageNarrow h r s else pageWrite h r (lbAppend h r w true) s)

/-- Words a closed packet must have (R201); none for a LENGTH it may not have. -/
def lbLength (e : List Word) : Option Nat :=
  if (weOp e = 1 ∨ weOp e = 0x10) ∧ !weInline e then (if weLen e ≤ 4096 then some (8 + ceilDiv (weLen e) 8) else none) else some 8

/-- The packet at the head of a room's Letterbox, with a completion slot: completed, or consumed (R201). -/
def lbTake (r : Nat) (status : Nat) (ws : List Word) (s : State) : State :=
  let e := padWords 8 ws
  if status ≠ 0 then complete r { op := weOp e, status := status, rank := weRank e, cookie := weCookie e } false false s
  else if lbLength e ≠ some ws.length then
    let s1 := tally .LB_LENGTH (roomEvent r 1 (lbReturn r (8 * ws.length) s)) (s.room r).hport
    complete r { op := weOp e, status := stLbLength, rank := weRank e, cookie := weCookie e } false false s1
  else consumeEntry r e (some (ws.drop 8)) s

/-- LB_PACKET_ENQUEUE (R201, R204): closed packets in their order. -/
def execLbPacketEnqueue (r : Nat) (s : State) : Host.Outcome State Fault Refusal :=
  let q := s.room r
  match q.closed with
  | [] => .next s
  | (st, ws) :: rest =>
    if q.st != 1 || !q.resident || s.hostStopped || !mayConsume q || !fetchTakes s q.hport 1 then .next s
    else .next (lbTake r st ws (s.setRoom r { q with closed := rest }))

/-! Pickup (R207 to R209). -/

/-- PICKUP_READ (R207). -/
def execPickupRead (h r : Nat) (is32 : Bool) (s : State) : Host.Outcome State Fault Refusal :=
  .next (if !hostReaches s h then s else if is32 then emit (.page h 0) (pageNarrow h r s) else pageRead h r 0xC00 s)

/-- Drop the unread remainder of the packet at the head (R208). -/
def pickSkip (h r : Nat) (s : State) : State :=
  match (s.room r).pickups with
  | (_, _, sp) :: rest => pickReturn r sp (s.modRoom r (fun q => { q with pickups := rest }))
  | [] => pickEmpty h r s

/-- PICKUP_SKIP (R208). -/
def execPickupSkip (h r : Nat) (s : State) : Host.Outcome State Fault Refusal := .next (pageWrite h r (pickSkip h r) s)

/-- ROOM_QUEUE_MISMATCH (R209). -/
def execRoomQueueMismatch (r : Nat) (pickup : Bool) (s : State) : Host.Outcome State Fault Refusal :=
  let q := s.room r
  let s0 := raise 9 15 r 0 (event 9 .PORCH_EVENTS_QUEUE_RESET s)
  if pickup then
    let lost := q.pickups.map (fun p => ghost stQueueReset [wd 2, 0, wd (2 ^ 32 * p.2.1)])
    let s1 := s0.modRoom r (fun x => { x with pickups := [], closed := x.closed ++ lost })
    .next (roomEvent r 2 (pickReturn r ((q.pickups.map (·.2.2)).sum) s1))
  else
    let open_ := if q.openPkt.isEmpty then [] else [(0, q.openPkt)]
    let pkts := q.closed ++ open_
    let n := 8 * ((pkts.filter (fun p => p.1 == 0)).map (fun p => p.2.length)).sum
    let s1 := s0.modRoom r (fun x => { x with openPkt := [], closed := pkts.map (fun p => if p.1 = 0 then ghost stQueueReset p.2 else p) })
    .next (roomEvent r 3 (lbReturn r n s1))

end Sys2Proof.Machine
end

