-- ==== Sys2Proof/Machine/Keys.lean ====
section
/-! DEFINITION. Memory keys, rank tables and address translation as the accesses use them (R88, R89, R247 to R249, R278 to
R284, R454). -/
namespace Sys2Proof.Machine

/-! Caches of the Cellar (R89, R247, R454). -/

/-- Change the Threshold's state. -/
def modThresh (f : ThreshSt → ThreshSt) (s : State) : State := { s with thresh := f s.thresh }

/-- A cache that is full gives up an entry; the manual does not say which. -/
def evictOne {α : Type} (cap : Nat) (l : List α) (s : State) : List α × State :=
  if l.length < cap then (l, s)
  else
    let (v, s1) := draw s
    (l.eraseIdx (v % l.length), s1)

/-- A Cellar read is issued for a cache miss, once, while the client holds a credit (R18); without one the lookup waits and asks again. -/
def askCellar (r : CellarRead) (s : State) : State :=
  if s.thresh.cellarWait.contains r || !cellarTakes s then s else modThresh (fun t => { t with cellarWait := t.cellarWait ++ [r] }) s

/-- What a lookup finds. -/
inductive Look (α : Type)
  | found (a : α) | failed | wait
deriving DecidableEq, Repr

/-- Which of the three, and the state with a read issued where the lookup waits. A read that failed, or a Cellar that is
off, fails the lookup (R454). -/
def lookCellar {α : Type} (r : CellarRead) (hit : Option α) (s : State) : Look α × State :=
  match hit with
  | some a => (.found a, s)
  | none =>
    if !s.cellarOn || s.thresh.cellarFailed == some r then (.failed, modThresh (fun t => { t with cellarFailed := none }) s)
    else (.wait, askCellar r s)

/-! Ranks (R88, R89). -/

/-- Place of a rank's entry in the rank-table region, in entries of 8 bytes. -/
def rankPlace (s : State) (slot r : Nat) : Nat := s.get .JOB_SLOT_RT_OFFSET slot * 8192 + r

/-- The rank table entry that the Cellar holds. -/
def rankEntry (s : State) (slot r : Nat) : Word := Tab.get s.thresh.ranks (rankPlace s slot r) 0

/-- The cached entry of a rank. -/
def rankCached (s : State) (job r : Nat) : Option Word :=
  (s.thresh.rankCache.find? (fun e => e.1 == job && e.2.1 == r)).map (·.2.2)

/-- Node and room of a rank of a job, or the status the work entry completes with. -/
def lookRank (job r : Nat) (s : State) : Look (Sum Nat (Nat × Nat)) × State :=
  match (if job = 0 then none else s.jobSlot job) with
  | none => (.found (.inl stBadJob), s)
  | some slot =>
    if s.get .JOB_SLOT_LAST_RANK slot < r then (.found (.inl stBadRank), s)
    else
      match lookCellar (.rank job r) (rankCached s job r) s with
      | (.wait, s1) => (.wait, s1)
      | (.failed, s1) => (.found (.inl stBadRank), s1)
      | (.found w, s1) =>
        if w.getLsbD 63 then (.found (.inr (bits w.toNat 0 20, bits w.toNat 32 16)), s1) else (.found (.inl stBadRank), s1)

/-! Keys (R247 to R249). -/

/-- A key entry as the Cellar holds it. -/
def State.keyAt (s : State) (i : Nat) : KeyEntry := Tab.get s.thresh.keys i ⟨0, 0, 0, 0⟩
/-- Fields of Table 10.1. -/
def KeyEntry.base (k : KeyEntry) : Nat := k.w0.toNat
def KeyEntry.length (k : KeyEntry) : Nat := bits k.w1.toNat 0 48
def KeyEntry.job (k : KeyEntry) : Nat := bits k.w2.toNat 0 16
def KeyEntry.xctx (k : KeyEntry) : Nat := bits k.w2.toNat 16 20
def KeyEntry.hport (k : KeyEntry) : Nat := bits k.w2.toNat 36 2
def KeyEntry.rights (k : KeyEntry) : Nat := bits k.w2.toNat 40 4
def KeyEntry.gen (k : KeyEntry) : Nat := bits k.w2.toNat 48 8
def KeyEntry.valid (k : KeyEntry) : Bool := k.w2.getLsbD 63
/-- A reserved field is not zero. -/
def KeyEntry.badReserved (k : KeyEntry) : Bool :=
  bits k.w1.toNat 48 16 != 0 || bits k.w2.toNat 38 2 != 0 || bits k.w2.toNat 44 4 != 0 || bits k.w2.toNat 56 7 != 0 || k.w3 != 0

/-- Rights of Table 10.1. -/
def rRead : Nat := 1
def rWrite : Nat := 2
def rAtomic : Nat := 4
def rRemote : Nat := 8

/-- The checks of Table 10.2: 0 where all pass, else the sub-cause. `ctx` is the room's context in a local check. -/
def keyCheck (k : KeyEntry) (idx gen job rights a n : Nat) (ctx : Option Nat) : Nat :=
  if idx = 0 ∨ !k.valid then 1
  else if k.gen ≠ gen then 2
  else if k.job ≠ job then 3
  else if k.rights &&& rights ≠ rights then 4
  else if !(decide (k.base ≤ a) && decide (a + n ≤ k.base + k.length) && decide (a + n < 2 ^ 64)) then 5
  else if ctx.any (fun c => k.xctx != c) then 6
  else 0

/-- A key check failed. -/
def noteKeyFault (s : State) : State := event 8 .THRESH_EVENTS_KEY_FAULT_SEEN (tally .KEY_FAULT s)

/-- Check a key through the key cache: the key and the sub-cause (0 passes). -/
def lookKey (idx gen job rights a n : Nat) (ctx : Option Nat) (s : State) : Look (KeyEntry × Nat) × State :=
  let hit := if idx = 0 ∨ s.thresh.keyCache.contains idx then some (s.keyAt idx) else none
  match lookCellar (.key idx) hit s with
  | (.wait, s1) => (.wait, s1)
  | (.failed, s1) => (.found (⟨0, 0, 0, 0⟩, 1), noteKeyFault s1)
  | (.found k, s1) =>
    let sub := keyCheck k idx gen job rights a n ctx
    (.found (k, sub), if sub = 0 then s1 else noteKeyFault s1)

/-- The check of a room's local key (LKEY: index 23:0, generation 31:24). -/
def lookLocal (rid lkey rights a n : Nat) (s : State) : Look (KeyEntry × Nat) × State :=
  lookKey (bits lkey 0 24) (bits lkey 24 8) (s.room rid).job rights a n (some (s.room rid).xctx) s

/-- Bring an entry into its cache when its Cellar read returns. -/
def fillCache (r : CellarRead) (s : State) : State :=
  match r with
  | .rank job n =>
    match s.jobSlot job with
    | none => s
    | some slot =>
      let (l, s1) := evictOne 16384 s.thresh.rankCache s
      modThresh (fun t => { t with rankCache := (l.filter (fun e => !(e.1 == job && e.2.1 == n))) ++ [(job, n, rankEntry s slot n)] }) s1
  | .key i =>
    let (l, s1) := evictOne 65536 s.thresh.keyCache s
    modThresh (fun t => { t with keyCache := (l.filter (· != i)) ++ [i] }) s1

/-! Translation (R278 to R284). -/

/-- The 4 KiB pieces of an access: virtual address and bytes. -/
def pageRuns (a n : Nat) : List (Nat × Nat) :=
  if n = 0 then []
  else
    (List.range ((a % 4096 + n + 4095) / 4096)).map (fun i =>
      let b := if i = 0 then a else (a / 4096 + i) * 4096
      (b, min (a + n) ((a / 4096 + i + 1) * 4096) - b))

/-- Address bits below the page number of a SIZE. -/
def sizeBits (size : Nat) : Nat := 12 + 9 * size

/-- An entry hits an access (R280). -/
def atbHits (e : AtbEntry) (ctx a : Nat) (write : Bool) : Bool :=
  e.ctx == ctx && (e.vpage * 4096) / 2 ^ sizeBits e.size == a / 2 ^ sizeBits e.size && (e.write || !write)

/-- The bus address an entry gives. -/
def atbBus (e : AtbEntry) (a : Nat) : Nat := (e.bpage * 4096) / 2 ^ sizeBits e.size * 2 ^ sizeBits e.size + a % 2 ^ sizeBits e.size

/-- The entries of a port's buffer. -/
def State.atbOf (s : State) (h : Nat) : Tab AtbEntry := Tab.get s.thresh.atb h []

/-- Translate one piece. -/
def atbLook (s : State) (h ctx a : Nat) (write : Bool) : Option Nat :=
  (List.find? (fun e => atbHits e.2 ctx a write) (s.atbOf h)).map (fun e => atbBus e.2 a)

/-- The miss table of a port. -/
def State.missOf (s : State) (h : Nat) : Tab Miss := Tab.get s.thresh.misses h []

/-- Replace a port's miss table. -/
def setMisses (h : Nat) (m : Tab Miss) (s : State) : State :=
  modThresh (fun t => { t with misses := Tab.set t.misses h m [] }) s

/-- Queue a miss for Hearth and raise the translation interrupt. -/
def queueMiss (h id : Nat) (m : Miss) (s : State) : State :=
  emit (.hkIrq 0 (h * 64 + id)) (modThresh (fun t => { t with missOrder := t.missOrder ++ [(h, id)] })
    (setMisses h (Tab.put (s.missOf h) id { m with queued := true }) s))

/-- An access takes or joins a miss entry (R284). One that finds the table full waits for a free entry. An access added 100 µs
after the last page request has the miss walked again (R287). -/
def addMiss (h ctx page : Nat) (write target : Bool) (s : State) : State :=
  match List.find? (fun e => e.2.ctx == ctx && e.2.page == page) (s.missOf h) with
  | some (id, m) =>
    let m1 := { m with write := m.write || write, target := m.target || target }
    let s1 := tally .MISS_MERGED (setMisses h (Tab.put (s.missOf h) id m1) s) h
    if !m.queued && m.lastReq.any (fun t => decide (t + 100000 ≤ s.now)) then queueMiss h id { m1 with lastReq := none } s1 else s1
  | none =>
    match (List.range 64).find? (fun i => (Tab.find? (s.missOf h) i).isNone) with
    | none => s
    | some id =>
      let s1 := queueMiss h id { ctx := ctx, page := page, write := write, target := target } s
      if (s1.missOf h).length = 64 then event 8 .XLATE_EVENTS_MISS_FULL s1 else s1

/-- Translate an access: the port with the bus address and bytes of each piece, or the misses it waits on. -/
def translate (h ctx a n : Nat) (write target : Bool) (s : State) :
    Sum (List (Nat × Nat × Nat)) (Nat × List (Nat × Nat)) × State :=
  let looked := (pageRuns a n).map (fun r => (r, atbLook s h ctx r.1 write))
  let missing := looked.filterMap (fun e => if e.2.isNone then some (e.1.1 / 4096) else none)
  let s1 := tallyN .ATB_HIT (looked.length - missing.length) s h
  if missing.isEmpty then (.inr (h, looked.map (fun e => (e.2.getD 0, e.1.2))), s1)
  else
    let s2 := tallyN .ATB_MISS missing.length s1 h
    (.inl (missing.map (fun p => (h, ctx, p))), forEach missing (fun p t => addMiss h ctx p write target t) s2)

/-- Ask host memory for the bytes of an access: one read of each page, all under one tag. -/
def readHost (h : Nat) (pages : List (Nat × Nat)) (tag : Nat) (s : State) : State :=
  forEach pages (fun p t => emit (.hostRead h p.1 p.2 tag) t) s

/-- The bytes of words. -/
def takeBytes (off n : Nat) (ws : List Word) : List Nat :=
  (List.range n).map (fun i => bits (wn ws ((off + i) / 8)) (8 * ((off + i) % 8)) 8)

/-- Write bytes to host memory: `from` to `upto` of the data, laid over the pages of an access. -/
def writeHost (h : Nat) (pages : List (Nat × Nat)) (bytes : List Nat) (frm upto : Nat) (s : State) : State :=
  (pages.foldl (fun (acc : Nat × State) p =>
    let lo := max frm acc.1
    let hi := min upto (acc.1 + p.2)
    let t := if lo < hi then emit (.hostBytes h (p.1 + (lo - acc.1)) ((bytes.drop lo).take (hi - lo))) acc.2 else acc.2
    (acc.1 + p.2, t)) (0, s)).2

end Sys2Proof.Machine
end

