-- ==== Sys2Proof/Machine/Flow.lean ====
section
/-! DEFINITION. Peer flows: windows, acknowledgements and NACKs of the receive side; numbering, transmission, completion and
reset of the send side (R79 to R83, R221, R245, R251 to R274). -/
namespace Sys2Proof.Machine

/-! Times (R258). -/

/-- Microsecond settings in ns. -/
def rtoMin (s : State) : Nat := s.get .THRESH_CFG_RTO_MIN_US * 1000
def rtoMax (s : State) : Nat := s.get .THRESH_CFG_RTO_MAX_US * 1000
def coalNs (s : State) : Nat := s.get .THRESH_ACK_CFG_ACK_COAL_US * 1000

/-- Present rto of a flow, in ns. -/
def rtoOf (s : State) (x : Nat) : Nat :=
  let f := (s.flow x).send
  clampTo (rtoMin s) (rtoMax s) (if f.sampled then f.srtt + 4 * f.rttvar else 4 * rtoMin s)

/-- A sample of the round-trip time. -/
def rttSample (x t : Nat) (s : State) : State :=
  s.modSend x (fun f =>
    if !f.sampled then { f with sampled := true, srtt := t, rttvar := t / 2 }
    else
      let sr : Int := f.srtt + ((t : Int) - f.srtt).tdiv 8
      let rv : Int := f.rttvar + (((((t : Int) - sr).natAbs : Int) - f.rttvar).tdiv 4)
      { f with srtt := sr.toNat, rttvar := rv.toNat })

/-! Receive side: segments, completion, answers (R252 to R262). -/

/-- A segment of a flow's receive side. -/
def rsegOf (s : State) (x q : Nat) : Option RSeg := (s.flow x).recv.segs.find? (fun g => g.seq == q)

/-- Change a segment. -/
def modRSeg (x q : Nat) (f : RSeg → RSeg) (s : State) : State :=
  s.modRecv x (fun r => { r with segs := r.segs.map (fun g => if g.seq = q then f g else g) })

/-- Remove a segment: its state is EMPTY. -/
def dropRSeg (x q : Nat) (s : State) : State := s.modRecv x (fun r => { r with segs := r.segs.filter (fun g => g.seq != q) })

/-- SACK of a receive side (Table 10.5). -/
def sackOf (r : RecvSt) : Nat :=
  (List.range 64).foldl (fun a i =>
    if r.segs.any (fun g => g.seq == (r.w + 1 + i) % 65536 && g.st == .complete) then a + 2 ^ i else a) 0

/-- CONF word of a send side: base, map and epoch of the confirmations pending. -/
def confWord (f : SendSt) : Word :=
  match f.conf with
  | [] => 0
  | c :: _ =>
    let base := f.conf.foldl (fun b q => if subMod q b 65536 < 32768 then b else q) c
    let map := (List.range 32).foldl (fun a i => if f.conf.contains ((base + i) % 65536) then a + 2 ^ i else a) 0
    wd (at_ base 0 16 + at_ 1 16 1 + at_ f.epoch 18 2 + at_ map 32 32)

/-- The acknowledgement and NACK queue and its spill hold a further cell: their sizes are not stated, but a queue holds at least one
cell (R22; DEDUCED). -/
def ackQueueRoom (s : State) : Bool :=
  decide (((Tab.get s.hall.inj 78 []).filter (fun h => h.cell.ty == tyAck || h.cell.ty == tyNack)).length
    < 1 + Config.ackQueueCells (s.plan.cellar.getD 5 (0, 0)).2)

/-- Queue an ACK or NACK for injection. One that finds queue and spill full raises a fault at L1 and waits in the Threshold, which then
takes no further cell that would bring another (R22; log 31). -/
def injectAck (c : Cell) (s : State) : State :=
  inject 78 [c] (if ackQueueRoom s then s else event 8 .THRESH_EVENTS_ACK_SPILL_FULL (raise 8 12 0 0 s))

/-- Send an ACK cell of a kind on a flow. -/
def ackCell (x seq epoch cum kind syncEpoch ce : Nat) (sack : Nat) (s : State) : State :=
  let body := [wd (at_ cum 0 16 + at_ kind 16 2 + at_ syncEpoch 18 2 + at_ ce 32 16), wd sack, confWord (s.flow x).send]
  let c := s.mkCell tyAck (if s.hasVc 5 then 5 else 6) (s.nodeOf x) body
  injectAck { c with seq := seq, epoch := epoch, echo := decide (0 < ce) } s

/-- Send the acknowledgement of a receive side; one that is not OPEN reports only confirmations (R257). At L3 and above none
is sent. -/
def sendAck (x : Nat) (s : State) : State :=
  if s.hostStopped then s
  else
    let f := s.flow x
    let r := f.recv
    let s1 := if r.st = 1 then ackCell x r.w r.epoch r.w 0 0 (min r.ce 65535) (sackOf r) s else ackCell x 0 0 0 3 0 0 0 s
    s1.modRecv x (fun r => { r with sinceAck := 0, ce := if r.st = 1 then 0 else r.ce,
                                    coalAt := if f.send.conf.isEmpty then none else some (s.now + coalNs s) })

/-- A segment became COMPLETE, or arrived as a duplicate (R257). -/
def ackEvent (x : Nat) (s : State) : State :=
  let r := (s.flow x).recv
  if s.get .THRESH_ACK_CFG_ACK_COAL_SEGS ≤ r.sinceAck + 1 then sendAck x s
  else s.modRecv x (fun r => { r with sinceAck := r.sinceAck + 1, coalAt := some (r.coalAt.getD (s.now + coalNs s)) })

/-- A confirmation became pending: an ACK follows within ACK_COAL_US. -/
def armConf (x : Nat) (s : State) : State :=
  s.modRecv x (fun r => { r with coalAt := some (r.coalAt.getD (s.now + coalNs s)) })

/-- W advances over every consecutive COMPLETE segment (R252). -/
def advanceW : Nat → RecvSt → RecvSt
  | 0, r => r
  | n + 1, r =>
    let q := (r.w + 1) % 65536
    if r.segs.any (fun g => g.seq == q && g.st == .complete) then
      advanceW n { r with w := q, segs := r.segs.filter (fun g => g.seq != q) }
    else r

/-- A segment becomes COMPLETE; it counts as CE-marked if any cell carried CE (R254, R341). -/
def completeRSeg (x q : Nat) (s : State) : State :=
  match rsegOf s x q with
  | none => s
  | some g =>
    let s1 := modRSeg x q (fun g => { g with st := .complete, got := [], park := none, misses := [], access := none }) s
    ackEvent x (s1.modRecv x (fun r => advanceW (r.segs.length + 1) { r with ce := r.ce + b2n g.ce }))

/-- Send a NACK (Table 10.6). -/
def sendNack (x seq epoch code sub : Nat) (fresh resp : Bool) (hint msg off : Nat) (s : State) : State :=
  if s.hostStopped then s
  else
    let body := [wd (at_ code 0 8 + at_ sub 8 8 + at_ (b2n fresh) 16 1 + at_ (b2n resp) 17 1 + at_ hint 48 16), wd (at_ msg 0 32 + at_ off 32 32)]
    let c := s.mkCell tyNack (if s.hasVc 5 then 5 else 6) (s.nodeOf x) body
    injectAck { c with seq := seq, epoch := epoch } s

/-- MSG_ID and SEG_OFFSET of a segment whose lead is here. -/
def rsegMsg (g : RSeg) : Nat × Nat :=
  match g.lead with
  | some c => (leadMsg c.body, leadOff c.body)
  | none => (g.msgId, 0)

/-- Answer a segment with a final NACK: it is NACKED, and its payload cells are discarded (R91, R261). -/
def answerFinal (x q code sub : Nat) (s : State) : State :=
  match rsegOf s x q with
  | none => s
  | some g =>
    sendNack x q (s.flow x).recv.epoch code sub false false 0 (rsegMsg g).1 (rsegMsg g).2
      (modRSeg x q (fun g => { g with st := .nacked code sub, got := [], park := none, misses := [], access := none }) s)

/-- Answer a segment with NOT_READY: it is EMPTY again (R262). -/
def answerNotReady (x q hint : Nat) (s : State) : State :=
  match rsegOf s x q with
  | none => s
  | some g => sendNack x q (s.flow x).recv.epoch 1 0 false false hint (rsegMsg g).1 (rsegMsg g).2 (dropRSeg x q s)

/-- NOT_READY from the Porch's decision, counted at the room's host port (R212, R217). -/
def porchNotReady (x q hint rid : Nat) (s : State) : State :=
  tally .NOT_READY_SENT_PORCH (answerNotReady x q hint s) (s.room rid).hport

/-- NOT_READY from the Crystalliser, with its hint (R235, R243). -/
def crystalNotReady (x q : Nat) (s : State) : State :=
  tally .NOT_READY_SENT (answerNotReady x q (s.get .CRYSTAL_CFG_FULL_HINT_US) s)

/-! Receives: completion of a posted receive (R206, R220, R227). -/

/-- A receive's completion entry. -/
def recvCmpl (p : Posted) (status rank ctx tag : Nat) (imm : Option Nat) (len fail aux : Nat) : Cmpl :=
  { op := 2, status := status, rank := rank, ctx := ctx, cookie := p.cookie, imm := imm.getD 0, len := len, tag := tag,
    fail := fail, aux := aux }

/-- The completion of a receive that a message took: RANK, CONTEXT, TAG and IMM are the message's (R220). -/
def matchCmpl (m : MsgEntry) (p : Posted) (status len fail aux : Nat) : Cmpl :=
  recvCmpl p status (leadRank m.lead) (leadCtx m.lead) (leadTag m.lead) (if leadHasImm m.lead then some (leadImm m.lead) else none) len fail aux

/-- A receive completes with an entry; a Pickup receive gives its space back. -/
def endRecv (p : Posted) (c : Cmpl) (s : State) : State :=
  let s1 := if p.pickup then pickReturn p.room (pickSpace p.len) s else s
  complete p.room c true p.silent (s1.modRoom p.room (fun r => { r with outstanding := r.outstanding - 1 }))

/-- A verified Pickup packet becomes visible: it completes its receive, with no entry, and raises its notice (R206, R214). -/
def showPickup (p : Posted) (c : Cmpl) (bytes : List Nat) (s : State) : State :=
  let r := s.room p.room
  let s1 := s.modRoom p.room (fun r => { r with outstanding := r.outstanding - 1, reserved := r.reserved - 1 })
  if s.hostStopped || r.st != 1 then pickReturn p.room (pickSpace p.len) s1
  else
    let body := (List.range (ceilDiv bytes.length 8)).map (fun i => wd (leNat ((bytes.drop (8 * i)).take 8)))
    let s2 := s1.modRoom p.room (fun r => { r with pickups := r.pickups ++ [(c.words 0 ++ body, p.cookie, pickSpace p.len)] })
    if r.pickNotify then sendMsix r.hport r.pickVec s2 else s2

/-- A receive whose data has been delivered ends. -/
def finishRecv (p : Posted) (c : Cmpl) (pick : List Nat) (s : State) : State :=
  if p.pickup && (c.status == stOk || c.status == stTruncated) then showPickup p c pick s else endRecv p c s

/-! Operations at the source (R244, R268). -/

/-- An operation. -/
def State.op (s : State) (i : Nat) : Option OpSt := Tab.find? s.thresh.ops i

/-- Replace an operation. -/
def putOp (i : Nat) (o : OpSt) (s : State) : State := modThresh (fun t => { t with ops := Tab.put t.ops i o }) s

/-- Change an operation. -/
def modOp (i : Nat) (f : OpSt → OpSt) (s : State) : State := modThresh (fun t => { t with ops := Tab.modify t.ops i f }) s

/-- Start an operation: its number. -/
def newOp (o : OpSt) (s : State) : Nat × State :=
  let i := s.thresh.nextOp
  (i, modThresh (fun t => { t with ops := Tab.put t.ops i o, nextOp := i + 1 }) s)

/-- Bytes whose segments an operation counts. -/
def OpSt.bytes (o : OpSt) : Nat := if o.kind = .rndvSend then o.getLen.getD 0 else o.len

/-- Offsets an operation must settle; an announcement before its get has the announcement alone. -/
def OpSt.offsets (o : OpSt) : Nat := segCount o.bytes

/-- Every segment is acknowledged, delivered or failed. -/
def OpSt.settled (o : OpSt) : Bool :=
  if o.kind = .rndvSend && o.getLen.isNone then !o.fails.isEmpty
  else (List.range o.offsets).all (fun i => o.done.contains i || o.fails.any (fun f => f.1 == i))

/-- Bytes delivered. -/
def OpSt.delivered (o : OpSt) : Nat := (((List.range o.offsets).filter (fun i => o.done.contains i)).map (fun i => segBytes o.bytes i)).sum

/-- Segment offsets that failed, lowest first. -/
def OpSt.lowest (o : OpSt) : Nat × Nat × Nat :=
  match o.fails with
  | [] => (0, 0, 0)
  | a :: r => r.foldl (fun b f => if f.1 < b.1 then f else b) a

/-- The failed region may be partly written (Table 10.8). -/
def OpSt.dirtyRegion (o : OpSt) : Bool := o.fails.any (fun f => f.2.1 == stTimeout || f.2.1 == stFlowReset || f.2.1 == stFenced)

/-- STATUS, LENGTH, FAIL_OFFSET and AUX of a settled operation (R268, R275). -/
def OpSt.outcome (o : OpSt) : Nat × Nat × Nat × Nat :=
  if o.fails.isEmpty then (stOk, if o.kind = .atomic then 8 else o.bytes, 0, 0)
  else
    let lo := o.lowest
    if o.fails.any (fun f => f.2.1 == stFenced) then (stFenced, o.delivered, 4096 * lo.1, 1)
    else if (o.done.isEmpty : Bool) then (lo.2.1, 0, 0, lo.2.2)
    else (stPartial, o.delivered, 4096 * lo.1, b2n o.dirtyRegion)

/-- The receive of a rendezvous get ends: OK or TRUNCATED, or as its get (R225, R227). -/
def endRndvGet (o : OpSt) (p : Posted) (s : State) : State :=
  let (st, len, fo, aux) := o.outcome
  let truncated := decide (p.len < wf_ o.entry 0 0 32)
  let imm := if (wn o.entry 1).testBit 32 then some (wf_ o.entry 1 0 32) else none
  finishRecv p (recvCmpl p (if st = stOk ∧ truncated then stTruncated else st) (wf_ o.entry 2 0 24) (wf_ o.entry 2 24 16)
    (wf_ o.entry 0 32 32) imm len fo aux) o.pick s

/-- Complete an operation that is settled and remove it (R268). -/
def tryFinish (i : Nat) (s : State) : State :=
  match s.op i with
  | none => s
  | some o =>
    if !o.settled || o.kind == .response then s
    else
      let s0 := match o.lb with
        | some ws => lbReturn o.room (packetBytes ws) s
        | none => s
      let s1 := modThresh (fun t => { t with ops := Tab.del t.ops i }) s0
      let (st, len, fo, aux) := o.outcome
      if o.kind == .zeroGet then s1
      else if o.kind == .rndvGet then
        match o.recv with
        | some p => endRndvGet o p s1
        | none => s1
      else completeWork o.room o.entry { statusOf o.entry st aux with len := len, fail := fo } s1

/-- A segment offset of an operation fails, once. -/
def failOff (i off status aux : Nat) (s : State) : State :=
  modOp i (fun o => if o.done.contains off || o.fails.any (fun f => f.1 == off) then o
    else { o with fails := o.fails ++ [(off, status, aux)] }) s

/-- A segment offset of an operation is delivered or acknowledged. -/
def doneOff (i off : Nat) (s : State) : State :=
  modOp i (fun o => if o.done.contains off then o else { o with done := o.done ++ [off] }) s

/-- The rendezvous send that a get of a node names (R226). -/
def rndvSendOf (s : State) (peer msg : Nat) : Option Nat :=
  (List.find? (fun e => e.2.kind == .rndvSend && e.2.peer == peer && e.2.msgId == msg && e.2.msgSet) s.thresh.ops).map (·.1)

/-- The operation of this device that a response names: gets and atomics by the counter's number, rendezvous gets by the
announcement's. -/
def requestOf (s : State) (peer msg : Nat) (rndv atomic : Bool) : Option Nat :=
  (List.find? (fun e => e.2.peer == peer && e.2.msgId == msg && e.2.msgSet &&
    (if atomic then e.2.kind == .atomic else if rndv then e.2.kind == .rndvGet || e.2.kind == .zeroGet else e.2.kind == .get))
    s.thresh.ops).map (·.1)

/-- Response timer of a request (R265). -/
def respLimit (s : State) : Nat := s.now + s.get .THRESH_ACK_CFG_RESP_MULT * rtoMax s

/-- A segment of an operation toward a peer is outstanding, or waits before its first transmission. -/
def segsLeft (s : State) (x i : Nat) : Bool :=
  let mine := fun (l : List Seg) => l.any (fun g => g.opId == i)
  let f := (s.flow x).send
  mine f.out || mine f.wait || mine f.pend || mine s.thresh.admitQ || s.sluice.queues.any (fun e => mine e.2)

/-- Remove a response operation whose segments have all left the flow. -/
def dropResponse (i : Nat) (s : State) : State :=
  match s.op i with
  | some o =>
    if o.kind == .response && !segsLeft s o.peer i && !s.thresh.respWait.any (fun w => w.seg.opId == i) then
      modThresh (fun t => { t with ops := Tab.del t.ops i }) s
    else s
  | none => s

/-- A response segment is acknowledged or met a final NACK: it counts for the rendezvous send it serves, and an atomic's
response frees its cache entry (R226, R264). -/
def responseEnds (o : OpSt) (off : Nat) (fail : Option (Nat × Nat)) (s : State) : State :=
  match o.answers with
  | none => s
  | some (peer, msg) =>
    if o.code = 0x3F then
      if fail.isSome then s
      else modThresh (fun t => { t with atomics := t.atomics.map (fun a => if a.src = peer ∧ a.msgId = msg then { a with acked := true } else a) }) s
    else if o.recv.isNone && o.getLen.isSome then
      match rndvSendOf s peer msg with
      | none => s
      | some i =>
        match fail with
        | none => tryFinish i (doneOff i off s)
        | some (st, aux) => tryFinish i (failOff i off st aux s)
    else s

/-- A segment is acknowledged (R256). The response timer of a request starts once none of its reissues awaits its acknowledgement (R265). -/
def segAcked (g : Seg) (s : State) : State :=
  match s.op g.opId with
  | none => s
  | some o =>
    match o.kind with
    | .send | .put => tryFinish g.opId (doneOff g.opId (leadOff g.lead) s)
    | .rndvSend => modOp g.opId (fun o => { o with reqAcked := true }) s
    | .get | .atomic | .rndvGet | .zeroGet =>
      if segsLeft s o.peer g.opId then s else modOp g.opId (fun o => { o with reqAcked := true, respAt := some (respLimit s) }) s
    | .response => dropResponse g.opId (responseEnds o (leadOff g.lead) none s)

/-- Offsets a request segment asks for that are still missing. -/
def missingOf (o : OpSt) : List Nat :=
  (List.range o.offsets).filter (fun i => !o.done.contains i && !o.fails.any (fun f => f.1 == i))

/-- A segment fails with a status (R259, R261, R273). -/
def segFailed (g : Seg) (status aux : Nat) (final : Bool) (s : State) : State :=
  match s.op g.opId with
  | none => s
  | some o =>
    match o.kind with
    | .send | .put => tryFinish g.opId (failOff g.opId (leadOff g.lead) status aux s)
    | .rndvSend => tryFinish g.opId (failOff g.opId 0 status aux s)
    | .get | .rndvGet | .zeroGet | .atomic =>
      let run := if o.kind = .atomic then [0] else (List.range (leadImm g.lead)).map (fun i => leadOff g.lead + i)
      tryFinish g.opId (forEach run (fun k a => failOff g.opId k status aux a) s)
    | .response => dropResponse g.opId (if final then responseEnds o (leadOff g.lead) (some (status, aux)) s else s)

/-! Numbering and transmission (R82, R221, R245, R251). -/

/-- A work entry's operation numbers as a SEND. -/
def isSendKind (k : OpKind) : Bool := k == .send || k == .rndvSend

/-- A segment takes its SEG_SEQ and EPOCH, and its operation's first segment the MSG_ID; it joins the Threshold-to-Sluice
queue. -/
def numberSeg (g : Seg) (s : State) : State :=
  let f := (s.flow g.peer).send
  match s.op g.opId with
  | none => s
  | some o =>
    let send := isSendKind o.kind
    let mid := if o.msgSet then o.msgId else if send then f.sendCtr else f.opCtr
    let s1 := s.modSend g.peer (fun f => { f with
      next := (f.next + 1) % 65536,
      sendCtr := if o.msgSet || !send then f.sendCtr else (f.sendCtr + 1) % 2 ^ 32,
      opCtr := if o.msgSet || send then f.opCtr else (f.opCtr + 1) % 2 ^ 32 })
    let g1 := { g with seq := f.next, epoch := f.epoch, lead := setLeadMsg g.lead mid, no := s.thresh.segNo, enq := s.now }
    let asks := o.kind == .get || o.kind == .atomic || o.kind == .rndvGet || o.kind == .zeroGet
    let s2 := modOp g.opId (fun o => { o with
      msgId := mid, msgSet := true,
      req := if asks then some g1 else o.req, reqs := if asks then o.reqs ++ [(f.epoch, f.next)] else o.reqs }) s1
    modThresh (fun t => { t with segNo := t.segNo + 1, admitQ := t.admitQ ++ [g1] }) s2

/-- Send SYNC_REQ (R272). -/
def sendSync (x : Nat) (s : State) : State :=
  let s1 := ackCell x 0 0 0 1 0 0 0 s
  s1.modSend x (fun f => { f with syncAt := s.now + 4 * rtoMin s })

/-- A segment is ready: numbered on an OPEN flow, else it waits for the flow, whose synchronisation starts if it is FRESH. -/
def offerSeg (g : Seg) (s : State) : State :=
  let f := (s.flow g.peer).send
  if f.st = 2 ∧ f.deferred.isNone then numberSeg g s
  else
    let s1 := s.modSend g.peer (fun f => { f with pend := f.pend ++ [g] })
    if f.st = 0 then sendSync g.peer (s1.modSend g.peer (fun f => { f with st := 1, syncStart := s.now })) else s1

/-- Number the segments that waited for the flow. -/
def numberPend (x : Nat) (s : State) : State :=
  let l := (s.flow x).send.pend
  forEach l numberSeg (s.modSend x (fun f => { f with pend := [] }))

/-- The payload words of a segment: its bytes, with zeros to the end of the last cell (R81). -/
def payloadWords (g : Seg) (ws : List Word) : List Word :=
  let bs := takeBytes 0 g.bytes ws
  (List.range ((g.cells - 1) * 8)).map (fun i => wd (leNat ((bs.drop (8 * i)).take 8)))

/-- Channel of a segment's cells (R74). -/
def segVc (s : State) (resp : Bool) : Nat := if resp then (if s.hasVc 5 then 5 else 6) else (if s.hasVc 2 then 2 else 3)

/-- The cells of a segment, tile checks computed as the data enters (R71, R76, R83). -/
def segCellsOf (s : State) (g : Seg) (ws : List Word) : List Cell :=
  let dst := s.nodeOf g.peer
  let dd := dimDone0 s.plan.dims s.plan.sizes s.own dst
  let vc := segVc s g.resp
  let bodies := chunks8 (payloadWords g ws) (g.cells - 1)
  let lead : Cell := { ty := tyLead, vc := vc, dimDone := dd, dest := dst, src := s.own, seq := g.seq, epoch := g.epoch, idx := 0,
                       segCells := g.cells, last := g.cells == 1, check := bodyCrc g.lead, body := padWords 8 g.lead }
  lead :: (List.range (g.cells - 1)).map (fun i =>
    { ty := tyPayload, vc := vc, dimDone := dd, dest := dst, src := s.own, seq := g.seq, epoch := g.epoch, idx := i + 1,
      segCells := g.cells, last := i + 2 == g.cells, check := tileCheck ((bodies.drop (i / 4 * 4)).take 4),
      body := bodies.getD i [] })

/-- Send a segment's cells, or read its payload from host memory first; with the port's link down nothing is read (R456). -/
def launch (g : Seg) (s : State) : State :=
  match g.data with
  | .none_ => inject g.input (segCellsOf s g []) s g.pinned (some g.opId)
  | .words ws => inject g.input (segCellsOf s g ws) s g.pinned (some g.opId)
  | .host h pages =>
    if !s.flag .HPORT_STAT_LINK_UP h then s
    else
      let tag := s.thresh.nextTag
      readHost h pages tag (modThresh (fun t => { t with nextTag := tag + 1, reads := Tab.put t.reads tag (.payload g.peer g.seq g.epoch) }) s)

/-- An outstanding segment. -/
def outSeg (s : State) (x q : Nat) : Option Seg := (s.flow x).send.out.find? (fun g => g.seq == q)

/-- Change an outstanding segment. -/
def modOut (x q : Nat) (f : Seg → Seg) (s : State) : State :=
  s.modSend x (fun w => { w with out := w.out.map (fun g => if g.seq = q then f g else g) })

/-- Remove an outstanding segment. -/
def dropOut (x q : Nat) (s : State) : State := s.modSend x (fun w => { w with out := w.out.filter (fun g => g.seq != q) })

/-- One segment of the device budget, in its units (R333). -/
def oneSeg : Nat := 327680

/-- Retransmit a segment whole, if the device budget holds one (R258, R332) and the Hall input takes its cells (R18). -/
def retransmit (x q : Nat) (fast : Bool) (s : State) : State :=
  match outSeg s x q with
  | none => s
  | some g =>
    if s.hostStopped || decide (s.sluice.budget < oneSeg) || !hallTakes s g.input (segVc s g.resp) then s
    else
      let rto := min (2 * g.rto) (rtoMax s)
      let g1 := { g with rto := rto, retx := g.retx + 1, timerAt := some (s.now + rto), fastAt := if fast then some s.now else g.fastAt,
                         resendAt := none }
      let s1 := modOut x q (fun _ => g1) { s with sluice := { s.sluice with budget := s.sluice.budget - oneSeg } }
      launch g1 (tally (if fast then .FAST_RETX else .RETX) s1)

/-! Resets (R93, R272, R273). -/

/-- A request segment asked for again: one GET_REQ for a run of missing offsets, or the atomic (R265, R266). -/
def reissueSeg (g : Seg) (frm n : Nat) : Seg :=
  let l := g.lead
  let l1 := if isAtomic (leadOp l) then l
    else mkLead (leadOp l) (leadFlags l) (leadDestRoom l) (leadSrcRoom l) (leadJob l) (leadKeyIdx l) (leadKeyGen l) (leadMsg l)
      (leadRemote l) (leadLen l) frm (leadCtx l) (leadRank l) (leadTag l) n (l.getD 6 0) (l.getD 7 0)
  { g with lead := l1, timerAt := none, rto := 0, retx := 0, fastAt := none, hint := none, resendAt := none, unticketed := 0 }

/-- Contiguous runs of a rising list: first element and length. -/
def runsOf (l : List Nat) : List (Nat × Nat) :=
  l.foldl (fun acc i =>
    match acc.getLast? with
    | some (a, n) => if a + n = i then acc.dropLast ++ [(a, n + 1)] else acc ++ [(i, 1)]
    | none => [(i, 1)]) []

/-- Reissue what a get or atomic still misses (R265). -/
def reissue (g : Seg) (s : State) : State :=
  match s.op g.opId with
  | none => s
  | some o =>
    let s1 := modOp g.opId (fun o => { o with reqAcked := false, respAt := none }) s
    if o.kind = .atomic then offerSeg (reissueSeg g 0 1) s1
    else forEach (runsOf (missingOf o)) (fun r a => offerSeg (reissueSeg g r.1 r.2) a) s1

/-- Segments of a peer that wait in the Sluice or before it, in the order they reached it. -/
def queuedSegs (s : State) (x : Nat) : List Seg :=
  let l := s.thresh.admitQ ++ s.sluice.queues.flatMap (·.2) ++ (s.flow x).send.wait
  (l.filter (fun g => g.peer == x)).mergeSort (fun a b => decide (a.no ≤ b.no))

/-- Remove a peer's segments from the Sluice's queues. -/
def clearQueued (x : Nat) (s : State) : State :=
  let s1 := modThresh (fun t => { t with admitQ := t.admitQ.filter (fun g => g.peer != x) }) s
  let n := (s.flow x).send.wait.length
  { s1 with sluice := { s1.sluice with queues := Tab.mapD s1.sluice.queues [] (fun _ l => l.filter (fun g => g.peer != x)),
                                       waitCount := s1.sluice.waitCount - n } }.modSend x (fun f => { f with wait := [] })

/-- A segment that left the old epoch unacknowledged (R273). -/
def resetSeg (fresh : Bool) (g : Seg) (s : State) : State :=
  match s.op g.opId with
  | none => s
  | some o =>
    match o.kind with
    | .send | .rndvSend | .put =>
      if fresh then
        offerSeg { g with timerAt := none, rto := 0, retx := 0, fastAt := none, hint := none, resendAt := none, unticketed := 0 } s
      else segFailed g stFlowReset 0 false s
    | .get | .rndvGet | .zeroGet =>
      let run := ((List.range (leadImm g.lead)).map (fun i => leadOff g.lead + i)).filter (fun k => (missingOf o).contains k)
      forEach (runsOf run) (fun r a => offerSeg (reissueSeg g r.1 r.2) a) s
    | .atomic => offerSeg (reissueSeg g 0 1) s
    | .response => dropResponse g.opId s

/-- A segment that was never admitted is numbered anew; one of a SEND that failed in part fails with it (log 55). -/
def resetQueued (g : Seg) (s : State) : State :=
  match s.op g.opId with
  | none => s
  | some o =>
    if o.kind = .response then dropResponse g.opId s
    else if isSendKind o.kind && !o.fails.isEmpty then segFailed g stFlowReset 0 false s
    else offerSeg { g with timerAt := none } s

/-- A send-side reset (R272, R273): the flow takes its next epoch, with what was outstanding treated as Table 10.12 states. -/
def sendReset (x : Nat) (fresh : Bool) (s : State) : State :=
  let f := (s.flow x).send
  let q := queuedSegs s x
  let sends := (f.out ++ q).map (·.opId)
  let s1 := (clearQueued x s).modSend x (fun f => { f with
    epoch := (f.epoch + 1) % 4, next := 0, acked := 0xFFFF, sendCtr := 0, out := [], conf := [], held := [], seen := 0, lastNeed := 0,
    lastReq := none, lastAdvance := some s.now, deferred := none, pend := [] })
  let s2 := forEach sends (fun i a => modOp i (fun o => if isSendKind o.kind then { o with msgSet := false } else o) a) s1
  let work := (f.out.map (fun g => (true, g)) ++ q.map (fun g => (false, g))).mergeSort (fun a b => decide (a.2.no ≤ b.2.no))
  let s4 := forEach work (fun e => if e.1 then resetSeg fresh e.2 else resetQueued e.2) s2
  let s5 := forEach f.pend numberSeg s4
  event 8 .THRESH_EVENTS_FLOW_RESET_SEEN (tally .FLOW_RESET s5)

/-- A message of an old epoch that a receive had taken ends PARTIAL with AUX 1 (R273). -/
def cutMessage (m : MsgEntry) (s : State) : State :=
  match m.recv with
  | none => s
  | some p =>
    let len := min p.len (((List.range (segCount m.total)).filter (fun i => m.done.contains i)).map (fun i => segBytes m.total i)).sum
    let first := ((List.range (segCount m.total)).find? (fun i => !m.done.contains i)).getD 0
    endRecv p (matchCmpl m p stPartial len (4096 * first) 1) s

/-- A receive side takes a new epoch (R272, step 5). -/
def recvReset (x epoch : Nat) (s : State) : State :=
  let cut := s.crystal.msgs.filter (fun m => m.src == x && decide (m.done.length < segCount m.total))
  let gone := fun (i : Nat) => cut.any (fun m => m.id == i && m.recv.isNone)
  let s1 := { s with
    crystal := { s.crystal with
      msgs := s.crystal.msgs.filter (fun m => !(m.src == x && decide (m.done.length < segCount m.total))),
      unexp := s.crystal.unexp.filter (fun u => !gone u.id),
      input := s.crystal.input.filter (fun c => match c with
        | .arrive y _ => y != x
        | _ => true) },
    porch := { s.porch with deliveries := s.porch.deliveries.filter (fun d => match d with
        | .seg y _ => y != x
        | .stored _ => true) } }
  let s2 := s1.modRecv x (fun r => { r with st := 1, epoch := epoch, w := 0xFFFF, segs := [], n := 0, sinceAck := 0, coalAt := none,
                                            ce := 0, cum := 0, pending := 0, lastReset := none, fresh := false })
  event 8 .THRESH_EVENTS_FLOW_RESET_SEEN (tally .FLOW_RESET (forEach cut cutMessage s2))

end Sys2Proof.Machine
end

