-- ==== Sys2Proof/Machine/Line.lean ====
section
/-! DEFINITION. The line coding of a network port: the bytes of cells, frames and parameter blocks (R67, R128, R129, R132), the FEC and
its interleaver (R133), the scrambler and PAM4 levels of the lanes (R158, R159), BIP8 and alignment markers (R160), and training
control words (R169). -/
namespace Sys2Proof.Machine

/-! Bytes (R67, Tables 6.1 to 6.4). -/

/-- A cell as transmitted: header word 0, header word 1, body, each least significant byte first (R67). -/
def cellBytes (c : Cell) : List Nat := leBytes 8 (Cell.word0 c) ++ leBytes 8 (Cell.word1 c) ++ wordsBytes (padWords 8 c.body)

/-- A slot of a frame: a void slot keeps the header words of its cell and has a zero body (R129). -/
def slotBytes (sl : Slot) : List Nat := cellBytes (if sl.void then { sl.cell with body := [] } else sl.cell)

/-- Four 16-bit counters of a header word. -/
def quad (l : List Nat) (i : Nat) : Nat :=
  at_ (l.getD i 0) 0 16 + at_ (l.getD (i + 1) 0) 16 16 + at_ (l.getD (i + 2) 0) 32 16 + at_ (l.getD (i + 3) 0) 48 16

/-- Bit i set where slot i is void (Table 6.2). -/
def voidMap (slots : List Slot) : Nat := (slots.zipIdx.map (fun e => b2n e.1.void * 2 ^ e.2)).sum

/-- The five words of a frame header (Table 6.2). -/
def hdrWords (h : FrameHdr) (slots : List Slot) : List Word :=
  [wd (at_ h.ftype 0 4 + at_ h.version 4 4 + at_ h.slotCount 8 4 + at_ h.seqBase 16 16 + at_ (voidMap slots) 32 15),
   wd (at_ h.ackNext 0 16 + at_ h.nackCode 16 8 + at_ h.nackSeq 24 16 + at_ h.event 40 8 + at_ h.eventArg 48 8),
   wd (quad h.creditCum 0), wd (quad h.creditCum 4), wd (at_ h.word4 0 48)]

/-- Eight 12-bit figures of a word pair, at multiples of 16 bits (Table 6.4). -/
def twelves (l : List Nat) (i : Nat) : Word := wd (quad ((l.drop i).map (· % 4096)) 0)

/-- The ten words of a parameter block (Table 6.4). -/
def blockWords (b : ParamBlock) : List Word :=
  [wd (at_ b.node 0 20 + at_ b.port 20 7 + at_ b.vcMask 27 8 + at_ b.fecSel 35 1 + at_ (b2n b.oneLane) 36 1 + at_ b.rateMax 37 2),
   twelves b.reserved 0, twelves b.reserved 4, twelves b.sharedCap 0, twelves b.sharedCap 4, 0, 0, 0, 0, 0]

/-- Pad or cut a list of bytes. -/
def padBytes (n : Nat) (bs : List Nat) : List Nat := (bs ++ List.replicate n 0).take n

/-- The 1,250 data bytes of a frame from its header words and its contents (Table 6.1): FRAME_CRC over bytes 0 to 1,245. -/
def frameBytes (hdr : List Word) (body : List Nat) : List Nat :=
  let bs := wordsBytes (padWords 5 hdr) ++ padBytes 1206 body
  bs ++ leBytes 4 (crc32c bs)

/-- The bytes of a DATA frame: fifteen slots of 80 bytes. -/
def dataBytes (h : FrameHdr) (slots : List Slot) : List Nat := frameBytes (hdrWords h slots) (slots.flatMap slotBytes)

/-- The bytes of a PARAM frame: the parameter block in bytes 40 to 119 (R132). -/
def paramBytes (h : FrameHdr) (b : ParamBlock) : List Nat := frameBytes (hdrWords h []) (wordsBytes (blockWords b))

/-! Reed–Solomon codes over GF(2^10) (R133). -/

/-- Product in GF(2^10) with the primitive polynomial x^10 + x^3 + 1. -/
def gfMul (a b : Nat) : Nat :=
  (List.range 10).foldl (fun acc i =>
    let d := if acc < 512 then 2 * acc else (2 * acc) ^^^ 0x409
    if b.testBit (9 - i) then d ^^^ a else d) 0

/-- α^i, α = x. -/
def gfPow : Nat → Nat
  | 0 => 1
  | n + 1 => gfMul 2 (gfPow n)

/-- The generator polynomial with roots α^0 to α^(n-1), coefficients from the constant term up. -/
def rsGen : Nat → List Nat
  | 0 => [1]
  | n + 1 =>
    let g := rsGen n
    List.zipWith (· ^^^ ·) (0 :: g) (g.map (gfMul (gfPow n)) ++ [0])

/-- Parity symbols of a codeword: the remainder of its data by the generator, the first symbol at the highest power
(PRESUMED, log 4). -/
def rsParity (n : Nat) (data : List Nat) : List Nat :=
  let g := (rsGen n).reverse.drop 1
  data.foldl (fun r d =>
    let f := d ^^^ r.headD 0
    List.zipWith (· ^^^ ·) (r.drop 1 ++ [0]) (g.map (gfMul f))) (List.replicate n 0)

/-- The 1,000 data symbols of a frame's bytes: ten bits each, first bit least significant. -/
def dataSyms (bs : List Nat) : List Nat :=
  let x := leNat bs
  (List.range 1000).map (fun i => bits x (10 * i) 10)

/-- Parity symbols of each codeword: 12 under Light FEC, 24 under Heavy FEC. -/
def paritySyms (fec : Nat) : Nat := if fec = 0 then 12 else 24

/-- The symbols of a logical frame: data symbol i in codeword i mod 2, parity symbol k of codeword j at 1,000 + 2k + j. -/
def codedSyms (fec : Nat) (bs : List Nat) : List Nat :=
  let d := dataSyms bs
  let part := fun (j : Nat) => (List.range 500).map (fun i => d.getD (2 * i + j) 0)
  let p0 := rsParity (paritySyms fec) (part 0)
  let p1 := rsParity (paritySyms fec) (part 1)
  d ++ (List.range (2 * paritySyms fec)).map (fun i => if i % 2 = 0 then p0.getD (i / 2) 0 else p1.getD (i / 2) 0)

/-- The line frame: under Heavy FEC, position i carries that of the logical frame i mod 4 frames earlier. -/
def interleave (fec : Nat) (now_ : List Nat) (before : List (List Nat)) : List Nat :=
  if fec = 0 then now_ else now_.mapIdx (fun i x => if i % 4 = 0 then x else (before.getD (i % 4 - 1) []).getD i 0)

/-! Lanes (R133, R158, R159). -/

/-- The symbols of a lane: position i on lane i mod 2; on one lane every symbol. -/
def laneSyms (one : Bool) (k : Nat) (syms : List Nat) : List Nat :=
  if one then syms else (syms.zipIdx.filter (fun e => e.2 % 2 == k)).map (·.1)

/-- The bits of symbols, least significant first. -/
def symBits (syms : List Nat) : List Bool := syms.flatMap (fun x => (List.range 10).map (fun i => x.testBit i))

/-- One bit through the additive scrambler x^58 + x^39 + 1, and into BIP8 at its position since the marker. -/
def scrambleBit (l : LaneLine) (b : Bool) : Bool × LaneLine :=
  let k := l.scr.testBit 38 ^^ l.scr.testBit 57
  let y := b ^^ k
  (y, { scr := (2 * l.scr + b2n k) % 2 ^ 58, pos := l.pos + 1, bip := if y then l.bip ^^^ 2 ^ (l.pos % 8) else l.bip })

/-- Bits through the scrambler. -/
def scramble : List Bool → LaneLine → List Bool × LaneLine
  | [], l => ([], l)
  | b :: r, l =>
    let (y, l1) := scrambleBit l b
    let (ys, l2) := scramble r l1
    (y :: ys, l2)

/-- PAM4 levels, Gray coded, the earlier bit of each pair the more significant (R158). -/
def pam4 : List Bool → List Nat
  | a :: b :: r => (if a then (if b then 2 else 3) else b2n b) :: pam4 r
  | _ => []

/-- The line coding state of a port. -/
def State.lineOf (s : State) (p : Nat) : LineSt := Tab.get s.line p {}

/-- Replace the line coding state of a port. -/
def State.setLine (s : State) (p : Nat) (x : LineSt) : State := { s with line := Tab.set s.line p x {} }

/-- Lanes on which a port transmits: both, or the carrying lane (R166). -/
def txLanes (s : State) (p : Nat) (one : Bool) : List Nat :=
  if one then [if s.flag .LANE_STAT_TX_CARRY (2 * p + 1) then 1 else 0] else [0, 1]

/-- A line frame leaves on the lanes of a port under the FEC that the latest marker names (R161). -/
def sendLine (p : Nat) (one : Bool) (bs : List Nat) (s : State) : State :=
  let x := s.lineOf p
  let coded := codedSyms x.fec bs
  let line := interleave x.fec coded x.hist
  let s1 := s.setLine p { x with frames := x.frames + 1, hist := (coded :: x.hist).take 3 }
  forEach (txLanes s p one) (fun k a =>
    let (ys, l) := scramble (symBits (laneSyms one k line)) (x.lanes.getD k {})
    emit (.lane p k (pam4 ys)) (a.setLine p { (a.lineOf p) with lanes := (a.lineOf p).lanes.set k l })) s1

/-! Alignment markers (R160, Table 7.2). -/

/-- The 160 bits of an alignment marker (Table 7.2). -/
def markerBits (fec rate : Nat) (one : Bool) (k count bip : Nat) : Nat :=
  let pat := if k = 0 then 0x3C5A96E13C5A96E1 else 0xC3A5691EC3A5691E
  let low := at_ pat 0 64 + at_ fec 64 1 + at_ rate 65 2 + at_ (b2n one) 67 1 + at_ k 68 1 + at_ count 80 16 + at_ bip 96 8
  low + 2 ^ 128 * crc32c (leBytes 16 low)

/-! Training control words (R169, Table 7.5). -/

/-- The two words of a training control word, with TCW_CRC over word 0 and bits 31:0 of word 1. -/
def tcwWords (t : TCW) : List Word :=
  let w0 := at_ t.state 0 4 + at_ t.caps 4 4 + at_ t.rateNow 8 2 + at_ t.rateReq 10 2 + at_ t.fom 12 8 + at_ t.eqReq 20 4 + at_ t.eqTap 24 3
    + at_ (b2n t.eqAck) 27 1 + at_ (b2n t.eqLimit) 28 1 + at_ t.seq 32 8 + at_ t.eqSeq 40 8
  let w1 := at_ t.node 0 20 + at_ t.port 20 7
  [wd w0, wd (w1 + 2 ^ 32 * crc32c (leBytes 8 w0 ++ leBytes 4 w1))]

/-- The sync pattern that begins a training frame. -/
def trainingSync : Word := 0x0FF00FF0F00FF00F

/-! Figure of merit (R164). -/

/-- clamp(floor(8 × (10 × log10(num / den) − 8)), 0, 255), exactly: the figure reaches n where (num / den)^80 reaches 10^(n + 64). -/
def fomOf (num den : Nat) : Nat :=
  if den = 0 then 255 else ((List.range 255).takeWhile (fun n => decide (den ^ 80 * 10 ^ (n + 65) ≤ num ^ 80))).length

end Sys2Proof.Machine
end

