-- ==== Sys2Proof/Machine/Float.lean ====
section
/-! DEFINITION. The numeric formats of the Rake and the atomics: floating-point encodings as exact integers, rounding to
nearest even, order, and the binned partials of Order-free sums (R298 to R304). -/
namespace Sys2Proof.Machine

/-- A binary floating-point format: exponent and fraction widths. -/
structure Fmt where
  eb : Nat
  mb : Nat
deriving DecidableEq, Repr

/-- Formats of CTYPE codes 3 to 6 (Table 12.4): fp16, bf16, fp32, fp64. -/
def fmtOf (ctype : Nat) : Fmt := if ctype = 3 then ⟨5, 10⟩ else if ctype = 4 then ⟨8, 7⟩ else if ctype = 5 then ⟨8, 23⟩ else ⟨11, 52⟩

/-- Width in bits. -/
def Fmt.width (f : Fmt) : Nat := f.eb + f.mb + 1
/-- Bit pattern of +infinity. -/
def Fmt.inf (f : Fmt) : Nat := (2 ^ f.eb - 1) * 2 ^ f.mb
/-- The canonical quiet NaN (Table 12.5). -/
def Fmt.nan (f : Fmt) : Nat := f.inf + 2 ^ (f.mb - 1)
/-- Magnitude bits. -/
def Fmt.mag (f : Fmt) (x : Nat) : Nat := x % 2 ^ (f.eb + f.mb)
/-- Sign bit. -/
def Fmt.neg (f : Fmt) (x : Nat) : Bool := x.testBit (f.eb + f.mb)
/-- The pattern is a NaN. -/
def Fmt.isNan (f : Fmt) (x : Nat) : Bool := decide (f.inf < f.mag x)
/-- The pattern is an infinity. -/
def Fmt.isInf (f : Fmt) (x : Nat) : Bool := f.mag x == f.inf

/-- A finite value as an exact integer in units of the format's least subnormal. -/
def Fmt.fix (f : Fmt) (x : Nat) : Int :=
  let m := f.mag x
  let e := m / 2 ^ f.mb
  let v : Nat := if e = 0 then m else (2 ^ f.mb + m % 2 ^ f.mb) * 2 ^ (e - 1)
  if f.neg x then -(v : Int) else v

/-- Round `v / 2 ^ sh` least subnormals to nearest even; magnitudes beyond the largest finite value become infinite. -/
def Fmt.round (f : Fmt) (v : Int) (sh : Nat) (zneg : Bool := false) : Nat :=
  let a := v.natAbs
  if a = 0 then (if zneg then 2 ^ (f.eb + f.mb) else 0)
  else
    let drop := max sh (Nat.log2 a - f.mb)
    let q := a / 2 ^ drop
    let r := a % 2 ^ drop
    let up := drop ≠ 0 ∧ (2 ^ (drop - 1) < r ∨ (r = 2 ^ (drop - 1) ∧ q % 2 = 1))
    let q1 := if up then q + 1 else q
    let m := min f.inf ((drop - sh) * 2 ^ f.mb + q1)
    m + (if v < 0 then 2 ^ (f.eb + f.mb) else 0)

/-- IEEE 754 addition rounded to nearest even, with the canonical NaN. -/
def Fmt.add (f : Fmt) (x y : Nat) : Nat :=
  if f.isNan x || f.isNan y then f.nan
  else if f.isInf x && f.isInf y then (if f.neg x == f.neg y then x else f.nan)
  else if f.isInf x then x
  else if f.isInf y then y
  else f.round (f.fix x + f.fix y) 0 (f.neg x && f.neg y && f.mag x == 0 && f.mag y == 0)

/-- Convert between formats (widening is exact). -/
def Fmt.convert (f g : Fmt) (x : Nat) : Nat :=
  if f.isNan x then g.nan
  else
    let s := if f.neg x then 2 ^ (g.eb + g.mb) else 0
    if f.isInf x then g.inf + s
    else
      let ef : Int := 2 - 2 ^ (f.eb - 1) - f.mb
      let eg : Int := 2 - 2 ^ (g.eb - 1) - g.mb
      if eg ≤ ef then g.round (f.fix x * 2 ^ (ef - eg).toNat) 0 (f.neg x) else g.round (f.fix x) (eg - ef).toNat (f.neg x)

/-- Order key: -0 below +0. -/
def Fmt.key (f : Fmt) (x : Nat) : Int := if f.neg x then -(f.mag x : Int) - 1 else f.mag x

/-- A two's-complement number of `w` bits as an integer. -/
def sint (w x : Nat) : Int := if x.testBit (w - 1) then (x : Int) - 2 ^ w else x

/-! Binned partials (Table 12.6): D0, D1, D2 of 40 bits and T. -/

/-- Field of a partial. -/
def binT (p : Nat) : Nat := bits p 120 7
/-- Digit k of a partial. -/
def binD (p k : Nat) : Int := sint 40 (bits p (40 * k) 40)
/-- T is a special value. -/
def binNan (p : Nat) : Bool := binT p == 126 || (decide (96 ≤ binT p) && decide (binT p ≤ 123))
/-- T is an infinity. -/
def binInf (p : Nat) : Bool := binT p == 124 || binT p == 125

/-- A partial from its top bin and digits. -/
def mkBin (t : Nat) (d0 d1 d2 : Int) : Nat :=
  let w : Int := 2 ^ 40
  (d0 % w).toNat + (d1 % w).toNat * 2 ^ 40 + (d2 % w).toNat * 2 ^ 80 + t * 2 ^ 120

/-- The portion of an exact value (in units of 2^-1074) in a bin, counted from bin `b - 2` so that bins below 0 hold none. -/
def portion (v : Int) (b2 : Nat) : Int :=
  if b2 < 2 then 0
  else
    let p : Int := ((v.natAbs / 2 ^ (22 * (b2 - 2))) % 2 ^ 22 : Nat)
    if v < 0 then -p else p

/-- make of R302, on an fp64 pattern. -/
def binMake (x : Nat) : Nat :=
  let f := fmtOf 6
  if f.isNan x then 126 * 2 ^ 120
  else if f.isInf x then (if f.neg x then 124 else 125) * 2 ^ 120
  else
    let v := f.fix x
    if v = 0 then 127 * 2 ^ 120
    else
      let t := Nat.log2 v.natAbs / 22
      mkBin t (portion v t) (portion v (t + 1)) (portion v (t + 2))

/-- digit(P, b) of R302 with `b2 = b + 2`: the sum in a bin, 0 outside the window. -/
def binDigit (p b2 : Nat) : Int :=
  let t := binT p
  if t ≤ b2 ∧ b2 ≤ t + 2 then binD p (b2 - t) else 0

/-- combine of R302. -/
def binCombine (p q : Nat) : Nat :=
  if binT p = 127 then q
  else if binT q = 127 then p
  else if binNan p || binNan q then 126 * 2 ^ 120
  else if binInf p && binInf q then (if binT p = binT q then p else 126 * 2 ^ 120)
  else if binInf p then p
  else if binInf q then q
  else
    let t := max (binT p) (binT q)
    mkBin t (binDigit p t + binDigit q t) (binDigit p (t + 1) + binDigit q (t + 1)) (binDigit p (t + 2) + binDigit q (t + 2))

/-- The root's rounding of a partial to fp32 (CTYPE 5) or fp64 (R302). -/
def binRound (ctype p : Nat) : Nat :=
  let f := fmtOf ctype
  if binT p = 127 then 0
  else if binNan p then f.nan
  else if binT p = 125 then f.inf
  else if binT p = 124 then f.inf + 2 ^ (f.eb + f.mb)
  else
    let v : Int := binD p 0 + binD p 1 * 2 ^ 22 + binD p 2 * 2 ^ 44
    let e : Int := 22 * ((binT p : Int) - 2) - 1074
    let eg : Int := 2 - 2 ^ (f.eb - 1) - f.mb
    if eg ≤ e then f.round (v * 2 ^ (e - eg).toNat) 0 else f.round v (eg - e).toNat

end Sys2Proof.Machine
end

