-- ==== Sys2Proof/Machine/Trees.lean ====
section
/-! DEFINITION. The Rake's trees: chunks and their arithmetic, heads, windows and contexts, the course of an operation and its
abort (R295 to R314). -/
namespace Sys2Proof.Machine

/-! Chunks (R298, Table 12.4). -/

/-- Element bytes of a CTYPE. -/
def ctypeBytes (ctype : Nat) : Nat := if ctype = 0 ∨ ctype = 5 then 4 else if ctype = 3 ∨ ctype = 4 then 2 else 8
/-- MINLOC and MAXLOC. -/
def isLoc (cop : Nat) : Bool := cop == 6 || cop == 7
/-- The broadcasts. -/
def isBcast (cop : Nat) : Bool := cop == 9 || cop == 10
/-- Bytes of one element in host memory. -/
def memBytes (cop ctype : Nat) : Nat := if isLoc cop then 16 else ctypeBytes ctype
/-- A floating-point CTYPE. -/
def isFp (ctype : Nat) : Bool := decide (3 ≤ ctype)
/-- The operation carries binned partials. -/
def isBinned (cop ctype : Nat) (fast : Bool) : Bool := cop == 0 && decide (5 ≤ ctype) && !fast
/-- The operation carries fp32 partials of a 16-bit type. -/
def isWide (cop ctype : Nat) : Bool := cop == 0 && (ctype == 3 || ctype == 4)
/-- Bits of one element in a contribution cell. -/
def upBits (cop ctype : Nat) (fast : Bool) : Nat :=
  if isLoc cop || isBinned cop ctype fast then 128 else if isWide cop ctype then 32 else 8 * ctypeBytes ctype
/-- Bits of one element in a result cell. -/
def downBits (cop ctype : Nat) : Nat := if isLoc cop then 128 else 8 * ctypeBytes ctype
/-- Elements per chunk (Table 12.4). -/
def chunkElems (cop ctype : Nat) (fast : Bool) : Nat := 512 / upBits cop ctype fast
/-- Chunks of an operation. -/
def chunkTotal (cop ctype : Nat) (fast : Bool) (len : Nat) : Nat :=
  if cop = 8 then 0 else if isBcast cop then ceilDiv len 64
  else ceilDiv (len / memBytes cop ctype) (chunkElems cop ctype fast)
/-- Elements in chunk `k`. -/
def elemsIn (cop ctype : Nat) (fast : Bool) (len k : Nat) : Nat :=
  min (chunkElems cop ctype fast) (len / memBytes cop ctype - k * chunkElems cop ctype fast)
/-- Byte offset of chunk `k` in host memory, and its bytes. -/
def chunkOff (cop ctype : Nat) (fast : Bool) (k : Nat) : Nat :=
  if isBcast cop then 64 * k else k * chunkElems cop ctype fast * memBytes cop ctype
def chunkBytes (cop ctype : Nat) (fast : Bool) (len k : Nat) : Nat :=
  if isBcast cop then min 64 (len - 64 * k) else elemsIn cop ctype fast len k * memBytes cop ctype

/-- 64-byte bodies as numbers and back. -/
def bodyNat (ws : List Word) : Nat := ws.foldr (fun w a => w.toNat + 2 ^ 64 * a) 0
def natBody (x : Nat) : List Word := (List.range 8).map (fun i => wd (x / 2 ^ (64 * i)))
/-- Elements of `b` bits packed from byte 0. -/
def packElems (b : Nat) (es : List Nat) : List Word := natBody (es.foldr (fun e a => e % 2 ^ b + 2 ^ b * a) 0)
/-- Element `i` of `b` bits. -/
def elemAt (b i : Nat) (ws : List Word) : Nat := bits (bodyNat ws) (b * i) b

/-- Bytes [off, off + n) of a list of words as a number. -/
def memNat (ws : List Word) (off n : Nat) : Nat :=
  leNat ((List.range n).map (fun i => bits (wn ws ((off + i) / 8)) (8 * ((off + i) % 8)) 8))

/-- A contribution's element in its partial form (R302, R304). -/
def toPartial (cop ctype : Nat) (fast : Bool) (x : Nat) : Nat :=
  if isBinned cop ctype fast then binMake (if ctype = 5 then (fmtOf 5).convert (fmtOf 6) x else x)
  else if isWide cop ctype then (fmtOf ctype).convert (fmtOf 5) x
  else if isLoc cop then x % 2 ^ (8 * ctypeBytes ctype) + 2 ^ 64 * (x / 2 ^ 64)
  else x

/-- Chunk `k` of the host's contribution. A member that receives a broadcast contributes zero. -/
def hostChunk (cop ctype : Nat) (fast : Bool) (len k : Nat) (ws : List Word) : List Word :=
  if cop = 10 then natBody 0
  else if cop = 9 then natBody (memNat ws (64 * k) (min 64 (len - 64 * k)))
  else packElems (upBits cop ctype fast) ((List.range (elemsIn cop ctype fast len k)).map (fun i =>
    toPartial cop ctype fast (memNat ws (chunkOff cop ctype fast k + i * memBytes cop ctype) (memBytes cop ctype))))

/-- Order key of a value by type (R300). -/
def valKey (ctype x : Nat) : Int :=
  if isFp ctype then (fmtOf ctype).key x else if ctype = 0 then sint 32 x else if ctype = 1 then sint 64 x else x

/-- The lesser (or greater) of two values with the NaN rule of Table 12.5. -/
def minMax (big : Bool) (ctype a b : Nat) : Nat :=
  if isFp ctype && ((fmtOf ctype).isNan a || (fmtOf ctype).isNan b) then (fmtOf ctype).nan
  else if big then (if valKey ctype a < valKey ctype b then b else a) else (if valKey ctype b < valKey ctype a then b else a)

/-- MINLOC and MAXLOC of (value, index) elements. -/
def loc (big : Bool) (ctype a b : Nat) : Nat :=
  let va := a % 2 ^ 64
  let vb := b % 2 ^ 64
  let ia := a / 2 ^ 64
  let ib := b / 2 ^ 64
  let na := isFp ctype && (fmtOf ctype).isNan va
  let nb := isFp ctype && (fmtOf ctype).isNan vb
  if na || nb then (fmtOf ctype).nan + 2 ^ 64 * (if na && nb then min ia ib else if na then ia else ib)
  else if valKey ctype va = valKey ctype vb then va + 2 ^ 64 * min ia ib
  else if (if big then valKey ctype vb < valKey ctype va else valKey ctype va < valKey ctype vb) then a else b

/-- Combine two elements (Table 12.5). -/
def combineElem (cop ctype : Nat) (fast : Bool) (a b : Nat) : Nat :=
  match cop with
  | 0 =>
    if isBinned cop ctype fast then binCombine a b
    else if isWide cop ctype then (fmtOf 5).add a b
    else if isFp ctype then (fmtOf ctype).add a b
    else (a + b) % 2 ^ (8 * ctypeBytes ctype)
  | 1 => minMax false ctype a b
  | 2 => minMax true ctype a b
  | 3 => a &&& b
  | 4 => a ||| b
  | 5 => a ^^^ b
  | 6 => loc false ctype a b
  | 7 => loc true ctype a b
  | _ => a ||| b

/-- Combine two chunk bodies of `n` elements. -/
def combineBody (cop ctype : Nat) (fast : Bool) (n : Nat) (a b : List Word) : List Word :=
  if isBcast cop then natBody (bodyNat a ||| bodyNat b)
  else
    let w := upBits cop ctype fast
    packElems w ((List.range n).map (fun i => combineElem cop ctype fast (elemAt w i a) (elemAt w i b)))

/-- The root's rounding of a completed chunk (R302, R304). -/
def finishBody (cop ctype : Nat) (fast : Bool) (n : Nat) (a : List Word) : List Word :=
  if isBinned cop ctype fast then packElems (downBits cop ctype) ((List.range n).map (fun i => binRound ctype (elemAt 128 i a)))
  else if isWide cop ctype then
    packElems (downBits cop ctype) ((List.range n).map (fun i => (fmtOf 5).convert (fmtOf ctype) (elemAt 32 i a)))
  else a

/-! Tree entries and cells. -/

/-- Child ports of a tree entry. -/
def treeKids (s : State) (t : Nat) : List Nat :=
  (List.range 72).filter (fun p =>
    if p < 64 then (s.get .TREE_CHILD_CHILD_LO t).testBit p else (s.get .TREE_ENTRY_CHILD_HI t).testBit (p - 64))

/-- Parent port; 127 at the root. -/
def treeParent (s : State) (t : Nat) : Nat := s.get .TREE_ENTRY_PARENT t

/-- The device is the root of the tree. -/
def treeRoot (s : State) (t : Nat) : Bool := s.get .TREE_ENTRY_ROLE t == 3

/-- The operation state of a tree entry. -/
def State.tree (s : State) (t : Nat) : Option TreeSt := Tab.find? s.rake.trees t

/-- Replace the operation state of a tree entry. -/
def putTree (t : Nat) (x : TreeSt) (s : State) : State :=
  { s with rake := { s.rake with trees := Tab.put s.rake.trees t x } }

/-- Remove the operation state of a tree entry. -/
def dropTree (t : Nat) (s : State) : State := { s with rake := { s.rake with trees := Tab.del s.rake.trees t } }

/-- A tree cell (Table 12.7) with its replication set. -/
def sendTree (t ty kind lo : Nat) (body : List Word) (ports : List Nat) (s : State) : State :=
  if ports.isEmpty then s
  else injectTree { single ty 1 s.own 0 0 body with seq := lo * 1024 + t, epoch := kind } ports s

/-- TREE index, KIND and CHUNK_LO of a tree cell. -/
def cellTree (c : Cell) : Nat := c.seq % 1024
def cellKind (c : Cell) : Nat := c.epoch
def cellLo (c : Cell) : Nat := c.seq / 1024

/-- Body of a HEAD, GRANT or ABORT cell (Table 12.8). -/
def headBody (x : TreeSt) (status grant : Nat) : List Word :=
  [wd (at_ x.opSeq 0 8 + at_ x.cop 8 4 + at_ x.ctype 12 4 + at_ (b2n x.fast) 16 1 + at_ x.sources 24 4), wd (at_ x.len 0 32),
   wd (at_ x.members 0 32 + at_ x.fenced 32 32), wd (at_ status 0 8 + at_ grant 8 5), 0, 0, 0, 0]

/-- Children that are expected inputs. -/
def expectedKids (s : State) (t : Nat) (x : TreeSt) : List Nat := (treeKids s t).filter (fun p => !x.pruned.contains p)

/-! Completion and end. -/

/-- A COLL completion (R313). -/
def collCmpl (e : List Word) (status len imm aux : Nat) : Cmpl :=
  { op := 0x40, status := status, rank := weRank e, cookie := weCookie e, imm := imm, len := len, tag := weTag e, aux := aux }

/-- Contexts are counted anew when none is in use (Table 12.14). -/
def applyWindow (s : State) : State :=
  if s.get .RAKE_STAT_CTX_FREE = s.get .RAKE_STAT_CTX_TOTAL ∧ s.get .RAKE_STAT_WINDOW_LOG2 ≠ s.get .RAKE_CFG_WINDOW_LOG2 then
    let n := s.get .RAKE_CFG_WINDOW_LOG2
    let c := 63488 / 2 ^ n
    ((s.set .RAKE_STAT_WINDOW_LOG2 n).set .RAKE_STAT_CTX_TOTAL c).set .RAKE_STAT_CTX_FREE c
  else s

/-- Free an operation's slots and context. -/
def releaseTree (t : Nat) (x : TreeSt) (s : State) : State :=
  let s1 := { s with rake := { s.rake with trees := Tab.del s.rake.trees t, waiters := s.rake.waiters.filter (· != t) } }
  let s2 := if x.ctxLog2.isSome then s1.set .RAKE_STAT_CTX_FREE (s1.get .RAKE_STAT_CTX_FREE + 1) else s1
  (applyWindow s2).set .TREE_ENTRY_WINDOW_LOG2 0 t

/-- The operation number advances (R307, step 8). -/
def nextSeq (t : Nat) (s : State) : State := s.set .TREE_ENTRY_NEXT_SEQ ((s.get .TREE_ENTRY_NEXT_SEQ t + 1) % 256) t

/-- The delivery of an operation's result is given up, its COLL completing with a status (R312). -/
def failDel (t seq status aux : Nat) (s : State) : State :=
  match s.rake.dels.find? (fun d => d.tree == t && d.seq == seq) with
  | none => s
  | some d =>
    completeWork d.room d.entry (collCmpl d.entry status 0 0 aux)
      { s with rake := { s.rake with dels := s.rake.dels.filter (fun e => !(e.tree == t && e.seq == seq)) } }

/-- Record an abort for an operation not begun, for the host's COLL that takes its number (R312). -/
def recordAbort (t seq status : Nat) (s : State) : State :=
  if !s.flag .TREE_ENTRY_HOST t || s.rake.recorded.any (fun e => e.1 == t && e.2.1 == seq) then s
  else { s with rake := { s.rake with recorded := s.rake.recorded ++ [(t, seq, status)] } }

/-- Abort the operation of a tree (R312). An operation its host has not posted yet is recorded as aborted. -/
def abortTree (t status : Nat) (frm : Option Nat) (s : State) : State :=
  match s.tree t with
  | none => s
  | some x =>
    let body := headBody x status 0
    let ok := fun p => some p != frm
    let s1 := sendTree t 5 3 0 body (([treeParent s t].filter (fun p => decide (p < 72))).filter ok) s
    let s2 := sendTree t 6 3 0 body ((treeKids s t).filter ok) s1
    let s3 := (s2.set .TREE_ENTRY_ABORTED_SEQ x.opSeq t).set .TREE_ENTRY_ABORTED_VALID 1 t
    let s4 := releaseTree t x { s3 with rake := { s3.rake with
      dropping := s3.rake.dropping ++ (x.heads.map (fun p => (t, p))).filter (fun e => !s3.rake.dropping.contains e) } }
    let s5 := if x.begun then nextSeq t (failDel t x.opSeq status (if status = stFenced then x.fenced else 0) s4)
      else recordAbort t x.opSeq status s4
    let s6 := event 7 .RAKE_EVENTS_ABORT_SEEN (tally .OPS_ABORTED (s5.set .TREE_ENTRY_STATE 0 t))
    if status = stModeMismatch then event 7 .RAKE_EVENTS_MISMATCH_SEEN s6 else s6

/-- A violation or a failed cell check: counted, raised, and the operation aborted (R305, R308). -/
def treeCellFail (c : Ctr) (t port : Nat) (s : State) : State :=
  abortTree t stTimeout none (raise 7 26 port 0 (event 7 .RAKE_EVENTS_CELL_FAIL (tally c s)))

/-! Windows (R308, R309). -/

/-- The window an operation may use now. -/
def windowOf (s : State) (t : Nat) (x : TreeSt) : Nat :=
  match x.ctxLog2 with
  | none => 2
  | some n => if treeRoot s t then 2 ^ n else min (2 ^ n) (max 2 x.granted)

/-- A window that grew is granted to every expected child. -/
def growWindow (t : Nat) (s : State) : State :=
  match s.tree t with
  | none => s
  | some x =>
    let w := windowOf s t x
    let x1 := { x with window := w }
    let s1 := (putTree t x1 s).set .TREE_ENTRY_WINDOW_LOG2 (Nat.log2 w) t
    if x.window < w then sendTree t 6 2 0 (headBody x1 0 (Nat.log2 w)) (expectedKids s t x1) s1 else s1

/-- Take a context, or wait for one in the order of beginning. -/
def takeContext (t : Nat) (s : State) : State :=
  match s.tree t with
  | none => s
  | some x =>
    if s.get .RAKE_STAT_CTX_FREE = 0 ∨ !s.rake.waiters.isEmpty then
      growWindow t (event 7 .RAKE_EVENTS_CTX_WAIT (tally .CTX_WAIT
        { s with rake := { s.rake with waiters := s.rake.waiters ++ [t] } }))
    else
      growWindow t (putTree t { x with ctxLog2 := some (s.get .RAKE_STAT_WINDOW_LOG2) }
        (s.set .RAKE_STAT_CTX_FREE (s.get .RAKE_STAT_CTX_FREE - 1)))

/-! The course of an operation (R307). -/

/-- Chunks of the operation. -/
def TreeSt.total (x : TreeSt) : Nat := chunkTotal x.cop x.ctype x.fast x.len

/-- Instant at which a chunk whose first input arrives now has stalled (Table 12.14). -/
def stallEnd (s : State) : Nat := s.now + s.get .RAKE_CFG_STALL_US * 1000

/-- The host's chunks inside the window become inputs. -/
def feedHost (stall : Nat) (x : TreeSt) : TreeSt :=
  match x.contrib with
  | none => x
  | some ws =>
    let lim := min x.total (x.downGot + x.window)
    let new := (List.range (lim - x.hostFed)).map (fun i => x.hostFed + i)
    { x with hostFed := max x.hostFed lim,
             ins := x.ins ++ new.map (fun k => (k, 72, hostChunk x.cop x.ctype x.fast x.len k ws)),
             firstAt := new.foldl (fun f k => if (Tab.find? f k).isSome then f else Tab.put f k stall) x.firstAt }

/-- The ports whose input a chunk needs: expected children, and the host as 72. -/
def neededFor (s : State) (t : Nat) (x : TreeSt) : List Nat :=
  expectedKids s t x ++ (if s.flag .TREE_ENTRY_HOST t then [72] else [])

/-- Every expected input of chunk `k` has arrived. -/
def chunkReady (s : State) (t k : Nat) (x : TreeSt) : Bool :=
  (neededFor s t x).all (fun p => x.ins.any (fun e => e.1 == k && e.2.1 == p))

/-- The combined chunk, inputs taken in arrival order. -/
def chunkValue (k : Nat) (x : TreeSt) : List Word :=
  match (x.ins.filter (fun e => e.1 == k)).map (·.2.2) with
  | [] => natBody 0
  | a :: r => r.foldl (fun acc b => combineBody x.cop x.ctype x.fast (elemsIn x.cop x.ctype x.fast x.len k) acc b) a

/-- Hand a down cell to the Porch when the host is a member (R307, step 6). -/
def toDelivery (t seq : Nat) (f : CollDel → CollDel) (s : State) : State :=
  { s with rake := { s.rake with dels := s.rake.dels.map (fun d => if d.tree == t && d.seq == seq then f d else d) } }

/-- The operation ends at this Rake when its last down cell has passed (R307, step 8). -/
def endTree (t : Nat) (s : State) : State :=
  match s.tree t with
  | none => s
  | some x =>
    if x.begun && x.downHead && x.downGot == x.total then
      let s1 := nextSeq t ((releaseTree t x s).set .TREE_ENTRY_STATE 0 t)
      if x.fenced = 0 then tally .OPS_OK s1 else tally .OPS_FENCED s1
    else s

/-- A result chunk goes down to the children and to the Porch. -/
def downChunk (t : Nat) (x : TreeSt) (body : List Word) (s : State) : State :=
  let k := x.downGot
  let s1 := tally .CHUNKS_OUT (sendTree t 6 1 (k % 64) body (expectedKids s t x) s)
  putTree t { x with downGot := k + 1 } (toDelivery t x.opSeq (fun d => { d with chunks := d.chunks ++ [(k, body)] }) s1)

/-- The result head goes down to the children and to the Porch. -/
def downHeadOf (t : Nat) (x : TreeSt) (status : Nat) (s : State) : State :=
  let s1 := sendTree t 6 0 0 (headBody x status 0) (expectedKids s t x) s
  putTree t { x with downHead := true }
    (toDelivery t x.opSeq (fun d => { d with head := some (status, x.members, x.fenced) }) s1)

/-- Send the merged head once every expected child's head has arrived (R307, R311): fenced children whose head has not
arrived are pruned, a faulted one aborts the operation. -/
def tryHead (t : Nat) (s : State) : State :=
  match s.tree t with
  | none => s
  | some x =>
    if !x.begun || x.headSent || (s.flag .TREE_ENTRY_HOST t && x.host.isNone) then s
    else
      let missing := (treeKids s t).filter (fun p => !x.heads.contains p)
      if missing.any (fun p => s.avail p) then s
      else
        let (fen, bad) := missing.partition (fun p => s.peerFenced p)
        if !bad.isEmpty then abortTree t stTimeout none s
        else
          let x1 := { x with pruned := fen, fenced := x.fenced + fen.length, headSent := true }
          let s1 := if fen.isEmpty then putTree t x1 s else event 7 .RAKE_EVENTS_FENCED_SEEN (putTree t x1 s)
          if treeRoot s t then
            if isBcast x.cop ∧ x.sources ≠ 1 then abortTree t stModeMismatch none s1
            else downHeadOf t x1 (if x1.fenced = 0 then stOk else stFenced) s1
          else sendTree t 5 0 0 (headBody x1 0 0) [treeParent s t] s1

/-- Send the next chunk up, or turn it around at the root, if it is complete and inside the window. -/
def sendChunk (t : Nat) (s : State) : State :=
  match s.tree t with
  | none => s
  | some x0 =>
    let x := feedHost (stallEnd s) x0
    let k := x.upSent
    let s0 := putTree t x s
    if !x.headSent || decide (x.total ≤ k) || !chunkReady s t k x || decide (x.downGot + x.window ≤ k) then s0
    else
      let body := chunkValue k x
      let x1 := { x with upSent := k + 1, ins := x.ins.filter (fun e => e.1 != k), firstAt := Tab.del x.firstAt k }
      if treeRoot s t then
        downChunk t x1 (finishBody x.cop x.ctype x.fast (elemsIn x.cop x.ctype x.fast x.len k) body) (putTree t x1 s0)
      else tally .CHUNKS_OUT (sendTree t 5 1 (k % 64) body [treeParent s t] (putTree t x1 s0))

/-- Run an operation as far as its inputs and its window allow. -/
def runTree (t : Nat) (s : State) : State :=
  let s1 := tryHead t s
  let n := match s1.tree t with
    | some x => x.total - x.upSent
    | none => 0
  endTree t ((List.range (n + 1)).foldl (fun a _ => sendChunk t a) s1)

/-- Heads agree (R306); FAST counts only for a floating-point sum, and is ignored for every other operation (R59, R300). -/
def headsAgree (x : TreeSt) (cop ctype : Nat) (fast : Bool) (len : Nat) : Bool :=
  (x.cop == cop || (isBcast x.cop && isBcast cop)) && x.ctype == ctype && (x.fast == fast || !(cop == 0 && isFp ctype)) && x.len == len

/-- Fields of a HEAD, GRANT or ABORT body. -/
def hSeq (b : List Word) : Nat := wf_ b 0 0 8
def hCop (b : List Word) : Nat := wf_ b 0 8 4
def hCtype (b : List Word) : Nat := wf_ b 0 12 4
def hFast (b : List Word) : Bool := (wn b 0).testBit 16
def hSources (b : List Word) : Nat := wf_ b 0 24 4
def hLen (b : List Word) : Nat := wf_ b 1 0 32
def hMembers (b : List Word) : Nat := wf_ b 2 0 32
def hFenced (b : List Word) : Nat := wf_ b 2 32 32
def hStatus (b : List Word) : Nat := wf_ b 3 0 8
def hGrant (b : List Word) : Nat := wf_ b 3 8 5

/-- Merge a child's head into the head register (R306). -/
def mergeHead (t port : Nat) (b : List Word) (s : State) : State :=
  match s.tree t with
  | none => s
  | some x =>
    let s0 := { s with rake := { s.rake with dropping := s.rake.dropping.filter (fun e => e != (t, port)) } }
    if x.heads.contains port then s0 else
    let fresh := x.heads.isEmpty && x.host.isNone
    let x1 := if fresh then { x with cop := hCop b, ctype := hCtype b, fast := hFast b, len := hLen b } else x
    let x2 := { x1 with heads := x1.heads ++ [port], members := x1.members + hMembers b, fenced := x1.fenced + hFenced b,
                        sources := min 15 (x1.sources + hSources b) }
    if headsAgree x1 (hCop b) (hCtype b) (hFast b) (hLen b) then runTree t (putTree t x2 s0)
    else abortTree t stModeMismatch none (putTree t x2 s0)

/-- An operation begins (R307, step 1). -/
def beginTree (t : Nat) (x : TreeSt) (s : State) : State :=
  takeContext t (tally .OPS_BEGUN ((putTree t { x with begun := true } s).set .TREE_ENTRY_STATE 1 t))

/-- The tree enters DESYNC (R310). -/
def desync (t : Nat) (s : State) : State := event 7 .RAKE_EVENTS_DESYNC_SEEN (s.set .TREE_ENTRY_STATE 2 t)

/-- The operation number a head is judged against: the running or registered one, else the next one not yet recorded as
aborted. -/
def currentSeq (s : State) (t : Nat) : Nat :=
  match s.tree t with
  | some x => x.opSeq
  | none =>
    (List.range 256).foldl (fun n _ => if s.rake.recorded.any (fun e => e.1 == t && e.2.1 == n) then (n + 1) % 256 else n)
      (s.get .TREE_ENTRY_NEXT_SEQ t)

/-- The status recorded for an operation, if an ABORT for it has arrived. -/
def recordedFor (s : State) (t seq : Nat) : Option Nat :=
  (s.rake.recorded.find? (fun e => e.1 == t && e.2.1 == seq)).map (·.2.2)

/-- A head with the expected number: it is merged, and at a tree device without a host it begins the operation. -/
def takeHead (t port : Nat) (b : List Word) (s : State) : State :=
  let s1 := match s.tree t with
    | some x => if x.begun || s.flag .TREE_ENTRY_HOST t then s else beginTree t x (s.set .TREE_ENTRY_NEXT_SEQ (hSeq b) t)
    | none =>
      if s.flag .TREE_ENTRY_HOST t then putTree t { opSeq := hSeq b } s
      else beginTree t { opSeq := hSeq b } (s.set .TREE_ENTRY_NEXT_SEQ (hSeq b) t)
  mergeHead t port b s1

/-- A HEAD from a child port (R310). -/
def headUp (t port : Nat) (b : List Word) (s : State) : State :=
  if s.get .TREE_ENTRY_STATE t = 2 then s
  else
    let cur := currentSeq s t
    let q := hSeq b
    let aborted := s.flag .TREE_ENTRY_ABORTED_VALID t && s.get .TREE_ENTRY_ABORTED_SEQ t == q
    let idleFree := (s.tree t).isNone && !s.flag .TREE_ENTRY_HOST t
    if q = cur ∧ !(aborted && (s.tree t).isNone) then takeHead t port b s
    else if aborted then
      { s with rake := { s.rake with dropping := if s.rake.dropping.contains (t, port) then s.rake.dropping
                                                 else s.rake.dropping ++ [(t, port)] } }
    else if idleFree then takeHead t port b s
    else if (s.tree t).isSome ∧ q = (cur + 1) % 256 then takeHead t port b (abortTree t ((recordedFor s t cur).getD stTimeout) none s)
    else desync t (abortTree t stModeMismatch none s)

/-- A HEAD from the parent port: the result of the operation (R307, step 6). -/
def headDown (t : Nat) (b : List Word) (s : State) : State :=
  let aborted := s.flag .TREE_ENTRY_ABORTED_VALID t && s.get .TREE_ENTRY_ABORTED_SEQ t == hSeq b
  match s.tree t with
  | none => if aborted || s.get .TREE_ENTRY_STATE t == 2 then s else desync t s
  | some x =>
    if x.begun && x.opSeq == hSeq b && x.headSent && !x.downHead then
      endTree t (downHeadOf t { x with members := hMembers b, fenced := hFenced b } (hStatus b) s)
    else if aborted then s
    else desync t (abortTree t stModeMismatch none s)

/-- A DATA cell from a child port (R307, R308). -/
def dataUp (t port lo : Nat) (body : List Word) (s : State) : State :=
  if s.rake.dropping.contains (t, port) then s
  else
    match s.tree t with
    | none => treeCellFail .WINDOW_VIOLATION t port s
    | some x =>
      let k := Tab.get x.got port 0
      if !x.heads.contains port || k % 64 != lo || decide (x.total ≤ k) || decide (x.downGot + x.window ≤ k) then
        treeCellFail .WINDOW_VIOLATION t port s
      else
        let f := if (Tab.find? x.firstAt k).isSome then x.firstAt else Tab.put x.firstAt k (stallEnd s)
        runTree t (tally .CHUNKS_IN (putTree t { x with ins := x.ins ++ [(k, port, body)], got := Tab.put x.got port (k + 1),
                                                        firstAt := f } s))

/-- A DATA cell from the parent port. -/
def dataDown (t port lo : Nat) (body : List Word) (s : State) : State :=
  match s.tree t with
  | none => s
  | some x =>
    if decide (x.upSent ≤ x.downGot) || x.downGot % 64 != lo then treeCellFail .WINDOW_VIOLATION t port s
    else runTree t (downChunk t x body (tally .CHUNKS_IN s))

/-- A child becomes one whose head is given by a fence or a fault (R311, R312): `faulted` for a port that became
unavailable other than by a fence. -/
def treePortChanged (p : Nat) (faulted : Bool) (s : State) : State :=
  forEach (s.rake.trees.map (·.1)) (fun t a =>
    match a.tree t with
    | none => a
    | some x =>
      if faulted && (x.heads.contains p || (treeParent a t == p && x.begun)) then abortTree t stTimeout none a
      else if !faulted && x.heads.contains p then abortTree t stFenced none a
      else if (treeKids a t).contains p then runTree t a else a) s

/-- A VC1 cell this Rake sent is reported discarded (Table 12.9). -/
def treeCellLost (c : Cell) (s : State) : State :=
  match s.tree (cellTree c) with
  | none => s
  | some x => if cellKind c = 1 ∨ hSeq c.body = x.opSeq then abortTree (cellTree c) stTimeout none s else s

/-- A cell of the running operation was not copied to a port whose peer is fenced (R121): a child that has sent its head aborts the
operation with FENCED (R311), a lost cell toward the parent with TIMEOUT. -/
def treeCopyFenced (c : Cell) (p : Nat) (s : State) : State :=
  match s.tree (cellTree c) with
  | none => s
  | some x =>
    if cellKind c ≠ 1 ∧ hSeq c.body ≠ x.opSeq then s
    else if x.heads.contains p then abortTree (cellTree c) stFenced none s
    else if treeParent s (cellTree c) = p then abortTree (cellTree c) stTimeout none s
    else s

/-- Before D77 switches off, and when the Rake is isolated, every running operation is aborted with TIMEOUT (R314). -/
def abortAllTrees (status : Nat) (s : State) : State :=
  forEach (s.rake.trees.map (·.1)) (fun t a => abortTree t status none a) s

end Sys2Proof.Machine
end

