-- ==== Sys2Proof/Machine/Hall.lean ====
section
/-! DEFINITION. The Hall: credit and gates of its outputs, the route computation, arbitration, replication, lifetime and
trace (R95 to R127, R139, R329 to R331, R439). -/
namespace Sys2Proof.Machine

/-! Credit and gates. -/

/-- VC_MASK of the partner's parameter block (Table 6.4). -/
def partnerMask (s : State) (p : Nat) : Nat := bits (s.get .PORT_PARTNER_BLOCK_W0 p) 27 8

/-- Occupancy of the partner's Landing on a channel by sequence numbers (R138). -/
def senderOcc (x : PortSt) (v : Nat) : Nat := subMod (x.sentCum.getD v 0) (x.creditRx.getD v 0) 65536

/-- Occupancy with the cells granted and not yet placed in a slot (R139). -/
def occOf (x : PortSt) (v : Nat) : Nat := senderOcc x v + (x.htq.filter (fun c => c.cell.vc == v)).length

/-- Landing pool cells (R39). -/
def poolCells : Nat := 2457

/-- The Landing admission test of R139 over occupancies, reserved minima and caps of the channels of a mask. -/
def mayHold (mask : Nat) (occ res cap : Nat → Nat) (v : Nat) : Bool :=
  let vs := (List.range 8).filter (fun w => mask.testBit w)
  let sh := poolCells - (vs.map res).sum
  let u := (vs.map (fun w => occ w - res w)).sum
  mask.testBit v && (decide (occ v < res v) || (decide (occ v - res v < cap v) && decide (u < sh)))

/-- may_send of R139. -/
def maySend (s : State) (p v : Nat) : Bool :=
  let x := s.port p
  mayHold (partnerMask s p) (occOf x) (fun w => s.get .PARTNER_VC_P_RESERVED (p * 8 + w))
    (fun w => s.get .PARTNER_VC_P_SHARED_CAP (p * 8 + w)) v

/-- The gate list of a port in force at a network time: a replaced list acts from its instant (R331). -/
def gateList (s : State) (p : Nat) : Option GateList :=
  match Tab.find? s.plan.gatesNext p with
  | some (t, l) => if t ≤ s.netNs then some l else Tab.find? s.plan.gates p
  | none => Tab.find? s.plan.gates p

/-- Cycle of a gate list and position in it (R329). -/
def gateCycle (l : GateList) : Nat := (l.entries.map (·.2)).sum
def gatePos (l : GateList) (ns : Nat) : Nat :=
  (((ns : Int) - l.offset) % (gateCycle l : Int)).toNat

/-- The entry that holds a position: its index. -/
def entryAt (es : List (Nat × Nat)) (pos : Nat) : Nat :=
  match es with
  | [] => 0
  | e :: r => if pos < e.2 then 0 else 1 + entryAt r (pos - e.2)

/-- Entry index and mask in force at a port. -/
def gateNow (s : State) (p : Nat) : Nat × Nat :=
  match gateList s p with
  | some l =>
    let i := entryAt l.entries (gatePos l s.netNs)
    (i, (l.entries.getD i (0xFF, 0)).1)
  | none => (0, 0xFF)

/-- Gates act at a port: Scheduled service, a list, a ROLE (R331). -/
def gateActs (s : State) (p : Nat) : Bool :=
  s.flag .SLUICE_MODE_SERVICE && s.role p != 0 && (gateList s p).isSome

/-- The gate of a channel is open (R330): VC0 is never gated. -/
def gateOpen (s : State) (p v : Nat) : Bool := v == 0 || !gateActs s p || (gateNow s p).2.testBit v

/-- credit(p, vc) of R103: the partner's Landing, the gate, and a free entry of the Hall-to-transmit queue (Table 1.4). -/
def credit (s : State) (p v : Nat) : Bool :=
  maySend s p v && gateOpen s p v && decide (((s.port p).htq.filter (fun c => c.cell.vc == v)).length < 48)

/-- Depth of a port (R104). -/
def depth (s : State) (p : Nat) : Nat := (s.port p).htq.length

/-! The route computation (R103, R104). -/

/-- What a waiting cell asks for. -/
inductive Req
  /-- Eject to Hall output 77, 78 or 79. -/
  | eject (out : Nat)
  /-- A network port on a channel; `q` names the escape port whose detour it takes. -/
  | port (p vc : Nat) (q : Option Nat)
  | wait
  /-- Waits for credit on its pinned port. -/
  | pinned
  | noRoute
  | fencedDrop
deriving DecidableEq, Repr

/-- The port of least depth; equal depths are broken by the input's rotating pointer. -/
def shallowest (s : State) (input : Nat) (ps : List Nat) : Option Nat :=
  let r := Tab.get s.hall.rot input 0
  ps.foldl (fun b p =>
    match b with
    | none => some p
    | some q =>
      if depth s p < depth s q then some p
      else if depth s p = depth s q ∧ (p + 72 - r % 72) % 72 < (q + 72 - r % 72) % 72 then some p else some q) none

/-- PORT_MAP and ESCAPE entries. -/
def mapEntry (s : State) (d x : Nat) : Nat := s.get .PORT_MAP_RD_ENTRY (32 * d + x)
def escapeEntry (s : State) (d x : Nat) : Nat := s.get .ESCAPE_RD_ENTRY (32 * d + x)

/-- This device's routing coordinate and a destination's. -/
def myCoord (s : State) (d : Nat) : Nat := rcoord s.plan.dims s.plan.sizes s.own d
def dstCoord (s : State) (id d : Nat) : Nat := rcoord s.plan.dims s.plan.sizes id d

/-- Uncorrected dimensions at this device (R101). -/
def uncorrected (s : State) (id : Nat) : List Nat := diffDims s.plan.dims s.plan.sizes s.own id

/-- A cell's excess is 0 and one more hop keeps it within five (R102, detour_ok). -/
def detourOk (s : State) (c : Cell) (dv : Nat) : Bool :=
  let m := minLength s.plan.dims s.plan.sizes c.src c.dest
  let rem := (uncorrected s c.dest).length + b2n (isService s.plan.dims s.plan.sizes c.dest)
  c.hop + rem == m && decide (m + 1 ≤ 5) && s.flag .HALL_MODE_DETOUR_EN && s.hasVc dv

/-- svc(S, vc) of R104. -/
def svcReq (s : State) (input : Nat) (ps : List Nat) (vc : Nat) : Req :=
  let av := ps.filter (fun p => s.avail p)
  if av.isEmpty then (if ps.any (fun p => s.fencedOff p) then .fencedDrop else .noRoute)
  else
    match shallowest s input (av.filter (fun p => credit s p vc)) with
    | some p => .port p vc none
    | none => .wait

/-- via(DETOUR[q], vc) of R104. -/
def viaReq (s : State) (input q vc : Nat) : Req :=
  let e := s.get .DETOUR_RD_ENTRY q
  let vias := (if bits e 7 1 = 1 then [bits e 0 7] else []) ++ (if bits e 15 1 = 1 then [bits e 8 7] else [])
  let av := vias.filter (fun p => s.avail p)
  if av.isEmpty then .noRoute
  else
    match shallowest s input (av.filter (fun p => credit s p vc)) with
    | some p => .port p vc (some q)
    | none => .wait

/-- A held route choice is of the cell's segment. -/
def pinsCell (h : HCell) (x : PinHold) : Bool :=
  x.input == h.input && x.seq == h.cell.seq && x.epoch == h.cell.epoch && x.dest == h.cell.dest

/-- The dimension order a pinned cell follows: its own ORDER, or the one the Hall holds for its segment. -/
def pinOf (s : State) (h : HCell) : Option Nat :=
  if h.cell.pin then some h.cell.order
  else if h.wantPin then (s.hall.pins.find? (pinsCell h)).bind (·.order)
  else none

/-- The cell is of a pinned segment (R117). -/
def isPinned (h : HCell) : Bool := h.cell.pin || h.wantPin

/-- Adaptive candidates (R103, R118). -/
def candidates (s : State) (h : HCell) (cls : Nat) : List Nat :=
  let un := uncorrected s h.cell.dest
  let ds := match pinOf s h with
    | some o => ((orderDims o).filter (fun d => un.contains d)).take 1
    | none => un
  if cls = 0 || !s.hasVc (avOf cls) then []
  else (List.range 72).filter (fun p =>
    ds.any (fun d => s.role p == d + 1 && s.peerCoord p == dstCoord s h.cell.dest d) && s.avail p)

/-- The dimension of the arrival port, if it has one (R104). -/
def dimIn (s : State) (h : HCell) : Option Nat :=
  if h.input < 72 ∧ 1 ≤ s.role h.input ∧ s.role h.input ≤ 4 then some (s.role h.input - 1) else none

/-- What follows when no adaptive candidate has credit: the escape port, its detour, or a discard (R103). -/
def escapeReq (s : State) (h : HCell) (cls : Nat) (cand : List Nat) : Req :=
  let c := h.cell
  let e := (uncorrected s c.dest).headD 0
  let en := escapeEntry s e (dstCoord s c.dest e)
  let none_ := if cand.isEmpty then Req.noRoute else Req.wait
  if bits en 7 1 = 0 then none_
  else
    let q := bits en 0 7
    if s.avail q then (if credit s q (evOf cls) then .port q (evOf cls) none else .wait)
    else if s.fencedOff q then (if s.peerNode q = c.dest ∨ cand.isEmpty then .fencedDrop else .wait)
    else if detourOk s c (dvOf cls) then viaReq s h.input q (dvOf cls)
    else none_

/-- Arrival dimension of a cell on the second hop of a detour (R104, R111). -/
def secondHop (s : State) (h : HCell) (cls : Nat) : Option Nat :=
  (dimIn s h).filter (fun d => h.vcIn == dvOf cls && (uncorrected s h.cell.dest).contains d)

/-- The PORT_MAP port of the second hop of a detour, or a discard (R111). -/
def secondReq (s : State) (c : Cell) (d cls : Nat) : Req :=
  let en := mapEntry s d (dstCoord s c.dest d)
  let p := bits en 0 7
  if bits en 7 1 = 1 ∧ s.avail p then (if credit s p (dvOf cls) then .port p (dvOf cls) none else .wait) else .noRoute

/-- The adaptive choice, a pinned cell's wait, or the escape port (R103). -/
def adaptReq (s : State) (h : HCell) (cls : Nat) : Req :=
  let cand := candidates s h cls
  match shallowest s h.input (cand.filter (fun p => credit s p (avOf cls))) with
  | some p => .port p (avOf cls) none
  | none =>
    if isPinned h && decide (s.now < (h.pinWait.getD s.now) + s.get .HALL_MODE_PIN_HOLD_NS) then .pinned
    else escapeReq s h cls cand

/-- A cell's request (R103). DESIGN CHOICE, log 89: a VC1 cell at a Hall input that is not addressed to this device is discarded as
NO_ROUTE, since R107 gives tree cells one link. -/
def request (s : State) (h : HCell) : Req :=
  let c := h.cell
  if c.dest = s.own then .eject (if c.vc = 1 then 77 else if c.vc = 0 then 79 else 78)
  else if c.vc = 1 then .noRoute
  else
    let cls := vcClass h.vcIn
    let un := uncorrected s c.dest
    let svc := (List.range 72).filter (fun p => s.role p == 5)
    if isService s.plan.dims s.plan.sizes s.own then svcReq s h.input svc (evOf cls)
    else if un.isEmpty then svcReq s h.input (svc.filter (fun p => s.peerNode p == c.dest)) (evOf cls)
    else
      match secondHop s h cls with
      | some d => secondReq s c d cls
      | none => adaptReq s h cls

/-! Discards, credits and ejection. -/

/-- The waiting cells replaced. -/
def setWaiting (w : List HCell) (s : State) : State := { s with hall := { s.hall with waiting := w } }

/-- A cell leaves the Landing of a port: its credit is returned on the channel it arrived on (R137). -/
def returnCredit (p v : Nat) (s : State) : State :=
  if s.get .PORT_STAT_STATE p < 3 then s
  else s.modPort p (fun x => { x with creditTx := x.creditTx.set v ((x.creditTx.getD v 0 + 1) % 65536) })

/-- The Landing slot of a waiting cell is freed. -/
def freeSlot (h : HCell) (s : State) : State := if h.inLanding then returnCredit h.input h.vcIn s else s

/-- A cell of a pinned segment is discarded at its source: the held choice has one cell less to come (R117). -/
def unpin (h : HCell) (s : State) : State :=
  if !h.wantPin then s
  else
    let old := (s.hall.pins.find? (pinsCell h)).getD
      { input := h.input, seq := h.cell.seq, epoch := h.cell.epoch, dest := h.cell.dest, left := h.cell.segCells }
    let rest := s.hall.pins.filter (fun x => !pinsCell h x)
    { s with hall := { s.hall with pins := if old.left ≤ 1 then rest else rest ++ [{ old with left := old.left - 1 }] } }

/-- A lifetime discard (R115): counted against the input port and the channel, and in Scheduled service a fall-back event (R62). -/
def lifetimeCount (input vc : Nat) (c : Cell) (copies : Nat) (s : State) : State :=
  let n := max 1 copies
  let s0 := { s with hall := { s.hall with lifeBy := Tab.set s.hall.lifeBy (input * 8 + vc) (Tab.get s.hall.lifeBy (input * 8 + vc) 0 + n) 0 } }
  let s1 := event 4 .HALL_EVENTS_LIFETIME_SEEN (tallyN .LIFETIME_DISCARD n s0 input)
  let s2 := if s1.flag .SLUICE_MODE_SERVICE then
      serviceFallback 7 0 { s1 with sluice := { s1.sluice with lastLife := some s1.now } }
    else s1
  if c.vc = 1 ∧ (input = 77) then treeCellLost c s2 else s2

/-- A cell's wait has outlived LIFE_US (R115). -/
def expired (s : State) (stamp : Nat) : Bool := decide (stamp + s.get .HALL_MODE_LIFE_US * 1000 < s.now)

/-- Discard every expired waiting cell of the inputs a test selects (R115). -/
def expireWaiting (sel : HCell → Bool) (s : State) : State :=
  let (dead, live) := s.hall.waiting.partition (fun h => sel h && expired s h.stamp)
  forEach dead (fun h a => lifetimeCount h.input h.vcIn h.cell h.copies.length (unpin h (freeSlot h a))) (setWaiting live s)

/-- A discard of R103 at an input. -/
def routeDiscard (h : HCell) (r : Req) (s : State) : State :=
  let s1 := unpin h (freeSlot h s)
  if r = .fencedDrop then event 4 .HALL_EVENTS_FENCE_DROP_SEEN (tally .FENCED_DROP s1 h.input)
  else event 4 .HALL_EVENTS_NO_ROUTE_SEEN (tally .NO_ROUTE s1 h.input)

/-- Room in an ejection queue (Table 1.4, R21): 4,096 cells with 1,024 kept for responses, 256 for the Rake and the
Housekeepers. -/
def ejectRoom (s : State) (out : Nat) (h : HCell) : Bool :=
  let q := Tab.get s.hall.eject out []
  let resp := (q.filter (fun e => vcClass e.2.vc == 3)).length
  if out = 78 then hasCredit .ejection (q.length - resp) resp 1 (vcClass h.cell.vc == 3)
  else hasCredit (if out = 77 then .hallToRake else .hkPath) q.length 0 1 false

/-- A VC0 cell whose body CRC fails is discarded and counted, with no fault (R75). -/
def badVc0 (s : State) : State := { s with mgmt := { s.mgmt with badBodies := s.mgmt.badBodies + 1 } }

/-- A cell is ejected: at L3 and above, cells for output 78 are discarded and counted (Table 14.4, step 3). A fault report for this device
goes to its Housekeepers once its body CRC verifies (R75). -/
def ejectCell (out : Nat) (h : HCell) (s : State) : State :=
  let s1 := freeSlot h s
  if out = 78 ∧ 3 ≤ s.devLevel then tally .SAFE_DISCARD s1
  else if h.cell.ty = tyFault ∨ h.cell.ty = tySuspect then
    (if h.cell.check = bodyCrc h.cell.body then emit (.toHearth h.cell) s1 else badVc0 s1)
  else { s1 with hall := { s1.hall with eject := Tab.set s1.hall.eject out (Tab.get s1.hall.eject out [] ++ [(h.input, h.cell)]) [] } }

/-- Take the cell a command names, or the head of an ejection queue: arrival port and cell. -/
def takeEjected (out : Nat) (c : Option Cell) (s : State) : Option (Nat × Cell) × State :=
  match c with
  | some c => (some (0, c), s)
  | none =>
    match Tab.get s.hall.eject out [] with
    | [] => (none, s)
    | e :: r => (some e, { s with hall := { s.hall with eject := Tab.set s.hall.eject out r [] } })

/-! Grants (R98, R105, R110, R117). -/

/-- ORDER of a segment whose first cell takes dimension `a` (R117). -/
def pinOrder (a seq : Nat) : Nat :=
  match rotl (seq % 3) ((List.range 4).filter (fun d => d != a)) with
  | b :: c :: _ => orderCode a b c
  | _ => 0

/-- The dimension a port serves, or the lowest uncorrected one for a port that serves none. DESIGN CHOICE, log 89: this is `a` of R117
also where the first cell leaves by an escape, detour or service port, for which the adaptive choice names none. -/
def portDim (s : State) (p dest : Nat) : Nat :=
  if 1 ≤ s.role p ∧ s.role p ≤ 4 then s.role p - 1 else (uncorrected s dest).headD 0

/-- Fix or follow the route of a pinned segment at its source (R117): the cell with PIN and ORDER, and the held choice. -/
def pinCell (p : Option Nat) (h : HCell) (s : State) : Cell × State :=
  if !h.wantPin then (h.cell, s)
  else
    let a := match p with
      | some q => portDim s q h.cell.dest
      | none => 0
    let o := (pinOf s h).getD (pinOrder a h.cell.seq)
    let old := (s.hall.pins.find? (pinsCell h)).getD
      { input := h.input, seq := h.cell.seq, epoch := h.cell.epoch, dest := h.cell.dest, left := h.cell.segCells }
    let rest := s.hall.pins.filter (fun x => !pinsCell h x)
    ({ h.cell with pin := true, order := o },
     { s with hall := { s.hall with pins := if old.left ≤ 1 then rest else rest ++ [{ old with order := some o, left := old.left - 1 }] } })

/-- The cell as transmitted on a port and channel (R105). -/
def routed (s : State) (p vc : Nat) (c : Cell) : Cell :=
  let r := s.role p
  let dd := if 1 ≤ r ∧ r ≤ 4 ∧ s.peerCoord p = dstCoord s c.dest (r - 1) then c.dimDone ||| 2 ^ (r - 1) else c.dimDone
  { c with vc := vc, hop := (c.hop + 1) % 8, dimDone := dd }

/-- Put a granted cell into a port's Hall-to-transmit queue. -/
def queueTx (p : Nat) (c before : Cell) (h : HCell) (s : State) : State :=
  let t : TxCell := { cell := c, before := before, input := h.input, vcIn := h.vcIn, stamp := h.stamp, queuedAt := s.now }
  s.modPort p (fun x => { x with htq := x.htq ++ [t] })

/-- HALL_DETOUR bit of a port. -/
def detourBit (s : State) (q : Nat) : Bool :=
  if q < 64 then (s.get .HALL_DETOUR_LO_DETOUR).testBit q else (s.get .HALL_DETOUR_HI_DETOUR).testBit (q - 64)

/-- Set or clear a HALL_DETOUR bit. -/
def setDetour (q : Nat) (b : Bool) (s : State) : State :=
  if q < 64 then s.set .HALL_DETOUR_LO_DETOUR (setBits (s.get .HALL_DETOUR_LO_DETOUR) q 1 (b2n b))
  else s.set .HALL_DETOUR_HI_DETOUR (setBits (s.get .HALL_DETOUR_HI_DETOUR) (q - 64) 1 (b2n b))

/-- A cell was routed through DETOUR[q] (R110, R62). -/
def noteDetour (q : Nat) (s : State) : State :=
  let s1 := { s with hall := { s.hall with detourAt := Tab.put s.hall.detourAt q s.now } }
  if detourBit s q then s1
  else serviceFallback 2 q (event 4 .HALL_EVENTS_DETOUR_START (setDetour q true s1))

/-- Move a granted cell to a port (R98, R105). -/
def grantPort (p vc : Nat) (via : Option Nat) (h : HCell) (s : State) : State :=
  let (c, s1) := pinCell (some p) h s
  let s2 := queueTx p (routed s1 p vc c) c h (freeSlot h s1)
  let s3 := { s2 with hall := { s2.hall with rot := Tab.set s2.hall.rot h.input ((p + 1) % 72) 0 } }
  match via with
  | some q => tally .DETOUR_TAKEN (noteDetour q s3) h.input
  | none =>
    if vc = 3 ∨ vc = 6 then
      let s4 := tally .ESCAPE_TAKEN s3 h.input
      if c.pin then tally .PIN_ESCAPE s4 h.input else s4
    else s3

/-- Eject a granted cell. -/
def grantEject (out : Nat) (h : HCell) (s : State) : State :=
  let (c, s1) := pinCell none h s
  ejectCell out { h with cell := c } s1

/-! Arbitration (R98). -/

/-- What a requester of an output is granted: channel, escape port of its detour. -/
structure Bid where
  pos : Nat
  h : HCell
  vc : Nat
  via : Option Nat
deriving DecidableEq, Repr

/-- Rank of a channel within its class: detour, then escape, then adaptive (R98, step 3). -/
def vcRank (v : Nat) : Nat := if v = 4 ∨ v = 7 then 0 else if v = 3 ∨ v = 6 then 1 else 2

/-- The better of two bids of one class: channel, oldest stamp, round robin of input. -/
def better (rr : Nat) (a b : Bid) : Bid :=
  let key := fun (x : Bid) => [vcRank x.vc, x.h.stamp, (x.h.input + 80 - (rr + 1) % 80) % 80, x.pos]
  if key b < key a then b else a

/-- The best of a list of bids. -/
def bestBid (rr : Nat) (l : List Bid) : Option Bid :=
  l.foldl (fun o b => match o with
    | none => some b
    | some a => some (better rr a b)) none

/-- Weighted round robin of the classes tree, request and response (R98, step 2): the chosen class and the shares left. -/
def chooseClass (left weights : List Nat) (has : Nat → Bool) : Option (Nat × List Nat) :=
  let l1 := (List.range 3).map (fun i => if has (i + 1) then left.getD i 0 else 0)
  let l2 := if l1.all (· == 0) then weights else l1
  match (List.range 3).find? (fun i => has (i + 1) && l2.getD i 0 != 0) with
  | some i => some (i + 1, l2.set i (l2.getD i 0 - 1))
  | none => none

/-- The winner among the bids of an output, and the output's next arbitration memory (R98). DESIGN CHOICE, log 89: a VC0 grant counts as
the one cell in eight whether or not another channel waited then. -/
def arbitrate (s : State) (o : OutSt) (bids : List Bid) : Option (Bid × OutSt) :=
  let zero := bids.filter (fun b => vcClass b.vc == 0)
  let rest := bids.filter (fun b => vcClass b.vc != 0)
  let takeZero := !zero.isEmpty && (rest.isEmpty || decide (7 ≤ o.vc0Run))
  if takeZero then
    (bestBid o.rr zero).map (fun b => (b, { o with rr := b.h.input, vc0Run := 0 }))
  else
    let w := [s.get .HALL_ARB_W_TREE, s.get .HALL_ARB_W_REQ, s.get .HALL_ARB_W_RESP]
    match chooseClass o.left w (fun c => rest.any (fun b => vcClass b.vc == c)) with
    | none => none
    | some (c, left) =>
      (bestBid o.rr (rest.filter (fun b => vcClass b.vc == c))).map
        (fun b => (b, { rr := b.h.input, left := left, vc0Run := min 8 (o.vc0Run + 1) }))

/-- The outputs a waiting cell may come to leave by, whatever is available and holds credit. -/
def mayLeave (s : State) (h : HCell) (out : Nat) : Bool :=
  if h.multicast then h.copies.contains out
  else if h.cell.dest = s.own then out == (if h.cell.vc = 1 then 77 else if h.cell.vc = 0 then 79 else 78)
  else
    let un := uncorrected s h.cell.dest
    let e := un.headD 0
    let q := bits (escapeEntry s e (dstCoord s h.cell.dest e)) 0 7
    let det := s.get .DETOUR_RD_ENTRY q
    s.role out == 5 || un.any (fun d => s.role out == d + 1 && s.peerCoord out == dstCoord s h.cell.dest d)
      || q == out || bits det 0 7 == out || bits det 8 7 == out

/-- An older cell of the same input and channel may leave by the same output, and goes first (R119, Table 5.6). -/
def behindOlder (s : State) (out i : Nat) (h : HCell) : Bool :=
  (s.hall.waiting.take i).any (fun x => x.input == h.input && x.vcIn == h.vcIn && mayLeave s x out)

/-- The request of a waiting cell as a bid for one output. -/
def bidFor (s : State) (out i : Nat) (h : HCell) : Option Bid :=
  if behindOlder s out i h then none
  else if h.multicast then
    (if h.copies.contains out && s.avail out && credit s out 1 then some ⟨i, h, 1, none⟩ else none)
  else
    match request s h with
    | .port p vc q => if p = out then some ⟨i, h, vc, q⟩ else none
    | .eject o => if o = out ∧ ejectRoom s out h then some ⟨i, h, h.cell.vc, none⟩ else none
    | _ => none

/-- Ports of a replication set that are not available are reported to the Rake by port (R121): a fenced-off one is pruned, a faulted
one aborts. -/
def dropCopies (h : HCell) (s : State) : HCell × State :=
  let bad := h.copies.filter (fun p => !s.avail p)
  let s0 := forEach (bad.filter (fun p => s.fencedOff p)) (treeCopyFenced h.cell) s
  let s1 := if bad.any (fun p => !s.fencedOff p) then treeCellLost h.cell s0 else s0
  ({ h with copies := h.copies.filter (fun p => s.avail p) }, s1)

/-- One waiting cell before arbitration: discarded, reported, marked as waiting for its pinned port, or kept. -/
def prepare (h : HCell) (s : State) : Option HCell × State :=
  if h.multicast then
    let (h1, s1) := dropCopies h s
    (if h1.copies.isEmpty then none else some h1, s1)
  else
    match request s h with
    | .noRoute => (none, routeDiscard h .noRoute s)
    | .fencedDrop => (none, routeDiscard h .fencedDrop s)
    | .pinned => (some { h with pinWait := some (h.pinWait.getD s.now) }, s)
    | _ => (some h, s)

/-- Every waiting cell is judged against the tables in force. -/
def prepareAll (s : State) : State :=
  let (l, s1) := s.hall.waiting.foldl (fun (acc : List HCell × State) h =>
    match prepare h acc.2 with
    | (some h1, a) => (acc.1 ++ [h1], a)
    | (none, a) => (acc.1, a)) ([], s)
  setWaiting l s1

/-- A copy of a replicated cell is granted (R120): DEST_NODE is the port's peer, the channel VC1. -/
def grantCopy (p : Nat) (b : Bid) (s : State) : State :=
  let dst := s.peerNode p
  let c := { b.h.cell with dest := dst, vc := 1, dimDone := dimDone0 s.plan.dims s.plan.sizes s.own dst }
  let left := b.h.copies.filter (· != p)
  let s1 := queueTx p (routed s p 1 c) c b.h s
  setWaiting (if left.isEmpty then s1.hall.waiting.eraseIdx b.pos
              else s1.hall.waiting.set b.pos { b.h with copies := left }) s1

/-- One arbitration attempt of an output (R98, R103, R115). -/
def attempt (out : Nat) (s : State) : State :=
  let s1 := prepareAll (expireWaiting (fun _ => true) s)
  let bids := (s1.hall.waiting.mapIdx (fun i h => bidFor s1 out i h)).filterMap id
  match arbitrate s1 (Tab.get s1.hall.outs out {}) bids with
  | none => s1
  | some (b, o) =>
    let s2 := { s1 with hall := { s1.hall with outs := Tab.set s1.hall.outs out o {} } }
    if b.h.multicast then grantCopy out b s2
    else
      let s3 := setWaiting (s2.hall.waiting.eraseIdx b.pos) s2
      if out < 72 then grantPort out b.vc b.via b.h s3 else grantEject out b.h s3

/-! Trace (R439). -/

/-- The buffered trace records leave for the trace ring while the host port's link is up. -/
def drainTrace (s : State) : State :=
  if s.flag .HPORT_STAT_LINK_UP (s.get .DUMP_CFG_HPORT) then
    let n := s.get .TRACE_STAT_TRACE_SEQ - s.count.traceBuf.length
    let s1 := (s.count.traceBuf.zipIdx n).foldl (fun a e =>
      emit (.hostWrite (s.get .DUMP_CFG_HPORT)
        (s.get .TRACE_BASE_BASE * 4096 + 32 * (e.2 % 2 ^ (s.get .TRACE_CFG_LOG2 + 4))) e.1) a) s
    { s1 with count := { s1.count with traceBuf := [] } }
  else s

/-- The trace filter selects a cell. -/
def traceMatch (s : State) (c : Cell) : Bool :=
  let n := s.get .TRACE_FILTER_NODE
  let m := s.get .TRACE_FILTER_NODE_MATCH
  (s.get .TRACE_FILTER_TYPES).testBit c.ty && (s.get .TRACE_FILTER_VCS).testBit c.vc
    && (m == 0 || (m != 2 && c.dest == n) || (m != 1 && c.src == n))

/-- A cell entering the traced Hall input is recorded, or counted as TRACE_LOST. -/
def traceCell (input : Nat) (c : Cell) (s : State) : State :=
  if s.flag .TRACE_CFG_ENABLE && s.domainOn 79 && s.get .TRACE_CFG_HALL_PORT == input && traceMatch s c then
    let size := 2 ^ (s.get .TRACE_CFG_LOG2 + 4)
    let seq := s.get .TRACE_STAT_TRACE_SEQ
    if size ≤ subMod seq (s.get .TRACE_HEAD_HEAD) (2 ^ 31) ∨ 256 ≤ s.count.traceBuf.length then
      event 12 .COUNT_EVENTS_TRACE_LOST (tally .TRACE_LOST
        (s.set .TRACE_STAT_LOST (min 0xFFFFFFFF (s.get .TRACE_STAT_LOST + 1))))
    else
      let rec_ := [wd (Cell.word0 c), wd (Cell.word1 c), wd s.netNs, wd (at_ input 0 8 + at_ seq 32 31 + at_ (phaseOf seq size) 63 1)]
      drainTrace { (s.set .TRACE_STAT_TRACE_SEQ (seq + 1)) with count := { s.count with traceBuf := s.count.traceBuf ++ [rec_] } }
  else s

/-! The commands. -/

/-- DIM_DONE agrees with the coordinates (R105). -/
def dimAgrees (s : State) (c : Cell) : Bool := c.dimDone == dimDone0 s.plan.dims s.plan.sizes s.own c.dest

/-- A cell enters a Hall input: stamped, traced, its DIM_DONE compared. -/
def enterHall (h : HCell) (s : State) : State :=
  let s1 := traceCell h.input h.cell (setWaiting (s.hall.waiting ++ [{ h with stamp := s.now }]) s)
  if h.input < 72 && !dimAgrees s h.cell then
    event 4 .HALL_EVENTS_DIM_DONE_SEEN (tally .DIM_DONE_MISMATCH s1 h.input)
  else s1

/-- CELL_HALL_ENTRY (R115): the named cell, or the oldest cell of the Landing that is not held, or of the injection queue. -/
def execCellHallEntry (input : Nat) (c : Option Cell) (s : State) : Host.Outcome State Fault Refusal :=
  match c with
  | some c => .next (enterHall { cell := c, input := input, stamp := 0, vcIn := c.vc } s)
  | none =>
    if input < 72 then
      let l := (s.port input).landing
      match l.findIdx? (fun x => !x.held) with
      | none => .next s
      | some i =>
        let x := l.getD i { cell := { ty := 0, vc := 0, dest := 0, src := 0 }, vcIn := 0, at_ := 0 }
        .next (enterHall { cell := x.cell, input := input, stamp := 0, vcIn := x.vcIn, inLanding := true }
          (s.modPort input (fun q => { q with landing := q.landing.eraseIdx i })))
    else
      match Tab.get s.hall.inj input [] with
      | [] => .next s
      | h :: r =>
        let s1 := enterHall h { s with hall := { s.hall with inj := Tab.set s.hall.inj input r [] } }
        .next (match h.lbOp with
          | some i => lbDone i s1
          | none => s1)

/-- ARBITRATION_ATTEMPT (R103): no cell is ever granted to outputs 72 to 76 by a route (Table 5.1). -/
def execArbitrationAttempt (out : Nat) (s : State) : Host.Outcome State Fault Refusal := .next (attempt out s)

/-- DETOUR_END (R110): 10 µs without a cell through DETOUR[q]. -/
def execDetourEnd (q : Nat) (s : State) : Host.Outcome State Fault Refusal :=
  if detourBit s q && decide (Tab.get s.hall.detourAt q 0 + 10000 ≤ s.now) then
    .next (event 4 .HALL_EVENTS_DETOUR_END (setDetour q false s))
  else .next s

/-- LIFETIME_DISCARD (R115): the expired cells waiting at an input. -/
def execLifetimeDiscard (input : Nat) (s : State) : Host.Outcome State Fault Refusal :=
  .next (expireWaiting (fun h => h.input == input) s)

/-- The escape port a pinned cell may now request. -/
def pinEscape (s : State) (h : HCell) : Option Nat :=
  if isPinned h && h.pinWait.isSome then
    match request s h with
    | .port p _ _ => some p
    | _ => none
  else none

/-- PIN_HOLD_EXPIRY (R118): pinned cells of an input that have waited PIN_HOLD_NS ask their escape port. -/
def execPinHoldExpiry (input : Nat) (s : State) : Host.Outcome State Fault Refusal :=
  .next (forEach (((s.hall.waiting.filter (fun h => h.input == input)).filterMap (pinEscape s)).eraseDups) attempt s)

/-- A header parity failure at a block (R73). -/
def parityFault (b input : Nat) (s : State) : State :=
  event 4 .HALL_EVENTS_HDR_PARITY_SEEN (raise b 4 input 0 (tally .HDR_PARITY s input))

/-- HEADER_PARITY_FAIL (R73): the cell is discarded where it stands. -/
def execHeaderParityFail (at_ : ParityAt) (s : State) : Host.Outcome State Fault Refusal :=
  match at_ with
  | .hallInput input index =>
    match (s.hall.waiting.zipIdx.filter (fun e => e.1.input == input))[index]? with
    | none => .next s
    | some (h, i) => .next (parityFault 4 input (unpin h (freeSlot h (setWaiting (s.hall.waiting.eraseIdx i) s))))
  | .landing p index =>
    match (s.port p).landing[index]? with
    | none => .next s
    | some x =>
      .next (parityFault (16 + p) p (returnCredit p x.vcIn
        (s.modPort p (fun q => { q with landing := q.landing.eraseIdx index }))))

end Sys2Proof.Machine
end

