-- ==== Sys2Proof/Machine/Time.lean ====
section
/-! DEFINITION. Network time: the device's clocks, the time parent, TIME cells and the servo, and gate lists (R319 to R331). -/
namespace Sys2Proof.Machine

/-- Change the clocks. -/
def modClk (f : ClockSt → ClockSt) (s : State) : State := { s with clk := f s.clk }

/-- This device is the time master (R320). -/
def timeMaster (s : State) : Bool := s.flag .TIME_CFG_MASTER

/-- SYNCED, HOPS and MASTER_NODE as the device reports them (R320, R321). -/
def timeSynced (s : State) : Bool := timeMaster s || s.flag .TIME_STAT_SYNCED
def timeHops (s : State) : Nat := if timeMaster s then 0 else s.get .TIME_STAT_HOPS
def timeNode (s : State) : Nat := if timeMaster s then s.own else s.get .TIME_CFG_MASTER_NODE

/-- PERIOD_US in ns. -/
def timePeriod (s : State) : Nat := s.get .TIME_CFG_PERIOD_US * 1000

/-! The passage of time. -/

/-- A signed field of `w` bits. -/
def signedOf (w v : Nat) : Int := if v < 2 ^ (w - 1) then v else (v : Int) - 2 ^ w

/-- Rate correction per ns, in units of 2^-48 ns: the master's trim, or the servo's frequency correction and slew (R325, R328). -/
def rateNow (s : State) : Int :=
  if timeMaster s then signedOf 24 (s.get .TIME_ADJ_TRIM_PPB) * 2 ^ 48 / 1000000000
  else s.clk.freq + (if 0 < s.clk.slewTicks then s.clk.slew else 0)

/-- One nanosecond passes: both clocks advance (R319). -/
def tick (s : State) : State :=
  let a := s.clk.acc + rateNow s
  modClk (fun k => { k with ns := k.ns + 1, net := k.net + 65536 + a / 2 ^ 32, acc := a % 2 ^ 32, slewTicks := k.slewTicks - 1 }) s

/-! The time parent (R320). -/

/-- HOPS of a port that qualifies as a time parent. -/
def timeQual (s : State) (p : Nat) : Option Nat :=
  match (s.port p).timeLast with
  | some (true, m, h) => if m = s.get .TIME_CFG_MASTER_NODE ∧ h ≤ 6 ∧ s.avail p then some h else none
  | _ => none

/-- The escape port toward the master, if the routing coordinates differ. -/
def escapeToMaster (s : State) : Option Nat :=
  let m := s.get .TIME_CFG_MASTER_NODE
  match diffDims s.plan.dims s.plan.sizes s.own m with
  | [] => none
  | e :: _ =>
    let n := escapeEntry s e (dstCoord s m e)
    if bits n 7 1 = 1 then some (bits n 0 7) else none

/-- The better of two candidates: fewer hops, then the escape port, then the lower number. -/
def betterParent (esc : Option Nat) (a b : Nat × Nat) : Nat × Nat :=
  if b.2 < a.2 then b else if b.2 = a.2 ∧ esc = some b.1 then b else a

/-- The port a follower chooses. -/
def chooseParent (s : State) : Option (Nat × Nat) :=
  match (List.range 72).filterMap (fun p => (timeQual s p).map (fun h => (p, h))) with
  | [] => none
  | a :: r => some (r.foldl (betterParent (escapeToMaster s)) a)

/-- A follower keeps its parent while it qualifies and chooses anew at once when it does not; its HOPS follow. -/
def refreshParent (s : State) : State :=
  if timeMaster s then s
  else
    let p0 := s.get .TIME_STAT_PARENT_PORT
    let best := match timeQual s p0 with
      | some h => some (p0, h)
      | none => chooseParent s
    match best with
    | some (p, h) => (s.set .TIME_STAT_PARENT_PORT p).set .TIME_STAT_HOPS (h + 1)
    | none => (s.set .TIME_STAT_PARENT_PORT 127).set .TIME_STAT_HOPS 7

/-- TIME_CFG has been written: a new master keeps no parent and no synchronisation count. -/
def timeCfgWritten (s : State) : State :=
  if timeMaster s then
    { ((s.set .TIME_STAT_SYNCED 0).set .TIME_STAT_HOLDOVER 0).set .TIME_STAT_PARENT_PORT 127 |>.set .TIME_STAT_HOPS 7 with
      sluice := { s.sluice with syncRun := 0 } }
  else refreshParent s

/-! TIME cells (R322 to R326). -/

/-- Body of a TIME cell; its transmit instant is entered as its frame leaves (Table 13.1). -/
def timeBody (s : State) (p : Nat) : List Word :=
  let w1 := at_ (timeNode s) 16 20 + at_ (timeHops s) 36 3 + at_ (b2n (timeSynced s)) 39 1
  match (s.port p).timeEcho with
  | none => [0, wd w1, 0, 0, 0]
  | some (ns, frac, rx) =>
    [0, wd (w1 + at_ 1 40 1), wd ns, wd (rx / 65536).toNat, wd (at_ frac 0 16 + at_ (rx % 65536).toNat 16 16)]

/-- TIME_CELL_SEND (R322): a port that is UP and due hands a cell to its transmitter, if VC0 has credit. -/
def execTimeCellSend (p : Nat) (s : State) : Host.Outcome State Fault Refusal :=
  if s.get .PORT_STAT_STATE p ≠ 3 ∨ s.now < (s.port p).timeNext ∨ !credit s p 0 then .next s
  else
    let s1 := refreshParent s
    let c := s1.mkCell tyTime 0 (s1.peerNode p) (timeBody s1 p)
    .next (s1.modPort p (fun x => { x with
      htq := x.htq ++ [{ cell := c, before := c, input := 79, vcIn := 0, stamp := s1.now, queuedAt := s1.now }],
      timeNext := s1.now + timePeriod s1 }))

/-- The median of some delays. -/
def median (l : List Int) : Int :=
  let m := l.mergeSort (fun a b => decide (a ≤ b))
  (m.getD (m.length / 2) 0 + m.getD ((m.length - 1) / 2) 0) / 2

/-- A number of 2^-16 ns as signed ps in `w` bits. -/
def psOf (w : Nat) (x : Int) : Nat := ((x * 1000 / 65536) % 2 ^ w).toNat

/-- Limits of the servo (R325), in units of 2^-16 ns per period and of 2^-48 ns per ns. -/
def clampInt (lim x : Int) : Int := max (-lim) (min lim x)
def slewLimit (s : State) : Int := s.get .TIME_CFG_PERIOD_US * 95 * 65536
def freqLimit : Int := 500 * 2 ^ 48 / 1000000

/-- SYNCED falls (R326). -/
def loseSync (s : State) : State :=
  if s.flag .TIME_STAT_SYNCED then event 5 .SLUICE_EVENTS_TIME_UNSYNC (s.set .TIME_STAT_SYNCED 0) else s

/-- The synchronisation count of a sample (R326). -/
def countSync (theta : Int) (s : State) : State :=
  let n := if theta.natAbs ≤ 2 * 65536 then s.sluice.syncRun + 1 else 0
  let s1 := { s with sluice := { s.sluice with syncRun := n } }
  let s2 := if theta.natAbs ≤ 8 * 65536 then s1 else loseSync s1
  if 16 ≤ n ∧ !s2.flag .TIME_STAT_SYNCED then event 5 .SLUICE_EVENTS_TIME_SYNC (s2.set .TIME_STAT_SYNCED 1) else s2

/-- Network time is stepped; a step past the time of an armed snapshot makes it late (R435). -/
def stepNet (net : Int) (s : State) : State :=
  let s1 := modClk (fun k => { k with net := net }) s
  let past := s.count.armed && decide (s.netNs < s.count.armAt) && decide (s.count.armAt ≤ s1.netNs)
  { s1 with count := { s1.count with jumped := s1.count.jumped || past } }

/-- Step, or slew and correct the frequency (R325). -/
def steer (theta : Int) (s : State) : State :=
  if s.get .TIME_CFG_STEP_NS * 65536 < theta.natAbs then
    let s1 := event 5 .SLUICE_EVENTS_TIME_STEP (tally .TIME_STEP (stepNet (s.clk.net + theta) s))
    { s1 with sluice := { s1.sluice with syncRun := 0 } }
  else
    let t : Int := timePeriod s
    modClk (fun k => { k with
      slew := clampInt (slewLimit s) (theta / 4) * 2 ^ 32 / t,
      slewTicks := timePeriod s,
      freq := clampInt freqLimit (k.freq + theta * 2 ^ 32 / (64 * t)) }) s

/-- A sample from the time parent (R325, R326). -/
def timeSample (theta : Int) (s : State) : State :=
  let s1 := (tally .TIME_SAMPLE s).set .TIME_STAT_THETA_PS (psOf 32 theta)
  let s2 := { s1 with sluice := { s1.sluice with lastSample := s1.now } }
  let s3 := countSync theta (s2.set .TIME_STAT_HOLDOVER 0)
  steer theta s3

/-- A cell that names another master is counted, at most once per port per period (R321). -/
def timeForeign (p : Nat) (s : State) : State :=
  if (s.port p).timeForeign.any (fun t => decide (s.now < t + timePeriod s)) then s
  else event 5 .SLUICE_EVENTS_TIME_FOREIGN (tally .TIME_FOREIGN (s.modPort p (fun x => { x with timeForeign := some s.now })))

/-- Network time of a TIME cell's fields, in 2^-16 ns. -/
def netOf (ns frac : Nat) : Int := (ns : Int) * 65536 + frac

/-- A TIME cell from the partner (R324). -/
def timeIn (p : Nat) (c : Cell) (s : State) : State :=
  let b := c.body
  let f := s.clk.net
  let e := netOf (wn b 0) (wf_ b 1 0 16)
  let synced := (wn b 1).testBit 39
  let node := wf_ b 1 16 20
  let s1 := if synced && node != timeNode s then timeForeign p s else s
  let s2 := s1.modPort p (fun x => { x with timeEcho := some (wn b 0, wf_ b 1 0 16, f) })
  let accept := fun (a : State) => refreshParent (a.modPort p (fun x => { x with timeLast := some (synced, node, wf_ b 1 36 3) }))
  if !(wn b 1).testBit 40 then accept s2
  else
    let cc := netOf (wn b 2) (wf_ b 4 0 16)
    let d := netOf (wn b 3) (wf_ b 4 16 16)
    let delay := ((f - cc) - (e - d)) / 2
    let l := (delay :: (s2.port p).timeDelays).take 8
    let m := median l
    let s3 := (s2.modPort p (fun x => { x with timeDelays := l })).set .TIME_DELAY_DELAY_PS (psOf 32 m) p
    if 10 * 65536 < (delay - m).natAbs then tally .TIME_OUTLIER s3
    else
      let s4 := accept s3
      if !timeMaster s4 && s4.get .TIME_STAT_PARENT_PORT == p then timeSample ((e + delay) - f) s4 else s4

/-- TIME_CELL_ARRIVAL (R324): a cell whose body verifies. -/
def execTimeCellArrival (p : Nat) (c : Cell) (s : State) : Host.Outcome State Fault Refusal :=
  if c.ty ≠ tyTime then .next s else if c.check = bodyCrc c.body then .next (timeIn p c s) else .next (badVc0 s)

/-- TIME_HOLDOVER_TIMEOUT (R326). -/
def execTimeHoldoverTimeout (s : State) : Host.Outcome State Fault Refusal :=
  let s1 := refreshParent s
  if timeMaster s1 || decide (s1.now < s1.sluice.lastSample + 8 * timePeriod s1) then .next s1
  else
    let s2 := (loseSync { s1 with sluice := { s1.sluice with syncRun := 0 } }).set .TIME_STAT_HOLDOVER 1
    .next (if s1.flag .TIME_STAT_HOLDOVER then s2 else raise 5 22 0 0 s2)

/-! Setting the time (R328). -/

/-- TIME_ADJ.SET: the master in Marked service sets network time from TIME_SET_NS and SET_FRAC. -/
def setNetTime (s : State) : State :=
  if s.flag .SLUICE_MODE_SERVICE then event 5 .SLUICE_EVENTS_SET_REFUSED (tally .SET_REFUSED s)
  else if timeMaster s then modClk (fun k => { k with acc := 0 }) (stepNet (netOf (s.get .TIME_SET_NS_NS) (s.get .TIME_ADJ_SET_FRAC)) s)
  else s

/-- TIME_SET (R328). -/
def execTimeSet (m : Master) (ns frac : Nat) (s : State) : Host.Outcome State Fault Refusal :=
  .next (guarded m .TIME_ADJ_SET 0 (fun a => setNetTime ((a.set .TIME_SET_NS_NS ns).set .TIME_ADJ_SET_FRAC frac)) s)

/-! Gate lists (R329, R331). -/

/-- GATE_ENTRY_CHANGE: the entry in force is a function of network time; a replaced list whose boundary has come is now the
port's list. -/
def execGateEntryChange (p : Nat) (s : State) : Host.Outcome State Fault Refusal :=
  match Tab.find? s.plan.gatesNext p with
  | none => .next s
  | some (t, l) =>
    if t ≤ s.netNs then
      .next { s with plan := { s.plan with gates := Tab.put s.plan.gates p l, gatesNext := Tab.del s.plan.gatesNext p } }
    else .next s

end Sys2Proof.Machine
end

