-- ==== Sys2Proof/Machine/Port.lean ====
section
/-! DEFINITION. A network port's course: going down and re-injection (R145, R146), pause and retrain (R147 to R150), drain
(R151), bring-up (R152), and the training of its lanes (R165 to R173), as operations the link and lane commands share. -/
namespace Sys2Proof.Machine

/-! Names of a port's state. -/

/-- STATE of a port (Table 6.11). -/
def pst (s : State) (p : Nat) : Nat := s.get .PORT_STAT_STATE p

/-- CLASS 1, stepped negotiation. -/
def stepped (s : State) (p : Nat) : Bool := (s.roleWord p).testBit 8

/-- STATE of a lane (Table 7.13). -/
def lst (s : State) (p k : Nat) : Nat := s.get .LANE_STAT_STATE (2 * p + k)

/-- Set a lane's STATE. -/
def setLane (p k v : Nat) (s : State) : State := s.set .LANE_STAT_STATE v (2 * p + k)

/-- A lane beyond its registers. -/
def laneOf (s : State) (p k : Nat) : LaneSt := (s.port p).lanes.getD k {}

/-- Change a lane. -/
def modLane (p k : Nat) (f : LaneSt → LaneSt) (s : State) : State :=
  s.modPort p (fun x => { x with lanes := x.lanes.set k (f (x.lanes.getD k {})) })

/-- Lanes not marked failed. -/
def usable (s : State) (p : Nat) : List Nat := [0, 1].filter (fun k => lst s p k != 5)

/-- A lane is marked failed. -/
def anyFailed (s : State) (p : Nat) : Bool := decide ((usable s p).length < 2)

/-- The port's link runs: PARAM, UP, PAUSED, DRAINING, and RETRAIN from its parameter exchange on (R128). -/
def framesFlow (s : State) (p : Nat) : Bool :=
  let st := pst s p
  st == 2 || st == 3 || st == 4 || st == 6 || (st == 5 && ((s.port p).phase == .paramRetrain || (s.port p).phase == .replay))

/-- Enter a phase now. -/
def setPhase (p : Nat) (ph : PortPhase) (s : State) : State := s.modPort p (fun x => { x with phase := ph, phaseAt := s.now })

/-- The settings this end asks for, as EVENT_ARG (Table 6.3). -/
def settings (s : State) (p : Nat) : Nat :=
  s.get .PORT_CFG_FEC p + 2 * s.get .PORT_CFG_ONE_LANE p + 4 * s.get .PORT_CFG_RATE_MAX p

/-- Reserved minimum and shared cap of a channel in this end's plan. -/
def planReserved (s : State) (v : Nat) : Nat := bits (s.plan.vcs.getD v 0) 4 12
def planCap (s : State) (v : Nat) : Nat := bits (s.plan.vcs.getD v 0) 16 16

/-- Cells of a channel in a port's Landing. -/
def landOcc (s : State) (p v : Nat) : Nat :=
  ((s.port p).landing.filter (fun c => c.vcIn == v)).length
    + (s.hall.waiting.filter (fun h => h.inLanding && h.input == p && h.vcIn == v)).length

/-- The Landing of a port holds nothing. -/
def landingEmptyNow (s : State) (p : Nat) : Bool :=
  (s.port p).landing.isEmpty && !s.hall.waiting.any (fun h => h.inLanding && h.input == p)

/-- PORT_EVENTS bit of a port. -/
def portEvent (f : Fld) (p : Nat) (s : State) : State := event (16 + p) f s p

/-! Down (R145, R146). -/

/-- A cell of a downed port goes back to the Hall through Hall input p with its stamp and the VC, HOP and DIM_DONE it had. -/
def reinjectOne (p : Nat) (c : TxCell) (s : State) : State :=
  let b := c.before
  if b.ty = tyTime then s
  else if b.vc = 1 then treeCellLost b s
  else if expired s c.stamp then lifetimeCount p c.vcIn b 1 s
  else setWaiting (s.hall.waiting ++ [{ cell := b, input := p, stamp := c.stamp, vcIn := b.vc }]) s

/-- Sequence numbers, occupancies and credits cleared. -/
def clearSeq (p : Nat) (s : State) : State :=
  let s1 := s.modPort p (fun x => { x with
    htq := [], replay := [], replayNext := [], replayAt := none, resumeReplay5 := false,
    sentCum := List.replicate 8 0, creditRx := List.replicate 8 0, creditTx := List.replicate 8 0 })
  (((s1.set .PORT_SEQ_TX_NEXT 0 p).set .PORT_SEQ_TX_OLDEST 0 p).set .PORT_SEQ_RX_EXPECTED 0 p).set .PORT_STAT_REPLAY_COUNT 0 p

/-- The down causes that are faults at L2, and those that are suspect observations (Tables 6.12 and 14.8). -/
def faultCause (cause : Nat) : Bool := cause == 2 || cause == 3 || cause == 4 || cause == 6

/-- A port goes down with a cause (R145, R146). -/
def portDown (p cause : Nat) (s : State) : State :=
  if pst s p = 0 then s
  else
    let q := s.port p
    let s1 := (s.set .PORT_STAT_STATE 0 p).set .PORT_STAT_DOWN_CAUSE cause p
    let s2 := s1.modPort p (fun x => { x with
      phase := .idle, phaseAt := s.now, attemptAt := none, retrainAt := none, again := [], againAsked := false, joined := [],
      bothLanes := false, reqSent := none, agreed := none, adminAt := none, goingDownAt := none, downAt := s.now, eventOut := none,
      nackOut := none, blockGot := false, paramAck := false, paramSent := false })
    let s3 := lanesDown p s2
    let s4 := portEvent .PORT_EVENTS_DOWN_SEEN p (portHist p 2 cause 0 0 s3)
    let s5 := serviceFallback 1 p { s4 with sluice := { s4.sluice with lastPortDown := some s4.now } }
    let s6 := if faultCause cause then raise (16 + p) 8 0 0 s5 else s5
    let s7 := if faultCause cause then suspectObserve 1 (s.idxOf (s.peerNode p)) none p cause s6 else s6
    let s8 := clearSeq p s7
    refreshParent (treePortChanged p true (forEach (q.replay ++ q.htq) (reinjectOne p) s8))

/-! Pause and retrain (R147). -/

/-- A trigger joins the retrain in progress (R149). DEDUCED, log 42: one that comes in step 5, after the rate and the lanes of the
training were set, joins it unless it asks for another RATE_MAX or for both lanes; then a further retrain brings them. -/
def joinRetrain (p cause : Nat) (asked : Bool) (s : State) : State :=
  let x := s.port p
  let late := x.phase == .paramRetrain || x.phase == .replay
    || (x.phase == .train && (s.get .PORT_CFG_RATE_MAX p != x.rateAsked || x.bothLanes))
  if late then s.setPort p { x with again := x.again ++ [cause], againAsked := x.againAsked || asked }
  else if x.phase = .pauseReq then
    s.setPort p { x with joined := x.joined ++ [cause], eventOut := some (2, settings s p, x.phaseAt + 10000), reqSent := some (settings s p) }
  else s.setPort p { x with joined := x.joined ++ [cause] }

/-- A trigger of R147 with a cause: a retrain starts from UP, joins one before its step 5 ends, or follows it (R149). -/
def startRetrain (p cause : Nat) (asked : Bool) (s : State) : State :=
  let st := pst s p
  if st = 3 then
    let s1 := (s.set .PORT_STAT_STATE 4 p).set .PORT_STAT_RETRAIN_CAUSE cause p
    let s2 := s1.modPort p (fun x => { x with
      phase := if asked then .drain else .pauseReq, phaseAt := s.now, retrainAt := some s.now, joined := [],
      reqSent := if asked then none else some (settings s p), agreed := if asked then x.agreed else none,
      eventOut := if asked then some (3, settings s p, s.now + 2000) else some (2, settings s p, s.now + 10000) })
    let s3 := portEvent .PORT_EVENTS_RETRAIN_SEEN p (portHist p 3 cause 0 0 (tallyPort .RETRAIN p s2))
    refreshParent (treePortChanged p true (serviceFallback 1 p s3))
  else if st = 4 ∨ st = 5 then joinRetrain p cause asked s
  else s

/-- A port that is not down begins the sequence of R151 toward a down cause. -/
def beginDrain (p cause : Nat) (s : State) : State :=
  let st := pst s p
  if st = 0 then s.modPort p (fun x => if x.phase = .waitEmpty then { x with phase := .idle } else x)
  else if st < 3 then portDown p cause s
  else if st = 6 then s
  else refreshParent (treePortChanged p true (serviceFallback 1 p (drainPort cause p s)))

/-! Lanes. -/

/-- FOM threshold a lane must hold (R165). -/
def passThr (s : State) (p : Nat) : Nat :=
  if s.flag .PORT_CFG_FEC p then s.get .LANE_FOM_CFG_THR_HEAVY p else s.get .LANE_FOM_CFG_THR_LIGHT p

/-- RATE codes this end allows, as CAPS (Table 7.5). -/
def ownCaps (s : State) (p : Nat) : Nat :=
  ((List.range 4).filter (fun c => decide (s.get .PORT_CFG_RATE_MAX p ≤ c))).foldl (fun a c => a + 2 ^ c) 0

/-- Marker period of a RATE code in ns (Table 7.1). -/
def markerPeriod (rate : Nat) : Nat := if rate = 0 then 11700 else if rate = 1 then 23410 else if rate = 2 then 46810 else 93630

/-- The taps of LANE_TXEQ[k]: the preset. -/
def presetTaps (s : State) (p k : Nat) : List Nat :=
  let i := 2 * p + k
  [s.get .LANE_TXEQ_C_M2 i, s.get .LANE_TXEQ_C_M1 i, s.get .LANE_TXEQ_C_0 i, s.get .LANE_TXEQ_C_P1 i, s.get .LANE_TXEQ_C_P2 i]

/-- The taps in use on a lane. -/
def tapsNow (s : State) (p k : Nat) : List Nat := ((laneOf s p k).taps).getD (presetTaps s p k)

/-- Send this end's TCW on a lane (Table 7.5). While a stepped port tunes, which change it asks of the partner is the
receiver's own choice: a free value. SEQ advances at each new request (R169). -/
def sendTcw (p st req k : Nat) (s : State) : State :=
  let l := laneOf s p k
  let (r, s1) := if st = 4 then draw s else (0, s)
  let ask := if st = 4 then r % 4 else 0
  let q := s1.port p
  let n := if ask ≠ 0 ∨ (st = 2 ∧ k = 0) then (q.tcwSeq + 1) % 256 else q.tcwSeq
  let t : TCW := {
    state := st, caps := ownCaps s p, rateNow := q.rate, rateReq := req, fom := s.get .LANE_STAT_FOM (2 * p + k),
    eqReq := ask, eqTap := if ask = 0 then 0 else (r / 4) % 5, eqAck := (match l.eqAnswer with | some (_, false) => true | _ => false),
    eqLimit := (match l.eqAnswer with | some (_, true) => true | _ => false), seq := n,
    eqSeq := (match l.eqAnswer with | some (a, _) => a | none => 0), node := s.own, port := p }
  emit (.training p k t (trainingSync :: tcwWords t)) (modLane p k (fun l => { l with tcw := some t }) (s1.setPort p { q with tcwSeq := n }))

/-- Send a TCW on both lanes. -/
def sendTcws (p st req : Nat) (s : State) : State := forEach [0, 1] (sendTcw p st req) s

/-- A port starts its line frames: the line coding begins afresh under the FEC of PORT_CFG (R160; log 4). -/
def startLine (p : Nat) (s : State) : State := s.setLine p { fec := s.get .PORT_CFG_FEC p }

/-- Start the lanes of a port at a rate: usable lanes train, equalisers at the settings last used at that rate, or at LANE_TXEQ
(R168, R170). -/
def trainLanes (p rate : Nat) (s : State) : State :=
  let s1 := s.modPort p (fun x => { x with rate := rate, eqHold := s.flag .LANE_CFG_TXEQ_HOLD p })
  forEach (usable s1 p) (fun k a =>
    let l := laneOf a p k
    let start := if stepped a p && !a.flag .LANE_CFG_TXEQ_HOLD p then (Tab.find? l.stored rate).getD (presetTaps a p k) else presetTaps a p k
    modLane p k (fun x => { x with fomGood := false, badRun := 0, deskewed := false, taps := some start, stored := Tab.put x.stored rate start })
      (setLane p k (if l.signal then 2 else 1) a)) s1

/-- Begin or restart lane bring-up in state LANES (R167, R173): an attempt begins while signal is detected. -/
def beginLanes (p : Nat) (s : State) : State :=
  let s1 := s.set .PORT_STAT_STATE 1 p
  let s2 := forEach [0, 1] (fun k a => modLane p k (fun x => { x with tcwSeen := false })
    ((setLane p k 1 a).set .LANE_STAT_FAIL_CAUSE 0 (2 * p + k))) s1
  let sig := (laneOf s2 p 0).signal || (laneOf s2 p 1).signal
  let s3 := trainLanes p (if stepped s p then 3 else s.get .PORT_CFG_RATE_MAX p) s2
  let s4 := s3.modPort p (fun x => { x with
    phase := if stepped s p then .caps else .blindAdapt, phaseAt := s.now, attemptAt := if sig then some s.now else none,
    rateLast := 3, stepsLeft := true, steps := 0, stepAcked := none, bothLanes := false, lands := [0, 1] })
  if stepped s p then sendTcws p 1 0 s4 else startLine p s4

/-- A bring-up attempt restarts and is counted (R173). -/
def retryLanes (p : Nat) (s : State) : State :=
  beginLanes p (event (16 + p) .LANE_EVENTS_BRINGUP_RETRY (tallyPort .BRINGUP_RETRY p s) p)

/-- The conditions of R152 hold: a ROLE, the domain on, ADMIN_DOWN 0, the port down. -/
def mayBringUp (s : State) (p : Nat) : Bool :=
  pst s p == 0 && s.role p != 0 && s.domainOn p && !s.flag .PORT_CFG_ADMIN_DOWN p && decide (s.devLevel < 4)

/-- Bring-up starts (R152): it waits until the Landing is empty, then the lanes come up. -/
def startBringUp (p : Nat) (s : State) : State :=
  if !mayBringUp s p then s else if landingEmptyNow s p then beginLanes p s else setPhase p .waitEmpty s

/-- Carrying lanes of a one-lane port (R166): the receive lane is Pn.0 if this end found it usable. Which transmit lane the
receiving end found usable is told by no word of the link: it is a free value (log 43), drawn once for each training. -/
def setCarry (p : Nat) (s : State) : State :=
  let one := s.flag .PORT_STAT_ONE_LANE_ACTIVE p
  let rx := (usable s p).headD 0
  let had := s.flag .LANE_STAT_TX_CARRY (2 * p) || s.flag .LANE_STAT_TX_CARRY (2 * p + 1)
  let (v, s1) := if one && !had then draw s else (b2n (s.flag .LANE_STAT_TX_CARRY (2 * p + 1)), s)
  forEach [0, 1] (fun k a => (a.set .LANE_STAT_RX_CARRY (b2n (one && k == rx)) (2 * p + k)).set .LANE_STAT_TX_CARRY
    (b2n (one && k == v % 2)) (2 * p + k)) s1

/-- A port that has come to run on one lane through a failure (R150). -/
def noteDegraded (p : Nat) (was : Bool) (s : State) : State :=
  if anyFailed s p && !was then portEvent .PORT_EVENTS_WIDTH_DEGRADED p (portHist p 9 0 0 0 s) else s

/-- Lock of the lanes ends their training: the parameter exchange begins (R152, Table 6.10a step 6), on one lane where this end has
lost one or is asked for one. The lanes have left training: their marker counts restart (Table 7.2). -/
def enterParam (p : Nat) (s : State) : State :=
  let bring := pst s p == 1
  let x := s.port p
  let one := s.flag .PORT_CFG_ONE_LANE p || anyFailed s p || (match x.agreed with | some a => !bring && a.testBit 1 | none => false)
  let s1 := s.setPort p { x with
    phase := if bring then .param else .paramRetrain, phaseAt := s.now, attemptAt := none, blockGot := false,
    paramAck := false, paramSent := false, reqSent := none, sel := settings s p, eventIn := 0,
    lanes := x.lanes.map (fun l => { l with amSent := 0 }) }
  let s2 := noteDegraded p (!bring && s.flag .PORT_STAT_ONE_LANE_ACTIVE p) (if bring then s1.set .PORT_STAT_STATE 2 p else s1)
  let s3 := forEach [2 * p, 2 * p + 1] (fun i a => a.set .LANE_STAT_TX_CARRY 0 i) s2
  setCarry p (((s3.set .PORT_STAT_FEC_ACTIVE (s.lineOf p).fec p).set .PORT_STAT_RATE_ACTIVE x.rate p).set
    .PORT_STAT_ONE_LANE_ACTIVE (b2n one) p)

/-- Every lane still in training has locked. -/
def lanesLocked (s : State) (p : Nat) : Bool := !(usable s p).isEmpty && (usable s p).all (fun k => lst s p k == 4)

/-- Mark a lane failed with a cause (R165, Table 7.13). -/
def failLane (p k cause : Nat) (s : State) : State :=
  if lst s p k = 5 then s
  else
    let s1 := ((setLane p k 5 s).set .LANE_STAT_FAIL_CAUSE cause (2 * p + k))
    event (16 + p) .LANE_EVENTS_LANE_FAIL (tallyPort .LANE_FAIL p (modLane p k (fun x => { x with fomLowSince := none }) s1) k) p

/-- A lane failure of a running port reaches the link layer (R166, R150). -/
def laneFailed (p k cause : Nat) (s : State) : State :=
  if lst s p k = 5 then s
  else
    let s1 := failLane p k cause s
    let st := pst s1 p
    if st = 3 ∨ st = 4 ∨ st = 5 then (if (usable s1 p).isEmpty then portDown p 6 s1 else startRetrain p 4 false s1) else s1

/-- Lane training of a retrain begins (R172): an attempt at a rate. -/
def retrainAttempt (p rate n : Nat) (s : State) : State :=
  let s1 := (trainLanes p rate s).modPort p (fun x => { x with attemptAt := some s.now, attempt := n })
  if stepped s p then sendTcws p 4 rate s1 else startLine p s1

/-- RATE_MAX of the partner: as its PAUSE_REQ or PAUSE_ACK of this retrain named it, else as its last block did (R148). -/
def partnerRate (s : State) (p : Nat) : Nat :=
  match (s.port p).agreed with
  | some a => bits a 2 2
  | none => bits (s.get .PORT_PARTNER_BLOCK_W0 p) 37 2

/-- Target rate of a retrain: the highest both RATE_MAX values allow (R172). -/
def targetRate (s : State) (p : Nat) : Nat := max (s.get .PORT_CFG_RATE_MAX p) (partnerRate s p)

/-- Step 5 of Table 6.10a begins; a retrain that finds no usable lane ends at once (R150). -/
def beginTraining (p : Nat) (s : State) : State :=
  let s1 := (s.set .PORT_STAT_STATE 5 p).modPort p (fun x => { x with
    phase := .train, phaseAt := s.now, priorRate := s.get .PORT_STAT_RATE_ACTIVE p, replayAt := none, eventOut := none,
    rateAsked := s.get .PORT_CFG_RATE_MAX p, bothLanes := false })
  let s2 := if (s.port p).bothLanes then forEach [0, 1] (fun k a =>
      (setLane p k 2 a).set .LANE_STAT_FAIL_CAUSE 0 (2 * p + k)) s1 else s1
  if (usable s2 p).isEmpty then portDown p 6 s2 else retrainAttempt p (targetRate s2 p) 1 s2

/-- Replay every unacknowledged cell under R142: counted, recorded, a fault at L0. -/
def doReplay (p : Nat) (s : State) : State :=
  let n := s.get .PORT_STAT_REPLAY_COUNT p + 1
  let s1 := (s.set .PORT_STAT_REPLAY_COUNT n p).modPort p (fun x => { x with replayNext := x.replay.map (·.seq), replayAt := none })
  raise (16 + p) 6 0 0 (portEvent .PORT_EVENTS_REPLAY_SEEN p
    (portHist p 5 n (s.get .PORT_SEQ_TX_OLDEST p) 0 (tallyPort .REPLAY p s1)))

/-- The agreed settings take effect (R148): where the blocks differ in FEC_SEL, that of the end with the lower node identifier holds
and the other end writes it, unless software has written FEC since the exchange began (R149; log 42). A rate above what a RATE_MAX
allows is one more retrain away. -/
def agreeSettings (p : Nat) (s : State) : State :=
  let x := s.port p
  let w := s.get .PORT_PARTNER_BLOCK_W0 p
  let own := x.sel % 2
  let fec := if bits w 35 1 ≠ own ∧ bits w 0 20 < s.own then bits w 35 1 else own
  let s1 := if fec ≠ own ∧ s.get .PORT_CFG_FEC p = own then s.set .PORT_CFG_FEC fec p else s
  let one := x.sel.testBit 1 || w.testBit 36 || anyFailed s p
  let slow := decide (x.rate < max (s.get .PORT_CFG_RATE_MAX p) (bits w 37 2))
  let s2 := (s1.set .PORT_STAT_FEC_ACTIVE fec p).set .PORT_STAT_ONE_LANE_ACTIVE (b2n one) p
  setCarry p (if slow && x.again.isEmpty then s2.modPort p (fun y => { y with again := [3] }) else s2)

/-- The partner's VC_MASK differs from this plan's channel set (R140). -/
def checkMask (p : Nat) (s : State) : State :=
  if partnerMask s p = s.get .HALL_STAT_VC_SET then s else portEvent .PORT_EVENTS_PARAM_MISMATCH p (portHist p 8 0 0 0 s)

/-- The retrain that a trigger asked for after step 5 follows at once (R149). -/
def followAgain (p : Nat) (s : State) : State :=
  let x := s.port p
  match x.again with
  | [] => s
  | c :: r =>
    (startRetrain p c x.againAsked (s.setPort p { x with again := [], againAsked := false })).modPort p (fun y => { y with joined := r })

/-- The replay of step 7 is over (Table 6.10a): RESUME, available again; a further retrain follows if asked. -/
def finishResume (p : Nat) (s : State) : State :=
  let x := s.port p
  let viol := s.get .PORT_STAT_RETRAIN_CAUSE p == 2 || x.joined.contains 2
  let s1 := (s.set .PORT_STAT_STATE 3 p).setPort p { x with
    phase := .idle, retrainAt := none, joined := [], agreed := if x.againAsked then x.agreed else none, eventOut := some (4, 0, s.now + 1000),
    violRetrainEnd := if viol then some s.now else x.violRetrainEnd }
  followAgain p (portEvent .PORT_EVENTS_RETRAIN_DONE p (portHist p 4 0 0 0 s1))

/-- Step 7 of Table 6.10a begins: every unacknowledged cell is replayed, as replay 5 after a retrain of cause REPLAY (R147). -/
def resumePort (p : Nat) (s : State) : State :=
  let x := s.port p
  if x.replay.isEmpty then finishResume p s
  else if s.get .PORT_STAT_RETRAIN_CAUSE p = 1 ∨ 1 ∈ x.joined then
    doReplay p ((s.set .PORT_STAT_REPLAY_COUNT 4 p).setPort p { x with phase := .replay, resumeReplay5 := true })
  else s.setPort p { x with phase := .replay, replayNext := x.replay.map (·.seq), replayAt := none }

/-- The port enters UP at the end of bring-up (R152, step 4). -/
def portUp (p : Nat) (s : State) : State :=
  let s1 := ((clearSeq p s).set .PORT_STAT_STATE 3 p).modPort p (fun x => { x with
    phase := .idle, crcFailCum := 0, fecCorrCum := 0, timeNext := s.now, joined := [], agreed := none })
  followAgain p (portEvent .PORT_EVENTS_UP_SEEN p (portHist p 1 0 0 0 s1))

/-- Each end has the other's block and a PARAM_ACK: the exchange is complete. -/
def paramDone (p : Nat) (s : State) : State :=
  let x := s.port p
  if x.blockGot && x.paramAck && x.paramSent then
    let s1 := checkMask p (agreeSettings p s)
    if pst s p = 2 then portUp p s1 else if pst s p = 5 ∧ x.phase = .paramRetrain then resumePort p s1 else s
  else s

end Sys2Proof.Machine
end

