-- ==== Sys2Proof/Machine/Link.lean ====
section
/-! DEFINITION. The link layer's commands: frames sent and received, sequence and credit, replay, pause and retrain, down and
bring-up, violations (R72, R128 to R157), and Checked forwarding at the Landing (R54, R55). -/
namespace Sys2Proof.Machine

/-! Transmit (R128 to R130, R135, R142, R143). -/

/-- Word 4 of a frame header (Table 6.2). -/
def word4 (s : State) (p : Nat) : Nat :=
  s.get .LANE_STAT_FOM (2 * p) + 2 ^ 8 * s.get .LANE_STAT_FOM (2 * p + 1) + 2 ^ 16 * ((s.port p).crcFailCum % 65536)
    + 2 ^ 32 * ((s.port p).fecCorrCum % 65536)

/-- The header every frame carries (R130), with the event and the NACK that are due. -/
def frameHdr (s : State) (p ftype : Nat) (ev : Nat × Nat) (slots : List Slot) (base : Nat) : FrameHdr :=
  let x := s.port p
  { ftype := ftype, slotCount := slots.length, seqBase := base, ackNext := s.get .PORT_SEQ_RX_EXPECTED p,
    nackCode := (x.nackOut.getD (0, 0)).1, nackSeq := (x.nackOut.getD (0, 0)).2, event := ev.1, eventArg := ev.2,
    creditCum := x.creditTx, word4 := word4 s p }

/-- The event a frame carries now (Table 6.3). -/
def eventNow (s : State) (p : Nat) : Nat × Nat :=
  match (s.port p).eventOut with
  | some (c, a, t) => if s.now < t then (c, a) else (0, 0)
  | none => (0, 0)

/-- This end's parameter block (Table 6.4), with the settings as the exchange began. -/
def ownBlock (s : State) (p : Nat) : ParamBlock :=
  let sel := (s.port p).sel
  { node := s.own, port := p, vcMask := s.get .HALL_STAT_VC_SET, fecSel := sel % 2,
    oneLane := sel.testBit 1 || anyFailed s p, rateMax := bits sel 2 2,
    reserved := (List.range 8).map (planReserved s), sharedCap := (List.range 8).map (planCap s) }

/-- The slot a replayed cell takes: a void slot when its stamp is older than LIFE_US, and for a TIME cell (R143, R323). -/
def replaySlot (s : State) (c : TxCell) : Slot :=
  if expired s c.stamp || c.cell.ty == tyTime then { void := true, cell := { c.cell with body := padWords 8 [] } }
  else { void := false, cell := c.cell }

/-- A TIME cell gets its transmit instant as it is sent (R322). -/
def stampTime (s : State) (c : Cell) : Cell :=
  if c.ty = tyTime then
    let b := (c.body.set 0 (wd s.netNs)).set 1 (wd (setBits (wn c.body 1) 0 16 s.netFrac))
    { c with body := b, check := bodyCrc b }
  else c

/-- Place the next replayed cells in slots, at most `n`. -/
def takeReplays (p n : Nat) (s : State) : List Slot × State :=
  let x := s.port p
  let now_ := (x.replayNext.take n)
  let cs := x.replay.filter (fun c => now_.contains c.seq)
  let slots := cs.map (replaySlot s)
  let first := decide (x.replayAt = none) && !cs.isEmpty
  let s1 := s.setPort p { x with
    replayNext := x.replayNext.drop n,
    replay := x.replay.map (fun c => if now_.contains c.seq then { c with sentAt := s.now } else c),
    replayAt := if first then some (s.now + s.get .PORT_CFG_REPLAY_TO_US p * 1000) else x.replayAt }
  (slots, tallyPortN .VOID_SENT p (slots.filter (·.void)).length s1)

/-- Place one new cell in a slot: it takes the next number, counts in SENT_CUM, and enters the replay buffer. -/
def takeNew (p : Nat) (c : TxCell) (s : State) : Slot × State :=
  let n := s.get .PORT_SEQ_TX_NEXT p
  let cell := stampTime s c.cell
  let s1 := (s.set .PORT_SEQ_TX_NEXT ((n + 1) % 65536) p).modPort p (fun x => { x with
    sentCum := x.sentCum.set cell.vc ((x.sentCum.getD cell.vc 0 + 1) % 65536),
    replayAt := if x.replay.isEmpty then some (s.now + s.get .PORT_CFG_REPLAY_TO_US p * 1000) else x.replayAt,
    replay := x.replay ++ [{ c with cell := cell, seq := n, sentAt := s.now }] })
  ({ void := false, cell := cell }, histAdd (256 + 8 * p + cell.vc) 1 (s.now - c.queuedAt) s1)

/-- Place new cells in the slots left, while the replay buffer of 1,638 cells has room (R135). A cell whose stamp has run out
at the head of its queue is discarded (R115). -/
def takeNews (p : Nat) : Nat → State → List Slot × State
  | 0, s => ([], s)
  | n + 1, s =>
    let x := s.port p
    match x.htq with
    | [] => ([], s)
    | c :: r =>
      if 1638 ≤ x.replay.length then ([], s)
      else if expired s c.stamp then takeNews p n (lifetimeCount c.input c.vcIn c.cell 1 (s.setPort p { x with htq := r }))
      else
        let (sl, s1) := takeNew p c (s.setPort p { x with htq := r })
        let (ls, s2) := takeNews p n s1
        (sl :: ls, s2)

/-- A port transmits on one lane. -/
def onOneLane (s : State) (p : Nat) : Bool := s.flag .PORT_STAT_ONE_LANE_ACTIVE p && framesFlow s p

/-- The replay of step 7 of Table 6.10a ends with the frame that carries its last cell. -/
def replayEnd (p : Nat) (s : State) : State :=
  if pst s p = 5 ∧ (s.port p).phase = .replay ∧ (s.port p).replayNext = [] then finishResume p s else s

/-- A DATA frame: replays ahead of new cells; PAUSED and RETRAIN place no new cell (Table 6.11). -/
def dataFrame (p : Nat) (s : State) : State :=
  let x := s.port p
  let (a, s1) := takeReplays p 15 s
  let new := (pst s p == 3 || pst s p == 6) && (s1.port p).replayNext.isEmpty
  let (b, s2) := if new then takeNews p (15 - a.length) s1 else ([], s1)
  let base := match x.replayNext with
    | q :: _ => q
    | [] => s.get .PORT_SEQ_TX_NEXT p
  let slots := a ++ b
  let hdr := frameHdr s p 0 (eventNow s p) slots base
  let s3 := sendLine p (onOneLane s p) (dataBytes hdr slots) (emit (.frame p hdr slots) (tallyPort .FRAME_TX p s2))
  replayEnd p (s3.modPort p (fun y => { y with nackOut := none, eventOut := if eventNow s p = (0, 0) then none else y.eventOut }))

/-- The idle frame of lanes in training (R168): no cell, event or NACK. -/
def idleFrame (p : Nat) (s : State) : State :=
  let hdr := { frameHdr s p 0 (0, 0) [] (s.get .PORT_SEQ_TX_NEXT p) with nackCode := 0, nackSeq := 0 }
  sendLine p false (dataBytes hdr []) (emit (.frame p hdr []) (tallyPort .FRAME_TX p s))

/-- A PARAM frame (R132): PARAM_ACK once the partner's block has arrived. -/
def paramFrame (p : Nat) (s : State) : State :=
  let got := (s.port p).blockGot
  let hdr := frameHdr s p 1 (if got then 1 else 0, 0) [] 0
  let s1 := sendLine p (onOneLane s p) (paramBytes hdr (ownBlock s p)) (emit (.param p hdr (ownBlock s p)) (tallyPort .FRAME_TX p s))
  paramDone p (s1.modPort p (fun y => { y with nackOut := none, paramSent := y.paramSent || got }))

/-- The port transmits line frames (R128, R168, Table 7.6): its link runs, blind start, and the alignment steps of the other
trainings. -/
def lineFrames (s : State) (p : Nat) : Bool :=
  let ph := (s.port p).phase
  framesFlow s p || (pst s p == 1 && (ph == .blindAdapt || ph == .blindLock || ph == .doneLock))
    || (pst s p == 5 && ph == .train && (!stepped s p || (usable s p).any (fun k => decide (3 ≤ lst s p k))))

/-- LINK_FRAME_TRANSMIT (R128): nothing is sent outside the states that send line frames, nor past 1,024 line frames without their
alignment marker (R160). -/
def execLinkFrameTransmit (p : Nat) (s : State) : Host.Outcome State Fault Refusal :=
  if !lineFrames s p || decide (1024 ≤ (s.lineOf p).frames) then .next s
  else if !framesFlow s p then .next (idleFrame p s)
  else if pst s p = 2 ∨ (s.port p).phase = .paramRetrain then .next (paramFrame p s)
  else .next (dataFrame p s)

/-! Violations (R153). -/

/-- The counter of a violation cause. -/
def violCtr (code : Nat) : Ctr :=
  match code with
  | 1 => .CREDIT_OVERRUN | 2 => .SEQ_WINDOW | 3 => .MALFORMED | 4 => .ILLEGAL_VC | _ => .UNKNOWN_TYPE

/-- A partner protocol violation (R153). -/
def violation (p code seq vc : Nat) (s : State) : State :=
  let s1 := portEvent .PORT_EVENTS_VIOLATION_SEEN p (portHist p 6 code seq vc (tallyPort (violCtr code) p s))
  let s2 := raise (16 + p) 9 0 0 s1
  let s3 := ((s2.set .PORT_VIOL_LAST_CODE code p).set .PORT_VIOL_LAST_SEQ seq p).set .PORT_VIOL_LAST_VC vc p
  let s4 := s3.set .PORT_VIOL_WINDOW_COUNT (min 255 (s3.get .PORT_VIOL_WINDOW_COUNT p + 1)) p
  let x := s4.port p
  match x.nackOut with
  | none => s4.setPort p { x with violCount := x.violCount + 1, nackOut := some (code, seq) }
  | some _ => tallyPort .NACK_SUPPRESSED p (s4.setPort p { x with violCount := x.violCount + 1 })

/-! Receive (R72, R136 to R139). -/

/-- The NACK code of a header that fails R72. -/
def headerFault (s : State) (c : Cell) : Option Nat :=
  if 11 ≤ c.ty then some 5
  else if !s.hasVc c.vc || !vcAllowed c.ty c.vc then some 4
  else if decide (6 ≤ c.hop) || decide (64 < c.idx) || c.segCells == 0 || decide (65 < c.segCells) || decide (c.segCells ≤ c.idx)
      || (c.pin && decide (23 < c.order)) || !configuredId s.plan.dims s.plan.sizes c.dest then some 3
  else none

/-- The Landing admits a cell of a channel (R139, over its real occupancy). -/
def landingAdmits (s : State) (p v : Nat) : Bool :=
  mayHold (s.get .HALL_STAT_VC_SET) (landOcc s p) (planReserved s) (planCap s) v

/-- A cell enters the Landing, held or not. -/
def putLanding (p : Nat) (c : Cell) (held : Bool) (s : State) : State :=
  s.modPort p (fun x => { x with landing := x.landing ++ [{ cell := c, vcIn := c.vc, at_ := s.now, held := held }] })

/-- A tile or lead fails its check at this hop (R55): the cells are discarded and their credits returned. -/
def checkFail (p : Nat) (cs : List LCell) (s : State) : State :=
  raise (16 + p) 5 0 0 (tallyPort .CHECK_FAIL p (forEach cs (fun c a => returnCredit p c.vcIn a) s))

/-- A tile hold is of a cell's tile. -/
def holdOf (c : Cell) (h : TileHold) : Bool :=
  h.src == c.src && h.dest == c.dest && h.seq == c.seq && h.epoch == c.epoch && h.tile == tileOf c.idx

/-- A Landing cell belongs to a held tile. -/
def inHold (h : TileHold) (l : LCell) : Bool := l.held && l.cell.ty == tyPayload && holdOf l.cell h

/-- The held cells of a complete tile, in CELL_IDX order. -/
def tileParts (h : TileHold) (ls : List LCell) : Option (List LCell) :=
  (List.range h.cells).foldr (fun i acc =>
    match acc, ls.find? (fun l => inHold h l && l.cell.idx == 4 * h.tile + 1 + i) with
    | some r, some l => some (l :: r)
    | _, _ => none) (some [])

/-- A tile that has all its cells is verified and forwarded, or discarded (R54, R55). -/
def settleTile (p : Nat) (h : TileHold) (s : State) : State :=
  let x := s.port p
  match tileParts h x.landing with
  | none => s
  | some parts =>
    let chk := tileCheck (parts.map (·.cell.body))
    let rest := x.holds.filter (fun g => g != h)
    if parts.all (fun l => l.cell.check == chk) then
      s.setPort p { x with holds := rest, landing := x.landing.map (fun l => if inHold h l then { l with held := false } else l) }
    else
      checkFail p (x.landing.filter (inHold h)) (s.setPort p { x with holds := rest, landing := x.landing.filter (fun l => !inHold h l) })

/-- A pinned payload cell in transit: its tile is held, or passes under what its first cell found (R54, R56). DESIGN CHOICE, log 44: what
a first cell found under CHECKED 0 is kept until the tile's last cell has passed, however late that is. -/
def landTile (p : Nat) (c : Cell) (s : State) : State :=
  let x := s.port p
  match x.holds.find? (holdOf c) with
  | none =>
    let h : TileHold := { src := c.src, dest := c.dest, seq := c.seq, epoch := c.epoch, tile := tileOf c.idx, first := s.now,
                          cells := tileCells c.segCells (tileOf c.idx), got := 1, released := !s.flag .HALL_MODE_CHECKED,
                          unchecked := !s.flag .HALL_MODE_CHECKED }
    if h.released && decide (h.cells ≤ 1) then putLanding p c false s
    else settleTile p h (putLanding p c (!h.released) (s.setPort p { x with holds := x.holds ++ [h] }))
  | some h =>
    if h.released then
      let hs := if h.cells ≤ h.got + 1 then x.holds.filter (fun g => g != h)
        else x.holds.map (fun g => if g = h then { g with got := g.got + 1 } else g)
      let s1 := putLanding p c false (s.setPort p { x with holds := hs })
      if h.unchecked then s1 else tallyPort .CHECK_SKIPPED p s1
    else settleTile p h (putLanding p c true s)

/-- A cell the Landing has admitted, under the forwarding mode (R54, R55). -/
def land (p : Nat) (c : Cell) (s : State) : State :=
  if c.dest = s.own then putLanding p c false s
  else if c.pin && c.ty == tyPayload then landTile p c s
  else if !s.flag .HALL_MODE_CHECKED then putLanding p c false s
  else if c.pin && c.ty == tyLead then
    (if bodyCrc c.body = c.check then putLanding p c false s
     else checkFail p [{ cell := c, vcIn := c.vc, at_ := s.now }] s)
  else tallyPort .CHECK_SKIPPED p (putLanding p c false s)

/-- CE of a cell as the Landing admits it (R340). -/
def marked (s : State) (p : Nat) (c : Cell) : Cell :=
  if (c.ty == tyLead || c.ty == tyPayload) && !s.flag .SLUICE_MODE_SERVICE
      && decide (s.get .MARK_CFG_MARK_CELLS ≤ landOcc s p c.vc) then { c with ce := true } else c

/-- One slot processed in order (R137). -/
def slotInOrder (p : Nat) (sl : Slot) (s0 : State) : State :=
  let e := s0.get .PORT_SEQ_RX_EXPECTED p
  let s := s0.set .PORT_SEQ_RX_EXPECTED ((e + 1) % 65536) p
  let c := sl.cell
  if sl.void then tallyPort .VOID_RX p (returnCredit p c.vc s)
  else
    match headerFault s c with
    | some code => violation p code e c.vc (returnCredit p c.vc s)
    | none =>
      if !landingAdmits s p c.vc then violation p 1 e c.vc (returnCredit p c.vc s)
      else if c.ty = tyTime then returnCredit p c.vc s
      else land p (marked s p c) s

/-- The slots of a frame by its class (Table 6.6). -/
def classify (p base : Nat) (slots : List Slot) (s : State) : State :=
  let d := subMod base (s.get .PORT_SEQ_RX_EXPECTED p) 65536
  if slots.isEmpty then s
  else if d = 0 then forEach slots (slotInOrder p) s
  else if d ≤ 2047 then tallyPortN .SEQ_GAP p slots.length s
  else if 63489 ≤ d then
    let old := 65536 - d
    forEach (slots.drop old) (slotInOrder p) (tallyPortN .DUP_CELL_LINK p (min old slots.length) s)
  else violation p 2 base 0 s

/-- ACK_NEXT from the partner passes cells of the replay buffer (R135, R142). -/
def ackLink (p n : Nat) (s : State) : State :=
  let old := s.get .PORT_SEQ_TX_OLDEST p
  let adv := subMod n old 65536
  if adv = 0 then s
  else
    let x := s.port p
    let keep := x.replay.filter (fun c => decide (adv ≤ subMod c.seq old 65536))
    let to_ := s.get .PORT_CFG_REPLAY_TO_US p * 1000
    ((s.set .PORT_SEQ_TX_OLDEST n p).set .PORT_STAT_REPLAY_COUNT 0 p).setPort p { x with
      replay := keep, resumeReplay5 := false,
      replayNext := x.replayNext.filter (fun q => decide (adv ≤ subMod q old 65536)),
      replayAt := match x.replayAt, keep with
        | some _, c :: _ => some (c.sentAt + to_)
        | _, _ => none }

/-- The frame header checks of Table 6.10. -/
def headerMalformed (s : State) (p : Nat) (f : FrameHdr) : Bool :=
  let x := s.port p
  let old := s.get .PORT_SEQ_TX_OLDEST p
  decide (1 < f.ftype) || f.version != 1 || decide (15 < f.slotCount)
    || decide (subMod (s.get .PORT_SEQ_TX_NEXT p) old 65536 < subMod f.ackNext old 65536)
    || (List.range 8).any (fun v => decide (senderOcc x v < subMod (f.creditCum.getD v 0) (x.creditRx.getD v 0) 65536))

/-- A NACK from the partner (R154). -/
def nackIn (p code seq : Nat) (s : State) : State :=
  if code = 0 then s
  else
    let s1 := tallyPort .NACK_RCVD p s
    if 5 < code then s1
    else portEvent .PORT_EVENTS_NACK_RCVD p (portHist p 7 code seq 0 (s1.set .PORT_VIOL_LAST_NACK_RCVD code p))

/-- The partner's PAUSE_REQ (R148, step 1; Table 6.10a, step 3). One that comes after step 5 is answered by the retrain that follows
at once (R149). -/
def pauseReqIn (p arg : Nat) (s : State) : State :=
  let st := pst s p
  if st = 3 ∨ st = 4 ∨ st = 5 then
    let x := s.port p
    let own := match x.reqSent with
      | some a => a != arg % 16
      | none => false
    let s0 := if own then s else
      ((s.set .PORT_CFG_FEC (arg % 2) p).set .PORT_CFG_ONE_LANE (arg / 2 % 2) p).set .PORT_CFG_RATE_MAX (arg / 4 % 4) p
    let s1 := startRetrain p 3 true (s0.modPort p (fun y => { y with agreed := some (arg % 16) }))
    if st = 4 then s1.modPort p (fun y => { y with eventOut := some (3, settings s1 p, s.now + 2000) }) else s1
  else s

/-- GOING_DOWN from the partner (R151): one that names FAULT is a suspect observation (Table 14.8). -/
def goingDownIn (p arg : Nat) (s : State) : State :=
  let s1 := portDown p 5 s
  if arg = 7 ∧ pst s p ≠ 0 then suspectObserve 1 (s.idxOf (s.peerNode p)) none p 7 s1 else s1

/-- The EVENT of a received frame: acted on at its first frame, its repeats ignored; a reserved code is counted (R131). -/
def eventIn (p ev arg : Nat) (s : State) : State :=
  let code := ev + 256 * arg
  if (s.port p).eventIn = code then s
  else
    let s1 := s.modPort p (fun x => { x with eventIn := code })
    if ev = 2 then pauseReqIn p arg s1
    else if ev = 3 then
      (if (s.port p).phase = .pauseReq then
        (setPhase p .drain s1).modPort p (fun x => { x with eventOut := none, agreed := some (arg % 16) }) else s1)
    else if ev = 5 then goingDownIn p arg s1
    else if 5 < ev then s1.modPort p (fun x => { x with reservedEvents := x.reservedEvents + 1 })
    else s1

/-- The cumulative header fields of a good frame (R130). -/
def honourHdr (p : Nat) (f : FrameHdr) (s : State) : State :=
  let s1 := (s.modPort p (fun x => { x with creditRx := f.creditCum })).set .PORT_PARTNER_DIAG_WORD4 f.word4 p
  let s2 := (s1.set .LANE_STAT_PARTNER_FOM (bits f.word4 0 8) (2 * p)).set .LANE_STAT_PARTNER_FOM (bits f.word4 8 8) (2 * p + 1)
  nackIn p f.nackCode f.nackSeq (ackLink p f.ackNext s2)

/-- FEC and FRAME_CRC (R134): the state after counting, and whether the frame is good. -/
def decodeFrame (p : Nat) (f : RxFrame) (s : State) : Bool × State :=
  if f.uncorrectable then (false, tallyPort .FEC_UNCORR p s)
  else
    let s1 := if f.corrected then tallyPort .FEC_CORR p (s.modPort p (fun x => { x with fecCorrCum := (x.fecCorrCum + 1) % 65536 })) else s
    if f.crcOk then (true, s1)
    else (false, tallyPort .FRAME_CRC_FAIL p (s1.modPort p (fun x => { x with crcFailCum := (x.crcFailCum + 1) % 65536 })))

/-- LINK_FRAME_RECEIVE (R136). -/
def execLinkFrameReceive (p : Nat) (f : RxFrame) (s : State) : Host.Outcome State Fault Refusal :=
  if !framesFlow s p then .next s
  else
    let (good, s1) := decodeFrame p f s
    if !good then .next s1
    else if headerMalformed s1 p f.hdr then .next (violation p 3 f.hdr.seqBase 0 s1)
    else
      let s2 := eventIn p f.hdr.event f.hdr.eventArg (honourHdr p f.hdr s1)
      if f.hdr.ftype = 0 && (pst s2 p == 3 || pst s2 p == 4 || pst s2 p == 6 || (pst s2 p == 5 && (s2.port p).phase == .replay)) then
        .next (classify p f.hdr.seqBase (f.slots.take f.hdr.slotCount) s2)
      else .next s2

/-! Parameter exchange (R132, R174). -/

/-- Word 0 of a parameter block, bits 38:0. -/
def blockW0 (b : ParamBlock) : Nat :=
  at_ b.node 0 20 + at_ b.port 20 7 + at_ b.vcMask 27 8 + at_ b.fecSel 35 1 + at_ (b2n b.oneLane) 36 1 + at_ b.rateMax 37 2

/-- Store the partner's block in PORT_PARTNER and PARTNER_VC[v]. -/
def storeBlock (p : Nat) (b : ParamBlock) (s : State) : State :=
  forEach (List.range 8) (fun v a =>
    (a.set .PARTNER_VC_P_RESERVED (b.reserved.getD v 0) (p * 8 + v)).set .PARTNER_VC_P_SHARED_CAP (b.sharedCap.getD v 0) (p * 8 + v))
    (s.set .PORT_PARTNER_BLOCK_W0 (blockW0 b) p)

/-- PARAM_FRAME_RECEIVE (R132): a block that names this port itself is as not received (R174). -/
def execParamFrameReceive (p : Nat) (f : RxFrame) (b : ParamBlock) (s : State) : Host.Outcome State Fault Refusal :=
  if !framesFlow s p then .next s
  else
    let (good, s1) := decodeFrame p f s
    if !good then .next s1
    else if headerMalformed s1 p f.hdr then .next (violation p 3 f.hdr.seqBase 0 s1)
    else
      let s2 := honourHdr p f.hdr s1
      if b.node = s.own ∧ b.port = p then .next (event (16 + p) .LANE_EVENTS_SELF_LOOP s2 p)
      else
        let s3 := storeBlock p b (eventIn p f.hdr.event f.hdr.eventArg s2)
        let ph := (s3.port p).phase
        if ph = .param ∨ ph = .paramRetrain then
          .next (paramDone p (s3.modPort p (fun x => { x with blockGot := true, paramAck := x.paramAck || f.hdr.event == 1 })))
        else .next s3

/-! Timers of replay, retrain and pause. -/

/-- REPLAY_TIMER_EXPIRY (R142, R144, R145). With REPLAY_COUNT at 4 a retrain starts, or its cause joins one in progress; a port that drains
retrains no more, and only raises the fault (log 42). -/
def execReplayTimerExpiry (p : Nat) (s : State) : Host.Outcome State Fault Refusal :=
  let x := s.port p
  let st := pst s p
  match x.replayAt with
  | none => .next s
  | some t =>
    if s.now < t ∨ ¬ (st = 3 ∨ st = 4 ∨ st = 6) ∨ x.replay.isEmpty then .next s
    else
      let n := s.get .PORT_STAT_REPLAY_COUNT p
      if n < 4 ∨ (x.resumeReplay5 ∧ n < 7) then .next (doReplay p s)
      else if n < 7 then .next (raise (16 + p) 7 0 0 (startRetrain p 1 false (s.setPort p { x with replayAt := none })))
      else .next (portDown p 2 s)

/-- RETRAIN_TIMEOUT (R145): 400 µs from its start. -/
def execRetrainTimeout (p : Nat) (s : State) : Host.Outcome State Fault Refusal :=
  match (s.port p).retrainAt with
  | none => .next s
  | some t => if (pst s p = 4 ∨ pst s p = 5) ∧ t + 400000 ≤ s.now then .next (portDown p 3 s) else .next s

/-- PAUSE_ACK_TIMEOUT (R147): the port continues regardless. -/
def execPauseAckTimeout (p : Nat) (s : State) : Host.Outcome State Fault Refusal :=
  let x := s.port p
  if pst s p = 4 ∧ x.phase = .pauseReq ∧ x.phaseAt + 10000 ≤ s.now then
    .next ((setPhase p .drain s).modPort p (fun y => { y with eventOut := none }))
  else .next s

/-- RETRAIN_DRAINED (Table 6.10a, step 4): every transmitted cell is acknowledged, or the 4 µs of the step have passed; a
PAUSE_ACK repeats for its 2 µs first. -/
def execRetrainDrained (p : Nat) (s : State) : Host.Outcome State Fault Refusal :=
  let x := s.port p
  if pst s p = 4 ∧ x.phase = .drain ∧ (x.replay.isEmpty ∨ x.phaseAt + 4000 ≤ s.now) ∧ eventNow s p = (0, 0) then
    .next (beginTraining p s)
  else .next s

/-! Settings and port control. -/

/-- A write of FEC, ONE_LANE and RATE_MAX (R147, R150). A bring-up at a rate that the new RATE_MAX forbids starts over (R158). -/
def setPortSettings (p fec one rate : Nat) (s : State) : State :=
  let changed := fec % 2 != s.get .PORT_CFG_FEC p || one % 2 != s.get .PORT_CFG_ONE_LANE p || rate % 4 != s.get .PORT_CFG_RATE_MAX p
  let widen := one % 2 == 0 && anyFailed s p && decide (3 ≤ pst s p)
  let s1 := ((s.set .PORT_CFG_FEC fec p).set .PORT_CFG_ONE_LANE one p).set .PORT_CFG_RATE_MAX rate p
  let s2 := if widen then s1.modPort p (fun x => { x with bothLanes := true }) else s1
  let fast := (pst s p == 1 || pst s p == 2) && decide ((s.port p).rate < rate % 4)
  if fast then beginLanes p s2 else if changed || widen then startRetrain p 3 false s2 else s2

/-- PORT_SETTING_WRITE (R147). -/
def execPortSettingWrite (m : Master) (p fec one rate : Nat) (s : State) : Host.Outcome State Fault Refusal :=
  .next (guardedV m .PORT_CFG_FEC p (fec + one + rate) (setPortSettings p fec one rate) s)

/-- PORT_CTRL.RETRAIN: ignored unless the port is UP. -/
def retrainBySoftware (p : Nat) (s : State) : State :=
  if pst s p = 3 then startRetrain p 5 false (s.modPort p (fun x => { x with bothLanes := true })) else s

/-- PORT_CTRL_RETRAIN (R147). -/
def execPortCtrlRetrain (m : Master) (p : Nat) (s : State) : Host.Outcome State Fault Refusal :=
  .next (guarded m .PORT_CTRL_RETRAIN p (retrainBySoftware p) s)

/-- PORT_CTRL_BRING_UP (R152): ignored unless the port is DOWN. -/
def execPortCtrlBringUp (m : Master) (p : Nat) (s : State) : Host.Outcome State Fault Refusal :=
  .next (guarded m .PORT_CTRL_BRING_UP p (startBringUp p) s)

/-- A write of ADMIN_DOWN (R151, R152): 0 after an administrative down starts bring-up. -/
def writeAdminDown (p v : Nat) (s : State) : State :=
  let s1 := s.set .PORT_CFG_ADMIN_DOWN v p
  if v % 2 = 1 then (if s.flag .PORT_CFG_ADMIN_DOWN p then s1 else beginDrain p 1 s1)
  else if s.flag .PORT_CFG_ADMIN_DOWN p then startBringUp p s1 else s1

/-- ADMIN_DOWN_SET (R151). -/
def execAdminDownSet (m : Master) (p : Nat) (s : State) : Host.Outcome State Fault Refusal :=
  .next (guarded m .PORT_CFG_ADMIN_DOWN p (writeAdminDown p 1) s)

/-- ADMIN_DOWN_CLEAR (R152). -/
def execAdminDownClear (m : Master) (p : Nat) (s : State) : Host.Outcome State Fault Refusal :=
  .next (guardedV m .PORT_CFG_ADMIN_DOWN p 0 (writeAdminDown p 0) s)

/-- ADMIN_DRAIN_END (R151, steps 2 and 3). -/
def execAdminDrainEnd (p : Nat) (s : State) : Host.Outcome State Fault Refusal :=
  let x := s.port p
  match x.adminAt with
  | none => .next s
  | some t =>
    if pst s p = 6 ∧ x.goingDownAt = none ∧ (t ≤ s.now ∨ (x.htq.isEmpty ∧ x.replay.isEmpty)) then
      .next (s.setPort p { x with goingDownAt := some (s.now + 2000), eventOut := some (5, x.downAsked, s.now + 2000) })
    else .next s

/-- GOING_DOWN_END (R151, step 4). -/
def execGoingDownEnd (p : Nat) (s : State) : Host.Outcome State Fault Refusal :=
  match (s.port p).goingDownAt with
  | none => .next s
  | some t => if pst s p = 6 ∧ t ≤ s.now then .next (portDown p (s.port p).downAsked s) else .next s

/-- AUTO_UP_TIMER (R152). -/
def execAutoUpTimer (p : Nat) (s : State) : Host.Outcome State Fault Refusal :=
  let x := s.port p
  if s.flag .PORT_CFG_AUTO_UP p && x.phase == .idle && decide (x.downAt + s.get .PORT_CFG_AUTO_UP_MS p * 1000000 ≤ s.now) then
    .next (startBringUp p s)
  else .next s

/-- LANDING_EMPTY (R152, step 1). -/
def execLandingEmpty (p : Nat) (s : State) : Host.Outcome State Fault Refusal :=
  if (s.port p).phase = .waitEmpty ∧ landingEmptyNow s p ∧ mayBringUp s p then .next (beginLanes p s) else .next s

/-- PARAM_TIMEOUT (R152, step 3; R173). -/
def execParamTimeout (p : Nat) (s : State) : Host.Outcome State Fault Refusal :=
  if pst s p = 2 ∧ (s.port p).phaseAt + 10000 ≤ s.now then .next (retryLanes p s) else .next s

/-- VIOLATION_WINDOW_END (R155). -/
def execViolationWindowEnd (p : Nat) (s : State) : Host.Outcome State Fault Refusal :=
  let x := s.port p
  if s.now < x.violWindowAt + 1000000 then .next s
  else
    let s1 := (s.setPort p { x with violWindowAt := s.now, violCount := 0, violLimit := s.get .PORT_CFG_VIOL_LIMIT p }).set
      .PORT_VIOL_WINDOW_COUNT 0 p
    if x.violCount ≤ x.violLimit then .next s1
    else
      let again := match x.violRetrainEnd with
        | some t => decide (t ≤ x.violWindowAt) && decide (x.violWindowAt ≤ t + 100000000)
        | none => false
      if again then .next (portDown p 4 s1)
      else if 3 ≤ pst s p ∧ pst s p ≤ 5 then .next (raise (16 + p) 7 0 0 (startRetrain p 2 false s1))
      else .next s1

/-- TILE_HOLD_EXPIRY (R54): the held cells are released cut-through and counted as CHECK_SKIPPED. -/
def execTileHoldExpiry (p src seq tile : Nat) (s : State) : Host.Outcome State Fault Refusal :=
  let x := s.port p
  match x.holds.find? (fun h => h.src == src && h.seq == seq && h.tile == tile && !h.released) with
  | none => .next s
  | some h =>
    if s.now < h.first + s.get .HALL_MODE_PIN_HOLD_NS then .next s
    else
      let n := (x.landing.filter (inHold h)).length
      .next (tallyPortN .CHECK_SKIPPED p n (s.setPort p { x with
        holds := x.holds.map (fun g => if g = h then { g with released := true, got := n } else g),
        landing := x.landing.map (fun l => if inHold h l then { l with held := false } else l) }))

end Sys2Proof.Machine
end

