-- ==== Sys2Proof/Machine/Admit.lean ====
section
/-! DEFINITION. The Sluice's admission: shaper queues and wait lists, budgets, tickets, pacing and histograms (R332 to R344). -/
namespace Sys2Proof.Machine

/-- Change the Sluice's state. -/
def modSluice (f : SluiceSt → SluiceSt) (s : State) : State := { s with sluice := f s.sluice }

/-- Scheduled service. -/
def scheduled (s : State) : Bool := s.flag .SLUICE_MODE_SERVICE

/-- Admission scale (R26). -/
def scaleOf (s : State) : Nat := s.get .VPOL_STAT_SCALE

/-! Shaped length, tokens and budgets (R333, R334, R339). -/

/-- Shaped length of a segment, in bytes (R334). -/
def shapedLen (s : State) (g : Seg) : Nat := g.cells * (80 + s.get .SHAPE_CFG_OVERHEAD g.q)

/-- Tokens of a shaper queue, in units of 1/327680 byte. -/
def tokensOf (s : State) (q : Nat) : Int := Tab.get s.sluice.tokens q 0

/-- Burst of a shaper queue in token units. -/
def burstOf (s : State) (q : Nat) : Int := s.get .SHAPE_CFG_BURST_KIB q * 1024 * 327680

/-- Refill of a shaper queue in 100 ns, in token units. -/
def shapeRefill (s : State) (q : Nat) : Int :=
  s.get .SHAPE_CFG_RATE q * (if s.flag .SHAPE_CFG_SCALED q then scaleOf s else 32768)

/-- Refill of the device budget and of the ticket issue budget in 100 ns (units of 1/327680). -/
def budgetAdd (s : State) : Nat := s.budgetRow.2.1 * scaleOf s
def issueAdd (s : State) : Nat := s.budgetRow.2.2 * scaleOf s

/-- BUDGET_REFILL (R333): the operating point's budgets are taken at the refill; at most one microsecond's refill is held. -/
def execBudgetRefill (s : State) : Host.Outcome State Fault Refusal :=
  if s.now < s.sluice.budgetAt then .next s
  else
    let s1 := modSluice (fun u => { u with opPoint := s.get .OP_CTRL_OP_POINT }) s
    .next (modSluice (fun u => { u with budget := min (10 * budgetAdd s1) (u.budget + budgetAdd s1), budgetAt := u.budgetAt + 100 }) s1)

/-- SHAPER_REFILL (R334). -/
def execShaperRefill (q : Nat) (s : State) : Host.Outcome State Fault Refusal :=
  let at1 := Tab.get s.sluice.shapeAt q 0
  if s.now < at1 then .next s
  else
    .next (modSluice (fun u => { u with
      tokens := Tab.set u.tokens q (min (burstOf s q) (tokensOf s q + shapeRefill s q)) 0,
      shapeAt := Tab.set u.shapeAt q (at1 + 100) 0 }) s)

/-- TICKET_BUDGET_REFILL (R339): at most 2 × BATCH tickets are held. -/
def execTicketBudgetRefill (s : State) : Host.Outcome State Fault Refusal :=
  if s.now < s.sluice.issueAt then .next s
  else
    .next (modSluice (fun u => { u with issue := min (2 * s.get .TICKET_CFG_BATCH * 327680) (u.issue + issueAdd s),
                                        issueAt := u.issueAt + 100 }) s)

/-! Tickets (R335 to R339). -/

/-- The ticket-free allowance, in bytes. -/
def allowance (s : State) : Nat := s.budgetRow.1 * 1024

/-- A segment's bytes for the allowance: its byte count under R79, at least 64. -/
def ticketBytes (g : Seg) : Nat := max 64 (segBytes (leadLen g.lead) (leadOff g.lead))

/-- Unticketed bytes of a flow: request-class segments admitted without a ticket, in either service mode, and not yet acknowledged (R335). -/
def unticketedOf (f : SendSt) : Nat := (f.out.map (·.unticketed)).sum

/-- A request-class segment goes without a ticket (R335). -/
def ticketFree (s : State) (g : Seg) : Bool :=
  decide (leadOff g.lead * 4096 < allowance s)
    && decide (unticketedOf (s.flow g.peer).send + ticketBytes g ≤ allowance s)

/-- Segments in a flow's wait list that go with a ticket (R335). -/
def ticketWaiters (s : State) (x : Nat) : Nat :=
  ((s.flow x).send.wait.filter (fun g => !g.resp && !g.ticketed && !ticketFree s g)).length

/-- Segments of a flow that wait for a ticket and lack one (R338): the held tickets are theirs at once, the oldest first. -/
def needOf (s : State) (x : Nat) : Nat := ticketWaiters s x - (s.flow x).send.held.length

/-- Tickets of this device's own issue that a get needs (R336). -/
def ownTickets (s : State) (g : Seg) : Nat :=
  if leadOp g.lead = 0x20 ∧ allowance s < leadLen g.lead then ceilDiv (leadLen g.lead - allowance s) 4096 else 0

/-- Send a ticket REQUEST (R337, R338). -/
def sendRequest (x : Nat) (s : State) : State :=
  let f := (s.flow x).send
  let need := min (needOf s x) 65535
  let c := s.mkCell tyTicket (if s.hasVc 5 then 5 else 6) (s.nodeOf x) [wd (at_ need 16 16 + at_ f.seen 32 16)]
  tally .TICKET_REQ_SENT (inject 78 [{ c with epoch := f.epoch }]
    (s.modSend x (fun f => { f with lastNeed := need, lastReq := some s.now })))

/-- Send a REQUEST if NEED has risen, at most once per 0.5 µs (R338). -/
def requestIfRisen (x : Nat) (s : State) : State :=
  let f := (s.flow x).send
  if scheduled s && decide (f.lastNeed < needOf s x) && f.lastReq.all (fun t => decide (t + 500 ≤ s.now)) then sendRequest x s else s

/-! The tests of Table 13.2. -/

/-- Test 1: the peer flow window (R251). -/
def windowRoom (s : State) (g : Seg) : Bool := decide (subMod g.seq (s.flow g.peer).send.acked 65536 ≤ 1024)

/-- Starting rate of a flow in Marked service (R342). -/
def startRate (s : State) : Nat := max (s.get .MARK_RATE_RATE_INIT) (s.get .MARK_RATE_RATE_MIN)

/-- Test 2 in Scheduled service: the ticket rule. -/
def ticketOk (s : State) (g : Seg) : Bool :=
  g.resp || ((g.ownNeed.getD (ownTickets s g) == 0) && (ticketFree s g || !(s.flow g.peer).send.held.isEmpty))

/-- Test 2 in Marked service: the flow's pacing. -/
def paceOk (s : State) (g : Seg) : Bool := decide ((s.flow g.peer).send.nextOk ≤ s.now) || (s.flow g.peer).send.rate.isNone

/-- Tests 1 and 2. -/
def flowTests (s : State) (g : Seg) : Bool := windowRoom s g && (if scheduled s then ticketOk s g else paceOk s g)

/-- Tests 3 and 4, and a credit for the Hall input that the segment's cells enter (R18). -/
def deviceTests (s : State) (g : Seg) : Bool :=
  (!s.flag .SHAPE_CFG_ENABLE g.q || decide (0 ≤ tokensOf s g.q)) && decide (oneSeg ≤ s.sluice.budget) && hallTakes s g.input (segVc s g.resp)

/-- The Sluice admits: not at L3 or above, not during the host-side reset, and not before Hearth's policy has run, and no
segment at all in channel set 0x03 (R30, R109, R354). -/
def sluiceRuns (s : State) : Bool := !s.hostStopped && s.power.policyRan && s.get .HALL_STAT_VC_SET != 3

/-- The segment is pinned (R54, R117). -/
def segPinned (s : State) (g : Seg) : Bool :=
  s.flag .HALL_MODE_PIN_ALL || s.flag .HALL_MODE_CHECKED
    || (!g.resp && (match s.op g.opId with | some o => (s.room o.room).pinSeg | none => false))

/-- What the service takes of an admitted segment: a ticket or allowance in Scheduled service, the pace in Marked. -/
def chargeFlow (g : Seg) (s : State) : Seg × State :=
  if scheduled s then
    if g.resp then (g, s)
    else if ticketFree s g then ({ g with unticketed := ticketBytes g }, tally .UNTICKETED s)
    else ({ g with ticketed := true }, tally .TICKETED (s.modSend g.peer (fun f => { f with held := f.held.drop 1 })))
  else
    let f := (s.flow g.peer).send
    let r := f.rate.getD (startRate s)
    let gap := ceilDiv (shapedLen s g * 1000 * 32768) (r * scaleOf s)
    ({ g with unticketed := if g.resp then 0 else ticketBytes g },
      s.modSend g.peer (fun f => { f with
        rate := some r, nextOk := max f.nextOk s.now + gap, lastAi := if f.rate.isNone then s.now else f.lastAi }))

/-- Admit a segment: budget, tokens, timers, and its cells or the read of its payload (R258, R332 to R335). -/
def admitSeg (g : Seg) (s : State) : State :=
  let (g1, s1) := chargeFlow g s
  let s2 := modSluice (fun u => { u with
    budget := u.budget - oneSeg,
    tokens := if s.flag .SHAPE_CFG_ENABLE g.q then Tab.set u.tokens g.q (tokensOf s g.q - shapedLen s g * 327680) 0 else u.tokens }) s1
  let rto := rtoOf s g.peer
  let g2 := { g1 with firstNs := some (g.firstNs.getD s.now), rto := rto, timerAt := some (s.now + rto),
                      toMs := s.get .THRESH_CFG_OP_TIMEOUT_MS, pinned := segPinned s g }
  let s3 := s2.modSend g.peer (fun f => { f with out := f.out ++ [g2] })
  let s4 := modOp g.opId (fun o => { o with
    firstNs := some (o.firstNs.getD s.now), toMs := if o.firstNs.isNone then s.get .THRESH_CFG_OP_TIMEOUT_MS else o.toMs }) s3
  launch g2 (histAdd g.q 1 (s.now - g.enq) (tally .SEG_ADMITTED s4))

/-- Segments in wait lists, device-wide. -/
def waitMax : Nat := 8192

/-- Move a segment from the head of its shaper queue to its flow's wait list, if there is room (R332). -/
def toWaitList (g : Seg) (s : State) : State :=
  if waitMax ≤ s.sluice.waitCount then event 5 .SLUICE_EVENTS_WAITLIST_FULL (tally .WAITLIST_FULL s)
  else
    let own := if scheduled s then some (g.ownNeed.getD (ownTickets s g)) else g.ownNeed
    let s1 := modSluice (fun u => { u with
      waitCount := u.waitCount + 1,
      queues := Tab.set u.queues g.q ((Tab.get u.queues g.q []).drop 1) [] }) s
    let s2 := s1.modSend g.peer (fun f => { f with wait := f.wait ++ [{ g with ownNeed := own }] })
    let s3 := if !scheduled s && windowRoom s g then tally .PACE_WAIT s2 else s2
    requestIfRisen g.peer s3

/-- Segments pass from the Threshold to the shaper queues that JOB_SHAPE names (R332). -/
def drainAdmitQ (s : State) : State :=
  forEach s.thresh.admitQ (fun g a =>
    let q := match a.jobSlot (leadJob g.lead) with
      | some j => a.get .JOB_SHAPE_QUEUE j
      | none => 0
    modSluice (fun u => { u with queues := Tab.set u.queues q (Tab.get u.queues q [] ++ [{ g with q := q, enq := a.now }]) [] }) a)
    (modThresh (fun t => { t with admitQ := [] }) s)

/-- Test the segment at the head of a shaper queue (R332). -/
def admitHead (q : Nat) (s : State) : State :=
  match Tab.get s.sluice.queues q [] with
  | [] => s
  | g :: rest =>
    if !sluiceRuns s then s
    else if !(s.flow g.peer).send.wait.isEmpty || !flowTests s g then toWaitList g s
    else if !deviceTests s g then s
    else admitSeg g (modSluice (fun u => { u with queues := Tab.set u.queues q rest [] }) s)

/-- SEGMENT_ADMIT (R332). -/
def execSegmentAdmit (q : Nat) (s : State) : Host.Outcome State Fault Refusal := .next (admitHead q (drainAdmitQ s))

/-- Test the segment at the head of a flow's wait list again (R332). -/
def retest (x : Nat) (s : State) : State :=
  match (s.flow x).send.wait with
  | [] => s
  | g :: rest =>
    if sluiceRuns s && flowTests s g && deviceTests s g then
      requestIfRisen x (admitSeg g (modSluice (fun u => { u with waitCount := u.waitCount - 1 })
        (s.modSend x (fun f => { f with wait := rest }))))
    else s

/-- WAITLIST_RETEST (R332). -/
def execWaitlistRetest (x : Nat) (s : State) : Host.Outcome State Fault Refusal := .next (retest x s)

/-- PACE_RELEASE (R342). -/
def execPaceRelease (x : Nat) (s : State) : Host.Outcome State Fault Refusal :=
  if scheduled s || decide (s.now < (s.flow x).send.nextOk) then .next s else .next (retest x s)

/-- RATE_INCREASE_TICK (R342). -/
def execRateIncreaseTick (x : Nat) (s : State) : Host.Outcome State Fault Refusal :=
  let f := (s.flow x).send
  let ai := s.get .MARK_CFG_AI_US * 1000
  match f.rate with
  | none => .next s
  | some r =>
    if scheduled s || decide (s.now < f.lastAi + ai) then .next s
    else
      .next (s.modSend x (fun f => { f with
        lastAi := f.lastAi + ai,
        rate := some (if f.lastCut + ai ≤ s.now then min (r + s.get .MARK_RATE_AI_STEP) 1000000 else r) }))

/-- An echo of marks cuts the flow's rate, at most once per smoothed round trip (R342). -/
def echoCut (x : Nat) (s : State) : State :=
  let f := (s.flow x).send
  match f.rate with
  | none => s
  | some r =>
    if scheduled s || decide (s.now < f.lastCut + f.srtt) then s
    else s.modSend x (fun f => { f with
      lastCut := s.now,
      rate := some (max (s.get .MARK_RATE_RATE_MIN) (r - (r * s.get .MARK_CFG_MD_256) / 256)) })

/-! Ticket cells (R337 to R339). -/

/-- A TICKET cell whose body CRC verifies (R75). -/
def ticketIn (kind : Nat) (c : Cell) : Bool := c.ty == tyTicket && wf_ c.body 0 0 1 == kind

/-- Take the cell a command names, or the head of an ejection queue if it is one of the command's. -/
def takeIf (out : Nat) (p : Cell → Bool) (c : Option Cell) (s : State) : Option (Nat × Cell) × State :=
  match c with
  | some c => if p c then (some (0, c), s) else (none, s)
  | none =>
    match Tab.get s.hall.eject out [] with
    | [] => (none, s)
    | e :: _ => if p e.2 then takeEjected out none s else (none, s)

/-- A cell of the Threshold whose body CRC fails is discarded and counted, with no fault (R75, R76). -/
def badBody (s : State) : State := modThresh (fun t => { t with badBodies := t.badBodies + 1 }) s

/-- Use a single cell of the return path: dropped at L3 and above (Table 14.4) and where its body CRC fails (R75). -/
def useSingle (p : Cell → Bool) (c : Option Cell) (act : Nat → Cell → State → State) (s : State) : State :=
  match takeIf 78 p c s with
  | (none, s1) => s1
  | (some (_, c), s1) =>
    if s1.hostStopped then tally .SAFE_DISCARD s1
    else if c.check != bodyCrc c.body then badBody s1
    else act (s1.idxOf c.src) c s1

/-- A REQUEST: the tickets still owed (R339). -/
def requestIn (x : Nat) (c : Cell) (s : State) : State :=
  let r := (s.flow x).recv
  if r.st != 1 || r.epoch != c.epoch then s
  else s.modRecv x (fun r => { r with pending := wf_ c.body 0 16 16 - subMod r.cum (wf_ c.body 0 32 16) 65536 })

/-- TICKET_REQUEST_ARRIVAL (R339). -/
def execTicketRequestArrival (c : Option Cell) (s : State) : Host.Outcome State Fault Refusal :=
  .next (useSingle (ticketIn 0) c requestIn s)

/-- A GRANT: SEEN rises and the tickets are held (R338). -/
def grantIn (x : Nat) (c : Cell) (s : State) : State :=
  let f := (s.flow x).send
  if f.st != 2 || f.epoch != c.epoch then s
  else
    let n := wf_ c.body 1 0 4
    let keep := scheduled s
    let s1 := s.modSend x (fun f => { f with seen := (f.seen + n) % 65536, lastGrant := s.now,
                                             held := if keep then f.held ++ List.replicate n (s.now + s.get .TICKET_CFG_LIFE_US * 1000) else f.held })
    (List.range n).foldl (fun a _ => retest x a) s1

/-- TICKET_GRANT_ARRIVAL (R338). -/
def execTicketGrantArrival (c : Option Cell) (s : State) : Host.Outcome State Fault Refusal :=
  .next (useSingle (ticketIn 1) c grantIn s)

/-- Tickets of this device's own issue that a waiting segment still lacks (R336). -/
def ownOwed (s : State) (g : Seg) : Nat := g.ownNeed.getD (if scheduled s then ownTickets s g else 0)

/-- The flows that are owed tickets, and the gets of this device that wait for its own (131072 and above). -/
def ticketClaims (s : State) : List (Nat × Nat) :=
  s.thresh.flows.filterMap (fun e => if 0 < e.2.recv.pending then some (e.1, e.2.recv.pending) else none)
    ++ s.thresh.flows.filterMap (fun e =>
      match e.2.send.wait.find? (fun g => decide (0 < ownOwed s g)) with
      | some g => some (131072 + e.1, ownOwed s g)
      | none => none)

/-- The claim served next in round robin. -/
def nextClaim (s : State) : Option (Nat × Nat) :=
  let l := ticketClaims s
  match l.find? (fun e => decide (s.sluice.rrFlow < e.1)) with
  | some e => some e
  | none => l.head?

/-- Issue tickets to a flow's source, or to a get of this device. -/
def issueTo (k n : Nat) (s : State) : State :=
  if k < 131072 then
    let r := (s.flow k).recv
    let cum := (r.cum + n) % 65536
    let c := s.mkCell tyTicket (if s.hasVc 5 then 5 else 6) (s.nodeOf k) [wd (1 + at_ cum 48 16), wd (at_ n 0 4)]
    tally .TICKET_GRANT_SENT (inject 78 [{ c with epoch := r.epoch }]
      (s.modRecv k (fun r => { r with cum := cum, pending := r.pending - n })))
  else
    let x := k - 131072
    s.modSend x (fun f =>
      match f.wait.findIdx? (fun g => decide (0 < ownOwed s g)) with
      | some i => { f with wait := f.wait.modify i (fun g => { g with ownNeed := some (ownOwed s g - n) }) }
      | none => f)

/-- TICKET_GRANT_ISSUE (R339): one turn of the round robin, in either service mode. -/
def execTicketGrantIssue (s : State) : Host.Outcome State Fault Refusal :=
  match nextClaim s with
  | none => .next s
  | some (k, owed) =>
    let n := min owed (s.get .TICKET_CFG_BATCH)
    if s.hostStopped || decide (s.sluice.issue < n * 327680) then .next s
    else .next (issueTo k n (modSluice (fun u => { u with issue := u.issue - n * 327680, rrFlow := k }) s))

/-- TICKET_REQUEST_RETRY (R338): NEED has risen, or no GRANT has come for RETRY_US. -/
def execTicketRequestRetry (x : Nat) (s : State) : Host.Outcome State Fault Refusal :=
  let f := (s.flow x).send
  let due := f.lastReq.all (fun t => decide (max t f.lastGrant + s.get .TICKET_CFG_RETRY_US * 1000 ≤ s.now))
  let s1 := requestIfRisen x s
  if scheduled s && decide (0 < needOf s x) && due && ((s1.flow x).send.lastReq == f.lastReq) then .next (sendRequest x s1) else .next s1

/-- TICKET_EXPIRY (R338): held tickets that no waiting segment has taken expire LIFE_US after their arrival
(the LIFE_US in force as they came, Table 13.8). -/
def execTicketExpiry (x : Nat) (s : State) : Host.Outcome State Fault Refusal :=
  let f := (s.flow x).send
  let k := ticketWaiters s x
  let live := (f.held.drop k).filter (fun t => decide (s.now < t))
  let dead := (f.held.drop k).length - live.length
  if dead = 0 then .next s
  else .next (event 5 .SLUICE_EVENTS_TICKET_EXPIRED (tallyN .TICKET_EXPIRED dead
    (s.modSend x (fun f => { f with held := f.held.take k ++ live }))))

/-! Histograms (R344). -/

/-- HIST_SAMPLE: the depth of each queue. -/
def execHistSample (s : State) : Host.Outcome State Fault Refusal :=
  if s.now < s.sluice.histAt then .next s
  else
    let s1 := modSluice (fun u => { u with histAt := u.histAt + s.get .HIST_CTRL_SAMPLE_NS }) s
    let s2 := forEach (List.range 256) (fun q a => histAdd q 0 (Tab.get s.sluice.queues q []).length a) s1
    .next (forEach (List.range 576) (fun k a =>
      histAdd (256 + k) 0 ((s.port (k / 8)).htq.filter (fun c => c.cell.vc == k % 8)).length a) s2)

/-- Clear both histograms of the selected queue. -/
def clearHist (s : State) : State :=
  let q := s.get .HIST_SEL_QUEUE
  modSluice (fun u => { u with hist := u.hist.filter (fun e => e.1 / 32 != q) }) s

/-- HIST_CLEAR. -/
def execHistClear (m : Master) (s : State) : Host.Outcome State Fault Refusal := .next (guarded m .HIST_CTRL_CLEAR 0 clearHist s)

/-! Service (R61 to R63, R343). -/

/-- A fall-back cause stands (R63). -/
def causeStands (s : State) : Bool :=
  let recent := fun (t : Option Nat) => t.any (fun v => decide (s.now < v + 1000))
  (List.range 72).any (fun p => let st := s.get .PORT_STAT_STATE p; st == 4 || st == 5 || st == 6)
    || s.get .HALL_DETOUR_LO_DETOUR != 0 || s.get .HALL_DETOUR_HI_DETOUR != 0
    || blockIds.any (fun b => decide (2 ≤ s.level b)) || s.flag .SLUICE_MODE_FORCE_MARKED
    || recent s.sluice.lastPortDown || recent s.sluice.lastFence || recent s.sluice.lastLife

/-- Scheduled service begins (Table 13.4). -/
def beginScheduled (s : State) : State :=
  let s1 := s.set .SLUICE_MODE_SERVICE 1
  event 5 .SLUICE_EVENTS_SCHEDULED (modThresh (fun t => { t with flows := Tab.mapD t.flows {} (fun _ f =>
    { f with send := { f.send with rate := none, nextOk := 0 } }) }) s1)

/-- An entry condition of R61: Scheduled service, unless a cause stands. `asked` for a write of SCHEDULE. -/
def enterScheduled (asked : Bool) (s : State) : State :=
  if causeStands s then (if asked then event 5 .SLUICE_EVENTS_SCHEDULE_REFUSED s else s)
  else if scheduled s then s else beginScheduled s

/-- SCHEDULE_REQUEST (R61). -/
def execScheduleRequest (m : Master) (s : State) : Host.Outcome State Fault Refusal :=
  .next (guarded m .SLUICE_MODE_SCHEDULE 0 (enterScheduled true) s)

/-- FORCE_MARKED written (R62). -/
def writeForceMarked (v : Nat) (s : State) : State :=
  let s1 := s.set .SLUICE_MODE_FORCE_MARKED v
  if v % 2 = 1 then serviceFallback 5 0 s1 else s1

/-- FORCE_MARKED_WRITE (R62). -/
def execForceMarkedWrite (m : Master) (v : Nat) (s : State) : Host.Outcome State Fault Refusal :=
  .next (guardedV m .SLUICE_MODE_FORCE_MARKED 0 v (writeForceMarked v) s)

end Sys2Proof.Machine
end

