-- ==== Sys2Proof/Machine/Attic.lean ====
section
/-! DEFINITION. The Attic: its words, the option copies and their switch (R385 to R388), and the BIST record's words. -/
namespace Sys2Proof.Machine

/-- An Attic word as shipped: option copy A valid with GEN 1 and BIST_AGE_DAYS 30, everything else zero (R386). -/
def atticShipped (i : Nat) : Word :=
  if i = 0 then wd (at_ 30 8 8) else if i = 30 then 1
  else if i = 31 then wd (crc32c (wordsBytes ((List.range 31).map (fun j => if j = 0 then wd (at_ 30 8 8) else if j = 30 then 1 else 0))))
  else 0

/-- A word of the Attic. -/
def State.atticWord (s : State) (i : Nat) : Word := Tab.get s.power.attic i (atticShipped i)

/-- Store a word of the Attic. -/
def putAttic (i : Nat) (w : Word) (s : State) : State :=
  { s with power := { s.power with attic := Tab.set s.power.attic i w (atticShipped i) } }

/-- First word of an option copy: 0 for A, 32 for B. -/
def copyBase (c : Nat) : Nat := 32 * c

/-- Words 0 to 31 of an option copy. -/
def copyWords (s : State) (c : Nat) : List Word := (List.range 32).map (fun i => s.atticWord (copyBase c + i))

/-- CRC over words 0 to 30 of an option copy. -/
def copyCrc (ws : List Word) : Nat := crc32c (wordsBytes (ws.take 31))

/-- An option copy verifies (R387). -/
def copyOk (s : State) (c : Nat) : Bool := copyCrc (copyWords s c) == wf_ (copyWords s c) 31 0 32

/-- GEN of an option copy. -/
def copyGen (s : State) (c : Nat) : Nat := wf_ (copyWords s c) 30 0 32

/-- The copy in force after a read of both (R387): the greater GEN, as a signed difference, if both verify. -/
def chooseCopy (s : State) : Option Nat :=
  match copyOk s 0, copyOk s 1 with
  | true, true => some (if subMod (copyGen s 0) (copyGen s 1) (2 ^ 32) < 2 ^ 31 then 0 else 1)
  | true, false => some 0
  | false, true => some 1
  | false, false => none

/-- Shadows in force where neither copy verifies: HOST_MODE 0, PRIMARY_HPORT 0, BIST_AGE_DAYS 0, the highest floor and both
slots revoked (R387). -/
def badShadow : List Word := (List.range 14).map (fun i => if i = 1 then wd (0xFFFFFFFF + 2 ^ 32 + 2 ^ 33) else 0)

/-- The shadows of words 0 to 13; until the first read of the copies, those of the Attic as shipped. -/
def shadowWords (s : State) : List Word := if s.power.shadow.isEmpty then (List.range 14).map atticShipped else s.power.shadow

/-- Fields of the shadows (Table 15.6). -/
def optHostMode (s : State) : Nat := wf_ (shadowWords s) 0 0 4

/-- HOST_MODE as the Attic gives it at the reset of a host port: of the active copy, which an OPT_COMMIT may have switched since
the shadows were loaded (R64, R386); 0 where neither copy verified (R387). -/
def atticHostMode (s : State) : Nat :=
  if s.flag .OPT_STAT_BAD then 0 else wf_ (copyWords s (s.get .OPT_STAT_ACTIVE)) 0 0 4

def optPrimary (s : State) : Nat := wf_ (shadowWords s) 0 4 2
def optAgeDays (s : State) : Nat := wf_ (shadowWords s) 0 8 8

/-- The option-byte state machine reads both copies, loads the shadows and counts a start (R387). -/
def readOptions (s : State) : State :=
  let s1 := match chooseCopy s with
    | some c =>
      let a := ((s.set .OPT_STAT_ACTIVE c).set .OPT_STAT_BAD 0).set .OPT_STAT_GEN (copyGen s c)
      { a with power := { a.power with shadow := (copyWords s c).take 14 } }
    | none =>
      let a := ((s.set .OPT_STAT_ACTIVE 0).set .OPT_STAT_BAD 1).set .OPT_STAT_GEN 0
      { a with power := { a.power with shadow := badShadow } }
  let w := s1.atticWord 66
  putAttic 66 (wd (at_ (w.toNat + 1) 0 32 + at_ (bits w.toNat 32 32 + 1) 32 32)) (s1.set .BOOT_STAT_OPT_BAD (s1.get .OPT_STAT_BAD))

/-- Write GEN plus 1 and a fresh CRC into a copy of given words, make it active and reload the shadows of words 1 to 13 (R388).
The copy then verifies, so BAD is 0. -/
def switchCopy (ws : List Word) (s : State) : State :=
  let c := 1 - s.get .OPT_STAT_ACTIVE
  let gen := (s.get .OPT_STAT_GEN + 1) % 2 ^ 32
  let w1 := (padWords 32 ws).set 30 (wd (wf_ ws 30 32 32 * 2 ^ 32 + gen))
  let w2 := w1.set 31 (wd (wf_ ws 31 32 32 * 2 ^ 32 + copyCrc w1))
  let s1 := forEach (List.range 32) (fun i a => putAttic (copyBase c + i) (w2.getD i 0) a) s
  let s2 := (((s1.set .OPT_STAT_ACTIVE c).set .OPT_STAT_GEN gen).set .OPT_STAT_BAD 0).set .BOOT_STAT_OPT_BAD 0
  { s2 with power := { s2.power with shadow := (shadowWords s).take 1 ++ (w2.drop 1).take 13 } }

/-- OPT_COMMIT (R388). -/
def commitOptions (s : State) : State := switchCopy (copyWords s (1 - s.get .OPT_STAT_ACTIVE)) s

/-- Raise the serial floor by the same switch: words 0 to 13 of the active copy with the new floor (R41, R388). -/
def raiseFloor (serial : Nat) (s : State) : State :=
  let c := s.get .OPT_STAT_ACTIVE
  let cur := copyWords s c
  let other := copyWords s (1 - c)
  if serial < wf_ cur 1 0 32 then s
  else
    let w1 := wd (setBits (wn cur 1) 0 32 serial)
    switchCopy ((cur.take 14).set 1 w1 ++ other.drop 14) s

/-- An ATTIC command ends with a result. -/
def atticEnd (result : Nat) (s : State) : State := (s.set .ATTIC_STAT_RESULT result).set .ATTIC_STAT_BUSY 0

/-- READ. -/
def atticReadCmd (s : State) : State :=
  let s1 := s.set .ATTIC_CMD_CMD 1
  atticEnd 0 (s1.set .ATTIC_DATA_DATA (s1.atticWord (s1.get .ATTIC_SEL_WORD)).toNat)

/-- ATTIC takes writes (Table 14.1). -/
def atticWrites (s : State) : Bool := decide (s.level 2 < 2)

/-- The word lies in the active option copy. -/
def inActive (s : State) (w : Nat) : Bool := decide (w < 64) && w / 32 == s.get .OPT_STAT_ACTIVE && !s.flag .OPT_STAT_BAD

/-- WRITE: refused in the active option copy and while ATTIC is isolated; a word that fails its verify holds what its cells
took, which is not known (R385). -/
def atticWriteCmd (verified : Bool) (s : State) : State :=
  let s1 := s.set .ATTIC_CMD_CMD 2
  let w := s1.get .ATTIC_SEL_WORD
  if !atticWrites s1 || inActive s1 w then atticEnd 2 s1
  else if verified then atticEnd 0 (putAttic w (wd (s1.get .ATTIC_DATA_DATA)) s1)
  else
    let (v, s2) := draw s1
    raise 2 24 0 0 (atticEnd 3 (putAttic w (wd v) s2))

/-- OPT_COMMIT; with no active copy there is nothing to commit over, and the copies are read anew at the next reset. -/
def optCommitCmd (s : State) : State :=
  let s1 := s.set .ATTIC_CMD_CMD 3
  if !atticWrites s1 then atticEnd 2 s1 else atticEnd 0 (commitOptions s1)

/-- ATTIC_READ (R385). -/
def execAtticRead (m : Master) (s : State) : Host.Outcome State Fault Refusal :=
  .next (guardedV m .ATTIC_CMD_CMD 0 1 atticReadCmd s)

/-- ATTIC_WRITE (R385). -/
def execAtticWrite (m : Master) (verified : Bool) (s : State) : Host.Outcome State Fault Refusal :=
  .next (guardedV m .ATTIC_CMD_CMD 0 2 (atticWriteCmd verified) s)

/-- OPT_COMMIT (R388). -/
def execOptCommit (m : Master) (s : State) : Host.Outcome State Fault Refusal :=
  .next (guardedV m .ATTIC_CMD_CMD 0 3 optCommitCmd s)

end Sys2Proof.Machine
end

