-- ==== Sys2Proof/Machine/Source.lean ====
section
/-! DEFINITION. The Threshold's source side: work entries checked, translated and turned into segments (R89, R224, R244 to
R249, R270), and the returns of the Cellar and of host memory (R89, R251). -/
namespace Sys2Proof.Machine

/-! Work entries. -/

/-- Letterbox bytes of an entry return to the pool. -/
def lbOf (it : WorkItem) (s : State) : State :=
  match it.lb with
  | some ws => lbReturn it.room (packetBytes ws) s
  | none => s

/-- A work entry completes with a status before it became an operation. -/
def endItem (it : WorkItem) (status aux : Nat) (s : State) : State := failWork it.room it.entry status (lbOf it s) aux

/-- Put an entry back at the head of the fetch queue. -/
def requeue (it : WorkItem) (s : State) : State := { s with porch := { s.porch with fetchQ := it :: s.porch.fetchQ } }

/-- Stall an entry at the source (R270, R456): it waits for misses, or for the link of a host port. -/
def stallItem (it : WorkItem) (misses : List (Nat × Nat × Nat)) (s : State) : State :=
  { s with porch := { s.porch with stalled := s.porch.stalled ++ [{ it with misses := misses, at_ := s.now }] } }

/-- The entry carries its data in words 6 and 7. -/
def entryInline (it : WorkItem) : Bool := weInline it.entry && (weOp it.entry == 1 || weOp it.entry == 0x10)

/-- The message goes by rendezvous (R224). -/
def entryRndv (s : State) (it : WorkItem) : Bool :=
  weOp it.entry == 1 && !entryInline it && it.lb.isNone && decide (s.get .CRYSTAL_CFG_EAGER_MAX < weLen it.entry)

/-- Bytes of the operation: an atomic moves 8, inline data at most 16. -/
def entryLen (it : WorkItem) : Nat :=
  if isAtomic (weOp it.entry) then 8 else if entryInline it then min 16 (weLen it.entry) else weLen it.entry

/-- Rights and bytes of the local key check, if the entry has one (Table 10.3). -/
def localNeed (it : WorkItem) : Option (Nat × Nat) :=
  let e := it.entry
  let o := weOp e
  if o = 1 ∨ o = 0x10 then (if entryInline it || it.lb.isSome then none else some (rRead, weLen e))
  else if o = 0x20 then some (rWrite, weLen e)
  else if isAtomic o then some (rWrite, 8)
  else if o = 2 ∧ !wePickup e then some (rWrite, weLen e)
  else none

/-- The operation is a rendezvous send: the limit that held as it began decides (R224). -/
def rndvOp (s : State) (i : Nat) : Bool := (s.op i).any (fun o => o.kind == .rndvSend)

/-- The entry's payload is read from host memory as its segments are made. -/
def readsPayload (it : WorkItem) (rndv : Bool) : Bool :=
  (weOp it.entry == 1 || weOp it.entry == 0x10) && !entryInline it && it.lb.isNone && !rndv

/-- FLAGS of the lead of an entry's segment (Tables 4.5 and 8.10). -/
def entryFlags (it : WorkItem) (rndv last : Bool) : Nat :=
  let e := it.entry
  let o := weOp e
  let sp := o == 1 || o == 0x10
  at_ (b2n (entryInline it)) 0 1 + at_ (b2n (sp && weHasImm e)) 1 1 + at_ (b2n ((o == 0x10 || isAtomic o) && weCqe e)) 2 1
    + at_ (b2n rndv) 3 1 + at_ (b2n last) 4 1

/-- The lead descriptor of segment `off` of an entry (Table 4.4, R224, R244, R266). -/
def entryLead (s : State) (it : WorkItem) (dr off : Nat) (rndv : Bool) : List Word :=
  let e := it.entry
  let o := weOp e
  let r := s.room it.room
  let len := entryLen it
  let last := rndv || o == 0x20 || decide (off + 1 = segCount len)
  let key := if o = 1 then (if rndv then weLkey e else 0) else weRkey e
  let remote := if o = 1 then (if rndv then weAddr e else 0) else (weRemote e + 4096 * off) % 2 ^ 64
  let imm := if o = 0x20 then segCount len else if (o = 1 ∨ o = 0x10) ∧ weHasImm e then weImm e else 0
  let words := entryInline it || isAtomic o
  mkLead o (entryFlags it rndv last) dr it.room r.job (bits key 0 24) (bits key 24 8) 0 remote len off
    (if o = 1 then weCtx e else 0) r.myRank (if o = 1 then weTag e else 0) imm
    (if words then e.getD 6 0 else 0) (if words then e.getD 7 0 else 0)

/-- The kind of operation an entry starts. -/
def entryKind (s : State) (it : WorkItem) : OpKind :=
  if weOp it.entry = 1 then (if entryRndv s it then .rndvSend else .send)
  else if weOp it.entry = 0x10 then .put else if weOp it.entry = 0x20 then .get else .atomic

/-- A segment of an operation with its payload. -/
def entrySeg (s : State) (it : WorkItem) (i x dr off : Nat) (data : SegData) : Seg :=
  let lead := entryLead s it dr off (rndvOp s i)
  let cells := 1 + payloadCells lead
  { opId := i, peer := x, input := 72 + (s.room it.room).hport, room := it.room, lead := lead, cells := cells,
    bytes := if cells = 1 then 0 else segBytes (leadLen lead) off, resp := false, data := data }

/-- Data words of segment `off` of a Letterbox packet. -/
def lbWords (it : WorkItem) (off : Nat) : SegData :=
  match it.lb with
  | some ws => .words (ws.drop (512 * off))
  | none => .none_

/-- A segment would enter the Threshold-to-Sluice queue, and the queue has no credit for it (R18). -/
def segWaits (x : Nat) (resp : Bool) (s : State) : Bool :=
  let f := (s.flow x).send
  decide (f.st = 2 ∧ f.deferred.isNone) && !sluiceTakes s resp

/-- Offer the segments of an operation in order; a payload whose address misses stalls the entry at that segment (R270), and one
without credit waits there (R18). -/
def streamSegs (it : WorkItem) (i x dr h : Nat) : List Nat → State → State
  | [], s => s
  | k :: rest, s =>
    if segWaits x false s then requeue { it with cont := some (i, k) } s
    else if readsPayload it (rndvOp s i) && decide (0 < entryLen it) then
      match translate h (s.room it.room).xctx ((weAddr it.entry + 4096 * k) % 2 ^ 64) (segBytes (entryLen it) k) false false s with
      | (.inl ms, s1) => stallItem { it with cont := some (i, k) } ms s1
      | (.inr (hp, pages), s1) => streamSegs it i x dr h rest (offerSeg (entrySeg s1 it i x dr k (.host hp pages)) s1)
    else streamSegs it i x dr h rest (offerSeg (entrySeg s it i x dr k (lbWords it k)) s)

/-- Offsets of the segments an entry sends: one for an announcement, an inline entry, a get or an atomic. -/
def entryOffs (it : WorkItem) (rndv : Bool) : List Nat :=
  if weOp it.entry = 0x20 ∨ rndv then [0] else List.range (segCount (entryLen it))

/-- Start the operation of a checked entry toward a node and room. -/
def startEntry (it : WorkItem) (node dr h : Nat) (s : State) : State :=
  let x := s.idxOf node
  let (i, s1) := newOp { kind := entryKind s it, room := it.room, code := weOp it.entry, entry := it.entry, peer := x, dest := node,
                         destRoom := dr, msgId := 0, segs := segCount (entryLen it), len := entryLen it, lb := it.lb } s
  streamSegs it i x dr h (entryOffs it (entryRndv s it)) s1

/-- The local key of an entry is checked, and its host port's link must be up (R249, R456): go on with the key's host port. -/
def withLocal (it : WorkItem) (go : Nat → State → State) (s : State) : State :=
  match localNeed it with
  | none => go 0 s
  | some (rights, n) =>
    match lookLocal it.room (weLkey it.entry) rights (weAddr it.entry) n s with
    | (.wait, s1) => requeue it s1
    | (.failed, s1) => endItem it stKeyFault (1 + 256) s1
    | (.found (k, sub), s1) =>
      if sub ≠ 0 then
        (match it.cont with
         | none => endItem it stKeyFault (sub + 256) s1
         | some (i, off) =>
           match s1.op i with
           | none => s1
           | some o => tryFinish i (forEach (List.range o.offsets) (fun j a => if off ≤ j then failOff i j stKeyFault (sub + 256) a else a) s1))
      else if weOp it.entry ≠ 2 && !s1.flag .HPORT_STAT_LINK_UP k.hport then stallItem it [] s1
      else go k.hport s1

/-- Hand a RECV to the Crystalliser (R58, R220, R240). -/
def postEntry (it : WorkItem) (s : State) : State :=
  let e := it.entry
  let r := s.room it.room
  if !s.crystalOn then endItem it stNotReady 0 s
  else if r.order = 1 ∧ weRank e = 0xFFFFFF then endItem it stWildcard 0 s
  else
    let p : Posted := { room := it.room, part := r.part, ctx := weCtx e, rank := weRank e, tag := weTag e, anyTag := weAnyTag e,
                        addr := weAddr e, len := weLen e, lkey := weLkey e, cookie := weCookie e, pickup := wePickup e, silent := weSilent e }
    { s with crystal := { s.crystal with input := s.crystal.input ++ [.post p] } }

/-- An entry that ends before posting gives its Pickup space back (R205). -/
def freePick (it : WorkItem) (s : State) : State :=
  if weOp it.entry = 2 ∧ wePickup it.entry then pickReturn it.room (pickSpace (weLen it.entry)) s else s

/-- RECV: the local check, then posting; a receive refused here gives its Pickup space back. -/
def recvEntry (it : WorkItem) (s : State) : State :=
  withLocal it (fun _ a =>
    let refused := !a.crystalOn || decide ((a.room it.room).order = 1 ∧ weRank it.entry = 0xFFFFFF)
    postEntry it (if refused then freePick it a else a)) s

/-- An entry addressed to a rank: SEND, PUT, GET and the atomics. -/
def remoteEntry (it : WorkItem) (s : State) : State :=
  match lookRank (s.room it.room).job (weRank it.entry) s with
  | (.wait, s1) => requeue it s1
  | (.failed, s1) => endItem it stBadRank 0 s1
  | (.found (.inl status), s1) => endItem it status 0 s1
  | (.found (.inr (node, dr)), s1) =>
    if s1.fenced (s1.idxOf node) then endItem it stFenced 1 s1
    else if 5 < minLength s1.plan.dims s1.plan.sizes s1.own node then endItem it stNoRoute 0 s1
    else withLocal it (fun h a => startEntry it node dr h a) s1

/-- A CANCEL entry goes to the Crystalliser (R238, R240). -/
def cancelEntry (it : WorkItem) (s : State) : State :=
  if s.crystalOn then { s with crystal := { s.crystal with input := s.crystal.input ++ [.cancel it.room it.entry] } }
  else endItem it stNotReady 0 s

/-- An entry whose operation has begun goes on after its stall. -/
def resumeEntry (it : WorkItem) (i off : Nat) (s : State) : State :=
  match s.op i with
  | none => s
  | some o =>
    withLocal it (fun h a => streamSegs { it with misses := [] } i o.peer o.destRoom h ((entryOffs it (o.kind == .rndvSend)).filter (fun k => decide (off ≤ k))) a) s

/-- Judge one work entry (R188, R368). Every entry of a room whose JOB is 0x0000 is rejected with BAD_JOB (R3). -/
def injectEntry (it : WorkItem) (s : State) : State :=
  let o := weOp it.entry
  match it.cont with
  | some (i, off) => resumeEntry it i off s
  | none =>
    if s.fenced s.ownIdx then freePick it (endItem it stFenced 1 s)
    else if (s.room it.room).job = 0 then freePick it (endItem it stBadJob 0 s)
    else if o = 0 then endItem it stOk 0 s
    else if o = 2 then recvEntry { it with lb := none } (lbOf it s)
    else if o = 0x50 then cancelEntry { it with lb := none } (lbOf it s)
    else if o = 0x40 then
      let s1 := lbOf it s
      { s1 with rake := { s1.rake with colls := s1.rake.colls ++ [{ it with lb := none, at_ := s.now }] } }
    else if o = 1 ∨ o = 0x10 ∨ o = 0x20 ∨ isAtomic o then remoteEntry it s
    else endItem it stBadOpcode 0 s

/-- A stalled entry fails (R270): its operation's remaining segments fail, or it completes. -/
def failStalled (status : Nat) (it : WorkItem) (s : State) : State :=
  match it.cont with
  | none => endItem it status 0 s
  | some (i, off) =>
    match s.op i with
    | none => s
    | some o => tryFinish i (forEach (List.range o.offsets) (fun j a => if off ≤ j then failOff i j status 0 a else a) s)

/-- Stalled entries whose OP_TIMEOUT_MS has passed complete with TIMEOUT (R270, R456). -/
def expireStalled (s : State) : State :=
  let limit := s.get .THRESH_CFG_OP_TIMEOUT_MS * 1000000
  let (dead, live) := s.porch.stalled.partition (fun it => decide (it.at_ + limit ≤ s.now))
  forEach dead (failStalled stTimeout) { s with porch := { s.porch with stalled := live } }

/-- Stalled entries that a test selects are judged again, ahead of the entries that came after them. -/
def resumeStalled (sel : WorkItem → Bool) (s : State) : State :=
  let (go, stay) := s.porch.stalled.partition sel
  { s with porch := { s.porch with stalled := stay, fetchQ := go.map (fun it => { it with misses := [] }) ++ s.porch.fetchQ } }

/-- An entry for the Crystalliser waits for a credit of its queue (R18). -/
def creditWaits (s : State) (it : WorkItem) : Bool :=
  it.cont.isNone && (weOp it.entry == 2 || weOp it.entry == 0x50) && s.crystalOn && !crystalTakes s

/-- INJECTION_TRANSLATE (R89): the entry at the head of the fetch queue. Host-side work stops at L3 (R354). -/
def execInjectionTranslate (s : State) : Host.Outcome State Fault Refusal :=
  if s.hostStopped then .next s
  else
    let s1 := expireStalled s
    match s1.porch.fetchQ with
    | [] => .next s1
    | it :: rest => if creditWaits s1 it then .next s1 else .next (injectEntry it { s1 with porch := { s1.porch with fetchQ := rest } })

/-! Returns (R89, R251). -/

/-- The payload of an outstanding segment has been read: its cells enter the Hall. A read that fails sends nothing, and the
retransmission timer recovers the segment. -/
def payloadRead (x q ep : Nat) (res : HostRead) (s : State) : State :=
  match outSeg s x q, res with
  | some g, .data ws => if g.epoch = ep then inject g.input (segCellsOf s g ws) s g.pinned else s
  | _, _ => s

end Sys2Proof.Machine
end

