-- ==== Sys2Proof/Machine/Return.lean ====
section
/-! DEFINITION. What returns to the send side: acknowledgements, confirmations, NACKs and synchronisation, with its timers;
the key and rank windows (R250, R256 to R274, R293). -/
namespace Sys2Proof.Machine

/-! Acknowledgements (R255 to R258). -/

/-- KIND of an ACK (Table 10.5). -/
def ackKind (c : Cell) : Nat := wf_ c.body 0 16 2

/-- A segment number is covered by CUM and SACK. -/
def covered (cum sack q : Nat) : Bool := decide (subMod cum q 65536 < 32768) || (decide (1 ≤ subMod q cum 65536) && decide (subMod q cum 65536 ≤ 64) && sack.testBit (subMod q cum 65536 - 1))

/-- SACK bits above a segment of the 64 above CUM. -/
def bitsAbove (cum sack q : Nat) : Nat := ((List.range 64).filter (fun i => decide (subMod q cum 65536 ≤ i) && sack.testBit i)).length

/-- A segment leaves the window acknowledged; a segment sent once gives a round-trip sample (R258). One of an operation that an
unpredictable outcome has hung stays until its timeout (R12). -/
def releaseSeg (x : Nat) (g : Seg) (s : State) : State :=
  if (s.op g.opId).any (·.hung) then s
  else
  let s1 := dropOut x g.seq s
  let s2 := match g.firstNs with
    | some t => if g.retx = 0 ∧ g.hint.isNone then rttSample x (s.now - t) s1 else s1
    | none => s1
  segAcked g s2

/-- An ACK shows a segment outside SACK with FAST_RETX bits set above it (R258). -/
def fastDue (s : State) (cum sack : Nat) (g : Seg) : Bool :=
  let d := subMod g.seq cum 65536
  let n := s.get .THRESH_ACK_CFG_FAST_RETX
  decide (0 < n) && decide (1 ≤ d) && decide (d ≤ 64) && decide (n ≤ bitsAbove cum sack g.seq) && g.resendAt.isNone
    && g.fastAt.all (fun t => decide (t + rtoOf s g.peer ≤ s.now))

/-- CUM, SACK and CE_COUNT of an ACK of the send epoch. -/
def useCum (x cum sack ce : Nat) (s : State) : State :=
  let got := (s.flow x).send.out.filter (fun g => covered cum sack g.seq)
  let s1 := forEach got (releaseSeg x) s
  let s2 := s1.modSend x (fun f => { f with
    acked := if subMod cum f.acked 65536 < 32768 then cum else f.acked,
    conf := f.conf.filter (fun q => decide (32768 ≤ subMod cum q 65536)) })
  let s3 := forEach ((s2.flow x).send.out.filter (fastDue s2 cum sack)) (fun g a => retransmit x g.seq true a) s2
  if 0 < ce then echoCut x s3 else s3

/-- Confirmations turn NACKED segments into COMPLETE (R261). -/
def useConf (x : Nat) (c : Cell) (s : State) : State :=
  let r := (s.flow x).recv
  if wf_ c.body 2 16 1 = 0 ∨ wf_ c.body 2 18 2 ≠ r.epoch then s
  else
    let hit := (List.range 32).filter (fun i => (wf_ c.body 2 32 32).testBit i)
    forEach hit (fun i a =>
      let q := (wf_ c.body 2 0 16 + i) % 65536
      match rsegOf a x q with
      | some g => (match g.st with
        | .nacked _ _ => completeRSeg x q a
        | _ => a)
      | none => a) s

/-- A SYNC_REQ is answered with the receive epoch; a FRESH receive side first takes 3 (R272, step 2). -/
def answerSync (x : Nat) (s : State) : State :=
  let s1 := if (s.flow x).recv.st = 0 then s.modRecv x (fun r => { r with st := 2, epoch := 3, fresh := true }) else s
  ackCell x 0 0 0 2 (s1.flow x).recv.epoch 0 0 s1

/-- A SYNC_RESP opens the send side (R272, step 3). -/
def openFlow (x e : Nat) (s : State) : State :=
  if (s.flow x).send.st ≠ 1 then s
  else numberPend x (s.modSend x (fun f => { f with
    st := 2, epoch := (e + 1) % 4, next := 0, acked := 0xFFFF, sendCtr := 0, opCtr := 0, lastAdvance := some s.now, deferred := none }))

/-- What an ACK cell does, whatever its KIND. -/
def useAck (x : Nat) (c : Cell) (s : State) : State :=
  let f := (s.flow x).send
  let s1 :=
    if ackKind c = 0 then
      (if f.st = 2 ∧ f.epoch = c.epoch then useCum x (wf_ c.body 0 0 16) (wn c.body 1) (wf_ c.body 0 32 16) s else s)
    else if ackKind c = 1 then answerSync x s
    else if ackKind c = 2 then openFlow x (wf_ c.body 0 18 2) s
    else s
  useConf x c s1

/-- An ACK cell of a kind. -/
def isAck (kind : Nat) (c : Cell) : Bool := c.ty == tyAck && ackKind c == kind

/-- ACK_ARRIVAL (R256). -/
def execAckArrival (c : Option Cell) (s : State) : Host.Outcome State Fault Refusal := .next (useSingle (isAck 0) c useAck s)

/-- SYNC_REQ_ARRIVAL (R272). -/
def execSyncReqArrival (c : Option Cell) (s : State) : Host.Outcome State Fault Refusal := .next (useSingle (isAck 1) c useAck s)

/-- SYNC_RESP_ARRIVAL (R272). -/
def execSyncRespArrival (c : Option Cell) (s : State) : Host.Outcome State Fault Refusal := .next (useSingle (isAck 2) c useAck s)

/-- CONF_ARRIVAL (R261): an ACK of KIND 3, or another whose CONF_VALID is 1. -/
def execConfArrival (c : Option Cell) (s : State) : Host.Outcome State Fault Refusal :=
  .next (useSingle (fun a => a.ty == tyAck && (ackKind a == 3 || wf_ a.body 2 16 1 == 1)) c useAck s)

/-! NACKs (R260 to R262, R267, R272). -/

/-- CODE of a NACK. -/
def nackCode (c : Cell) : Nat := wf_ c.body 0 0 8

/-- The operation whose request a RESP NACK names, by the request's epoch and number and its MSG_ID. -/
def respOp (s : State) (x : Nat) (c : Cell) : Option Nat :=
  (List.find? (fun e => e.2.peer == x && e.2.reqs.contains (c.epoch, c.seq) && e.2.msgId == wf_ c.body 1 0 32) s.thresh.ops).map (·.1)

/-- A NACK that answers a segment of the present epoch. -/
def nackMine (s : State) (x : Nat) (c : Cell) : Bool := (s.flow x).send.st == 2 && (s.flow x).send.epoch == c.epoch

/-- NOT_READY (R262): the segment's timer stops and HINT_US runs; with RESP, the response segment is asked for again after the
hint (R267). -/
def nackNotReady (x : Nat) (c : Cell) (s : State) : State :=
  let hint := wf_ c.body 0 48 16
  let s1 := tally .NOT_READY_RCVD s
  if !nackMine s x c then s1
  else if wf_ c.body 0 17 1 = 1 then
    match respOp s1 x c with
    | some i => s1.modSend x (fun f => { f with respHints := f.respHints ++ [(c.seq, i, wf_ c.body 1 32 32, s.now + hint * 1000)] })
    | none => s1
  else modOut x c.seq (fun g => { g with timerAt := none, hint := some hint, resendAt := some (s.now + hint * 1000) }) s1

/-- NACK_NOT_READY_ARRIVAL (R262). -/
def execNackNotReadyArrival (c : Option Cell) (s : State) : Host.Outcome State Fault Refusal :=
  .next (useSingle (fun a => a.ty == tyNack && nackCode a == 1) c nackNotReady s)

/-- The segment number lies in the send window. -/
def inSendWindow (f : SendSt) (q : Nat) : Bool := decide (1 ≤ subMod q f.acked 65536) && decide (subMod q f.acked 65536 < subMod f.next f.acked 65536)

/-- A final NACK (R261): the segment fails and is confirmed; with RESP only the named response segment fails. Reserved codes
are counted and ignored (R260). -/
def nackFinal (x : Nat) (c : Cell) (s : State) : State :=
  let code := nackCode c
  if code < 2 ∨ 10 < code then modThresh (fun t => { t with reservedNacks := t.reservedNacks + 1 }) s
  else if !nackMine s x c then s
  else if wf_ c.body 0 17 1 = 1 then
    match respOp s x c with
    | some i => tryFinish i (failOff i (wf_ c.body 1 32 32) (nackStatus code) (wf_ c.body 0 8 8) s)
    | none => s
  else
    let f := (s.flow x).send
    if f.conf.contains c.seq || !inSendWindow f c.seq then s
    else
      let s1 := armConf x (s.modSend x (fun f => { f with conf := f.conf ++ [c.seq] }))
      match outSeg s x c.seq with
      | some g => segFailed g (nackStatus code) (wf_ c.body 0 8 8) true (dropOut x c.seq s1)
      | none => s1

/-- NACK_FINAL_ARRIVAL (R261). -/
def execNackFinalArrival (c : Option Cell) (s : State) : Host.Outcome State Fault Refusal :=
  .next (useSingle (fun a => a.ty == tyNack && nackCode a != 1 && nackCode a != 11) c nackFinal s)

/-- The limit of one epoch advance in 200 µs allows a reset now (R93). -/
def mayAdvance (s : State) (x : Nat) : Bool := (s.flow x).send.lastAdvance.all (fun t => decide (t + 200000 ≤ s.now))

/-- A send-side reset now, or once 200 µs have passed since the previous advance (R272, step 6). -/
def askReset (x : Nat) (fresh : Bool) (s : State) : State :=
  if mayAdvance s x then sendReset x fresh s
  else s.modSend x (fun f => { f with deferred := some (f.deferred.getD fresh) })

/-- FLOW_RESET of the send epoch (R272, step 6). -/
def nackReset (x : Nat) (c : Cell) (s : State) : State :=
  if nackMine s x c then askReset x (wf_ c.body 0 16 1 == 1) s else s

/-- NACK_FLOW_RESET_ARRIVAL (R272). -/
def execNackFlowResetArrival (c : Option Cell) (s : State) : Host.Outcome State Fault Refusal :=
  .next (useSingle (fun a => a.ty == tyNack && nackCode a == 11) c nackReset s)

/-! Timers (R257 to R259, R262, R264, R265, R272). -/

/-- ACK_COAL_TIMER (R257). -/
def execAckCoalTimer (x : Nat) (s : State) : Host.Outcome State Fault Refusal :=
  match (s.flow x).recv.coalAt with
  | some t => if t ≤ s.now then .next (sendAck x s) else .next s
  | none => .next s

/-- RETRANSMIT_TIMEOUT (R258). -/
def execRetransmitTimeout (x q : Nat) (s : State) : Host.Outcome State Fault Refusal :=
  match outSeg s x q with
  | some g => if g.timerAt.any (fun t => decide (t ≤ s.now)) then .next (retransmit x q false s) else .next s
  | none => .next s

/-- A segment fails with TIMEOUT: counted and observed (R259, R362). -/
def segTimeout (g : Seg) (s : State) : State :=
  segFailed g stTimeout 0 false
    (suspectObserve 2 g.peer (some g.room) 0 0 (event 8 .THRESH_EVENTS_TIMEOUT_SEEN (tally .TIMEOUT s)))

/-- OP_TIMEOUT (R259): TIMEOUT, or NOT_READY with the last hint where the segment was answered NOT_READY (Table 10.7). -/
def execOpTimeout (x q : Nat) (s : State) : Host.Outcome State Fault Refusal :=
  match outSeg s x q with
  | some g =>
    if g.firstNs.any (fun t => decide (t + g.toMs * 1000000 ≤ s.now)) then
      let s1 := dropOut x q s
      .next (match g.hint with
        | some h => segFailed g stNotReady h false s1
        | none => segTimeout g s1)
    else .next s
  | none => .next s

/-- A response segment is asked for again after its hint (R267). -/
def askAgain (i off : Nat) (s : State) : State :=
  match s.op i with
  | some o =>
    match o.req with
    | some g => if (missingOf o).contains off then
        offerSeg (reissueSeg g off 1) (modOp i (fun o => { o with reqAcked := false, respAt := none }) s) else s
    | none => s
  | none => s

/-- NOT_READY_RESEND (R262, R267): a re-sent segment starts its timer at rto and takes one segment of the device budget. -/
def execNotReadyResend (x q : Nat) (s : State) : Host.Outcome State Fault Refusal :=
  let due := (s.flow x).send.respHints.filter (fun e => e.1 == q && decide (e.2.2.2 ≤ s.now))
  let s1 := forEach due (fun e a => askAgain e.2.1 e.2.2.1 a)
    (s.modSend x (fun f => { f with respHints := f.respHints.filter (fun e => !(e.1 == q && decide (e.2.2.2 ≤ s.now))) }))
  match outSeg s1 x q with
  | some g =>
    if g.resendAt.any (fun t => decide (t ≤ s1.now)) && !s1.hostStopped && decide (oneSeg ≤ s1.sluice.budget) && hallTakes s1 g.input (segVc s1 g.resp) then
      let rto := rtoOf s1 x
      let g1 := { g with rto := rto, timerAt := some (s1.now + rto), resendAt := none }
      .next (launch g1 (modOut x q (fun _ => g1) (modSluice (fun u => { u with budget := u.budget - oneSeg }) s1)))
    else .next s1
  | none => .next s1

/-- The bytes still missing of an operation fail with TIMEOUT. -/
def failMissing (i : Nat) (o : OpSt) (s : State) : State :=
  tryFinish i (forEach (missingOf o) (fun k a => failOff i k stTimeout 0 a) s)

/-- RESPONSE_TIMER_EXPIRY (R265, R226): a reissue, or the end of the operation at the timeout of its first request. -/
def execResponseTimerExpiry (i : Nat) (s : State) : Host.Outcome State Fault Refusal :=
  match s.op i with
  | none => .next s
  | some o =>
    let due := o.respAt.any (fun t => decide (t ≤ s.now))
    let late := o.reqAcked && o.firstNs.any (fun t => decide (t + o.toMs * 1000000 ≤ s.now))
    if o.kind = .rndvSend then .next (if due ∧ o.getLen.isSome then failMissing i o s else s)
    else if late then .next (failMissing i o s)
    else if due then
      match o.req with
      | some g => .next (reissue g s)
      | none => .next s
    else .next s

/-- ATOMIC_CACHE_RELEASE (R264). -/
def execAtomicCacheRelease (src msg : Nat) (s : State) : Host.Outcome State Fault Refusal :=
  let life := 2 * s.get .THRESH_CFG_OP_TIMEOUT_MS * 1000000
  .next (modThresh (fun t => { t with atomics := t.atomics.filter (fun a =>
    !(a.src == src && a.msgId == msg && ((a.acked && decide (a.at_ + a.hold ≤ s.now)) || decide (a.at_ + life ≤ s.now)))) }) s)

/-- SYNC_REQ_RETRY (R272). -/
def execSyncReqRetry (x : Nat) (s : State) : Host.Outcome State Fault Refusal :=
  if (s.flow x).send.st = 1 ∧ (s.flow x).send.syncAt ≤ s.now then .next (sendSync x s) else .next s

/-- SYNC_TIMEOUT (R272): the waiting operations complete TIMEOUT and the send side is FRESH again. -/
def execSyncTimeout (x : Nat) (s : State) : Host.Outcome State Fault Refusal :=
  let f := (s.flow x).send
  if f.st = 1 ∧ f.syncStart + s.get .THRESH_CFG_OP_TIMEOUT_MS * 1000000 ≤ s.now then
    let s1 := s.modSend x (fun f => { f with st := 0, pend := [] })
    let s2 := forEach f.pend (fun g a => segFailed g stTimeout 0 false (event 8 .THRESH_EVENTS_TIMEOUT_SEEN (tally .TIMEOUT a))) s1
    .next (suspectObserve 2 x (f.pend.head?.map (·.room)) 0 0 s2)
  else .next s

/-- EPOCH_ADVANCE_DEFERRED (R272, R93). -/
def execEpochAdvanceDeferred (x : Nat) (s : State) : Host.Outcome State Fault Refusal :=
  match (s.flow x).send.deferred with
  | some fresh => if mayAdvance s x then .next (sendReset x fresh s) else .next s
  | none => .next s

/-- The context of a node index is reset side by side (R274). -/
def resetContext (x : Nat) (s : State) : State :=
  let s1 := if (s.flow x).send.st = 2 then askReset x false s else s
  let r := (s1.flow x).recv
  if r.st = 0 then s1
  else
    let s2 := s1.modRecv x (fun r => { r with st := 2, fresh := false, lastReset := some s.now })
    event 8 .THRESH_EVENTS_FLOW_RESET_SEEN (tally .FLOW_RESET (sendNack x 0 r.epoch 11 0 false false 0 0 0 s2))

/-- FLOW_CMD_RESET (R274). -/
def execFlowCmdReset (m : Master) (s : State) : Host.Outcome State Fault Refusal :=
  .next (guarded m .FLOW_CMD_RESET 0 (fun a => resetContext (a.get .FLOW_SEL_NODE_INDEX) a) s)

/-! Target tracker (R246). -/

/-- The target-side completion of a tracked message. -/
def trackCmpl (t : TrackEntry) (status len fail aux : Nat) : Cmpl :=
  { op := leadOp t.lead, status := status, rank := leadRank t.lead, target := true,
    imm := if leadHasImm t.lead then leadImm t.lead else 0, len := len, fail := fail, aux := aux }

/-- TRACKER_TIMEOUT (R246). -/
def execTrackerTimeout (src msg : Nat) (s : State) : Host.Outcome State Fault Refusal :=
  match s.thresh.tracker.find? (fun t => t.src == src && t.msgId == msg) with
  | some t =>
    if t.lastNs + 2 * s.get .THRESH_CFG_OP_TIMEOUT_MS * 1000000 ≤ s.now then
      let s1 := modThresh (fun h => { h with tracker := h.tracker.filter (fun e => !(e.src == src && e.msgId == msg)) }) s
      let len := (((List.range t.total).filter (fun i => t.done.contains i)).map (fun i => segBytes (leadLen t.lead) i)).sum
      let miss := ((List.range t.total).find? (fun i => !t.done.contains i)).getD 0
      let c := if t.done.isEmpty then trackCmpl t stTimeout 0 0 0 else trackCmpl t stPartial len (4096 * miss) 1
      .next (complete t.room c true false s1)
    else .next s
  | none => .next s

/-! Key window (R250, Table 10.18). -/

/-- RESULT a key command would end with at once: 0 where it runs. -/
def keyRefusal (s : State) (cmd i : Nat) : Nat :=
  if i = 0 then 2 else if !s.plan.installed || !s.cellarOn then 3
  else if cmd = 1 ∧ (KeyEntry.badReserved ⟨wd (s.get .KEY_DATA_WORD 0), wd (s.get .KEY_DATA_WORD 1), wd (s.get .KEY_DATA_WORD 2), wd (s.get .KEY_DATA_WORD 3)⟩) then 4
  else 0

/-- A key command begins (Table 10.18). -/
def keyCommand (cmd : Nat) (act : Nat → State → State) (s : State) : State :=
  if s.flag .KEY_CMD_STAT_BUSY then s.set .KEY_CMD_STAT_RESULT 1
  else
    let i := s.get .KEY_SEL_INDEX
    let s1 := s.set .KEY_CMD_STAT_INDEX i
    let r := keyRefusal s cmd i
    if r ≠ 0 then s1.set .KEY_CMD_STAT_RESULT r
    else act i (modThresh (fun t => { t with keyBusy := some (cmd, i) }) (s1.set .KEY_CMD_STAT_BUSY 1))

/-- Store a key entry; the on-chip copy is the same. -/
def putKey (i : Nat) (k : KeyEntry) (s : State) : State :=
  modThresh (fun t => { t with keys := Tab.set t.keys i k ⟨0, 0, 0, 0⟩ }) s

/-- KEY_CMD WRITE. -/
def keyWrite (s : State) : State :=
  keyCommand 1 (fun i a => putKey i
    ⟨wd (a.get .KEY_DATA_WORD 0), wd (a.get .KEY_DATA_WORD 1), wd (a.get .KEY_DATA_WORD 2), wd (a.get .KEY_DATA_WORD 3)⟩ a) s

/-- KEY_CMD READ. -/
def keyRead (s : State) : State :=
  keyCommand 2 (fun i a =>
    let k := a.keyAt i
    (((a.set .KEY_DATA_WORD k.w0.toNat 0).set .KEY_DATA_WORD k.w1.toNat 1).set .KEY_DATA_WORD k.w2.toNat 2).set .KEY_DATA_WORD k.w3.toNat 3) s

/-- KEY_CMD INVALIDATE. -/
def keyInvalidate (s : State) : State :=
  keyCommand 3 (fun i a =>
    let k := a.keyAt i
    putKey i { k with w2 := wd (k.w2.toNat % 2 ^ 63) } a) s

/-- KEY_CMD_WRITE (R250). -/
def execKeyCmdWrite (m : Master) (s : State) : Host.Outcome State Fault Refusal := .next (guarded m .KEY_CMD_CMD 0 keyWrite s)

/-- KEY_CMD_READ (R250). -/
def execKeyCmdRead (m : Master) (s : State) : Host.Outcome State Fault Refusal := .next (guarded m .KEY_CMD_CMD 0 keyRead s)

/-- KEY_CMD_INVALIDATE (R250). -/
def execKeyCmdInvalidate (m : Master) (s : State) : Host.Outcome State Fault Refusal :=
  .next (guarded m .KEY_CMD_CMD 0 keyInvalidate s)

/-- A payload read whose local key was checked under an entry has not been issued: its segment waits before its first transmission. -/
def keyUnissued (s : State) (i : Nat) : Bool :=
  let sel := fun (g : Seg) => (match g.data with | .host _ _ => true | _ => false) && !g.resp
    && (s.op g.opId).any (fun o => bits (weLkey o.entry) 0 24 == i)
  s.thresh.admitQ.any sel || s.sluice.queues.any (fun e => e.2.any sel)
    || s.thresh.flows.any (fun e => e.2.send.pend.any sel || e.2.send.wait.any sel)

/-- KEY_CMD_COMPLETE (R250): once every host access that was checked under the old entry has been issued; those of the target side are
checked again as they are issued. -/
def execKeyCmdComplete (s : State) : Host.Outcome State Fault Refusal :=
  match s.thresh.keyBusy with
  | some (cmd, i) => .next (if cmd != 2 && keyUnissued s i then s else modThresh (fun t => { t with keyBusy := none }) ((s.set .KEY_CMD_STAT_BUSY 0).set .KEY_CMD_STAT_RESULT 0))
  | none => .next s

/-! Rank window (R293). -/

/-- A rank command: it ends at once with a RESULT. -/
def rankCommand (flush : Bool) (act : Nat → Nat → State → State) (s : State) : State :=
  let slot := s.get .RANK_SEL_SLOT
  let r := s.get .RANK_SEL_RANK
  let res := if !s.flag .JOB_SLOT_VALID slot then 2 else if flush then 0
    else if s.get .JOB_SLOT_LAST_RANK slot < r then 3 else if !s.plan.installed || !s.cellarOn then 4 else 0
  let s1 := s.set .RANK_STAT_RESULT res
  if res = 0 then act slot r s1 else s1

/-- RANK_CMD WRITE. -/
def rankWrite (s : State) : State :=
  rankCommand false (fun slot r a =>
    modThresh (fun t => { t with ranks := Tab.set t.ranks (rankPlace a slot r) (wd (a.get .RANK_DATA_ENTRY)) 0 }) a) s

/-- RANK_CMD READ. -/
def rankRead (s : State) : State := rankCommand false (fun slot r a => a.set .RANK_DATA_ENTRY (rankEntry a slot r).toNat) s

/-- RANK_CMD FLUSH_JOB. -/
def rankFlush (s : State) : State :=
  rankCommand true (fun slot _ a =>
    modThresh (fun t => { t with rankCache := t.rankCache.filter (fun e => e.1 != a.get .JOB_SLOT_JOB slot) }) a) s

/-- RANK_CMD_WRITE (R293). -/
def execRankCmdWrite (m : Master) (s : State) : Host.Outcome State Fault Refusal := .next (guarded m .RANK_CMD_CMD 0 rankWrite s)

/-- RANK_CMD_READ (R293). -/
def execRankCmdRead (m : Master) (s : State) : Host.Outcome State Fault Refusal := .next (guarded m .RANK_CMD_CMD 0 rankRead s)

/-- RANK_CMD_FLUSH_JOB (R293). -/
def execRankCmdFlushJob (m : Master) (s : State) : Host.Outcome State Fault Refusal := .next (guarded m .RANK_CMD_CMD 0 rankFlush s)

end Sys2Proof.Machine
end

