-- ==== Sys2Proof/Machine/Target.lean ====
section
/-! DEFINITION. The Threshold's target side: cells into segments, the checks of a lead and the room's decision, parking, the
effects of Table 10.4 that follow a lead, and deliveries (R80, R85, R91, R92, R179, R180, R199, R212, R222, R246, R252 to R256,
R263 to R269, R456). -/
namespace Sys2Proof.Machine

/-! Segments in reassembly. -/

/-- Every cell of the segment has been counted. -/
def RSeg.full (g : RSeg) : Bool := g.lead.isSome && g.got.length + 1 == g.cells

/-- The descriptor of a segment. -/
def RSeg.body (g : RSeg) : List Word :=
  match g.lead with
  | some c => c.body
  | none => []

/-- Vestibule size in bytes, and bytes held in it. -/
def vestSize : Nat := 8388608
def vestUsed (s : State) : Nat := (s.thresh.flows.map (fun e => (e.2.recv.segs.map vestBytes).sum)).sum

/-- Bytes a room has parked, but for one segment. -/
def roomParked (s : State) (rid x q : Nat) : Nat :=
  (s.thresh.flows.map (fun e => ((e.2.recv.segs.filter (fun g =>
    g.park.isSome && g.park != some .reads && g.lead.isSome && leadDestRoom g.body == rid && !(e.1 == x && g.seq == q))).map vestBytes).sum)).sum

/-- Park a segment; its budget runs from its first park (R269). -/
def parkSeg (x q : Nat) (why : Park) (misses : List (Nat × Nat × Nat)) (s : State) : State :=
  modRSeg x q (fun g => { g with park := some why, misses := misses,
                                 parkAt := if why = .reads then g.parkAt else some (g.parkAt.getD s.now) }) s

/-- The segment's lead has passed: what follows waits for its cells. -/
def acceptRSeg (x q : Nat) (access : Option (Nat × List (Nat × Nat))) (s : State) : State :=
  modRSeg x q (fun g => { g with accepted := true, access := access, park := none, misses := [] }) s

/-! Messages at the target (R223). -/

/-- Change the Crystalliser's state. -/
def modCrystal (f : CrystalSt → CrystalSt) (s : State) : State := { s with crystal := f s.crystal }

/-- The entry of a message that has segments still to come. -/
def msgOf (s : State) (src msg : Nat) : Option MsgEntry :=
  s.crystal.msgs.find? (fun m => m.src == src && m.msgId == msg && decide (m.done.length < segCount m.total))

/-- Change a message entry. -/
def modMsg (i : Nat) (f : MsgEntry → MsgEntry) (s : State) : State :=
  modCrystal (fun c => { c with msgs := c.msgs.map (fun m => if m.id = i then f m else m) }) s

/-- The entry of a message by number. -/
def msgById (s : State) (i : Nat) : Option MsgEntry := s.crystal.msgs.find? (fun m => m.id == i)

/-- Bytes of a segment of a message that its receive takes (R227). -/
def takenBytes (total off len : Nat) : Nat := min (segBytes total off) (len - 4096 * off)

/-- Completion entry of a matched eager message (R220, R227, R228): AUX 1 where a tile beyond the first failure was written. -/
def msgCmpl (m : MsgEntry) (p : Posted) : Cmpl :=
  match m.failOff with
  | some fo => matchCmpl m p stPartial m.written fo (b2n (decide (fo < m.top)))
  | none => matchCmpl m p (if p.len < m.total then stTruncated else stOk) (min m.total p.len) 0 0

/-- A message whose segments have all been delivered or discarded frees its entry; its receive completes (R223). An unexpected message
keeps its entry until it is matched or discarded. -/
def settleMsg (i : Nat) (s : State) : State :=
  match msgById s i with
  | none => s
  | some m =>
    if m.done.length < segCount m.total || !m.stored.isEmpty || (m.recv.isNone && !m.discarding) then s
    else
      let s1 := modCrystal (fun c => { c with msgs := c.msgs.filter (fun e => e.id != i) }) s
      match m.recv with
      | some p => finishRecv p (msgCmpl m p) m.pick (if p.len < m.total then tally .TRUNCATED s1 else s1)
      | none => s1

/-- A segment of a message is settled. -/
def msgSegDone (i off : Nat) (s : State) : State :=
  modMsg i (fun m => { m with done := if m.done.contains off then m.done else m.done ++ [off], lastNs := s.now }) s

/-- A receive fails at a delivery: it completes with the status and the rest of its message is discarded. -/
def failRecvWith (i status aux : Nat) (s : State) : State :=
  match msgById s i with
  | some m =>
    match m.recv with
    | some p => endRecv p (matchCmpl m p status 0 0 aux)
        (modMsg i (fun m => { m with recv := none, discarding := true, stored := [], misses := [] }) s)
    | none => s
  | none => s

/-- A receive fails its local check at a delivery: it completes KEY_FAULT. -/
def failRecv (i sub : Nat) (s : State) : State := failRecvWith i stKeyFault (sub + 256) s

/-! Responses (R226, R244, R266, R267). -/

/-- A response segment with its lead. -/
def respSeg (s : State) (i x input : Nat) (op flags : Nat) (l : List Word) (rank remote len off : Nat) (w6 : Word) (data : SegData) : Seg :=
  let lead := mkLead op flags (leadSrcRoom l) (leadDestRoom l) (leadJob l) 0 0 (leadMsg l) remote len off 0 rank 0 0 w6 0
  let cells := 1 + payloadCells lead
  { opId := i, peer := x, input := input, room := leadDestRoom l, lead := lead, cells := cells,
    bytes := if cells = 1 then 0 else segBytes len off, resp := true, data := data, enq := s.now }

/-- The operation of a response. -/
def respOpSt (s : State) (x : Nat) (code : Nat) (l : List Word) (segs len : Nat) (get : Option Nat) : OpSt :=
  { kind := .response, room := leadDestRoom l, code := code, entry := [], peer := x, dest := s.nodeOf x, destRoom := leadSrcRoom l,
    msgId := leadMsg l, segs := segs, len := len, msgSet := true, getLen := get, answers := some (x, leadMsg l) }

/-- Read and offer one GET_RESP segment, or let it wait for its translation. -/
def offerResp (g : Seg) (x q h ctx addr n : Nat) (s : State) : State :=
  if n = 0 then offerSeg g s
  else
    match translate h ctx addr n false true s with
    | (.inr (hp, pages), s1) => offerSeg { g with data := .host hp pages } s1
    | (.inl ms, s1) =>
      modThresh (fun t => { t with respWait := t.respWait ++ [{ seg := g, src := x, seq := q, at_ := s.now, h := h, ctx := ctx, addr := addr, misses := ms }] }) s1

/-- The timeout of a rendezvous send runs from the first arrival of its get (R226). -/
def getArrived (x : Nat) (l : List Word) (s : State) : State :=
  if leadOp l = 0x20 ∧ leadRndv l then
    match rndvSendOf s x (leadMsg l) with
    | some i => modOp i (fun o => { o with respAt := some (o.respAt.getD (s.now + s.get .THRESH_CFG_OP_TIMEOUT_MS * 1000000)) }) s
    | none => s
  else s

/-- Serve a GET_REQ: one GET_RESP for each segment of its run (R226, R266). -/
def serveGet (x q : Nat) (l : List Word) (k : KeyEntry) (s : State) : State :=
  let rndv := leadRndv l
  let s1 := match (if rndv then rndvSendOf s x (leadMsg l) else none) with
    | some i => modOp i (fun o => if o.getLen.isNone then { o with getLen := some (leadLen l), done := [], fails := [] } else o) s
    | none => s
  let (i, s2) := newOp (respOpSt s x 0x21 l (leadImm l) (leadLen l) (if rndv then some (leadLen l) else none)) s1
  let run := (List.range (leadImm l)).map (fun j => leadOff l + j)
  let s3 := forEach run (fun off a =>
    let addr := (leadRemote l + 4096 * off) % 2 ^ 64
    let fl := at_ (b2n rndv) 3 1 + at_ (b2n (off + 1 = segCount (leadLen l))) 4 1
    offerResp (respSeg a i x 78 0x21 fl l (a.room (leadDestRoom l)).myRank addr (leadLen l) off 0 .none_) x q k.hport k.xctx addr
      (segBytes (leadLen l) off) a) s2
  completeRSeg x q s3

/-- Answer an atomic with a value. -/
def answerAtomic (x : Nat) (l : List Word) (v : Word) (s : State) : State :=
  let (i, s1) := newOp (respOpSt s x 0x3F l 1 8 none) s
  offerSeg (respSeg s1 i x 78 0x3F 16 l (s1.room (leadDestRoom l)).myRank 0 8 0 v .none_) s1

/-! Target-side completions (R199, R246). -/

/-- The lead asks for a target-side completion. -/
def wantsCmpl (l : List Word) : Bool := (leadOp l == 0x10 || isAtomic (leadOp l)) && (leadCqe l || leadHasImm l)

/-- The message has its tracker entry. -/
def tracked (s : State) (x msg : Nat) : Bool := s.thresh.tracker.any (fun t => t.src == x && t.msgId == msg)

/-- A new tracker entry. -/
def newTrack (x rid : Nat) (l : List Word) (now : Nat) : TrackEntry :=
  { src := x, msgId := leadMsg l, room := rid, lead := l, total := if isAtomic (leadOp l) then 1 else segCount (leadLen l), lastNs := now }

/-- Reserve the completion slot and tracker entry of a message, or answer its lead NOT_READY (R199, R246). -/
def reserveTarget (x q : Nat) (l : List Word) (go : State → State) (s : State) : State :=
  let rid := leadDestRoom l
  if !wantsCmpl l || tracked s x (leadMsg l) then go s
  else if (s.room rid).free = 0 then porchNotReady x q (s.get .PORCH_CFG_FULL_HINT_US) rid s
  else if 4096 ≤ s.thresh.tracker.length then event 8 .THRESH_EVENTS_TRACKER_FULL (answerNotReady x q 10 s)
  else go (modThresh (fun t => { t with tracker := t.tracker ++ [newTrack x rid l s.now] })
      (s.modRoom rid (fun r => { r with reserved := r.reserved + 1 })))

/-- A segment of a tracked message has been delivered; after the last its completion is written (R246). -/
def trackDone (x : Nat) (l : List Word) (off : Nat) (s : State) : State :=
  match s.thresh.tracker.find? (fun t => t.src == x && t.msgId == leadMsg l) with
  | none => s
  | some t =>
    let t1 := { t with done := if t.done.contains off then t.done else t.done ++ [off], lastNs := s.now }
    let rest := s.thresh.tracker.filter (fun e => !(e.src == x && e.msgId == leadMsg l))
    if t1.done.length < t.total then modThresh (fun h => { h with tracker := rest ++ [t1] }) s
    else
      complete t.room (trackCmpl t stOk (leadLen t.lead) 0 0) true false (modThresh (fun h => { h with tracker := rest }) s)

/-! Atomics (R180, R264). -/

/-- The value an atomic leaves (Table 4.6). FADD_F64 rounds to nearest even; the payload of a NaN result is a free value. -/
def atomicNew (op : Nat) (old a b : Word) (s : State) : Word × State :=
  match op with
  | 0x30 => (old + a, s)
  | 0x31 =>
    let f : Fmt := ⟨11, 52⟩
    let r := f.add old.toNat a.toNat
    if f.isNan r then
      let (v, s1) := draw s
      (wd (f.nan ||| (v % 2 ^ 51) ||| (v / 2 ^ 51 % 2) * 2 ^ 63), s1)
    else (wd r, s)
  | 0x32 => (if old = a then b else old, s)
  | 0x33 => (a, s)
  | 0x34 => (old &&& a, s)
  | 0x35 => (old ||| a, s)
  | 0x36 => (old ^^^ a, s)
  | _ => (old, s)

/-- The host executes the atomic: PCIe mode with AtomicOp completion (Table 8.1). -/
def hostDoes (s : State) (h op : Nat) : Bool :=
  !s.flag .HPORT_STAT_MODE h && s.flag .HPORT_STAT_ATOMICOP h && (op == 0x30 || op == 0x32 || op == 0x33)

/-- A range of pages overlaps 8 bytes at an address. -/
def overlaps (pages : List (Nat × Nat)) (a : Nat) : Bool := pages.any (fun p => decide (p.1 < a + 8) && decide (a < p.1 + p.2))

/-- An atomic that the Porch carries out by a read and a write is under way in a range of host memory: no other access of this device
that writes there goes between the two (R180). -/
def atomicHolds (s : State) (h : Nat) (pages : List (Nat × Nat)) : Bool :=
  s.thresh.reads.any (fun e => match e.2 with
    | .atomic h2 a _ _ _ _ host => !host && h2 == h && overlaps pages a
    | _ => false)

/-- An atomic of either kind is under way at an address. -/
def atomicAt (s : State) (h addr : Nat) : Bool :=
  s.thresh.reads.any (fun e => match e.2 with
    | .atomic h2 a _ _ _ _ _ => h2 == h && overlaps [(addr, 8)] a
    | _ => false)

/-- The atomic is in execution for another copy of its request. -/
def atomicBusy (s : State) (x msg : Nat) : Bool :=
  s.thresh.reads.any (fun e => match e.2 with
    | .atomic _ _ src _ _ l _ => src == x && leadMsg l == msg
    | _ => false)

/-- Entries of the atomic response cache that are held, those of atomics in execution among them (R264). -/
def atomicsHeld (s : State) : Nat :=
  s.thresh.atomics.length + (s.thresh.reads.filter (fun e => match e.2 with
    | .atomic .. => true
    | _ => false)).length

/-- Issue the host access of an atomic. -/
def issueAtomic (x q h addr : Nat) (l : List Word) (s : State) : State :=
  let tag := s.thresh.nextTag
  let host := hostDoes s h (leadOp l)
  let s1 := modThresh (fun t => { t with nextTag := tag + 1, reads := Tab.put t.reads tag (.atomic h addr x q (s.flow x).recv.epoch l host) }) s
  let s2 := if host then emit (.hostAtomic h addr (leadOp l) (l.getD 6 0) (l.getD 7 0) tag) s1 else emit (.hostRead h addr 8 tag) s1
  acceptRSeg x q (some (h, [(addr, 8)])) s2

/-- Prepare an access to host memory for a segment: the port's link (R456), then the translation (R269). -/
def prepAccess (x q rid h ctx a n : Nat) (go : Nat × List (Nat × Nat) → State → State) (s : State) : State :=
  if n = 0 then go (h, []) s
  else if !s.flag .HPORT_STAT_LINK_UP h then porchNotReady x q 10 rid s
  else
    match translate h ctx a n true true s with
    | (.inl ms, s1) => parkSeg x q .xlate ms s1
    | (.inr p, s1) => go p s1

/-- An atomic request that has passed its checks (R264). -/
def acceptAtomic (x q : Nat) (l : List Word) (k : KeyEntry) (s : State) : State :=
  match s.thresh.atomics.find? (fun a => a.src == x && a.msgId == leadMsg l) with
  | some a => completeRSeg x q (answerAtomic x l a.value (tally .ATOMIC_REPLAY s))
  | none =>
    if atomicBusy s x (leadMsg l) then parkSeg x q .reads [] s
    else if 8192 ≤ atomicsHeld s then
      event 8 .THRESH_EVENTS_ATOMIC_FULL (answerNotReady x q (s.get .THRESH_ACK_CFG_ATOMIC_HINT_US) s)
    else
      reserveTarget x q l (prepAccess x q (leadDestRoom l) k.hport k.xctx (leadRemote l) 8 (fun p a =>
        let addr := (p.2.headD (0, 0)).1
        let busy := if hostDoes a p.1 (leadOp l) then atomicHolds a p.1 [(addr, 8)] else atomicAt a p.1 addr
        if busy then parkSeg x q .reads [] a else issueAtomic x q p.1 addr l a)) s

/-! Segments whose cells are all here (R254). -/

/-- An operation of this device that a response segment serves still lacks its offset; one that an unpredictable outcome has hung takes
none (R12). -/
def respNeeds (s : State) (x : Nat) (l : List Word) : Option (Nat × OpSt) :=
  match requestOf s x (leadMsg l) (leadRndv l) (leadOp l == 0x3F) with
  | none => none
  | some i =>
    match s.op i with
    | none => none
    | some o =>
      let off := if leadOp l = 0x3F then 0 else leadOff l
      if (missingOf o).contains off && !o.hung then some (i, o) else none

/-- Delivery of a response counts the request's segments as acknowledged (R255). -/
def impliedAck (i : Nat) (s : State) : State :=
  match s.op i with
  | none => s
  | some o =>
    let s1 := s.modSend o.peer (fun f => { f with out := f.out.filter (fun g => g.opId != i) })
    modOp i (fun o => { o with reqAcked := true, respAt := some (o.respAt.getD (respLimit s)) }) s1

/-- Queue a delivery command (R85). -/
def queueDelivery (x q : Nat) (s : State) : State :=
  let s1 := modRSeg x q (fun g => { g with queued := true }) s
  { s1 with porch := { s1.porch with deliveries := s1.porch.deliveries ++ [.seg x q] } }

/-- A counted segment of a message: discarded, delivered to its receive, or stored (R223, R234, R239). -/
def advanceMsg (x q : Nat) (g : RSeg) (m : MsgEntry) (s : State) : State :=
  let l := g.body
  if m.discarding then settleMsg m.id (msgSegDone m.id (leadOff l) (completeRSeg x q s))
  else
    match m.recv with
    | some _ => queueDelivery x q s
    | none => modRSeg x q (fun g => { g with queued := true }) s

/-- An accepted segment goes on once all its cells are counted. -/
def advanceSeg (x q : Nat) (s : State) : State :=
  match rsegOf s x q with
  | none => s
  | some g =>
    let l := g.body
    let o := leadOp l
    if !g.accepted || !g.full || g.queued || g.st != .inProgress then s
    else if o = 1 then
      match msgOf s x (leadMsg l) with
      | some m => advanceMsg x q g m s
      | none => completeRSeg x q s
    else if o = 0x10 then queueDelivery x q s
    else if isResp o then
      match respNeeds s x l with
      | none => completeRSeg x q s
      | some (i, op) =>
        if op.kind = .zeroGet then tryFinish i (doneOff i (leadOff l) (impliedAck i (completeRSeg x q s)))
        else queueDelivery x q s
    else s

/-! The decision on a lead (R91, R212, R222). -/

/-- The room still takes the segment although it is leaving service (R239): a later segment of a discarding message, or the
response to a get that the reset issued. -/
def stillTakes (s : State) (x : Nat) (l : List Word) : Bool :=
  (leadOp l == 1 && (match msgOf s x (leadMsg l) with | some m => m.discarding | none => false))
    || (leadOp l == 0x21 && (match respNeeds s x l with | some (_, o) => o.kind == .zeroGet | none => false))

/-- Address, bytes and rights of the remote key check of a lead (Table 10.3, R266). -/
def remoteNeed (l : List Word) : Option (Nat × Nat × Nat) :=
  let o := leadOp l
  if o = 0x10 then some (leadRemote l, segBytes (leadLen l) (leadOff l), rRemote + rWrite)
  else if o = 0x20 then
    some ((leadRemote l + 4096 * leadOff l) % 2 ^ 64, min (4096 * (leadOff l + leadImm l)) (leadLen l) - 4096 * leadOff l, rRemote + rRead)
  else if isAtomic o then some (leadRemote l, 8, rRemote + rAtomic)
  else none

/-- A rendezvous get whose key check failed ends the send it serves (R226). -/
def failRndv (x : Nat) (l : List Word) (sub : Nat) (s : State) : State :=
  if leadOp l = 0x20 ∧ leadRndv l then
    match rndvSendOf s x (leadMsg l) with
    | some i =>
      match s.op i with
      | some o =>
        if o.getLen.isNone then tryFinish i (failOff i 0 stKeyFault sub s)
        else tryFinish i (forEach (List.range (leadImm l)) (fun j a => failOff i (leadOff l + j) stKeyFault sub a) s)
      | none => s
    | none => s
  else s

/-- A segment of a message already in the message table (R223, R227, R239). -/
def followMsg (x q : Nat) (l : List Word) (m : MsgEntry) (s : State) : State :=
  match m.recv with
  | none => advanceSeg x q (acceptRSeg x q none s)
  | some p =>
    let off := leadOff l
    let n := takenBytes m.total off p.len
    if m.discarding || p.pickup || decide (n = 0) then advanceSeg x q (acceptRSeg x q none s)
    else
      match lookLocal p.room p.lkey rWrite ((p.addr + 4096 * off) % 2 ^ 64) n s with
      | (.wait, s1) => parkSeg x q .reads [] s1
      | (.failed, s1) => advanceSeg x q (acceptRSeg x q none (failRecv m.id 1 s1))
      | (.found (k, sub), s1) =>
        if sub ≠ 0 then advanceSeg x q (acceptRSeg x q none (failRecv m.id sub s1))
        else prepAccess x q p.room k.hport k.xctx ((p.addr + 4096 * off) % 2 ^ 64) n
          (fun pg a => advanceSeg x q (acceptRSeg x q (some pg) a)) s1

/-- A SEND lead that passed Table 8.20 (R222, R223, R240). -/
def acceptSend (x q : Nat) (l : List Word) (s : State) : State :=
  match msgOf s x (leadMsg l) with
  | some m => followMsg x q l m s
  | none =>
    if !s.crystalOn then crystalNotReady x q s
    else
      let d := subMod (leadMsg l) (s.flow x).recv.n (2 ^ 32)
      if d = 0 then
        let s1 := modRSeg x q (fun g => { g with park := none, misses := [] }) s
        modCrystal (fun c => { c with input := c.input ++ [.arrive x q] }) s1
      else if d ≤ 1024 then parkSeg x q .order [] (tally .ORDER_HOLD s)
      else raise 6 13 0 0 (tally .STALE_SEND (dropRSeg x q s))

/-- A response segment at the requester (R249, R255, R266). -/
def acceptResp (x q : Nat) (l : List Word) (s : State) : State :=
  match respNeeds s x l with
  | none => advanceSeg x q (acceptRSeg x q none s)
  | some (i, o) =>
    let off := if leadOp l = 0x3F then 0 else leadOff l
    let n := if leadOp l = 0x3F then 8 else segBytes o.bytes off
    let pick := match o.recv with | some p => p.pickup | none => false
    if o.kind == .zeroGet || pick || decide (n = 0) then advanceSeg x q (acceptRSeg x q none s)
    else
      let (lkey, base) := match o.recv with | some p => (p.lkey, p.addr) | none => (weLkey o.entry, weAddr o.entry)
      let a := (base + 4096 * off) % 2 ^ 64
      match lookLocal o.room lkey rWrite a n s with
      | (.wait, s1) => parkSeg x q .reads [] s1
      | (.failed, s1) => advanceSeg x q (acceptRSeg x q none (tryFinish i (failOff i off stKeyFault (1 + 256) s1)))
      | (.found (k, sub), s1) =>
        if sub ≠ 0 then advanceSeg x q (acceptRSeg x q none (tryFinish i (failOff i off stKeyFault (sub + 256) s1)))
        else prepAccess x q o.room k.hport k.xctx a n (fun pg t => advanceSeg x q (acceptRSeg x q (some pg) t)) s1

/-- A lead that passed the checks of R91 and Table 8.20, orders 1 to 3, by opcode. -/
def acceptLead (x q : Nat) (l : List Word) (k : KeyEntry) (s : State) : State :=
  let o := leadOp l
  if o = 1 then acceptSend x q l s
  else if o = 0x10 then
    reserveTarget x q l (prepAccess x q (leadDestRoom l) k.hport k.xctx (leadRemote l) (segBytes (leadLen l) (leadOff l))
      (fun pg a => advanceSeg x q (acceptRSeg x q (some pg) a))) s
  else if o = 0x20 then
    (if leadLen l ≠ 0 && !s.flag .HPORT_STAT_LINK_UP k.hport then porchNotReady x q 10 (leadDestRoom l) s else serveGet x q l k s)
  else if isAtomic o then acceptAtomic x q l k s
  else acceptResp x q l s

/-- Orders 2 and 3 of Table 8.20. -/
def roomDecision (x q : Nat) (g : RSeg) (l : List Word) (k : KeyEntry) (s : State) : State :=
  let rid := leadDestRoom l
  if vestSize < vestUsed s - vestBytes g + 80 * g.cells ∨ s.get .PORCH_CFG_PARK_MAX_KIB * 1024 ≤ roomParked s rid x q then
    porchNotReady x q 10 rid s
  else if !(s.room rid).resident then startFetch rid (parkSeg x q .residency [] s)
  else acceptLead x q l k (touch rid s)

/-- Step 7 of R91, then the room's decision. -/
def keyDecision (x q : Nat) (g : RSeg) (l : List Word) (s : State) : State :=
  match remoteNeed l with
  | none => roomDecision x q g l ⟨0, 0, 0, 0⟩ s
  | some (a, n, rights) =>
    match lookKey (leadKeyIdx l) (leadKeyGen l) (leadJob l) rights a n none s with
    | (.wait, s1) => parkSeg x q .reads [] s1
    | (.failed, s1) => answerFinal x q 8 1 (failRndv x l 1 s1)
    | (.found (k, sub), s1) => if sub ≠ 0 then answerFinal x q 8 sub (failRndv x l sub s1) else roomDecision x q g l k s1

/-- A lead meets a final answer; the receive of a rendezvous get whose response meets one completes with it, as the send does (R226). -/
def refuseLead (x q code : Nat) (l : List Word) (s : State) : State :=
  let s1 := answerFinal x q code 0 s
  if leadOp l = 0x21 ∧ leadRndv l then
    match respNeeds s1 x l with
    | some (i, _) => tryFinish i (failOff i (leadOff l) (nackStatus code) 0 s1)
    | none => s1
  else s1

/-- The decision on a lead, from its first check (R91, R212). -/
def decideSeg (x q : Nat) (s : State) : State :=
  match rsegOf s x q with
  | none => s
  | some g =>
    let l := g.body
    let rid := leadDestRoom l
    if g.lead.isNone || g.st != .inProgress then s
    else if !knownOpcode (leadOp l) then refuseLead x q 2 l s
    else if !lengthsHold l g.cells then refuseLead x q 4 l s
    else if isAtomic (leadOp l) && decide (leadRemote l % 8 ≠ 0) then refuseLead x q 3 l s
    else if stillTakes s x l then
      (if leadOp l = 1 then acceptSend x q l s else acceptResp x q l s)
    else if (s.jobSlot (leadJob l)).isNone then refuseLead x q 5 l s
    else if (s.room rid).st ≠ 1 then refuseLead x q 6 l s
    else if (s.room rid).job ≠ leadJob l then refuseLead x q 7 l s
    else keyDecision x q g l (getArrived x l s)

/-- Decide again the parked segments that a test selects: flow, segment. Their rooms may have become evictable (R210). -/
def redecide (sel : Nat → RSeg → Bool) (s : State) : State :=
  let l := s.thresh.flows.flatMap (fun e => (e.2.recv.segs.filter (fun g => g.park.isSome && sel e.1 g)).map (fun g => (e.1, g.seq)))
  serveSlots (forEach l (fun e a => decideSeg e.1 e.2 (modRSeg e.1 e.2 (fun g => { g with park := none, misses := [] }) a)) s)

/-! Arrival of cells (R80, R82, R92, R253, R263, R272). -/

/-- FLOW_RESET to the source of a cell (R272, step 4). -/
def answerReset (x : Nat) (c : Cell) (s : State) : State :=
  let r := (s.flow x).recv
  let lead := c.ty == tyLead
  let s1 := s.modRecv x (fun r => { r with lastReset := some s.now })
  sendNack x c.seq r.epoch 11 0 r.fresh false 0 (if lead then leadMsg c.body else 0) (if lead then leadOff c.body else 0) s1

/-- Judge the epoch of a cell: the state, and whether the cell is processed (R92, R272). -/
def epochStep (x : Nat) (c : Cell) (s : State) : Bool × State :=
  let r := (s.flow x).recv
  if r.st = 0 then
    (false, answerReset x c (s.modRecv x (fun r => { r with st := 2, epoch := c.epoch, fresh := true })))
  else if c.epoch = (r.epoch + 1) % 4 then (true, recvReset x c.epoch s)
  else if r.st = 1 ∧ c.epoch = r.epoch then (true, s)
  else
    let s1 := event 8 .THRESH_EVENTS_STALE_EPOCH_SEEN (tally .STALE_EPOCH s)
    if r.st = 2 ∧ c.epoch = r.epoch ∧ r.lastReset.all (fun t => decide (t + rtoMin s ≤ s.now)) then (false, answerReset x c s1) else (false, s1)

/-- A duplicate is re-acknowledged (R257, R263): a lead counts for its segment. -/
def duplicate (x : Nat) (c : Cell) (s : State) : State :=
  let s1 := tally .DUP_SEG s
  if c.ty = tyLead then ackEvent x s1 else armConf x s1

/-- A further cell of a segment in reassembly (R80, R253). -/
def placeCell (x : Nat) (g : RSeg) (c : Cell) (s : State) : State :=
  let lead := c.ty == tyLead
  if c.segCells ≠ g.cells then raise 8 10 0 0 (modThresh (fun t => { t with cellMismatch := t.cellMismatch + 1 }) s)
  else if (if lead then g.lead.isSome else g.got.any (fun d => d.idx == c.idx)) then tally .DUP_CELL s
  else if !lead && decide (vestSize < vestUsed s + 80) then event 8 .THRESH_EVENTS_VEST_FULL (tally .VEST_FULL s)
  else if lead then
    decideSeg x c.seq (modRSeg x c.seq (fun g => { g with lead := some c, ce := g.ce || c.ce, msgId := leadMsg c.body }) s)
  else advanceSeg x c.seq (modRSeg x c.seq (fun g => { g with got := g.got ++ [c], ce := g.ce || c.ce }) s)

/-- A cell of the current epoch (R82, R253, R261). -/
def windowStep (x : Nat) (c : Cell) (s : State) : State :=
  let r := (s.flow x).recv
  let d := subMod c.seq r.w 65536
  if d = 0 ∨ 32768 < d then duplicate x c s
  else if 1024 < d then tally .SEQ_AHEAD s
  else
    match rsegOf s x c.seq with
    | some g =>
      match g.st with
      | .complete => duplicate x c s
      | .nacked code sub => if c.ty = tyLead then sendNack x c.seq r.epoch code sub false false 0 (leadMsg c.body) (leadOff c.body) s else s
      | _ => placeCell x g c s
    | none =>
      if c.ty = tyPayload ∧ vestSize < vestUsed s + 80 then event 8 .THRESH_EVENTS_VEST_FULL (tally .VEST_FULL s)
      else
        let g : RSeg := { seq := c.seq, cells := c.segCells, st := .inProgress, first := s.now }
        placeCell x g c (s.modRecv x (fun r => { r with segs := r.segs ++ [g] }))

/-- A LEAD or PAYLOAD cell at the Threshold. -/
def cellIn (c : Cell) (s : State) : State :=
  let x := s.idxOf c.src
  if s.hostStopped then tally .SAFE_DISCARD s
  else if s.fenced x then tally .FENCED_SRC s
  else if c.ty = tyLead ∧ c.check ≠ bodyCrc c.body then badBody s
  else
    match epochStep x c s with
    | (true, s1) => windowStep x c s1
    | (false, s1) => s1

/-- Delivery commands that wait: those of the Crystalliser, and the cells of the Threshold's target-side writes and read responses by
class (Table 1.4). -/
def crystalDeliveries (s : State) : Nat :=
  (s.porch.deliveries.filter (fun d => match d with
    | .seg x q => (rsegOf s x q).any (fun g => leadOp g.body == 1)
    | .stored _ => true)).length
def porchCells (s : State) (resp : Bool) : Nat :=
  (s.porch.deliveries.map (fun d => match d with
    | .seg x q => (match rsegOf s x q with
      | some g => if leadOp g.body ≠ 1 ∧ isResp (leadOp g.body) = resp then g.cells else 0
      | none => 0)
    | .stored _ => 0)).sum

/-- The Crystalliser-to-Porch queue, and the Threshold-to-Porch queue for a cell of a class, have credit. -/
def deliveryTakes (s : State) : Bool := hasCredit .delivery (crystalDeliveries s) 0 1 false
def porchTakes (s : State) (resp : Bool) : Bool := hasCredit .threshPorch (porchCells s false) (porchCells s true) 1 resp

/-- The Threshold takes a segment cell from the ejection queue while the queues it may feed have credit (R18, R22). -/
def cellTakes (s : State) (c : Cell) : Bool := ackQueueRoom s && crystalTakes s && porchTakes s (vcClass c.vc == 3)

/-- LEAD_ARRIVAL (R91). -/
def execLeadArrival (c : Option Cell) (s : State) : Host.Outcome State Fault Refusal :=
  match takeIf 78 (fun a => a.ty == tyLead && (c.isSome || cellTakes s a)) c s with
  | (some (_, d), s1) => .next (cellIn d s1)
  | (none, s1) => .next s1

/-- PAYLOAD_ARRIVAL (R253). -/
def execPayloadArrival (c : Option Cell) (s : State) : Host.Outcome State Fault Refusal :=
  match takeIf 78 (fun a => a.ty == tyPayload && (c.isSome || cellTakes s a)) c s with
  | (some (_, d), s1) => .next (cellIn d s1)
  | (none, s1) => .next s1

/-! Deliveries (R85, R179, R206, R228). -/

/-- Cells of a segment in index order. -/
def RSeg.sorted (g : RSeg) : List Cell := g.got.mergeSort (fun a b => decide (a.idx ≤ b.idx))

/-- A tile of a segment verifies. -/
def tileOk (cells : List Cell) (t : Nat) : Bool :=
  let cs := cells.filter (fun c => tileOf c.idx == t)
  cs.all (fun c => c.check == tileCheck (cs.map (·.body)))

/-- The data bytes of a segment: its payload cells, or the words of its descriptor. -/
def segData (g : RSeg) : List Nat :=
  let l := g.body
  if leadOp l = 0x3F then wordsBytes [l.getD 6 0]
  else if g.cells = 1 then wordsBytes [l.getD 6 0, l.getD 7 0]
  else wordsBytes (g.sorted.flatMap (fun c => padWords 8 c.body))

/-- Tiles of a segment of payload. -/
def tilesOf (g : RSeg) : List Nat := List.range (ceilDiv (g.cells - 1) 4)

/-- Write the verified tiles of a segment, its first `n` bytes at most. -/
def writeTiles (g : RSeg) (n : Nat) (s : State) : State :=
  match g.access with
  | none => s
  | some (h, pages) =>
    if g.cells = 1 then writeHost h pages (segData g) 0 n s
    else
      let cs := g.sorted
      forEach (tilesOf g) (fun t a => if tileOk cs t then writeHost h pages (segData g) (256 * t) (min n (256 * (t + 1))) a else a) s

/-- Every tile of a segment verifies. -/
def tilesGood (g : RSeg) : Bool := (tilesOf g).all (tileOk g.sorted)

/-- The tiles of a segment that fail at delivery are counted against its peer flow (R85). -/
def noteTiles (x : Nat) (g : RSeg) (s : State) : State :=
  s.modRecv x (fun r => { r with tileFails := r.tileFails + ((tilesOf g).filter (fun t => !tileOk g.sorted t)).length })

/-- The effect of a delivered segment besides its writes (Table 10.4). -/
def deliverEffect (x : Nat) (g : RSeg) (s : State) : State :=
  let l := g.body
  let o := leadOp l
  if o = 0x10 then trackDone x l (leadOff l) s
  else if o = 1 then
    match msgOf s x (leadMsg l) with
    | some m =>
      match m.recv with
      | some p =>
        let n := takenBytes m.total (leadOff l) p.len
        settleMsg m.id (modMsg m.id (fun e => { e with
            written := e.written + n, top := if n = 0 then e.top else max e.top (4096 * leadOff l + n),
            pick := if p.pickup then layBytes e.pick (4096 * leadOff l) ((segData g).take n) else e.pick })
          (msgSegDone m.id (leadOff l) s))
      | none => settleMsg m.id (msgSegDone m.id (leadOff l) s)
    | none => s
  else
    match respNeeds s x l with
    | none => s
    | some (i, op) =>
      let off := if o = 0x3F then 0 else leadOff l
      let pick := match op.recv with | some p => p.pickup | none => false
      tryFinish i (doneOff i off (impliedAck i (if pick then modOp i (fun e => { e with
        pick := layBytes e.pick (4096 * off) ((segData g).take (segBytes op.bytes off)) }) s else s)))

/-- Bytes of a segment that reach memory. -/
def deliverBytes (s : State) (x : Nat) (g : RSeg) : Nat :=
  let l := g.body
  if leadOp l = 1 then
    match msgOf s x (leadMsg l) with
    | some m => (match m.recv with | some p => takenBytes m.total (leadOff l) p.len | none => 0)
    | none => 0
  else if leadOp l = 0x3F then 8
  else if leadInline l then min 16 (leadLen l)
  else segBytes (leadLen l) (leadOff l)

/-- The key that a segment's writes are checked against at delivery: none where it writes no memory (R249, R250). -/
def deliverKey (s : State) (x : Nat) (g : RSeg) : Option (Look (KeyEntry × Nat) × State) :=
  let l := g.body
  if g.access.isNone then none
  else if leadOp l = 0x10 then
    some (lookKey (leadKeyIdx l) (leadKeyGen l) (leadJob l) (rRemote + rWrite) (leadRemote l) (segBytes (leadLen l) (leadOff l)) none s)
  else if leadOp l = 1 then
    match msgOf s x (leadMsg l) with
    | some m => m.recv.map (fun p => lookLocal p.room p.lkey rWrite ((p.addr + 4096 * leadOff l) % 2 ^ 64) (takenBytes m.total (leadOff l) p.len) s)
    | none => none
  else
    (respNeeds s x l).map (fun e =>
      let off := if leadOp l = 0x3F then 0 else leadOff l
      let (lkey, base) := match e.2.recv with | some p => (p.lkey, p.addr) | none => (weLkey e.2.entry, weAddr e.2.entry)
      lookLocal e.2.room lkey rWrite ((base + 4096 * off) % 2 ^ 64) (if leadOp l = 0x3F then 8 else segBytes e.2.bytes off) s)

/-- A delivery whose key check fails: a PUT is answered KEY_FAULT, a receive or request of this device completes with it. -/
def failDelivery (x q sub : Nat) (g : RSeg) (s : State) : State :=
  let l := g.body
  if leadOp l = 0x10 then answerFinal x q 8 sub s
  else if leadOp l = 1 then
    match msgOf s x (leadMsg l) with
    | some m => settleMsg m.id (msgSegDone m.id (leadOff l) (completeRSeg x q (failRecv m.id sub s)))
    | none => completeRSeg x q s
  else
    match respNeeds s x l with
    | some (i, _) => completeRSeg x q (tryFinish i (failOff i (if leadOp l = 0x3F then 0 else leadOff l) stKeyFault (sub + 256) s))
    | none => completeRSeg x q s

/-- Write a segment and carry out its effect; a tile that fails leaves the segment unacknowledged (R85). It waits for an atomic that the
Porch carries out in its range (R180). -/
def writeSeg (x q : Nat) (g : RSeg) (s : State) : State :=
  let n := deliverBytes s x g
  let up := match g.access with
    | some (h, pages) => pages.isEmpty || s.flag .HPORT_STAT_LINK_UP h
    | none => true
  if !up then porchNotReady x q 10 (leadDestRoom g.body) s
  else if g.access.any (fun a => atomicHolds s a.1 a.2) then { s with porch := { s.porch with deliveries := .seg x q :: s.porch.deliveries } }
  else
    let s1 := writeTiles g n s
    if tilesGood g then completeRSeg x q (deliverEffect x g s1) else dropRSeg x q (noteTiles x g s1)

/-- Take a segment's delivery command; a response that is no longer wanted is acknowledged and not written (R255). -/
def deliverSeg (x q : Nat) (s : State) : State :=
  match rsegOf s x q with
  | none => s
  | some g =>
    if !g.queued || g.st != .inProgress then s
    else if isResp (leadOp g.body) && (respNeeds s x g.body).isNone then completeRSeg x q s
    else if leadOp g.body == 1 && (match msgOf s x (leadMsg g.body) with | some m => m.discarding | none => true) then
      match msgOf s x (leadMsg g.body) with
      | some m => settleMsg m.id (msgSegDone m.id (leadOff g.body) (completeRSeg x q s))
      | none => completeRSeg x q s
    else
      match deliverKey s x g with
      | none => writeSeg x q g s
      | some (.wait, s1) => { s1 with porch := { s1.porch with deliveries := .seg x q :: s1.porch.deliveries } }
      | some (.failed, s1) => failDelivery x q 1 g s1
      | some (.found (_, sub), s1) => if sub ≠ 0 then failDelivery x q sub g s1 else writeSeg x q g s1

/-- The words of a tile of a stored segment. -/
def StoredSeg.tile (g : StoredSeg) (t : Nat) : List Word := (g.words.drop (32 * t)).take 32

/-- A stored tile verifies by the check beside it as the Cellar reads it (Table 4.7). -/
def StoredSeg.tileOk (g : StoredSeg) (t : Nat) : Bool :=
  let ws := g.tile t
  g.checks.isEmpty || g.checks.getD t 0 == tileCheck (chunks8 ws (ceilDiv ws.length 8))

/-- A DDR5 error that waits for a read of the store meets one of the tiles read, and no later read (Table 14.3, DDR_UE): which tile is a
free value. -/
def hitTile (g : StoredSeg) (tiles : Nat) (s : State) : Option Nat × State :=
  if s.crystal.ueNext && !g.checks.isEmpty && decide (0 < tiles) then
    let (v, s1) := draw (modCrystal (fun c => { c with ueNext := false }) s)
    (some (v % tiles), s1)
  else (none, s)

/-- One tile of a stored segment is delivered, or not written where it fails (R228). -/
def writeStoredTile (i : Nat) (p : Posted) (g : StoredSeg) (n h : Nat) (pages : List (Nat × Nat)) (hit : Option Nat) (t : Nat) (s : State) : State :=
  let lo := 256 * t
  let hi := min n (lo + 256)
  let at1 := 4096 * g.off + lo
  if hit == some t || !g.tileOk t then
    modMsg i (fun e => { e with failOff := some (match e.failOff with | some f => min f at1 | none => at1) })
      (event 6 .CRYSTAL_EVENTS_STORE_READ_FAIL (cellarTileFault s))
  else
    modMsg i (fun e => { e with
      written := e.written + (hi - lo), top := max e.top (at1 + (hi - lo)),
      pick := if p.pickup then layBytes e.pick at1 (((wordsBytes g.words).drop lo).take (hi - lo)) else e.pick })
      (if p.pickup then s else writeHost h pages (wordsBytes g.words) lo hi s)

/-- One stored segment of an unexpected message is delivered to its receive, tile by tile: delivery continues with later tiles (R228). -/
def writeStored (i : Nat) (m : MsgEntry) (p : Posted) (g : StoredSeg) (h : Nat) (pages : List (Nat × Nat)) (s : State) : State :=
  let n := takenBytes m.total g.off p.len
  let tiles := ceilDiv n 256
  let (hit, s1) := hitTile g tiles s
  modMsg i (fun e => { e with stored := e.stored.drop 1 })
    (forEach (List.range tiles) (writeStoredTile i p g n h pages hit) s1)

/-- Deliver the stored segments of a matched message, one at a command (R228, R234). -/
def deliverStored (i : Nat) (s : State) : State :=
  match msgById s i with
  | none => s
  | some m =>
    match m.recv, m.stored with
    | some p, g :: _ =>
      let n := takenBytes m.total g.off p.len
      let again := fun (a : State) => { a with porch := { a.porch with deliveries := a.porch.deliveries ++ [.stored i] } }
      let a := (p.addr + 4096 * g.off) % 2 ^ 64
      if p.pickup || decide (n = 0) then settleMsg i (again (writeStored i m p g 0 [] s))
      else
        match lookLocal p.room p.lkey rWrite a n s with
        | (.wait, s1) => again s1
        | (.failed, s1) => settleMsg i (failRecv i 1 s1)
        | (.found (k, sub), s1) =>
          if sub ≠ 0 then settleMsg i (failRecv i sub s1)
          else if !s1.flag .HPORT_STAT_LINK_UP k.hport then again s1
          else
            match translate k.hport k.xctx a n true true s1 with
            | (.inl ms, s2) => modMsg i (fun e => { e with misses := ms }) s2
            | (.inr (h, pages), s2) =>
              if atomicHolds s2 h pages then again s2 else settleMsg i (again (writeStored i m p g h pages s2))
    | _, _ => settleMsg i s

/-- PORCH_DELIVERY (R85): the delivery command at the head of the queue. Nothing is delivered at L3 (R355). -/
def execPorchDelivery (s : State) : Host.Outcome State Fault Refusal :=
  match s.porch.deliveries with
  | [] => .next s
  | d :: rest =>
    if s.hostStopped then .next s
    else
      let s1 := { s with porch := { s.porch with deliveries := rest } }
      match d with
      | .seg x q => .next (deliverSeg x q s1)
      | .stored i => .next (deliverStored i s1)

/-! Budgets and timeouts (R253, R267, R269). -/

/-- The park budget of a segment has run out. -/
def parkOver (s : State) (t : Nat) : Bool := decide (t + s.get .THRESH_CFG_PARK_BUDGET_US * 1000 ≤ s.now)

/-- Response segments of a request whose reads have waited for a translation beyond the budget are reported (R267). -/
def expireResp (x q : Nat) (s : State) : State :=
  let (dead, live) := s.thresh.respWait.partition (fun w => w.src == x && w.seq == q && parkOver s w.at_)
  forEach dead (fun w a =>
    dropResponse w.seg.opId (event 8 .THRESH_EVENTS_PARK_EXPIRED (sendNack x q (a.flow x).recv.epoch 1 0 false true (a.get .THRESH_CFG_PAGE_HINT_US)
      (leadMsg w.seg.lead) (leadOff w.seg.lead) a))) (modThresh (fun t => { t with respWait := live }) s)

/-- PARK_BUDGET_EXPIRY (R269, Table 10.9). -/
def execParkBudgetExpiry (x q : Nat) (s : State) : Host.Outcome State Fault Refusal :=
  let s1 := expireResp x q s
  match rsegOf s1 x q with
  | some g =>
    if g.parkAt.any (fun t => parkOver s1 t) then
      let s2 := event 8 .THRESH_EVENTS_PARK_EXPIRED s1
      match g.park with
      | some .residency => .next (serveSlots (porchNotReady x q 10 (leadDestRoom g.body) s2))
      | some .order => .next (serveSlots (event 6 .CRYSTAL_EVENTS_HOLD_EXPIRED (crystalNotReady x q s2)))
      | some .xlate => .next (serveSlots (answerNotReady x q (s2.get .THRESH_CFG_PAGE_HINT_US) s2))
      | _ => .next s1
    else .next s1
  | none => .next s1

/-- ORPHAN_TIMEOUT (R253). -/
def execOrphanTimeout (x q : Nat) (s : State) : Host.Outcome State Fault Refusal :=
  match rsegOf s x q with
  | some g =>
    if g.lead.isNone && g.st == .inProgress && decide (g.first + s.get .THRESH_ACK_CFG_ORPHAN_US * 1000 ≤ s.now) then
      .next (event 8 .THRESH_EVENTS_ORPHAN_SEEN (tally .ORPHAN_DISCARD (dropRSeg x q s)))
    else .next s
  | none => .next s

/-! Returns of the Cellar and of an atomic's access (R89, R180). -/

/-- CELLAR_READ_DONE (R89): the entry reaches its cache, and what waited on it goes on. -/
def execCellarReadDone (failed : Bool) (s : State) : Host.Outcome State Fault Refusal :=
  match s.thresh.cellarWait with
  | [] => .next s
  | r :: rest =>
    let s1 := modThresh (fun t => { t with cellarWait := rest }) s
    let s2 := if failed then cellarTileFault (modThresh (fun t => { t with cellarFailed := some r }) s1) else fillCache r s1
    .next (redecide (fun _ g => g.park == some .reads) s2)

/-- An atomic's host access has answered: the value, its cache entry, the response and the effects of Table 10.4. A failed
read leaves the request to its retransmission; a write that needs a port whose link has gone down is not carried out, and the request is
answered NOT_READY (R456). -/
def atomicDone (h addr x q ep : Nat) (l : List Word) (host : Bool) (res : HostRead) (s : State) : State :=
  let wake := redecide (fun _ g => g.park == some .reads)
  let mine := (s.flow x).recv.epoch == ep
  match (if !host && !s.flag .HPORT_STAT_LINK_UP h then HostRead.error else res) with
  | .data ws =>
    let old := ws.headD 0
    let (new, s1) := atomicNew (leadOp l) old (l.getD 6 0) (l.getD 7 0) s
    let s2 := if host then s1 else emit (.hostBytes h addr (wordsBytes [new])) s1
    let hold := max (s.get .THRESH_ACK_CFG_ATOMIC_HOLD_US * 1000) (2 * rtoMax s)
    let s3 := modThresh (fun t => { t with atomics := t.atomics ++ [{ src := x, msgId := leadMsg l, value := old, at_ := s.now, hold := hold }] }) s2
    let s4 := trackDone x l 0 (answerAtomic x l old s3)
    wake (if mine then completeRSeg x q s4 else s4)
  | _ =>
    wake (if !mine then s else if !s.flag .HPORT_STAT_LINK_UP h then porchNotReady x q 10 (leadDestRoom l) s else dropRSeg x q s)

end Sys2Proof.Machine
end

