-- ==== Sys2Proof/Machine/Crystal.lean ====
section
/-! DEFINITION. The Crystalliser: matching of messages and posted receives, spill and refill, the unexpected store, rendezvous
gets and cancellation (R218 to R243). -/
namespace Sys2Proof.Machine

/-! Partitions (R229, R231, Table 9.4). -/

/-- The words of a partition in the plan. -/
def partWords (s : State) (p : Nat) : Nat × Nat := s.plan.crystal.getD p (0, 0)
def partPosted (s : State) (p : Nat) : Nat := bits (partWords s p).1 0 19
def partUnexp (s : State) (p : Nat) : Nat := bits (partWords s p).1 32 19
def partBins (s : State) (p : Nat) : Nat := bits (partWords s p).2 0 5
def partSpill (s : State) (p : Nat) : Nat := bits (partWords s p).2 16 16 * 16384
def partTiles (s : State) (p : Nat) : Nat := bits (partWords s p).2 32 16 * 4096

/-- Entries on chip and spilled of each side of a partition. -/
def postedOn (s : State) (p : Nat) : Nat := (s.crystal.posted.filter (fun e => e.part == p && !e.spilled)).length
def postedSpilled (s : State) (p : Nat) : Nat := (s.crystal.posted.filter (fun e => e.part == p && e.spilled)).length
def unexpOn (s : State) (p : Nat) : Nat := (s.crystal.unexp.filter (fun e => e.part == p && !e.spilled)).length
def unexpSpilled (s : State) (p : Nat) : Nat := (s.crystal.unexp.filter (fun e => e.part == p && e.spilled)).length

/-- Tiles of the store reserved or held by a partition's messages. -/
def tilesUsed (s : State) (p : Nat) : Nat :=
  ((s.crystal.unexp.filter (fun e => e.part == p)).map (·.tiles)).sum
    + ((s.crystal.msgs.filter (fun m => (m.recv.map (·.part)) == some p)).map (fun m => (m.stored.map (fun e => e.checks.length)).sum)).sum

/-- A new entry of a side goes to the spill (R231). -/
def postSpills (s : State) (p : Nat) : Bool := decide (0 < postedSpilled s p) || decide (partPosted s p ≤ postedOn s p)
def unexpSpills (s : State) (p : Nat) : Bool := decide (0 < unexpSpilled s p) || decide (partUnexp s p ≤ unexpOn s p)

/-- The spill of a partition holds no further entry. -/
def spillFull (s : State) (p : Nat) : Bool := decide (partSpill s p ≤ postedSpilled s p + unexpSpilled s p)

/-! Eligibility and lookups (R218, R219, R230, R232). -/

/-- A message and a receive are eligible (R218). -/
def eligible (room ctx rank tag : Nat) (p : Posted) : Bool :=
  p.room == room && p.ctx == ctx && (p.rank == 0xFFFFFF || p.rank == rank) && (p.anyTag || p.tag == tag)

/-- The eligible receive of lowest post stamp among those a test selects. -/
def bestPosted (sel : Posted → Bool) (room ctx rank tag : Nat) (s : State) : Option Posted :=
  (s.crystal.posted.filter (fun p => sel p && eligible room ctx rank tag p)).foldl (fun b p =>
    match b with
    | some q => if p.stamp < q.stamp then some p else some q
    | none => some p) none

/-- The eligible unexpected message of lowest arrival stamp among those a test selects. -/
def bestUnexp (sel : Unexp → Bool) (p : Posted) (s : State) : Option Unexp :=
  (s.crystal.unexp.filter (fun u => sel u && eligible u.room u.ctx u.rank u.tag p)).foldl (fun b u =>
    match b with
    | some q => if u.stamp < q.stamp then some u else some q
    | none => some u) none

/-- Bin of a key (R229): RANK in 3 bytes, TAG in 4 where the key has one. -/
def binOf (s : State) (part room ctx rank : Nat) (tag : Option Nat) : Nat :=
  crc32c (leBytes 2 room ++ leBytes 2 ctx ++ leBytes 3 rank ++ (match tag with | some t => leBytes 4 t | none => [])) % 2 ^ partBins s part

/-- Entries a pass compares: those before the first eligible one, and that one. -/
def walked {α : Type} (l : List α) (ok : α → Bool) : Nat := match l.findIdx? ok with
  | some i => i + 1
  | none => l.length

/-- Entries compared by the passes of an arriving message (R230). -/
def walkPosted (s : State) (room ctx rank tag : Nat) (spilled : Bool) : Nat :=
  let r := s.room room
  let l := (s.crystal.posted.filter (fun p => p.spilled == spilled)).mergeSort (fun a b => decide (a.stamp ≤ b.stamp))
  let ok := eligible room ctx rank tag
  let full := fun (p : Posted) => p.rank != 0xFFFFFF && !p.anyTag
  let bin := l.filter (fun p => p.part == r.part && full p && binOf s p.part p.room p.ctx p.rank (some p.tag) == binOf s r.part room ctx rank (some tag))
  let second := if r.order = 1 then
      l.filter (fun p => p.part == r.part && (s.room p.room).order == 1 && !full p && binOf s p.part p.room p.ctx p.rank none == binOf s r.part room ctx rank none)
    else l.filter (fun p => p.room == room && !full p)
  walked bin ok + walked second ok

/-- Entries compared by the pass of a posted receive (R230). -/
def walkUnexp (s : State) (p : Posted) (spilled : Bool) : Nat :=
  let l := (s.crystal.unexp.filter (fun u => u.spilled == spilled)).mergeSort (fun a b => decide (a.stamp ≤ b.stamp))
  let ok := fun (u : Unexp) => eligible u.room u.ctx u.rank u.tag p
  if p.rank = 0xFFFFFF then walked (l.filter (fun u => u.room == p.room && u.ctx == p.ctx)) ok
  else if p.anyTag then
    walked (l.filter (fun u => u.part == p.part && binOf s u.part u.room u.ctx u.rank none == binOf s p.part p.room p.ctx p.rank none)) ok
  else walked (l.filter (fun u => u.part == p.part && binOf s u.part u.room u.ctx u.rank (some u.tag) == binOf s p.part p.room p.ctx p.rank (some p.tag))) ok

/-- Spilled entries of a room and side (R232). -/
def roomSpilledPosted (s : State) (r : Nat) : Bool := s.crystal.posted.any (fun p => p.room == r && p.spilled)
def roomSpilledUnexp (s : State) (r : Nat) : Bool := s.crystal.unexp.any (fun u => u.room == r && u.spilled)

/-! Rendezvous gets (R225, R237). -/

/-- The rendezvous get queue and its spill are full. -/
def rndvFull (s : State) : Bool := decide (4096 + Config.rndvSpill (s.plan.cellar.getD 5 (0, 0)).2 ≤ s.crystal.gets.length)

/-- Queue the get of an announcement for a receive, or of zero bytes for a room that leaves service (R225, R239). A spill that finds its
region full raises a fault at L1 (R22), and the get waits. -/
def pushGet (room src : Nat) (l : List Word) (recv : Option Posted) (s : State) : State :=
  let len := match recv with | some p => min (leadLen l) p.len | none => 0
  let g : RndvGet := { room := room, dest := s.nodeOf src, destRoom := leadSrcRoom l, keyIdx := leadKeyIdx l, keyGen := leadKeyGen l,
                       remote := leadRemote l, msgId := leadMsg l, len := len, recv := recv, rank := leadRank l, ctx := leadCtx l,
                       tag := leadTag l, imm := if leadHasImm l then some (leadImm l) else none, total := leadLen l }
  if rndvFull s then raise 6 12 0 0 (modCrystal (fun c => { c with owed := c.owed ++ [g] }) s)
  else modCrystal (fun c => { c with gets := c.gets ++ [g] }) s

/-- What the operation of a rendezvous get keeps of its message. -/
def getEntry (g : RndvGet) : List Word :=
  [wd (at_ g.total 0 32 + at_ g.tag 32 32), wd (at_ (g.imm.getD 0) 0 32 + at_ (b2n g.imm.isSome) 32 1), wd (at_ g.rank 0 24 + at_ g.ctx 24 16)]

/-- Send a rendezvous get as a GET_REQ (R225); one toward a fenced node fails (R275). -/
def issueGet (g : RndvGet) (s : State) : State :=
  let x := s.idxOf g.dest
  let kind := if g.recv.isSome then OpKind.rndvGet else .zeroGet
  let r := s.room g.room
  let lead := mkLead 0x20 24 g.destRoom g.room r.job g.keyIdx g.keyGen g.msgId g.remote g.len 0 0 r.myRank 0 (segCount g.len) 0 0
  let (i, s1) := newOp { kind := kind, room := g.room, code := 0x20, entry := getEntry g, peer := x, dest := g.dest, destRoom := g.destRoom,
                         msgId := g.msgId, segs := segCount g.len, len := g.len, msgSet := true, recv := g.recv } s
  if s.fenced x then tryFinish i (forEach (List.range (segCount g.len)) (fun k a => failOff i k stFenced 1 a) s1)
  else offerSeg { opId := i, peer := x, input := 76, room := g.room, lead := lead, cells := 1, bytes := 0, resp := false, data := .none_, enq := s.now } s1

/-- RENDEZVOUS_GET_ISSUE (R225); the get waits for a credit of the Threshold-to-Sluice queue (R18). -/
def execRendezvousGetIssue (s : State) : Host.Outcome State Fault Refusal :=
  match s.crystal.gets with
  | [] => .next s
  | g :: rest =>
    if s.hostStopped || segWaits (s.idxOf g.dest) false s then .next s
    else .next (issueGet g (modCrystal (fun c => { c with gets := rest ++ c.owed.take 1, owed := c.owed.drop 1 }) s))

/-! The input of the Crystalliser (R233). -/

/-- Room of an operation; an arrival whose segment is gone has none. -/
def opRoom (s : State) (o : CrOp) : Option Nat :=
  match o with
  | .arrive x q => (rsegOf s x q).map (fun g => leadDestRoom g.body)
  | .post p => some p.room
  | .cancel r _ => some r
  | .remove r _ => some r

/-- The first operation of a room at the input, taken if a test selects it and no lookup holds the room. -/
def takeOp (r : Nat) (sel : CrOp → Bool) (s : State) : Option (CrOp × State) :=
  let live := s.crystal.input.filter (fun o => (opRoom s o).isSome)
  if s.crystal.holding.any (fun h => h.1 == r) then none
  else
    match live.findIdx? (fun o => opRoom s o == some r) with
    | none => none
    | some i =>
      match live[i]? with
      | some o => if sel o then some (o, modCrystal (fun c => { c with input := live.eraseIdx i }) s) else none
      | none => none

/-- A lookup goes to the spill: the room is held until the read returns (R233). -/
def holdRoom (r : Nat) (o : CrOp) (s : State) : State :=
  tally .SPILL_LOOKUP (modCrystal (fun c => { c with holding := c.holding ++ [(r, o)] }) s)

/-! Arrival (R222, R223, R232 to R237). -/

/-- Held leads of a flow that N has reached, or whose message has entered, in MSG_ID order (R222). -/
def reexamine (x : Nat) (s : State) : State :=
  let n := (s.flow x).recv.n
  let held := ((s.flow x).recv.segs.filter (fun g => g.park == some .order)).mergeSort (fun a b => decide (subMod a.msgId n (2 ^ 32) ≤ subMod b.msgId n (2 ^ 32)))
  forEach held (fun g a =>
    if subMod g.msgId (a.flow x).recv.n (2 ^ 32) = 0 || (msgOf a x g.msgId).isSome then
      decideSeg x g.seq (modRSeg x g.seq (fun g => { g with park := none }) a) else a) s

/-- The message enters matching: N advances (R222). -/
def enterMatch (x : Nat) (s : State) : State := s.modRecv x (fun r => { r with n := (r.n + 1) % 2 ^ 32 })

/-- A removal of the room still waits behind the operation (R233): the operation reached the input while the room was in service. -/
def removalWaits (s : State) (r : Nat) : Bool := s.crystal.input.any (fun o => match o with
  | .remove x _ => x == r
  | _ => false)

/-- A new message entry, with its number. -/
def newMsg (x : Nat) (l : List Word) (recv : Option Posted) (done : List Nat) (s : State) : MsgEntry × State :=
  let m : MsgEntry := { id := s.crystal.nextId, src := x, msgId := leadMsg l, room := leadDestRoom l, total := leadLen l, recv := recv,
                        done := done, lastNs := s.now, lead := l }
  (m, modCrystal (fun c => { c with msgs := c.msgs ++ [m], nextId := c.nextId + 1 }) s)

/-- An arriving message takes a receive (R219, R225). -/
def takeReceive (x q : Nat) (l : List Word) (p : Posted) (s : State) : State :=
  let s1 := enterMatch x (tally .MATCH_ON_ARRIVAL (modCrystal (fun c => { c with posted := c.posted.filter (fun e => e != p) }) s))
  if leadRndv l then
    let s2 := if p.len < leadLen l then tally .TRUNCATED s1 else s1
    completeRSeg x q (pushGet p.room x l (some p) s2)
  else
    let (m, s2) := newMsg x l (some p) [] s1
    followMsg x q l m s2

/-- Tiles a message needs in the store (R234). -/
def tilesNeeded (l : List Word) : Nat := if leadRndv l || leadInline l then 0 else ceilDiv (leadLen l) 256

/-- Keep a message as unexpected (R219, R231, R234). An announcement has nothing to deliver, and its entry ends as it is kept
(log 57). -/
def keepUnexp (x q : Nat) (l : List Word) (s : State) : State :=
  let r := s.room (leadDestRoom l)
  let spills := unexpSpills s r.part
  let st := Tab.get s.crystal.arrStamp r.part 0 + 1
  let small := !leadRndv l && tilesNeeded l == 0
  let (m, s1) := newMsg x l none (if small then [leadOff l] else []) s
  let u : Unexp := { id := m.id, room := leadDestRoom l, part := r.part, ctx := leadCtx l, rank := leadRank l, tag := leadTag l, src := x,
                     msgId := leadMsg l, lead := l, rndv := leadRndv l, stamp := st, spilled := spills, tiles := tilesNeeded l,
                     stored := if small then [{ off := 0, words := [l.getD 6 0, l.getD 7 0] }] else [] }
  let s2 := modCrystal (fun c => { c with
    unexp := c.unexp ++ [u], arrStamp := Tab.set c.arrStamp r.part st 0,
    msgs := if leadRndv l then c.msgs.filter (fun e => e.id != m.id) else c.msgs }) s1
  let s3 := enterMatch x (tally .UNEXP_ADD (if spills then tally .SPILL_ADD s2 else s2))
  if tilesNeeded l ≠ 0 then advanceSeg x q (acceptRSeg x q none s3) else completeRSeg x q s3

/-- No receive is eligible: exhaustion (R235), or the message is kept. -/
def noReceive (x q : Nat) (l : List Word) (s : State) : State :=
  let part := (s.room (leadDestRoom l)).part
  if tilesNeeded l ≠ 0 ∧ partTiles s part < tilesUsed s part + tilesNeeded l then crystalNotReady x q (event 6 .CRYSTAL_EVENTS_STORE_FULL s)
  else if unexpSpills s part && spillFull s part then
    crystalNotReady x q (event 6 .CRYSTAL_EVENTS_UNEXP_FULL (raise 6 12 0 0 s))
  else keepUnexp x q l s

/-- A released message at matching; `all` after its spill has been read. -/
def arriveOp (x q : Nat) (all : Bool) (s : State) : State :=
  match rsegOf s x q with
  | none => s
  | some g =>
    let l := g.body
    let r := leadDestRoom l
    match msgOf s x (leadMsg l) with
    | some m => followMsg x q l m s
    | none =>
      if ((s.room r).st ≠ 1 && !removalWaits s r) || subMod (leadMsg l) (s.flow x).recv.n (2 ^ 32) ≠ 0 then decideSeg x q s
      else if 32768 ≤ s.crystal.msgs.length then crystalNotReady x q (event 6 .CRYSTAL_EVENTS_MSG_TABLE_FULL s)
      else if leadRndv l && rndvFull s then crystalNotReady x q (event 6 .CRYSTAL_EVENTS_RNDV_REFUSED (raise 6 12 0 0 s))
      else
        let s1 := tallyN .ENTRIES_WALKED (walkPosted s r (leadCtx l) (leadRank l) (leadTag l) all) s
        match bestPosted (fun p => all || !p.spilled) r (leadCtx l) (leadRank l) (leadTag l) s1 with
        | some p => reexamine x (takeReceive x q l p s1)
        | none =>
          if !all && roomSpilledPosted s1 r then holdRoom r (.arrive x q) s1
          else reexamine x (noReceive x q l s1)

/-! Posting (R232, R236, R237). -/

/-- Segments of a message that are here are judged again: its message has met its receive (R234). -/
def feedMsg (src msg : Nat) (s : State) : State :=
  let l := (s.flow src).recv.segs.filter (fun g => g.accepted && g.st == .inProgress && leadOp g.body == 1 && leadMsg g.body == msg)
  forEach l (fun g a => decideSeg src g.seq (modRSeg src g.seq (fun e => { e with accepted := false, queued := false }) a)) s

/-- A receive takes an unexpected message (R219, R225, R228, R234). -/
def takeMessage (p : Posted) (u : Unexp) (s : State) : State :=
  let s1 := tally .MATCH_ON_POST (modCrystal (fun c => { c with unexp := c.unexp.filter (fun e => e.id != u.id) }) s)
  if u.rndv then
    let s2 := if p.len < leadLen u.lead then tally .TRUNCATED s1 else s1
    pushGet p.room u.src u.lead (some p) s2
  else
    let s2 := modMsg u.id (fun m => { m with recv := some p, stored := u.stored }) s1
    let s3 := { s2 with porch := { s2.porch with deliveries := s2.porch.deliveries ++ [.stored u.id] } }
    feedMsg u.src u.msgId s3

/-- A receive that is not posted completes with a status. -/
def refuseRecv (p : Posted) (status : Nat) (s : State) : State := endRecv p (recvCmpl p status p.rank p.ctx 0 none 0 0 0) s

/-- Keep a receive as posted (R219, R231), or refuse it (R236). -/
def keepPosted (p : Posted) (s : State) : State :=
  let spills := postSpills s p.part
  if spills && spillFull s p.part then
    refuseRecv p stNotReady (event 6 .CRYSTAL_EVENTS_POST_FULL (raise 6 14 0 0 (tally .POST_FULL s)))
  else
    let st := Tab.get s.crystal.postStamp p.part 0 + 1
    let s1 := modCrystal (fun c => { c with posted := c.posted ++ [{ p with stamp := st, spilled := spills }],
                                            postStamp := Tab.set c.postStamp p.part st 0 }) s
    if spills then tally .SPILL_ADD s1 else s1

/-- A receive at matching; `all` after its spill has been read. -/
def postOp (p : Posted) (all : Bool) (s : State) : State :=
  if (s.room p.room).st ≠ 1 && !removalWaits s p.room then endRecv p (recvCmpl p stNotReady p.rank p.ctx 0 none 0 0 0) s
  else
    let s1 := tallyN .ENTRIES_WALKED (walkUnexp s p all) s
    match bestUnexp (fun u => all || !u.spilled) p s1 with
    | some u => if u.rndv && rndvFull s1 then refuseRecv p stNotReady (event 6 .CRYSTAL_EVENTS_RNDV_REFUSED (raise 6 12 0 0 s1)) else takeMessage p u s1
    | none => if !all && roomSpilledUnexp s1 p.room then holdRoom p.room (.post p) s1 else keepPosted p s1

/-! Cancellation (R238). -/

/-- The posted receive of a room with a cookie and the lowest stamp, among those a test selects. -/
def cancelTarget (s : State) (r cookie : Nat) (sel : Posted → Bool) : Option Posted :=
  (s.crystal.posted.filter (fun p => sel p && p.room == r && p.cookie == cookie)).foldl (fun b p =>
    match b with
    | some q => if p.stamp < q.stamp then some p else some q
    | none => some p) none

/-- A CANCEL at the Crystalliser; `all` after its spill has been read. -/
def cancelOp (r : Nat) (e : List Word) (all : Bool) (s : State) : State :=
  match cancelTarget s r (wf_ e 6 0 32) (fun p => all || !p.spilled) with
  | some p =>
    let s1 := modCrystal (fun c => { c with posted := c.posted.filter (fun q => q != p) }) (tally .CANCEL_HIT s)
    completeWork r e { statusOf e stOk 0 with len := 1 } (refuseRecv p stCancelled s1)
  | none =>
    if !all && roomSpilledPosted s r then holdRoom r (.cancel r e) s
    else completeWork r e (statusOf e stOk 0) (tally .CANCEL_MISS s)

/-! Rooms leaving service (R239). -/

/-- Unexpected messages of a room are removed, and its message entries are marked discarding. -/
def leaveService (r : Nat) (s : State) : State :=
  let gone := s.crystal.unexp.filter (fun u => u.room == r)
  let s1 := modCrystal (fun c => { c with
    unexp := c.unexp.filter (fun u => u.room != r),
    msgs := c.msgs.map (fun m => if m.room = r then { m with recv := none, discarding := true, stored := [] } else m) }) s
  let s2 := forEach (gone.filter (·.rndv)) (fun u a => pushGet r u.src u.lead none a) s1
  let ms := s2.crystal.msgs.filter (fun m => m.room == r)
  forEach ms (fun m a => settleMsg m.id (feedMsg m.src m.msgId a)) s2

/-- The posted receives of a room are removed with no completion (R215). -/
def dropPosted (r : Nat) (s : State) : State := modCrystal (fun c => { c with posted := c.posted.filter (fun p => p.room != r) }) s

/-- A removal that has come to the head of a room's operations is carried out (R233). -/
def drainRemoval (r : Nat) (s : State) : State :=
  match takeOp r (fun o => match o with | .remove _ _ => true | _ => false) s with
  | some (.remove _ posted, s1) => leaveService r (if posted then dropPosted r s1 else s1)
  | _ => s

/-- Every removal that has come to the head of a room's operations is carried out (R233). -/
def drainRemovals (r : Nat) (s : State) : State := forEach s.crystal.input (fun _ a => drainRemoval r a) s

/-- A room leaves service: its removal takes its place behind the operations of the room that reached the input before it (R233). -/
def askRemoval (r : Nat) (posted : Bool) (s : State) : State :=
  drainRemovals r (modCrystal (fun c => { c with input := c.input ++ [.remove r posted] }) s)

/-! The commands (R232, R233, R238). -/

/-- MATCH_ARRIVAL (R232). -/
def execMatchArrival (r : Nat) (s : State) : Host.Outcome State Fault Refusal :=
  match (if deliveryTakes s then takeOp r (fun o => match o with | .arrive _ _ => true | _ => false) s else none) with
  | some (.arrive x q, s1) => .next (drainRemovals r (arriveOp x q false s1))
  | _ => .next s

/-- MATCH_POST (R232). -/
def execMatchPost (r : Nat) (s : State) : Host.Outcome State Fault Refusal :=
  match (if deliveryTakes s then takeOp r (fun o => match o with | .post _ => true | _ => false) s else none) with
  | some (.post p, s1) => .next (drainRemovals r (postOp p false s1))
  | _ => .next s

/-- RECV_CANCEL (R238). -/
def execRecvCancel (r : Nat) (s : State) : Host.Outcome State Fault Refusal :=
  match takeOp r (fun o => match o with | .cancel _ _ => true | _ => false) s with
  | some (.cancel _ e, s1) => .next (drainRemovals r (cancelOp r e false s1))
  | _ => .next s

/-- A tile of a spill that fails as the Cellar reads it is not used: it is read again (Table 4.7; log 58). -/
def spillTileFails (s : State) : State := cellarTileFault (modCrystal (fun c => { c with ueNext := false }) s)

/-- SPILL_READ_DONE (R232): the lookup that holds a room finishes. -/
def execSpillReadDone (r : Nat) (s : State) : Host.Outcome State Fault Refusal :=
  match s.crystal.holding.find? (fun h => h.1 == r) with
  | none => .next s
  | some h =>
    let s1 := modCrystal (fun c => { c with holding := c.holding.filter (fun e => e.1 != r) }) s
    if s.crystal.ueNext then .next (spillTileFails s) else
    .next (drainRemovals r (match h.2 with
      | .arrive x q => arriveOp x q true s1
      | .post p => postOp p true s1
      | .cancel _ e => cancelOp r e true s1
      | .remove _ _ => s1))

/-! Refill, store and discarding entries (R231, R234, R239). -/

/-- The entry of lowest stamp moves from the spill to the chip (R231). -/
def refillMove (f : CrystalSt → CrystalSt) (s : State) : State :=
  if s.crystal.ueNext then spillTileFails s else tally .REFILL (modCrystal f s)

/-- REFILL (R231): side 0 posted receives, side 1 unexpected headers. -/
def execRefill (part side : Nat) (s : State) : Host.Outcome State Fault Refusal :=
  if side = 0 then
    match (s.crystal.posted.filter (fun p => p.part == part && p.spilled)).mergeSort (fun a b => decide (a.stamp ≤ b.stamp)) with
    | p :: _ =>
      if postedOn s part < partPosted s part then
        .next (refillMove (fun c => { c with posted := c.posted.map (fun e => if e = p then { e with spilled := false } else e) }) s)
      else .next s
    | [] => .next s
  else
    match (s.crystal.unexp.filter (fun u => u.part == part && u.spilled)).mergeSort (fun a b => decide (a.stamp ≤ b.stamp)) with
    | u :: _ =>
      if unexpOn s part < partUnexp s part then
        .next (refillMove (fun c => { c with unexp := c.unexp.map (fun e => if e.id = u.id then { e with spilled := false } else e) }) s)
      else .next s
    | [] => .next s

/-- Data words of a segment's cells. -/
def segWords (g : RSeg) : List Word := g.sorted.flatMap (fun c => padWords 8 c.body)

/-- A segment as the store keeps it: the check that its cells carried stands beside each tile (R84). -/
def storedSeg (g : RSeg) : StoredSeg :=
  { off := leadOff g.body, words := segWords g,
    checks := (tilesOf g).map (fun t => ((g.sorted.filter (fun c => tileOf c.idx == t)).map (·.check)).headD 0) }

/-- Change the unexpected message of a message entry. -/
def modUnexp (i : Nat) (f : Unexp → Unexp) (s : State) : State :=
  modCrystal (fun c => { c with unexp := c.unexp.map (fun u => if u.id = i then f u else u) }) s

/-- A read-back fails: the tiles of the segment are freed until it is sent again (R234). -/
def freeTiles (g : RSeg) (u : Unexp) : Unexp :=
  if u.freed.contains (leadOff g.body) then u
  else { u with freed := leadOff g.body :: u.freed, tiles := u.tiles - (tilesOf g).length }

/-- A segment is stored; one that is sent again takes its tiles again (log 58). -/
def storeTiles (g : RSeg) (u : Unexp) : Unexp :=
  let again := u.freed.contains (leadOff g.body)
  { u with stored := u.stored ++ [storedSeg g], freed := u.freed.filter (· != leadOff g.body),
           tiles := if again then u.tiles + (tilesOf g).length else u.tiles }

/-- STORE_READBACK_DONE (R234). -/
def execStoreReadbackDone (x q : Nat) (bad : List Nat) (s : State) : Host.Outcome State Fault Refusal :=
  match rsegOf s x q with
  | none => .next s
  | some g =>
    match msgOf s x (leadMsg g.body) with
    | some m =>
      if !g.queued || leadOp g.body != 1 || m.recv.isSome || m.discarding || g.st != .inProgress then .next s
      else if !tilesGood g || bad.any (fun t => (tilesOf g).contains t) then
        .next (event 6 .CRYSTAL_EVENTS_VERIFY_BACK_FAIL (tally .VERIFY_BACK_FAIL (cellarTileFault
          (dropRSeg x q (modUnexp m.id (freeTiles g) s)))))
      else .next (settleMsg m.id (msgSegDone m.id (leadOff g.body) (completeRSeg x q (modUnexp m.id (storeTiles g) s))))
    | none => .next s

/-- DISCARDING_ENTRY_EXPIRY (R239). -/
def execDiscardingEntryExpiry (src msg : Nat) (s : State) : Host.Outcome State Fault Refusal :=
  let life := 2 * s.get .THRESH_CFG_OP_TIMEOUT_MS * 1000000
  .next (modCrystal (fun c => { c with msgs := c.msgs.filter (fun m =>
    !(m.src == src && m.msgId == msg && m.discarding && decide (m.lastNs + life ≤ s.now))) }) s)

end Sys2Proof.Machine
end

