-- ==== Sys2Proof/Machine/Service.lean ====
section
/-! DEFINITION. Rooms entering and leaving service: the fetched context, DEACTIVATE and RESET (R185, R211, R213, R215, R239). -/
namespace Sys2Proof.Machine

/-! The fetched context (R211, R213). -/

/-- Segments parked for the residency of a room are decided again. -/
def wakeRoom (r : Nat) (s : State) : State :=
  answerStalled r (redecide (fun _ g => g.park == some .residency && leadDestRoom g.body == r) s)

/-- The room is resident: the command that asked for it, parked leads and stalled reads proceed. -/
def fetched (r : Nat) (ws : List Word) (s : State) : State :=
  let s1 := s.modRoom r (fun q => { loadCtx q ws with resident := true, fetching := false, dirty := false, lastUse := s.now })
  let s2 := match s1.porch.cmdRoom with
    | some (x, cmd) => if x = r ∧ cmd = 1 then activateNow r s1 else if x = r ∧ cmd = 4 then endCmd 0 s1 else s1
    | none => s1
  wakeRoom r s2

/-- A context that cannot be used (R213): the room enters ERROR, and a command that waited ends with BAD_CTX. -/
def fetchFailed (r cause : Nat) (s : State) : State :=
  let s1 := s.modRoom r (fun q => { q with fetching := false })
  let s2 := match s1.porch.cmdRoom with
    | some (x, _) => if x = r then endCmd 4 s1 else s1
    | none => s1
  serveSlots (wakeRoom r (roomError r cause s2))

/-- CONTEXT_FETCH_DONE (R211): a failed CTX_CRC is cause 1, a failed read cause 2. -/
def execContextFetchDone (r : Nat) (res : HostRead) (s : State) : Host.Outcome State Fault Refusal :=
  if !(s.room r).fetching then .next s
  else
    match res with
    | .data ws => .next (if ctxCrcOk ws then fetched r ws s else fetchFailed r 1 s)
    | _ => .next (fetchFailed r 2 s)

/-! DEACTIVATE (Table 8.4). -/

/-- The room has nothing that DEACTIVATE forbids. -/
def roomIdle (s : State) (r : Nat) : Bool :=
  let q := s.room r
  q.outstanding == 0 && !s.crystal.posted.any (fun p => p.room == r) && q.grant == 0 && q.heldLb == 0 && q.openPkt.isEmpty
    && q.closed.isEmpty && q.pickups.isEmpty && (parkedOf s r).isEmpty

/-- DEACTIVATE. -/
def deactivateCmd (r : Nat) (s : State) : State :=
  let st := (s.room r).st
  if st = 0 then endCmd 0 s
  else if st ≠ 1 then endCmd 1 s
  else if roomIdle s r then endCmd 0 (askRemoval r false (s.modRoom r (fun q => { q with st := 0, armed := false })))
  else endCmd 1 s

/-- ROOM_DEACTIVATE (R185). -/
def execRoomDeactivate (m : Master) (r : Nat) (s : State) : Host.Outcome State Fault Refusal :=
  .next (guarded m .ROOM_CMD_CMD 0 (beginCmd r 2 (deactivateCmd r)) s)

/-! RESET (Table 8.21). -/

/-- Step 2: Letterbox and Pickup space is freed, that of entries in flight too, and pending knocks dropped. -/
def freeSpace (r : Nat) (s : State) : State :=
  let q := s.room r
  let s1 := s.setRoom r { q with st := 3, err := 0, armed := false, knocks := 0, stopped := false, rescanAt := none, grant := 0, heldLb := 0,
                                 openPkt := [], dropping := false, closed := [], pickups := [], pickUsed := 0, reading := none }
  { s1 with porch := { s1.porch with lbUsed := s1.porch.lbUsed - q.grant - q.heldLb, pickUsed := s1.porch.pickUsed - q.pickUsed } }

/-- A segment of the reset room in reassembly is judged again: its room is no longer defined. -/
def rejudge (r : Nat) (s : State) : State :=
  redecide (fun _ g => leadDestRoom g.body == r) s

/-- RESET, steps 2 and 3. -/
def resetCmd (r : Nat) (s : State) : State :=
  rejudge r (askRemoval r true (freeSpace r s))

/-- ROOM_RESET (R215). -/
def execRoomReset (m : Master) (r : Nat) (s : State) : Host.Outcome State Fault Refusal :=
  .next (guarded m .ROOM_CMD_CMD 0 (beginCmd r 3 (resetCmd r)) s)

/-- An operation that waits at the Crystalliser is the room's own: a receive, a CANCEL or its removal. -/
def atCrystal (r : Nat) (o : CrOp) : Bool :=
  match o with
  | .arrive _ _ => false
  | .post p => p.room == r
  | .cancel x _ => x == r
  | .remove x _ => x == r

/-- An operation of the room at the source still runs (step 4), or its removal is not done (step 3). -/
def roomBusy (s : State) (r : Nat) : Bool :=
  s.thresh.ops.any (fun e => e.2.room == r && e.2.kind != .response) || s.porch.fetchQ.any (fun i => i.room == r)
    || s.porch.stalled.any (fun i => i.room == r) || s.rake.colls.any (fun i => i.room == r) || s.rake.dels.any (fun d => d.room == r)
    || s.rake.trees.any (fun t => t.2.host.any (fun h => h.1 == r)) || s.crystal.gets.any (fun g => g.room == r)
    || s.crystal.owed.any (fun g => g.room == r) || s.crystal.input.any (fun o => atCrystal r o) || s.crystal.holding.any (fun h => atCrystal r h.2)

/-- Step 5: words 5 to 30 are cleared and the room is INACTIVE. -/
def finishReset (r : Nat) (s : State) : State :=
  let s1 := s.modRoom r (fun q => { q with st := 0, err := 0, consumed := 0, written := 0, events := 0, reserved := 0, outstanding := 0,
                                           head := 0, order := 0, part := 0, dirty := q.resident })
  let s2 := if (s1.room r).resident then s1 else writeBox r s1
  if s2.porch.cmdRoom = some (r, 3) then endCmd 0 s2 else s2

/-- ROOM_RESET_COMPLETE (R215). -/
def execRoomResetComplete (r : Nat) (s : State) : Host.Outcome State Fault Refusal :=
  if (s.room r).st = 3 then
    let s1 := drainRemovals r s
    .next (if roomBusy s1 r then s1 else finishReset r s1)
  else .next s

end Sys2Proof.Machine
end

