-- ==== Sys2Proof/Machine/Xlate.lean ====
section
/-! DEFINITION. Address translation as Hearth and the driver serve it: misses, walk reads, page requests, the translation buffer
and invalidation (R278 to R292). -/
namespace Sys2Proof.Machine

/-! Misses (R284 to R286). -/

/-- A miss an access waits on. -/
abbrev MissName := Nat × Nat × Nat

/-- The table of the port still holds the miss. -/
def missHeld (s : State) (m : MissName) : Bool := (s.missOf m.1).any (fun e => e.2.ctx == m.2.1 && e.2.page == m.2.2)

/-- A waiting access looks up again: a miss it waits on is in no table, resolved or never entered. -/
def missGone (s : State) (ms : List MissName) : Bool := ms.any (fun m => !missHeld s m)

/-- The read of a response segment looks its translation up again; its budget runs on. -/
def retryResp (w : RespWait) (s : State) : State :=
  match translate w.h w.ctx w.addr w.seg.bytes false true s with
  | (.inr (hp, pages), s1) => offerSeg { w.seg with data := .host hp pages } s1
  | (.inl ms, s1) => modThresh (fun t => { t with respWait := t.respWait ++ [{ w with misses := ms }] }) s1

/-- The delivery of a stored message goes on. -/
def resumeStored (m : MsgEntry) (s : State) : State :=
  let s1 := modMsg m.id (fun e => { e with misses := [] }) s
  { s1 with porch := { s1.porch with deliveries := s1.porch.deliveries ++ [.stored m.id] } }

/-- Every waiting access whose miss is gone looks up again (R284). -/
def wakeMisses (s : State) : State :=
  let resp := s.thresh.respWait.partition (fun w => missGone s w.misses)
  let msgs := s.crystal.msgs.filter (fun m => missGone s m.misses)
  let s1 := resumeStalled (fun it => missGone s it.misses) s
  let s2 := redecide (fun _ g => g.park == some .xlate && missGone s g.misses) s1
  let s3 := forEach resp.1 retryResp (modThresh (fun t => { t with respWait := resp.2 }) s2)
  forEach msgs resumeStored s3

/-- Take a miss entry out of its table. -/
def removeMiss (h id : Nat) (s : State) : State :=
  modThresh (fun t => { t with missOrder := t.missOrder.filter (· != (h, id)) }) (setMisses h (Tab.del (s.missOf h) id) s)

/-- A segment that waited on a failed miss (R269, R270, R286): a response fails its operation, a receive's segment its receive,
and a request-class segment is answered with the final NACK of the same name. -/
def failParked (st x : Nat) (g : RSeg) (s : State) : State :=
  let l := g.body
  if isResp (leadOp l) then
    match respNeeds s x l with
    | some (i, _) => advanceSeg x g.seq (acceptRSeg x g.seq none (tryFinish i (failOff i (if leadOp l = 0x3F then 0 else leadOff l) st 0 s)))
    | none => advanceSeg x g.seq (acceptRSeg x g.seq none s)
  else
    let s1 := answerFinal x g.seq (if st = stWalkFault then 9 else 10) 0 s
    if leadOp l = 1 then
      match msgOf s1 x (leadMsg l) with
      | some m => settleMsg m.id (msgSegDone m.id (leadOff l) (failRecvWith m.id st 0 s1))
      | none => s1
    else s1

/-- The responder's answer for a response segment whose read met the fault (R267). -/
def failResp (st : Nat) (w : RespWait) (s : State) : State :=
  dropResponse w.seg.opId (sendNack w.src w.seq (s.flow w.src).recv.epoch (if st = stWalkFault then 9 else 10) 0 false true 0
    (leadMsg w.seg.lead) (leadOff w.seg.lead) s)

/-- Fail every access that waits on a miss (R286). -/
def failWaiters (st : Nat) (n : MissName) (s : State) : State :=
  let dead := s.porch.stalled.partition (fun it => it.misses.contains n)
  let segs := s.thresh.flows.flatMap (fun e =>
    (e.2.recv.segs.filter (fun g => g.park == some .xlate && g.misses.contains n)).map (fun g => (e.1, g)))
  let resp := s.thresh.respWait.partition (fun w => w.misses.contains n)
  let msgs := s.crystal.msgs.filter (fun m => m.misses.contains n)
  let s1 := forEach dead.1 (failStalled st) { s with porch := { s.porch with stalled := dead.2 } }
  let s2 := forEach segs (fun e a => failParked st e.1 e.2 a) s1
  let s3 := forEach resp.1 (failResp st) (modThresh (fun t => { t with respWait := resp.2 }) s2)
  forEach msgs (fun m a => settleMsg m.id (failRecvWith m.id st 0 a)) s3

/-- A miss ends in WALK_FAULT or WALK_DEVICE. -/
def failMiss (dev : Bool) (h id : Nat) (s : State) : State :=
  match Tab.find? (s.missOf h) id with
  | none => s
  | some m =>
    let s1 := removeMiss h id s
    let s2 := if dev then tally .WALK_DEVICE s1 h
      else event 8 .XLATE_EVENTS_WALK_FAULT_SEEN (tally .WALK_FAULT s1 h)
    wakeMisses (failWaiters (if dev then stWalkDevice else stWalkFault) (h, m.ctx, m.page) s2)

/-- A miss that an install covers, or that RETRY ends: its accesses look up again. -/
def resolveMiss (h id : Nat) (s : State) : State := wakeMisses (removeMiss h id s)

/-! Walks (R282, R283, R285). -/

/-- The place a walk reads next: the context table entry of its context, or the entry of its table that the page selects, by address
bits [12 + 9L - 1 : 12 + 9(L - 1)] at level L (R282, R283). WALK_REQ takes 52 bits. -/
def walkAddr (s : State) (w : MissWalk) : Nat :=
  (if w.level = 5 then s.get .XCTX_BASE_BASE w.h * 4096 + 16 * w.ctx
    else w.table + 8 * (w.page / 2 ^ (9 * (w.level - 1)) % 512)) % 2 ^ 52

/-- ROOT of a context table entry, or ADDR of a page-table entry: bits 51:12 (R282, Table 11.2). -/
def walkBase (e : Nat) : Nat := bits e 12 40 * 4096

/-- What a context table entry gives (R282, R283). -/
def judgeContext (log2 ctx e : Nat) : WalkNext :=
  if 2 ^ log2 ≤ ctx ∨ !e.testBit 0 then .fault else .table (walkBase e)

/-- What the page-table entry read at a level gives (Table 11.2, R283), in the order of R285: PRESENT is bit 0, LEAF bit 1, WRITE
bit 2; a leaf at level 3, 2 or 1 maps a page of 1 GiB, 2 MiB or 4 KiB. -/
def judgeEntry (level : Nat) (write : Bool) (e : Nat) : WalkNext :=
  if !e.testBit 0 || (write && e.testBit 1 && !e.testBit 2) then .absent
  else if e.testBit 1 then
    if level = 4 ∨ bits e 12 40 % 2 ^ (9 * (level - 1)) ≠ 0 then .fault else .page (level - 1) (e.testBit 2) (bits e 12 40)
  else if level = 1 then .fault
  else .table (walkBase e)

/-- A walk takes what its read gave: it goes down a level, or has come to its end. -/
def walkOn (v : WalkNext) (w : MissWalk) : MissWalk :=
  match v with
  | .table t => { w with asked := false, level := w.level - 1, root := if w.level = 5 then t else w.root, table := t }
  | v => { w with asked := false, ending := some v }

/-- Housekeeper `hk`'s own walk: the oldest miss it popped and has not ended. -/
def State.walkOf (s : State) (hk : Nat) : Option MissWalk := s.thresh.walking.find? (fun w => w.hk == hk)

/-- Change the walk of a Housekeeper. -/
def modWalk (hk : Nat) (f : MissWalk → MissWalk) (s : State) : State :=
  match s.walkOf hk with
  | none => s
  | some w => modThresh (fun t => { t with walking := t.walking.map (fun x => if x = w then f x else x) }) s

/-- The walk of a miss is over. -/
def endWalk (h id : Nat) (s : State) : State :=
  modThresh (fun t => { t with walking := t.walking.filter (fun w => w.h != h || w.id != id) }) s

/-- An INSTALL found the miss stale: its walk starts again from the level-4 read (R285, R288), or from the context entry where an
invalidation has removed Hearth's copy of it (R289). -/
def restartWalk (h id : Nat) (s : State) : State :=
  modThresh (fun t => { t with walking := t.walking.map (fun w =>
    if w.h = h ∧ w.id = id then { w with level := if w.root = 0 then 5 else 4, table := w.root, asked := false, ending := none } else w) }) s

/-- A walk read of Housekeeper `hk` ended with a word, or in FAULT: its walk, if it asked and was not abandoned meanwhile, takes it (R283,
R285). -/
def takeWalkRead (hk : Nat) (e : Option Nat) (s : State) : State :=
  match s.walkOf hk with
  | none => s
  | some w =>
    if !w.asked then s
    else if w.abandoned then modWalk hk (fun w => { w with asked := false, abandoned := false }) s
    else modWalk hk (walkOn (match e with
      | none => .fault
      | some e => if w.level = 5 then judgeContext (s.get .XCTX_BASE_LOG2 w.h) w.ctx e else judgeEntry w.level w.write e)) s

/-- Pop the oldest queued miss for Housekeeper `hk`, which walks it (R285). -/
def popMiss (hk : Nat) (s : State) : State :=
  match s.thresh.missOrder with
  | [] => s.set .MISS_POP_VALID 0 hk
  | (h, id) :: rest =>
    let s1 := modThresh (fun t => { t with missOrder := rest }) s
    match Tab.find? (s1.missOf h) id with
    | none => s1.set .MISS_POP_VALID 0 hk
    | some m =>
      let s2 := setMisses h (Tab.put (s1.missOf h) id { m with queued := false }) s1
      let s3 := (((s2.set .MISS_POP_VALID 1 hk).set .MISS_POP_ID id hk).set .MISS_POP_HPORT h hk).set .MISS_POP_WRITE (b2n m.write) hk
      let s4 := ((s3.set .MISS_POP_TARGET (b2n m.target) hk).set .MISS_POP_CTX m.ctx hk).set .MISS_VA_VPAGE m.page hk
      modThresh (fun t => { t with walking := t.walking.filter (fun w => w.h != h || w.id != id) ++
        [{ hk := hk, h := h, id := id, ctx := m.ctx, page := m.page, write := m.write,
           ending := if 2 ^ 36 ≤ m.page then some .fault else none }] }) s4

/-- The word a read of MISS_POP answers (Table 11.8): zero, beyond VALID, where nothing was popped. -/
def missWord (hk : Nat) (s : State) : Word :=
  if s.flag .MISS_POP_VALID hk then
    wd (1 + at_ (s.get .MISS_POP_ID hk) 1 6 + at_ (s.get .MISS_POP_HPORT hk) 7 2 + at_ (s.get .MISS_POP_WRITE hk) 9 1
      + at_ (s.get .MISS_POP_TARGET hk) 10 1 + at_ (s.get .MISS_POP_CTX hk) 12 20)
  else 0

/-- MISS_POP: a Secure read; a lesser master reads zero and pops nothing (Table 11.8). -/
def execMissPop (m : Master) (hk : Nat) (s : State) : Host.Outcome State Fault Refusal :=
  if !reaches s m then .next s
  else if mayRead (privOf m) .MISS_POP_VALID then
    let s1 := popMiss hk s
    .next (emit (.reg m (missWord hk s1)) s1)
  else .next (emit (.reg m 0) (refusePriv m (regAddr .MISS_POP hk) false s))

/-- A MISS_DONE names a miss: its stale mark is cleared (R288). -/
def clearStale (h id : Nat) (s : State) : State :=
  setMisses h (Tab.modify (s.missOf h) id (fun m => { m with stale := false })) s

/-- The fields of a MISS_DONE write, which ends the walk of the miss it names. -/
def noteMissDone (h id status : Nat) (s : State) : State :=
  endWalk h id <| clearStale h id (((s.set .MISS_DONE_ID id).set .MISS_DONE_HPORT h).set .MISS_DONE_STATUS status)

/-- MISS_DONE with WALK_FAULT (R286). -/
def execMissDoneWalkFault (m : Master) (h id : Nat) (s : State) : Host.Outcome State Fault Refusal :=
  .next (guarded m .MISS_DONE_ID 0 (fun a => failMiss false h id (noteMissDone h id 1 a)) s)

/-- MISS_DONE with WALK_DEVICE (R286). -/
def execMissDoneWalkDevice (m : Master) (h id : Nat) (s : State) : Host.Outcome State Fault Refusal :=
  .next (guarded m .MISS_DONE_ID 0 (fun a => failMiss true h id (noteMissDone h id 2 a)) s)

/-- MISS_DONE with RETRY: waiting accesses look up again. -/
def execMissDoneRetry (m : Master) (h id : Nat) (s : State) : Host.Outcome State Fault Refusal :=
  .next (guarded m .MISS_DONE_ID 0 (fun a => resolveMiss h id (noteMissDone h id 4 a)) s)

/-! Page requests (R287). -/

/-- The page request ring of a port is full. -/
def prqFull (s : State) (h : Nat) : Bool :=
  decide (2 ^ s.get .PRQ_BASE_LOG2 h ≤ subMod (Tab.get s.thresh.prqTail h 0) (s.get .PRQ_CTRL_HEAD h) (2 ^ 32))

/-- Write one page request and raise its vector. -/
def writePrq (h ctx page : Nat) (write : Bool) (s : State) : State :=
  let n := Tab.get s.thresh.prqTail h 0
  let size := 2 ^ s.get .PRQ_BASE_LOG2 h
  let addr := s.get .PRQ_BASE_BASE h * 4096 + 32 * (n % size)
  let ws := [wd (b2n write + at_ page 12 36), wd (at_ ctx 0 20 + at_ (phaseOf n size) 63 1), 0, 0]
  let s1 := modThresh (fun t => { t with prqTail := Tab.set t.prqTail h ((n + 1) % 2 ^ 32) 0 }) s
  tally .PAGE_REQUEST (sendMsix h (s.get .PRQ_CTRL_VEC h) (emit (.hostWrite h addr ws) s1)) h

/-- Write a page request, or hold it while the ring is full. -/
def askPage (h ctx page : Nat) (write : Bool) (s : State) : State :=
  if prqFull s h then
    event 8 .XLATE_EVENTS_PRQ_FULL (modThresh (fun t => { t with prqHeld := t.prqHeld ++ [(h, ctx, page, write)] }) s)
  else writePrq h ctx page write s

/-- Held page requests are written as space frees. -/
def flushPrq (h : Nat) (s : State) : State :=
  let mine := s.thresh.prqHeld.partition (fun e => e.1 == h)
  let s0 := modThresh (fun t => { t with prqHeld := mine.2 }) s
  forEach mine.1 (fun e a => askPage e.1 e.2.1 e.2.2.1 e.2.2.2 a) s0

/-- A not-present page: the request, and the miss waits for its answer. -/
def notPresent (h id : Nat) (s : State) : State :=
  match Tab.find? (s.missOf h) id with
  | none => s
  | some m =>
    if !s.flag .PRQ_CTRL_ENABLE h then failMiss false h id s
    else askPage h m.ctx m.page m.write (setMisses h (Tab.put (s.missOf h) id { m with lastReq := some s.now }) s)

/-- MISS_DONE with NOT_PRESENT after the page request (R287). -/
def execMissDoneNotPresent (m : Master) (h id : Nat) (s : State) : Host.Outcome State Fault Refusal :=
  .next (guarded m .MISS_DONE_ID 0 (fun a => notPresent h id (noteMissDone h id 3 a)) s)

/-! Walk reads (R286). -/

/-- The address lies in an enabled walkable window of the port. -/
def inWindow (s : State) (h a : Nat) : Bool :=
  (List.range 8).any (fun w =>
    let i := 8 * h + w
    s.flag .WALK_WIN_BASE_ENABLE i && decide (s.get .WALK_WIN_BASE_BASE i * 4096 ≤ a)
      && decide (a ≤ s.get .WALK_WIN_LIMIT_LIMIT i * 4096 + 0xFFF))

/-- Tag under which a Housekeeper's walk read is issued. -/
def walkTag (hk : Nat) : Nat := 2 ^ 40 + hk

/-- The read is the one that Housekeeper `hk`'s walk makes next. -/
def walkAsks (s : State) (hk h a : Nat) : Bool := (s.walkOf hk).any (fun w => w.h == h && w.ending.isNone && walkAddr s w == a)

/-- The stalled reads of WALK_DATA that a test selects return a word, or its half (R286). -/
def answerWalk (p : WalkStall → Bool) (w : Word) (s : State) : State :=
  forEach (s.thresh.walkStall.filter p) (fun x a => answerStall x.m (512 + x.hk) (if x.low && x.high then w else halfOf x.high w) a)
    (modThresh (fun t => { t with walkStall := t.walkStall.filter (fun x => !p x) }) s)

/-- The read of a Housekeeper has ended: its stalled reads of WALK_DATA return what WALK_DATA holds. -/
def walkEnded (hk : Nat) (s : State) : State := answerWalk (fun x => x.hk == hk) (wd (s.get .WALK_DATA_DATA hk)) s

/-- WALK_REQ: one 8-byte read inside a window; outside it is refused, and reads DEVICE at once (R286, Table 11.10). -/
def walkRead (hk h addr : Nat) (s0 : State) : State :=
  let a := addr / 8 * 8
  let mine := walkAsks s0 hk h a
  let s := modWalk hk (fun w => if mine && !inWindow s0 h a then walkOn .device w else { w with asked := mine, abandoned := false }) s0
  let s1 := (s.set .WALK_REQ_HPORT h hk).set .WALK_REQ_ADDR (addr / 8) hk
  if inWindow s h a then
    emit (.hostRead h a 8 (walkTag hk)) (tally .WALK_READ
      (modThresh (fun t => { t with walks := Tab.put t.walks hk h }) (s1.set .WALK_STAT_STATUS 3 hk)) h)
  else walkEnded hk (event 8 .XLATE_EVENTS_WALK_DEVICE_SEEN
    (modThresh (fun t => { t with walks := Tab.del t.walks hk }) (s1.set .WALK_STAT_STATUS 2 hk)))

/-- WALK_REQ (R286). -/
def execWalkReq (m : Master) (hk h addr : Nat) (s : State) : Host.Outcome State Fault Refusal :=
  .next (guarded m .WALK_REQ_ADDR hk (walkRead hk h addr) s)

/-- WALK_READ_DONE (R282, R283, R286). -/
def execWalkReadDone (hk : Nat) (res : HostRead) (s : State) : Host.Outcome State Fault Refusal :=
  if (Tab.find? s.thresh.walks hk).isNone then .next s
  else
    let s1 := modThresh (fun t => { t with walks := Tab.del t.walks hk }) s
    match res with
    | .data ws => .next (takeWalkRead hk (some (wn ws 0)) (walkEnded hk ((s1.set .WALK_DATA_DATA (wn ws 0) hk).set .WALK_STAT_STATUS 0 hk)))
    | _ => .next (takeWalkRead hk none (walkEnded hk (s1.set .WALK_STAT_STATUS 1 hk)))

/-! The translation buffer (R280, R281, R288). -/

/-- First page and pages of an entry. -/
def atbPages (e : AtbEntry) : Nat × Nat := (e.vpage / 2 ^ (9 * e.size) * 2 ^ (9 * e.size), 2 ^ (9 * e.size))

/-- Two runs of pages overlap. -/
def runsMeet (a b : Nat × Nat) : Bool := decide (a.1 < b.1 + b.2) && decide (b.1 < a.1 + a.2)

/-- Remove the entries of a port that a test selects: how many. -/
def atbRemove (h : Nat) (p : AtbEntry → Bool) (s : State) : Nat × State :=
  let l := s.atbOf h
  ((l.filter (fun e => p e.2)).length, modThresh (fun t => { t with atb := Tab.set t.atb h (l.filter (fun e => !p e.2)) [] }) s)

/-- Result, slot and removals of an ATB command. -/
def atbResult (result : Nat) (removed : Nat) (s : State) : State :=
  ((s.set .ATB_CMD_STAT_RESULT result).set .ATB_CMD_STAT_REMOVED removed).set .ATB_CMD_STAT_BUSY 0

/-- The slot of an install: the lowest invalid entry, else a random one (R281). -/
def atbSlot (h : Nat) (s : State) : Nat × State :=
  match (List.range 1024).find? (fun i => (Tab.find? (s.atbOf h) i).isNone) with
  | some i => (i, s)
  | none =>
    let (v, s1) := draw s
    (v % 1024, s1)

/-- The entry that ATB_DATA describes. -/
def atbNew (s : State) : AtbEntry :=
  { size := s.get .ATB_DATA0_SIZE, write := s.flag .ATB_DATA0_WRITE, vpage := s.get .ATB_DATA0_VPAGE, bpage := s.get .ATB_DATA1_BPAGE,
    ctx := s.get .ATB_DATA2_CTX }

/-- Misses that an entry covers. -/
def coveredBy (s : State) (h : Nat) (e : AtbEntry) : List Nat :=
  ((s.missOf h).filter (fun m => m.2.ctx == e.ctx && runsMeet (m.2.page, 1) (atbPages e))).map (·.1)

/-- INSTALL (R288). -/
def installCmd (h : Nat) (miss : Option Nat) (s : State) : State :=
  let e := atbNew s
  let named := miss.bind (fun i => Tab.find? (s.missOf h) i)
  if e.size = 3 ∨ e.bpage % 2 ^ (9 * e.size) ≠ 0 then atbResult 3 0 s
  else if named.any (fun m => m.stale) then
    event 8 .XLATE_EVENTS_STALE_INSTALL (tally .STALE_INSTALL (atbResult 1 0 (restartWalk h (miss.getD 0) (clearStale h (miss.getD 0) s))) h)
  else
    let gone := miss.isSome && named.isNone
    let (n, s1) := atbRemove h (fun x => x.ctx == e.ctx && runsMeet (atbPages x) (atbPages e)) s
    let (i, s2) := atbSlot h s1
    let s3 := modThresh (fun t => { t with atb := Tab.set t.atb h (Tab.put (Tab.get t.atb h []) i e) [] }) s2
    let s4 := (atbResult (if gone then 2 else 0) n s3).set .ATB_CMD_STAT_SLOT i
    let s5 := if miss.isSome then endWalk h (miss.getD 0) s4 else s4
    let ids := coveredBy s5 h e ++ (if named.isSome then [miss.getD 0] else [])
    wakeMisses (forEach ids (removeMiss h) s5)

/-- The fields of an ATB_CMD write. -/
def noteAtbCmd (cmd h : Nat) (s : State) : State := (s.set .ATB_CMD_CMD cmd).set .ATB_CMD_HPORT h

/-- ATB_CMD INSTALL (R288). -/
def execAtbInstall (m : Master) (h : Nat) (hasMiss : Bool) (miss : Nat) (s : State) : Host.Outcome State Fault Refusal :=
  .next (guarded m .ATB_CMD_CMD 0 (fun a => installCmd h (if hasMiss then some miss else none)
    (((noteAtbCmd 1 h a).set .ATB_CMD_HAS_MISS (b2n hasMiss)).set .ATB_CMD_MISS_ID miss)) s)

/-- Misses of a port in a range of pages of a context, or of every context, become stale (R288). -/
def markStale (h : Nat) (ctx : Option Nat) (run : Nat × Nat) (s : State) : State :=
  setMisses h ((s.missOf h).map (fun e =>
    if ctx.all (fun c => e.2.ctx == c) && runsMeet (e.2.page, 1) run then (e.1, { e.2 with stale := true }) else e)) s

/-- Remove the entries that overlap a range of pages of a context, or of every context, and mark its misses stale. -/
def invalidate (h : Nat) (ctx : Option Nat) (run : Nat × Nat) (s : State) : Nat × State :=
  let (n, s1) := atbRemove h (fun e => ctx.all (fun c => e.ctx == c) && runsMeet (atbPages e) run) s
  (n, markStale h ctx run s1)

/-- ATB_CMD INVALIDATE (R288). -/
def invalidateCmd (h : Nat) (s : State) : State :=
  let ctx := if s.flag .ATB_DATA2_ALL_CTX then none else some (s.get .ATB_DATA2_CTX)
  let (n, s1) := invalidate h ctx (s.get .ATB_DATA0_VPAGE, max 1 (s.get .ATB_DATA2_PAGES)) s
  atbResult 0 n s1

/-- ATB_INVALIDATE. -/
def execAtbInvalidate (m : Master) (h : Nat) (s : State) : Host.Outcome State Fault Refusal :=
  .next (guarded m .ATB_CMD_CMD 0 (fun a => invalidateCmd h (noteAtbCmd 2 h a)) s)

/-- READ: entry INDEX into ATB_DATA; an invalid entry reads as zeros (R280). -/
def atbReadCmd (h index : Nat) (s : State) : State :=
  let o := Tab.find? (s.atbOf h) index
  let e := o.getD { size := 0, write := false, vpage := 0, bpage := 0, ctx := 0 }
  let s1 := (((s.set .ATB_DATA0_SIZE e.size).set .ATB_DATA0_WRITE (b2n e.write)).set .ATB_DATA0_VALID (b2n o.isSome)).set .ATB_DATA0_VPAGE e.vpage
  atbResult 0 0 ((s1.set .ATB_DATA1_BPAGE e.bpage).set .ATB_DATA2_CTX e.ctx)

/-- ATB_READ. -/
def execAtbRead (m : Master) (h index : Nat) (s : State) : Host.Outcome State Fault Refusal :=
  .next (guarded m .ATB_CMD_CMD 0 (fun a => atbReadCmd h index ((noteAtbCmd 3 h a).set .ATB_CMD_INDEX index)) s)

/-! The invalidate mailbox (R289 to R291). -/

/-- Bus ranges of the entries an invalidation removes. -/
def busRanges (h : Nat) (ctx : Option Nat) (run : Nat × Nat) (s : State) : List (Nat × Nat) :=
  ((s.atbOf h).filter (fun e => ctx.all (fun c => e.2.ctx == c) && runsMeet (atbPages e.2) run)).map (fun e =>
    (e.2.bpage * 4096, 2 ^ sizeBits e.2.size))

/-- Every page of the virtual space. -/
def allPages : Nat × Nat := (0, 2 ^ 36)

/-- A request of the mailbox begins: BUSY, and the interrupt to the Housekeeper that Hearth assigns to the port. -/
def invBegin (h : Nat) (st : InvSt) (s : State) : State :=
  emit (.hkIrq 1 h) (tally .INV_REQUEST
    (modThresh (fun t => { t with invBusy := Tab.put t.invBusy h st }) (s.set .INV_STAT_BUSY 1 h)) h)

/-- KIND CONTEXT and PORT_ALL remove Hearth's copies of context entries: those that walks hold (R289). -/
def dropRoots (h : Nat) (ctx : Option Nat) (s : State) : State :=
  modThresh (fun t => { t with walking := t.walking.map (fun w =>
    if w.h == h && ctx.all (fun c => w.ctx == c) then { w with root := 0 } else w) }) s

/-- An invalidating request: its entries go and its misses become stale. -/
def invRun (h : Nat) (ctx : Option Nat) (run : Nat × Nat) (s : State) : State :=
  (invalidate h ctx run (invBegin h { drain := s.flag .INV_MBOX0_DRAIN h, ranges := busRanges h ctx run s, ctx := ctx, run := run } s)).2

/-- PAGE_DONE: the misses of the context and page that wait for the driver are walked again, or fail (R287). -/
def pageAnswer (h : Nat) (s : State) : State :=
  let l := (s.missOf h).filter (fun e => e.2.ctx == s.get .INV_MBOX1_CTX h && e.2.page == s.get .INV_MBOX0_VPAGE h && e.2.lastReq.isSome)
  let s1 := invBegin h {} s
  forEach l (fun e a => if s.flag .INV_MBOX0_FAIL h then failMiss false h e.1 a
    else if e.2.queued then a else queueMiss h e.1 { e.2 with lastReq := none } a) s1

/-- What a ring of the mailbox starts, by KIND. -/
def ringKind (kind h : Nat) (s : State) : State :=
  if s.flag .INV_STAT_BUSY h then event 8 .XLATE_EVENTS_INV_REFUSED (s.set .INV_STAT_LAST_RESULT 1 h)
  else if kind = 1 then invRun h (some (s.get .INV_MBOX1_CTX h)) (s.get .INV_MBOX0_VPAGE h, max 1 (s.get .INV_MBOX1_PAGES h)) s
  else if kind = 2 then dropRoots h (some (s.get .INV_MBOX1_CTX h)) (invRun h (some (s.get .INV_MBOX1_CTX h)) allPages s)
  else if kind = 3 then dropRoots h none (invRun h none allPages s)
  else if kind = 4 then pageAnswer h s
  else invBegin h { result := 2 } s

/-- INV_RANGE (R289). -/
def execInvRange (m : Master) (h : Nat) (s : State) : Host.Outcome State Fault Refusal :=
  .next (guarded m .INV_RING_RING h (ringKind 1 h) s)

/-- INV_CONTEXT (R289). -/
def execInvContext (m : Master) (h : Nat) (s : State) : Host.Outcome State Fault Refusal :=
  .next (guarded m .INV_RING_RING h (ringKind 2 h) s)

/-- INV_PORT_ALL (R289). -/
def execInvPortAll (m : Master) (h : Nat) (s : State) : Host.Outcome State Fault Refusal :=
  .next (guarded m .INV_RING_RING h (ringKind 3 h) s)

/-- PAGE_DONE (R287). -/
def execPageDone (m : Master) (h : Nat) (s : State) : Host.Outcome State Fault Refusal :=
  .next (guarded m .INV_RING_RING h (ringKind 4 h) s)

/-- The pages of a host access of port `h` meet the ranges of removed entries. -/
def pagesMeet (h : Nat) (rs : List (Nat × Nat)) (hp : Nat) (pages : List (Nat × Nat)) : Bool :=
  hp == h && pages.any (fun p => rs.any (fun r => runsMeet p r))

/-- A segment at its source has a payload to read through such a translation. -/
def segMeets (h : Nat) (rs : List (Nat × Nat)) (g : Seg) : Bool :=
  match g.data with
  | .host hp pages => pagesMeet h rs hp pages
  | _ => false

/-- An access translated through a removed entry has not been issued (R290). -/
def undrained (s : State) (h : Nat) (rs : List (Nat × Nat)) : Bool :=
  s.thresh.admitQ.any (segMeets h rs) || s.sluice.queues.any (fun e => e.2.any (segMeets h rs))
    || s.thresh.flows.any (fun e => e.2.send.pend.any (segMeets h rs) || e.2.send.wait.any (segMeets h rs)
      || e.2.recv.segs.any (fun g => match g.access with
        | some (hp, pages) => pagesMeet h rs hp pages
        | none => false))
    || s.rake.dels.any (fun d => match d.pages with
        | some (hp, pages) => pagesMeet h rs hp pages
        | none => false)

/-- Step 4 of Table 11.4: the Housekeepers abandon the walks that overlap an invalidation, and the misses are walked again from the
context entry; a read in flight for such a walk is not used. -/
def abandonWalks (h : Nat) (st : InvSt) (s : State) : State :=
  modThresh (fun t => { t with walking := t.walking.map (fun w =>
    if w.h == h && st.ctx.all (fun c => w.ctx == c) && runsMeet (w.page, 1) st.run then
      { w with level := 5, root := 0, table := 0, ending := none, abandoned := w.asked }
    else w) }) s

/-- INV_REQUEST_COMPLETE (R290). -/
def execInvRequestComplete (h : Nat) (s : State) : Host.Outcome State Fault Refusal :=
  match Tab.find? s.thresh.invBusy h with
  | none => .next s
  | some st =>
    if st.drain && undrained s h st.ranges then .next s
    else
      let s1 := abandonWalks h st (modThresh (fun t => { t with invBusy := Tab.del t.invBusy h }) s)
      let s2 := ((s1.set .INV_STAT_BUSY 0 h).set .INV_STAT_DONE_SEQ ((s1.get .INV_STAT_DONE_SEQ h + 1) % 65536) h).set
        .INV_STAT_LAST_RESULT st.result h
      .next (event 8 .XLATE_EVENTS_INV_DONE s2)

end Sys2Proof.Machine
end

