-- ==== Sys2Proof/Machine/Coll.lean ====
section
/-! DEFINITION. Collectives: admission of COLL entries, tree cells, contexts, stalls, software aborts and result writes (R296 to
R299, R305 to R314); and the returns of host memory reads. -/
namespace Sys2Proof.Machine

/-! Admission (Table 12.1). -/

/-- Change the Rake's state. -/
def modRake (f : RakeSt → RakeSt) (s : State) : State := { s with rake := f s.rake }

/-- Checks 1 to 4: the status of the first that fails. -/
def collGate (s : State) (it : WorkItem) : Option Nat :=
  let e := it.entry
  let t := weTree e
  if 10 < weCop e ∨ 6 < weCtype e then some stBadOpcode
  else if !s.flag .TREE_ENTRY_VALID t || !s.flag .TREE_ENTRY_HOST t || !s.hasVc 1 then some stNoRoute
  else if s.get .TREE_JOB_JOB t ≠ (s.room it.room).job then some stBadJob
  else if !s.rakeOn then some stNotReady
  else none

/-- The address is aligned for the operation (check 7). -/
def collAligned (e : List Word) (a : Nat) : Bool := a % (if isLoc (weCop e) then 8 else ctypeBytes (weCtype e)) == 0

/-- The entry names a contribution buffer, a result buffer (R299, Table 12.2). -/
def hasContrib (e : List Word) : Bool := weCop e != 8 && weCop e != 10
def hasResult (e : List Word) : Bool := weCop e != 8 && bits (weRkey e) 0 24 != 0

/-- Checks 5 to 7: member's status and abort status. -/
def collForm (e : List Word) : Option (Nat × Nat) :=
  let n := weLen e
  if weCop e = 0 ∧ (weCtype e = 3 ∨ weCtype e = 4) ∧ !weFast e then some (stBadMode, stModeMismatch)
  else if n % memBytes (weCop e) (weCtype e) ≠ 0 ∨ 65536 < n ∨ (n = 0 ∧ weCop e ≠ 8) then some (stBadLength, stTimeout)
  else if (hasContrib e && !collAligned e (weAddr e)) || (weCop e != 8 && !collAligned e (weRemote e)) then some (stBadAlign, stTimeout)
  else none

/-- The local check and translation of one range (R299): the sub-cause, and the pages or the misses; a port whose link is down
gives no miss. -/
def collRange (rid key rights a n : Nat) (need : Bool) (s : State) :
    Look (Nat × Sum (Nat × List (Nat × Nat)) (List MissName)) × State :=
  if !need then (.found (0, .inl (0, [])), s)
  else
    match lookLocal rid key rights a n s with
    | (.wait, s1) => (.wait, s1)
    | (.failed, s1) => (.found (1, .inr []), s1)
    | (.found (k, sub), s1) =>
      if sub ≠ 0 then (.found (sub, .inr []), s1)
      else if !s1.flag .HPORT_STAT_LINK_UP k.hport then (.found (0, .inr []), s1)
      else
        match translate k.hport k.xctx a n (rights == rWrite) false s1 with
        | (.inr p, s2) => (.found (0, .inl p), s2)
        | (.inl ms, s2) => (.found (0, .inr ms), s2)

/-- The host's entry takes the number of an operation whose abort is recorded: the record has served (R312). -/
def spendRecord (t q : Nat) (s : State) : State :=
  nextSeq t (modRake (fun r => { r with recorded := r.recorded.filter (fun e => !(e.1 == t && e.2.1 == q)) }) s)

/-- An entry that fails checks 5 to 8: it consumes the tree's next number, completes, and its operation is aborted, unless an abort of
it is recorded already (log 65). A tree in DESYNC stays so. -/
def refuseColl (it : WorkItem) (status abort : Nat) (s : State) : State :=
  let t := weTree it.entry
  if (recordedFor s t (s.get .TREE_ENTRY_NEXT_SEQ t)).isSome then
    endItem it status 0 (spendRecord t (s.get .TREE_ENTRY_NEXT_SEQ t) s)
  else
    let x := (s.tree t).getD { opSeq := s.get .TREE_ENTRY_NEXT_SEQ t }
    let s1 := abortTree t abort none (putTree t { x with begun := true } s)
    endItem it status 0 (if s.get .TREE_ENTRY_STATE t = 2 then s1.set .TREE_ENTRY_STATE 2 t else s1)

/-- The host joins the tree's next operation (R307, step 1). -/
def joinColl (it : WorkItem) (src dst : Nat × List (Nat × Nat)) (s : State) : State :=
  let e := it.entry
  let t := weTree e
  let x := (s.tree t).getD { opSeq := s.get .TREE_ENTRY_NEXT_SEQ t }
  let agree := x.heads.isEmpty || headsAgree x (weCop e) (weCtype e) (weFast e) (weLen e)
  let x1 := { x with cop := weCop e, ctype := weCtype e, fast := weFast e, len := weLen e, host := some (it.room, e),
                     members := x.members + 1, sources := min 15 (x.sources + b2n (weCop e == 9)),
                     contrib := if weCop e = 10 then some [] else none }
  let d : CollDel := { tree := t, seq := x.opSeq, room := it.room, entry := e, total := x1.total,
                       pages := if hasResult e then some dst else none }
  let s1 := beginTree t x1 (modRake (fun r => { r with dels := r.dels ++ [d] }) s)
  if !agree then abortTree t stModeMismatch none s1
  else
    let tag := s1.thresh.nextTag
    let s2 := if hasContrib e then
        readHost src.1 src.2 tag (modThresh (fun h => { h with nextTag := tag + 1, reads := Tab.put h.reads tag (.coll t x.opSeq) }) s1)
      else s1
    runTree t s2

/-- Checks 9 and 10, and the beginning. -/
def beginColl (it : WorkItem) (src dst : Nat × List (Nat × Nat)) (s : State) : State :=
  let t := weTree it.entry
  let q := s.get .TREE_ENTRY_NEXT_SEQ t
  if s.get .TREE_ENTRY_STATE t = 2 then endItem it stModeMismatch 0 s
  else
    match recordedFor s t q with
    | some st => endItem it st 0 (spendRecord t q s)
    | none => joinColl it src dst s

/-- Check 8: keys and translations, both ranges. -/
def keysColl (it : WorkItem) (s : State) : State :=
  let e := it.entry
  let again := fun (a : State) => modRake (fun r => { r with colls := it :: r.colls }) a
  match collRange it.room (weLkey e) rRead (weAddr e) (weLen e) (hasContrib e) s with
  | (.found (sub, src), s1) =>
    if sub ≠ 0 then refuseColl it stKeyFault stTimeout s1
    else
      (match collRange it.room (weRkey e) rWrite (weRemote e) (weLen e) (hasResult e) s1 with
       | (.found (sub2, dst), s2) =>
         if sub2 ≠ 0 then refuseColl it stKeyFault stTimeout s2
         else
           (match src, dst with
            | .inl p, .inl q => beginColl it p q s2
            | .inr a, .inr b => stallItem it (if a.isEmpty || b.isEmpty then [] else a ++ b) s2
            | .inr a, .inl _ => stallItem it a s2
            | .inl _, .inr b => stallItem it b s2)
       | (.wait, s2) => again s2
       | (.failed, s2) => refuseColl it stKeyFault stTimeout s2)
  | (.wait, s1) => again s1
  | (.failed, s1) => refuseColl it stKeyFault stTimeout s1

/-- One COLL entry is judged (R296). -/
def judgeColl (it : WorkItem) (s : State) : State :=
  match collGate s it with
  | some st => endItem it st 0 s
  | none =>
    match collForm it.entry with
    | some (st, ab) => refuseColl it st ab s
    | none => keysColl it s

/-- The tree of an entry runs an operation: a tree runs one at a time (R310). -/
def treeBusy (s : State) (it : WorkItem) : Bool := (s.tree (weTree it.entry)).any (fun x => x.begun)

/-- Take the first element a test selects out of a list. -/
def takeFirst {α : Type} (p : α → Bool) : List α → Option (α × List α)
  | [] => none
  | a :: r => if p a then some (a, r) else (takeFirst p r).map (fun e => (e.1, a :: e.2))

/-- COLL_ADMIT (R296): the oldest entry whose tree runs no operation. -/
def execCollAdmit (s : State) : Host.Outcome State Fault Refusal :=
  if s.hostStopped then .next s
  else
    match takeFirst (fun it => !treeBusy s it) s.rake.colls with
    | none => .next s
    | some (it, rest) => .next (judgeColl it (modRake (fun r => { r with colls := rest }) s))

/-! Tree cells (R305, R308 to R312, R314). -/

/-- An ABORT toward one port. -/
def abortTo (t port seq status : Nat) (s : State) : State :=
  sendTree t (if port = treeParent s t then 5 else 6) 3 0 (headBody { opSeq := seq } status 0) [port] s

/-- A GRANT from the parent (R309). -/
def treeGrantIn (t : Nat) (b : List Word) (s : State) : State :=
  match s.tree t with
  | some x =>
    if x.opSeq ≠ hSeq b then s
    else
      let s1 := putTree t { x with granted := 2 ^ hGrant b } s
      if x.begun then runTree t (growWindow t s1) else s1
  | none => if currentSeq s t = hSeq b ∨ !s.flag .TREE_ENTRY_HOST t then putTree t { opSeq := hSeq b, granted := 2 ^ hGrant b } s else s

/-- An ABORT for an operation this Rake has not begun: recorded, and passed on (R312). -/
def noteAbort (t port q st : Nat) (s : State) : State :=
  let ports := ((treeKids s t) ++ [treeParent s t]).filter (fun p => decide (p < 72) && p != port)
  let s1 := forEach ports (fun p a => abortTo t p q st a) s
  recordAbort t q st ((s1.set .TREE_ENTRY_ABORTED_SEQ q t).set .TREE_ENTRY_ABORTED_VALID 1 t)

/-- An ABORT (R312). -/
def abortIn (t port : Nat) (b : List Word) (s : State) : State :=
  let q := hSeq b
  if (s.tree t).any (fun x => x.opSeq == q) then abortTree t (hStatus b) (some port) s
  else if (s.flag .TREE_ENTRY_ABORTED_VALID t && s.get .TREE_ENTRY_ABORTED_SEQ t == q) || (recordedFor s t q).isSome then s
  else if subMod q (s.get .TREE_ENTRY_NEXT_SEQ t) 256 < 128 then noteAbort t port q (hStatus b) s
  else s

/-- A tree cell at the Rake: verified, then judged by its entry and port, then taken by its kind. While D77 is off, or the Rake
serves nothing, a HEAD is answered with an ABORT and other cells are discarded (R314, Table 14.4). -/
def treeIn (act : Nat → Nat → Cell → State → State) (port : Nat) (c : Cell) (s : State) : State :=
  let t := cellTree c
  if !s.rakeOn || s.hostStopped then (if cellKind c = 0 then abortTo t port (hSeq c.body) stTimeout s else s)
  else if c.check ≠ bodyCrc c.body then treeCellFail .CELL_CRC_FAIL t port s
  else if !s.flag .TREE_ENTRY_VALID t || !(port == treeParent s t || (treeKids s t).contains port) then
    treeCellFail .WINDOW_VIOLATION t port s
  else act t port c s

/-- Take a tree cell of a kind: the one a command names, or the head of the Rake's ejection queue. -/
def useTree (kind port : Nat) (c : Option Cell) (act : Nat → Nat → Cell → State → State) (s : State) : State :=
  match takeIf 77 (fun d => (d.ty == tyTreeUp || d.ty == tyTreeDown) && cellKind d == kind) c s with
  | (none, s1) => s1
  | (some (p, d), s1) => treeIn act (if c.isSome then port else p) d s1

/-- TREE_HEAD_ARRIVAL (R310). -/
def execTreeHeadArrival (port : Nat) (c : Option Cell) (s : State) : Host.Outcome State Fault Refusal :=
  .next (useTree 0 port c (fun t p d a => if p = treeParent a t then headDown t d.body a else headUp t p d.body a) s)

/-- TREE_DATA_ARRIVAL (R307). -/
def execTreeDataArrival (port : Nat) (c : Option Cell) (s : State) : Host.Outcome State Fault Refusal :=
  .next (useTree 1 port c (fun t p d a => if p = treeParent a t then dataDown t p (cellLo d) d.body a else dataUp t p (cellLo d) d.body a) s)

/-- TREE_GRANT_ARRIVAL (R309): a grant counts from the parent. -/
def execTreeGrantArrival (port : Nat) (c : Option Cell) (s : State) : Host.Outcome State Fault Refusal :=
  .next (useTree 2 port c (fun t p d a => if p = treeParent a t then treeGrantIn t d.body a else a) s)

/-- TREE_ABORT_ARRIVAL (R312). -/
def execTreeAbortArrival (port : Nat) (c : Option Cell) (s : State) : Host.Outcome State Fault Refusal :=
  .next (useTree 3 port c (fun t p d a => abortIn t p d.body a) s)

/-! Contexts, stalls and software (R309, R310, R312). -/

/-- TREE_CONTEXT_TAKE (R309): the operation that has waited longest takes a free context. -/
def execTreeContextTake (t : Nat) (s : State) : Host.Outcome State Fault Refusal :=
  match s.rake.waiters, s.tree t with
  | w :: rest, some x =>
    if w = t ∧ s.get .RAKE_STAT_CTX_FREE ≠ 0 then
      let s1 := putTree t { x with ctxLog2 := some (s.get .RAKE_STAT_WINDOW_LOG2) } (modRake (fun r => { r with waiters := rest }) s)
      .next (runTree t (growWindow t (s1.set .RAKE_STAT_CTX_FREE (s1.get .RAKE_STAT_CTX_FREE - 1))))
    else .next s
  | _, _ => .next s

/-- A chunk has stalled: its limit has run out, it lacks an input, and every input it lacks is a child's whose head is here. -/
def stalledChunk (s : State) (t : Nat) (x : TreeSt) : Bool :=
  x.firstAt.any (fun e =>
    let lack := (neededFor s t x).filter (fun p => !x.ins.any (fun i => i.1 == e.1 && i.2.1 == p))
    decide (e.2 ≤ s.now) && !lack.isEmpty && lack.all (fun p => x.heads.contains p))

/-- TREE_STALL_TIMEOUT (Table 12.9). -/
def execTreeStallTimeout (t : Nat) (s : State) : Host.Outcome State Fault Refusal :=
  match s.tree t with
  | some x => if x.begun && stalledChunk s t x then .next (abortTree t stTimeout none (event 7 .RAKE_EVENTS_STALL_SEEN s)) else .next s
  | none => .next s

/-- The TREE field of a RAKE_CTRL write, then its command. -/
def rakeCtrl (t : Nat) (act : State → State) (s : State) : State :=
  if s.domainOn 77 then act (s.set .RAKE_CTRL_TREE t) else s

/-- ABORT of RAKE_CTRL: the running operation. -/
def softAbort (t : Nat) (s : State) : State := if (s.tree t).any (fun x => x.begun) then abortTree t stTimeout none s else s

/-- RAKE_ABORT_CMD (R312). -/
def execRakeAbortCmd (m : Master) (t : Nat) (s : State) : Host.Outcome State Fault Refusal :=
  .next (guarded m .RAKE_CTRL_CMD 0 (rakeCtrl t (softAbort t)) s)

/-- NEXT_SEQ and ABORTED_SEQ of a tree start anew (R310): a head register of an operation not begun, recorded aborts and discarded
links are forgotten. -/
def resetSeqs (t : Nat) (s : State) : State :=
  let s1 := (((s.set .TREE_ENTRY_NEXT_SEQ 0 t).set .TREE_ENTRY_ABORTED_SEQ 0 t).set .TREE_ENTRY_ABORTED_VALID 0 t)
  let s2 := if (s.tree t).any (fun x => x.begun) then s1 else dropTree t s1
  modRake (fun r => { r with recorded := r.recorded.filter (fun e => e.1 != t), dropping := r.dropping.filter (fun e => e.1 != t) }) s2

/-- RESYNC (R310). -/
def resync (t : Nat) (s : State) : State :=
  resetSeqs t (if s.get .TREE_ENTRY_STATE t = 2 then s.set .TREE_ENTRY_STATE 0 t else s)

/-- RAKE_RESYNC_CMD (R310). -/
def execRakeResyncCmd (m : Master) (t : Nat) (s : State) : Host.Outcome State Fault Refusal :=
  .next (guarded m .RAKE_CTRL_CMD 0 (rakeCtrl t (resync t)) s)

/-! Result writes (R307, step 7; R313). -/

/-- Write bytes at an offset of a translated range. -/
def writeAt (h : Nat) (pages : List (Nat × Nat)) (off : Nat) (bs : List Nat) (s : State) : State :=
  (pages.foldl (fun (acc : Nat × State) p =>
    let lo := max off acc.1
    let hi := min (off + bs.length) (acc.1 + p.2)
    (acc.1 + p.2, if lo < hi then emit (.hostBytes h (p.1 + (lo - acc.1)) ((bs.drop (lo - off)).take (hi - lo))) acc.2 else acc.2)) (0, s)).2

/-- Replace a delivery. -/
def putDel (d : CollDel) (s : State) : State :=
  modRake (fun r => { r with dels := r.dels.map (fun e => if e.tree = d.tree ∧ e.seq = d.seq then d else e) }) s

/-- After the last chunk the COLL completes (R313). -/
def finishColl (d : CollDel) (s : State) : State :=
  match d.head with
  | none => putDel d s
  | some (st, members, fenced) =>
    if d.done < d.total then putDel d s
    else
      let status := if d.keyFail then stKeyFault else st
      completeWork d.room d.entry (collCmpl d.entry status d.written members (if status = stFenced then fenced else 0))
        (modRake (fun r => { r with dels := r.dels.filter (fun e => !(e.tree == d.tree && e.seq == d.seq)) }) s)

/-- A result write waits for the link of its host port, and the COLL completes with TIMEOUT once OP_TIMEOUT_MS has passed (R270, R456). -/
def waitChunk (d : CollDel) (s : State) : State :=
  let since := d.waitAt.getD s.now
  if since + s.get .THRESH_CFG_OP_TIMEOUT_MS * 1000000 ≤ s.now then
    let members := match d.head with
      | some h => h.2.1
      | none => 0
    completeWork d.room d.entry (collCmpl d.entry stTimeout d.written members 0)
      (modRake (fun r => { r with dels := r.dels.filter (fun e => !(e.tree == d.tree && e.seq == d.seq)) }) s)
  else putDel { d with waitAt := some since } s

/-- Write one result chunk: RKEY is checked again, and a chunk that fails is left unwritten (R299). -/
def writeChunk (d : CollDel) (k : Nat) (body : List Word) (rest : List (Nat × List Word)) (s : State) : State :=
  let e := d.entry
  let off := chunkOff (weCop e) (weCtype e) (weFast e) k
  let n := chunkBytes (weCop e) (weCtype e) (weFast e) (weLen e) k
  let d1 := { d with chunks := rest, done := d.done + 1, waitAt := none }
  match d.pages with
  | none => finishColl d1 s
  | some (h, pages) =>
    match lookLocal d.room (weRkey e) rWrite (weRemote e + off) n s with
    | (.wait, s1) => s1
    | (.failed, s1) => finishColl { d1 with keyFail := true } s1
    | (.found (_, sub), s1) =>
      if sub ≠ 0 then finishColl { d1 with keyFail := true } s1
      else if !s1.flag .HPORT_STAT_LINK_UP h then waitChunk d s1
      else if atomicHolds s1 h pages then s1
      else finishColl { d1 with written := d.written + n } (writeAt h pages off ((wordsBytes body).take n) s1)

/-- COLL_RESULT_WRITE (R307): the oldest delivery of the tree. -/
def execCollResultWrite (t : Nat) (s : State) : Host.Outcome State Fault Refusal :=
  if s.hostStopped then .next s
  else
    match s.rake.dels.find? (fun d => d.tree == t) with
    | none => .next s
    | some d =>
      match d.chunks with
      | (k, body) :: rest => .next (writeChunk d k body rest s)
      | [] => .next (finishColl d s)

/-! Returns of host memory reads (R180, R251, R307). -/

/-- A contribution has been read; a read that fails aborts the operation. -/
def contribRead (t seq : Nat) (res : HostRead) (s : State) : State :=
  match s.tree t with
  | some x =>
    if x.begun && x.opSeq == seq && x.contrib.isNone then
      match res with
      | .data ws => runTree t (putTree t { x with contrib := some ws } s)
      | _ => abortTree t stTimeout none s
    else s
  | none => s

/-- HOST_READ_DONE: the answer to the read with a tag. While host-side work is stopped it is dropped (R355). -/
def execHostReadDone (tag : Nat) (res : HostRead) (s : State) : Host.Outcome State Fault Refusal :=
  match Tab.find? s.thresh.reads tag with
  | none => .next s
  | some r =>
    let s1 := modThresh (fun t => { t with reads := Tab.del t.reads tag }) s
    if s.hostStopped then .next s1
    else
      match r with
      | .payload x q ep => .next (payloadRead x q ep res s1)
      | .atomic h addr x q ep l host => .next (atomicDone h addr x q ep l host res s1)
      | .coll t seq => .next (contribRead t seq res s1)

end Sys2Proof.Machine
end

