-- ==== Sys2Proof/Machine/Latch.lean ====
section
/-! DEFINITION. The Latches (R421 to R426). -/
namespace Sys2Proof.Machine

/-- A Latch. -/
def State.latchOf (s : State) (k : Nat) : LatchSt := Tab.get s.latch k {}

/-- Replace a Latch. -/
def setLatch (k : Nat) (x : LatchSt) (s : State) : State := { s with latch := Tab.set s.latch k x {} }

/-- A latch value (Table 16.12). -/
def latchValue (granted abandoned forced busy : Bool) (owner waiters : Nat) : Word :=
  wd (at_ (b2n granted) 0 1 + at_ (b2n abandoned) 1 1 + at_ (b2n forced) 2 1 + at_ (b2n busy) 3 1 + at_ owner 4 4
    + at_ (min waiters 255) 8 8)

/-- Stalled reads of LATCH_WAIT across the device. -/
def stalledReads (s : State) : Nat := (s.latch.map (fun e => e.2.waiters.length)).sum

/-- A free Latch is granted to a read: the marks go with the value returned and are cleared (R422). -/
def latchGrant (m : Master) (k : Nat) (s : State) : Word × State :=
  let x := s.latchOf k
  (latchValue true x.abandoned x.forced false (masterId m) 0,
    tally .TAKEN (setLatch k { x with owner := some (masterId m), abandoned := false, forced := false } s))

/-- BUSY and OWNER. -/
def latchBusy (k : Nat) (s : State) : Word := latchValue false false false true ((s.latchOf k).owner.getD 0) 0

/-- A free Latch goes to its oldest stalled read (R423). -/
def latchNext (k : Nat) (s : State) : State :=
  let x := s.latchOf k
  match x.owner, x.waiters with
  | none, (m, _) :: r =>
    let (w, s1) := latchGrant m k (setLatch k { x with waiters := r } s)
    answerStall m k w s1
  | _, _ => s

/-- LATCH serves reads (R426). -/
def latchServes (s : State) : Bool := decide (s.level 11 < 2)

/-- A read of LATCH_TAKE[k]: the value it returns. -/
def takeLatch (m : Master) (k : Nat) (s : State) : Word × State :=
  if latchServes s && (s.latchOf k).owner.isNone then latchGrant m k s else (latchBusy k s, tally .BUSY_RETURNED s)

/-- A read of LATCH_WAIT[k]: the value it returns, none while it stalls. -/
def waitLatch (m : Master) (k : Nat) (s : State) : Option Word × State :=
  let x := s.latchOf k
  if !latchServes s then (some (latchBusy k s), tally .BUSY_RETURNED s)
  else if x.owner.isNone then
    let (w, s1) := latchGrant m k s
    (some w, s1)
  else if stalledReads s < 64 then
    (none, setLatch k { x with waiters := x.waiters ++ [(m, s.now + s.get .LATCH_CFG_STALL_US * 1000)] } s)
  else (some (latchBusy k s), event 11 .LATCH_EVENTS_WAIT_FULL (tally .WAIT_FULL s))

/-- LATCH_TAKE (R422): a User master is refused and reads zero. -/
def execLatchTake (m : Master) (k : Nat) (s : State) : Host.Outcome State Fault Refusal :=
  if !reaches s m then .next s
  else if mayRead (privOf m) .LATCH_TAKE_VALUE then
    let (w, s1) := takeLatch m (k % 512) s
    .next (emit (.reg m w) s1)
  else .next (emit (.reg m 0) (refusePriv m (regAddr .LATCH_TAKE (k % 512)) false s))

/-- LATCH_WAIT (R423): a User master is refused and reads zero. -/
def execLatchWait (m : Master) (k : Nat) (s : State) : Host.Outcome State Fault Refusal :=
  if !reaches s m then .next s
  else if mayRead (privOf m) .LATCH_WAIT_VALUE then
    match waitLatch m (k % 512) s with
    | (some w, s1) => .next (emit (.reg m w) s1)
    | (none, s1) => .next s1
  else .next (emit (.reg m 0) (refusePriv m (regAddr .LATCH_WAIT (k % 512)) false s))

/-- LATCH_WAIT_TIMEOUT (R423): the stalled reads of a Latch whose limit has come. -/
def execLatchWaitTimeout (k : Nat) (s : State) : Host.Outcome State Fault Refusal :=
  let x := s.latchOf (k % 512)
  let (due, rest) := x.waiters.partition (fun w => decide (w.2 ≤ s.now))
  .next (forEach due (fun w a => answerStall w.1 (k % 512) (latchBusy (k % 512) a) (tally .WAIT_TIMEOUT a))
    (setLatch (k % 512) { x with waiters := rest } s))

/-- A write of LATCH_RELEASE[k] (R424). -/
def releaseLatch (m : Master) (k : Nat) (s : State) : State :=
  if (s.latchOf k).owner = some (masterId m) then latchNext k (setLatch k { s.latchOf k with owner := none } s)
  else event 11 .LATCH_EVENTS_NOT_OWNER (tally .NOT_OWNER s)

/-- LATCH_RELEASE (R424). -/
def execLatchRelease (m : Master) (k : Nat) (s : State) : Host.Outcome State Fault Refusal :=
  .next (guarded m .LATCH_RELEASE_ANY (k % 512) (releaseLatch m (k % 512)) s)

/-- A write of LATCH_FORCE[k].GO (R424): nothing on a free Latch. -/
def forceLatch (k : Nat) (s : State) : State :=
  if (s.latchOf k).owner.isNone then s
  else latchNext k (event 11 .LATCH_EVENTS_FORCED_SEEN (tally .FORCED
    (setLatch k { s.latchOf k with owner := none, forced := true } s)))

/-- LATCH_FORCE (R424). -/
def execLatchForce (m : Master) (k : Nat) (s : State) : Host.Outcome State Fault Refusal :=
  .next (guarded m .LATCH_FORCE_GO (k % 512) (forceLatch (k % 512)) s)

/-- A master ID is reset (R425): its stalled reads are abandoned, and every Latch it holds is freed with its ABANDONED mark. -/
def resetMaster (i : Nat) (s : State) : State :=
  let s0 := { s with latch := Tab.mapD s.latch {} (fun _ x => { x with waiters := x.waiters.filter (fun w => masterId w.1 != i) }) }
  let s2 := { s0 with thresh := { s0.thresh with walkStall := s0.thresh.walkStall.filter (fun w => masterId w.m != i) } }
  let s1 := if i = 4 then { s2 with stair := {} } else s2
  let held := (s1.latch.filter (fun e => e.2.owner == some i)).map (·.1)
  if held.isEmpty then s1
  else
    event 11 .LATCH_EVENTS_ABANDONED_SEEN (forEach held (fun k a => latchNext k (tally .ABANDONED
      (setLatch k { a.latchOf k with owner := none, abandoned := true } a))) s1)

/-- LATCH has come to L2: its stalled reads return BUSY (R426). -/
def latchesStopped (s : State) : State :=
  forEach s.latch (fun e a => forEach e.2.waiters (fun w b => answerStall w.1 e.1 (latchBusy e.1 b) b)
    (setLatch e.1 { a.latchOf e.1 with waiters := [] } a)) s

end Sys2Proof.Machine
end

