-- ==== Sys2Proof/Machine/Domains.lean ====
section
/-! DEFINITION. Power domains and what their switching does (R374 to R377, R454), with the operations that resets share: ending
a load session (R43), returning a block's registers to reset, a host port's rooms and master (R378, R425). -/
namespace Sys2Proof.Machine

/-! Load sessions (R43). -/

/-- A session ends REJECTED with a cause. -/
def endRejected (cause ty word : Nat) (s : State) : State :=
  let s1 := (((s.set .FPLAN_STAT_STATE 6).set .FPLAN_STAT_REJECT cause).set .FPLAN_STAT_BAD_TYPE ty).set .FPLAN_STAT_BAD_WORD word
  event 3 .FPLAN_EVENTS_REJECTED (tally .PLAN_REJECTED { s1 with session := {} })

/-- The session can still be aborted: RECEIVING, VERIFYING or WAITING. -/
def abortable (s : State) : Bool := decide (1 ≤ s.get .FPLAN_STAT_STATE) && decide (s.get .FPLAN_STAT_STATE ≤ 3)

/-- Cause ABORTED. -/
def abortSession (s : State) : State := if abortable s then endRejected 18 0 (s.get .FPLAN_STAT_WORDS) s else s

/-- A master is reset: the session it owns ends, its stalled reads and Latches are given up (R43, R425). -/
def masterReset (i : Nat) (s : State) : State :=
  resetMaster i (if s.session.owner = some i then abortSession s else s)

/-! Registers of a block. -/

/-- Fields of a register block. -/
def blkFlds (b : Blk) : List Fld := b.regs.flatMap Reg.fields

/-- Return the selected field instances to their reset values. -/
def resetFlds (fs : List Fld) (sel : Fld → Nat → Bool) (s : State) : State :=
  { s with fld := s.fld.filter (fun e => !fs.any (fun f => f.ctorIdx == e.1 % 1024 && sel f (e.1 / 1024))) }

/-- The fault group, history and timers of a block return to reset; mismatches in plan-loaded state go on standing. -/
def clearFaults (b : Nat) (s : State) : State :=
  let s1 := resetFlds (blkFlds .FAULTG) (fun _ i => i == b) s
  let s2 := { s1 with fault := { s1.fault with
    hist := Tab.del s1.fault.hist b, quietAt := Tab.del s1.fault.quietAt b, noticeAt := Tab.del s1.fault.noticeAt b,
    standing := s1.fault.standing.filter (fun x => match x with | .reg c _ => c != b | .plan .. => true) } }
  recomputeDevice (notePar b s2)

/-! Operations and flows. -/

/-- Every open segment of an operation fails; an operation that answers a request only ends. -/
def failOp (status aux i : Nat) (s : State) : State :=
  match s.op i with
  | none => s
  | some o =>
    if o.kind = .response then modThresh (fun t => { t with ops := Tab.del t.ops i }) s
    else tryFinish i (forEach ((List.range o.offsets).filter (fun k => !o.done.contains k)) (fun k a => failOff i k status aux a) s)

/-- Every flow context becomes FRESH; the operations that used them end (R454). -/
def freshFlows (s : State) : State :=
  let s1 := forEach (s.thresh.ops.map (·.1)) (failOp stFlowReset 1) s
  let s2 := forEach (s1.thresh.flows.map (·.1)) clearQueued s1
  modThresh (fun t => { t with flows := [], admitQ := [], respWait := [], atomics := [], tracker := [] }) s2

/-! Host ports. -/

/-- Every ACTIVE room bound to a host port enters ERROR with cause PORCH_FAULT. -/
def failRooms (h : Nat) (s : State) : State :=
  forEach ((s.porch.rooms.filter (fun e => e.2.hport == h && e.2.st == 1)).map (·.1)) (fun r a => roomError r 4 a) s

/-- A host port's link is down: nothing of it is in use. -/
def linkDown (h : Nat) (s : State) : State :=
  (((s.set .HPORT_STAT_LINK_UP 0 h).set .HPORT_STAT_WIDTH 0 h).set .HPORT_STAT_SPEED 0 h).set .HPORT_STAT_ATOMICOP 0 h

/-- A host port controller is reset: its link is down, HOST_MODE is read again, its master ID is reset (R64, R425). -/
def resetHostPort (h : Nat) (s : State) : State :=
  masterReset h (linkDown h (s.set .HPORT_STAT_MODE (b2n ((atticHostMode s).testBit h)) h))

/-! The dump engine (R434). -/

/-- The record being written is abandoned. -/
def abandonRecord (s : State) : State :=
  let snap := s.count.writing == some true
  let s1 := { s with count := { s.count with writing := none, traceBuf := [] } }
  let s2 := s1.set .COUNT_STAT_DUMP_BUSY 0
  if snap then s2.set .COUNT_STAT_SNAP_PENDING 0 else s2

/-! The switching of domains. -/

/-- Target of a domain. -/
def domainTarget (s : State) (d : Nat) : Bool :=
  if d < 64 then (s.get .DOMAIN_TARGET_LO_TARGET).testBit d else (s.get .DOMAIN_TARGET_HI_TARGET).testBit (d - 64)

/-- Write one bit of a number. -/
def putBit (x i : Nat) (b : Bool) : Nat := if x.testBit i = b then x else if b then x + 2 ^ i else x - 2 ^ i

/-- Write a domain's target bit. -/
def putTarget (d : Nat) (b : Bool) (s : State) : State :=
  if d < 64 then s.set .DOMAIN_TARGET_LO_TARGET (putBit (s.get .DOMAIN_TARGET_LO_TARGET) d b)
  else s.set .DOMAIN_TARGET_HI_TARGET (putBit (s.get .DOMAIN_TARGET_HI_TARGET) (d - 64) b)

/-- Write a domain's state bit. -/
def putOn (d : Nat) (b : Bool) (s : State) : State :=
  if d < 64 then s.set .DOMAIN_STAT_LO_ON (putBit (s.get .DOMAIN_STAT_LO_ON) d b)
  else s.set .DOMAIN_STAT_HI_ON (putBit (s.get .DOMAIN_STAT_HI_ON) (d - 64) b)

/-- The transition a domain is in, if any: toward on. -/
def transOf (s : State) (d : Nat) : Option Bool := (s.power.trans.find? (fun t => t.d == d)).map (·.on)

/-- Replace the transitions; BUSY counts them. -/
def setTrans (l : List Trans) (s : State) : State := ({ s with power := { s.power with trans := l } }).set .DOMAIN_STAT_HI_BUSY l.length

/-- A room is ACTIVE. -/
def anyActive (s : State) : Bool := s.porch.rooms.any (fun e => e.2.st == 1)

/-- A domain is on, or coming on. -/
def usesPower (s : State) (d : Nat) : Bool := s.domainOn d || transOf s d == some true

/-- What stands against a transition (Table 15.2, R376): 0 nothing, 1 to 4 a refusal, 5 the transition of another domain that
the targets also ask for (R375). -/
def judgeDomain (s : State) (d : Nat) (on : Bool) : Nat :=
  if on then
    if (d = 76 ∨ d = 77) ∧ (!s.domainOn 78 || transOf s 78 == some false) then (if domainTarget s 78 then 5 else 4) else 0
  else if 72 ≤ d ∧ d ≤ 75 then
    (if d - 72 = optPrimary s then 1 else if d - 72 = s.get .PORCH_CFG_BOX_HPORT ∧ anyActive s then 2 else 0)
  else if d = 78 then
    let users := [76, 77].filter (usesPower s)
    if anyActive s || users.any (domainTarget s) then 3 else if users.isEmpty then 0 else 5
  else 0

/-- A request is refused: the target is written back to the domain's present state, and the refusal recorded (R376). -/
def refuseDomain (d cause : Nat) (s : State) : State :=
  event 13 .DOMAIN_EVENTS_REFUSED (((putTarget d (s.domainOn d) s).set .DOMAIN_REFUSE_DOMAIN d).set .DOMAIN_REFUSE_CAUSE cause)

/-- What precedes the removal of power (Table 15.2). -/
def beforeOff (d : Nat) (s : State) : State :=
  if d < 72 then beginDrain d 1 s
  else if d ≤ 75 then (let a := failRooms (d - 72) s; if a.session.owner = some (d - 72) then abortSession a else a)
  else if d = 77 then abortAllTrees stTimeout s
  else if d = 78 then
    modThresh (fun t => { t with keyCache := [], rankCache := [], cellarWait := [], cellarFailed := none })
      ((freshFlows s).set .CELLAR_STAT_SELF_REFRESH 1)
  else if d = 79 then abandonRecord s
  else s

/-- A domain that may move begins its transition; one that may not is refused; one that must wait waits. -/
def startDomain (d : Nat) (s : State) : State :=
  let on := domainTarget s d
  if on = s.domainOn d ∨ (transOf s d).isSome ∨ 8 ≤ s.power.trans.length then s
  else
    let j := judgeDomain s d on
    if j = 5 then s
    else if j ≠ 0 then refuseDomain d j s
    else
      let s1 := if on then s else beforeOff d s
      setTrans (s1.power.trans ++ [{ d := d, on := on }]) s1

/-- Begin, in ascending domain order, every transition the targets ask for (R375). -/
def startDomains (s : State) : State := forEach (List.range 80) startDomain s

/-- The targets are written (R374). -/
def setTargets (lo hi : Nat) (s : State) : State :=
  startDomains ((s.set .DOMAIN_TARGET_LO_TARGET lo).set .DOMAIN_TARGET_HI_TARGET hi)

/-- DOMAIN_TARGET_WRITE (R375). -/
def execDomainTargetWrite (m : Master) (hi : Bool) (w : Word) (s : State) : Host.Outcome State Fault Refusal :=
  .next (if hi then
      guardedV m .DOMAIN_TARGET_HI_TARGET 0 (w.toNat % 2 ^ 16) (fun a => setTargets (a.get .DOMAIN_TARGET_LO_TARGET) w.toNat a) s
    else
      guardedV m .DOMAIN_TARGET_LO_TARGET 0 w.toNat (fun a => setTargets w.toNat (a.get .DOMAIN_TARGET_HI_TARGET) a) s)

/-- PORT_CFG.FEC, ONE_LANE and RATE_MAX as PORT_ROLES gives them. -/
def loadRole (p : Nat) (s : State) : State :=
  let r := s.roleWord p
  ((s.set .PORT_CFG_FEC (bits r 9 1) p).set .PORT_CFG_ONE_LANE (bits r 12 1) p).set .PORT_CFG_RATE_MAX (bits r 10 2) p

/-- A port's block returns to reset, but for cells in its Landing. -/
def resetPort (p : Nat) (s : State) : State :=
  let s1 := resetFlds (blkFlds .PORT) (fun f i => i / (f.info.reg.place.count) == p) s
  clearFaults (16 + p) (s1.modPort p (fun x => { landing := x.landing, holds := x.holds, downAt := s.now }))

/-- The Crystalliser is emptied; partitions of the plan are kept. -/
def emptyCrystal (s : State) : State := { s with crystal := {} }

/-- A block that was not idle when it lost its state also leaves an outcome that nobody predicts, confined to the device's host-side
work: what befalls each room is drawn (R12, R240, R384). -/
def resetBusy (idle : Bool) (s : State) : State := if idle then s else forEach (s.porch.rooms.map (·.1)) unpredictableRoom s

/-- Every partition is empty (Table 2.10, step 3): no posted receive, unexpected message or store tile. -/
def partitionsEmpty (s : State) : Bool :=
  s.crystal.posted.isEmpty && s.crystal.unexp.isEmpty && s.crystal.msgs.all (fun m => m.stored.isEmpty)

/-- Trees are IDLE with NEXT_SEQ 0; tree entries and TREE_JOB are kept. -/
def emptyRake (s : State) : State :=
  applyWindow (resetFlds [.TREE_ENTRY_STATE, .TREE_ENTRY_NEXT_SEQ, .TREE_ENTRY_ABORTED_SEQ, .TREE_ENTRY_ABORTED_VALID,
    .TREE_ENTRY_WINDOW_LOG2] (fun _ _ => true) { s with rake := {} })

/-- Plan-loaded and software fields of RAKE that a reset of its domain keeps. -/
def rakeKept : List Reg := [.TREE_JOB, .TREE_ENTRY, .TREE_CHILD]

/-- RAKE's registers and internal state return to reset (R377, R384). -/
def resetRake (s : State) : State :=
  emptyRake (resetFlds ((blkFlds .RAKE).filter (fun f => !rakeKept.contains f.info.reg)) (fun _ _ => true) s)

/-- CRYSTAL's registers and internal state return to reset. -/
def resetCrystal (s : State) : State := emptyCrystal (resetFlds (blkFlds .CRYSTAL) (fun _ _ => true) s)

/-- DDR5 is trained and cleared (R450, Table 15.2): capacity and rate are the board's. -/
def trainCellar (s : State) : State :=
  let g := Config.cellarGib.toNat
  let s1 := ((((s.set .CELLAR_STAT_INSTALLED_GIB g).set .CELLAR_STAT_SPEED Config.cellarSpeed.toNat).set .CELLAR_STAT_TRAINED 1).set
    .CELLAR_STAT_SELF_REFRESH 0).set .CELLAR_STAT_USABLE_MIB (g * 1008)
  modThresh (fun t => { t with keys := [], ranks := [] }) s1

/-- What a domain does as it comes on (Table 15.2, R377). -/
def cameOn (d : Nat) (s : State) : State :=
  if d < 72 then
    let s1 := loadRole d (resetPort d s)
    if s1.plan.installed then startBringUp d s1 else s1
  else if d ≤ 75 then resetHostPort (d - 72) s
  else if d = 76 then clearFaults 6 (resetCrystal s)
  else if d = 77 then clearFaults 7 (resetRake s)
  else if d = 78 then trainCellar (clearFaults 10 s)
  else s

/-- What a domain does as it goes off. -/
def wentOff (d : Nat) (s : State) : State :=
  if d < 72 then s
  else if d ≤ 75 then resetHostPort (d - 72) s
  else if d = 76 then resetBusy (partitionsEmpty s) (emptyCrystal s)
  else if d = 77 then emptyRake s
  else if d = 78 then
    modThresh (fun t => { t with keys := [], ranks := [] })
      (resetFlds (blkFlds .CELLAR) (fun _ _ => true) s)
  else s

/-- A transition ends: DONE, the state bit, and the transitions that now may begin. -/
def endTrans (t : Trans) (s : State) : State :=
  let s1 := setTrans (s.power.trans.filter (fun x => x.d != t.d)) (putOn t.d t.on s)
  startDomains (event 13 .DOMAIN_EVENTS_DONE (if t.on then cameOn t.d s1 else wentOff t.d s1))

/-- DOMAIN_TRANSITION_DONE (R375): a port's domain goes off when its port is down (R151). -/
def execDomainTransitionDone (d : Nat) (s : State) : Host.Outcome State Fault Refusal :=
  match s.power.trans.find? (fun t => t.d == d) with
  | none => .next s
  | some t => if !t.on && decide (d < 72) && pst s d != 0 then .next s else .next (endTrans t s)

end Sys2Proof.Machine
end

