-- ==== Sys2Proof/Machine/Seal.lean ====
section
/-! DEFINITION. What the signature trailer of a plan is checked with (R40): SHA-384 and ECDSA over P-384. The manual names both
functions; their constants and steps, and the order of the bytes they take, are those of FIPS 180-4, FIPS 186 and SEC 1 (PRESUMED,
log 13). -/
namespace Sys2Proof.Machine

/-! SHA-384. -/

/-- Round constants 0 to 19. -/
def shaK0 : List Nat :=
  [0x428A2F98D728AE22, 0x7137449123EF65CD, 0xB5C0FBCFEC4D3B2F, 0xE9B5DBA58189DBBC, 0x3956C25BF348B538] ++
  [0x59F111F1B605D019, 0x923F82A4AF194F9B, 0xAB1C5ED5DA6D8118, 0xD807AA98A3030242, 0x12835B0145706FBE] ++
  [0x243185BE4EE4B28C, 0x550C7DC3D5FFB4E2, 0x72BE5D74F27B896F, 0x80DEB1FE3B1696B1, 0x9BDC06A725C71235] ++
  [0xC19BF174CF692694, 0xE49B69C19EF14AD2, 0xEFBE4786384F25E3, 0x0FC19DC68B8CD5B5, 0x240CA1CC77AC9C65]

/-- Round constants 20 to 39. -/
def shaK1 : List Nat :=
  [0x2DE92C6F592B0275, 0x4A7484AA6EA6E483, 0x5CB0A9DCBD41FBD4, 0x76F988DA831153B5, 0x983E5152EE66DFAB] ++
  [0xA831C66D2DB43210, 0xB00327C898FB213F, 0xBF597FC7BEEF0EE4, 0xC6E00BF33DA88FC2, 0xD5A79147930AA725] ++
  [0x06CA6351E003826F, 0x142929670A0E6E70, 0x27B70A8546D22FFC, 0x2E1B21385C26C926, 0x4D2C6DFC5AC42AED] ++
  [0x53380D139D95B3DF, 0x650A73548BAF63DE, 0x766A0ABB3C77B2A8, 0x81C2C92E47EDAEE6, 0x92722C851482353B]

/-- Round constants 40 to 59. -/
def shaK2 : List Nat :=
  [0xA2BFE8A14CF10364, 0xA81A664BBC423001, 0xC24B8B70D0F89791, 0xC76C51A30654BE30, 0xD192E819D6EF5218] ++
  [0xD69906245565A910, 0xF40E35855771202A, 0x106AA07032BBD1B8, 0x19A4C116B8D2D0C8, 0x1E376C085141AB53] ++
  [0x2748774CDF8EEB99, 0x34B0BCB5E19B48A8, 0x391C0CB3C5C95A63, 0x4ED8AA4AE3418ACB, 0x5B9CCA4F7763E373] ++
  [0x682E6FF3D6B2B8A3, 0x748F82EE5DEFB2FC, 0x78A5636F43172F60, 0x84C87814A1F0AB72, 0x8CC702081A6439EC]

/-- Round constants 60 to 79. -/
def shaK3 : List Nat :=
  [0x90BEFFFA23631E28, 0xA4506CEBDE82BDE9, 0xBEF9A3F7B2C67915, 0xC67178F2E372532B, 0xCA273ECEEA26619C] ++
  [0xD186B8C721C0C207, 0xEADA7DD6CDE0EB1E, 0xF57D4F7FEE6ED178, 0x06F067AA72176FBA, 0x0A637DC5A2C898A6] ++
  [0x113F9804BEF90DAE, 0x1B710B35131C471B, 0x28DB77F523047D84, 0x32CAAB7B40C72493, 0x3C9EBE0A15C9BEBC] ++
  [0x431D67C49C100D4C, 0x4CC5D4BECB3E42B6, 0x597F299CFC657E2A, 0x5FCB6FAB3AD6FAEC, 0x6C44198C4A475817]

/-- The eight working words of the compression. -/
structure Sha where
  a : Nat
  b : Nat
  c : Nat
  d : Nat
  e : Nat
  f : Nat
  g : Nat
  h : Nat
deriving DecidableEq, Repr

/-- The initial hash value. -/
def shaInit : Sha :=
  { a := 0xCBBB9D5DC1059ED8, b := 0x629A292A367CD507, c := 0x9159015A3070DD17, d := 0x152FECD8F70E5939,
    e := 0x67332667FFC00B31, f := 0x8EB44A8768581511, g := 0xDB0C2E0D64F98FA7, h := 0x47B5481DBEFA4FA4 }

/-- Rotation to the right of 64 bits. -/
def rotr64 (x n : Nat) : Nat := (x >>> n) ||| (x <<< (64 - n)) % 2 ^ 64

/-- The message word that follows a window of sixteen. -/
def shaNext (w : List Nat) : Nat :=
  let x := w.getD 1 0
  let y := w.getD 14 0
  (w.getD 0 0 + (rotr64 x 1 ^^^ rotr64 x 8 ^^^ (x >>> 7)) + w.getD 9 0 + (rotr64 y 19 ^^^ rotr64 y 61 ^^^ (y >>> 6))) % 2 ^ 64

/-- One round with a constant: the working words and the window of the next sixteen message words. -/
def shaRound (x : Sha × List Nat) (k : Nat) : Sha × List Nat :=
  let v := x.1
  let t1 := v.h + (rotr64 v.e 14 ^^^ rotr64 v.e 18 ^^^ rotr64 v.e 41) + ((v.e &&& v.f) ^^^ ((2 ^ 64 - 1 - v.e) &&& v.g)) + k + x.2.getD 0 0
  let t2 := (rotr64 v.a 28 ^^^ rotr64 v.a 34 ^^^ rotr64 v.a 39) + ((v.a &&& v.b) ^^^ (v.a &&& v.c) ^^^ (v.b &&& v.c))
  ({ a := (t1 + t2) % 2 ^ 64, b := v.a, c := v.b, d := v.c, e := (v.d + t1) % 2 ^ 64, f := v.e, g := v.f, h := v.g },
    x.2.drop 1 ++ [shaNext x.2])

/-- A block of sixteen message words is taken into the hash value. -/
def shaBlock (v : Sha) (block : List Nat) : Sha :=
  let r := ((shaK0 ++ shaK1 ++ shaK2 ++ shaK3).foldl shaRound (v, block)).1
  { a := (v.a + r.a) % 2 ^ 64, b := (v.b + r.b) % 2 ^ 64, c := (v.c + r.c) % 2 ^ 64, d := (v.d + r.d) % 2 ^ 64,
    e := (v.e + r.e) % 2 ^ 64, f := (v.f + r.f) % 2 ^ 64, g := (v.g + r.g) % 2 ^ 64, h := (v.h + r.h) % 2 ^ 64 }

/-- Cut a list into blocks of `n`. -/
def blocksOf {α : Type} (n : Nat) (l : List α) : List (List α) := (List.range ((l.length + n - 1) / n)).map (fun i => (l.drop (n * i)).take n)

/-- Bytes as a number, the first highest. -/
def beNat (bs : List Nat) : Nat := bs.foldl (fun a b => 256 * a + b) 0

/-- The padded message as 64-bit words: a one bit, zeros, and the length in bits in the last 16 bytes. -/
def shaPad (bs : List Nat) : List Nat :=
  let zeros := (239 - bs.length % 128) % 128
  (blocksOf 8 (bs ++ [128] ++ List.replicate (zeros + 8) 0)).map beNat ++ [8 * bs.length]

/-- SHA-384 of bytes, as a number whose highest byte is the digest's first. -/
def sha384 (bs : List Nat) : Nat :=
  let v := (blocksOf 16 (shaPad bs)).foldl shaBlock shaInit
  [v.a, v.b, v.c, v.d, v.e, v.f].foldl (fun x w => x * 2 ^ 64 + w) 0

/-! P-384: points in Jacobian coordinates, (x / z^2, y / z^3), with z = 0 at infinity. -/

/-- The field's prime, the group's order, the curve's constant and the base point. -/
def p384 : Nat := 2 ^ 384 - 2 ^ 128 - 2 ^ 96 + 2 ^ 32 - 1
def n384 : Nat := 0xFFFFFFFFFFFFFFFFFFFFFFFFFFFFFFFFFFFFFFFFFFFFFFFFC7634D81F4372DDF581A0DB248B0A77AECEC196ACCC52973
def b384 : Nat := 0xB3312FA7E23EE7E4988E056BE3F82D19181D9C6EFE8141120314088F5013875AC656398D8A2ED19D2A85C8EDD3EC2AEF
def gx384 : Nat := 0xAA87CA22BE8B05378EB1C71EF320AD746E1D3B628BA79B9859F741E082542A385502F25DBF55296C3A545E3872760AB7
def gy384 : Nat := 0x3617DE4A96262C6F5D9E98BF9292DC29F8F41DBD289A147CE9DA3113B5F0B8C00A60B1CE1D7E819D7A431D7C90EA0E5F

/-- A point. -/
structure Jac where
  x : Nat
  y : Nat
  z : Nat
deriving DecidableEq, Repr

/-- A difference in the field. -/
def subP (a b : Nat) : Nat := (a + p384 - b % p384) % p384

/-- Twice a point. -/
def dblP (q : Jac) : Jac :=
  let yy := q.y * q.y % p384
  let m := 3 * (subP q.x (q.z * q.z) * (q.x + q.z * q.z)) % p384
  let s := 4 * q.x * yy % p384
  let x := subP (m * m) (2 * s)
  { x := x, y := subP (m * subP s x) (8 * yy * yy), z := 2 * q.y * q.z % p384 }

/-- The sum of two points. -/
def addP (q r : Jac) : Jac :=
  if q.z = 0 then r
  else if r.z = 0 then q
  else
    let qz := q.z * q.z % p384
    let rz := r.z * r.z % p384
    let u1 := q.x * rz % p384
    let u2 := r.x * qz % p384
    let s1 := q.y * rz * r.z % p384
    let s2 := r.y * qz * q.z % p384
    let h := subP u2 u1
    let d := subP s2 s1
    if h = 0 then (if d = 0 then dblP q else { x := 1, y := 1, z := 0 })
    else
      let hh := h * h % p384
      let hhh := h * hh % p384
      let v := u1 * hh % p384
      let x := subP (d * d) (hhh + 2 * v)
      { x := x, y := subP (d * subP v x) (s1 * hhh), z := h * q.z * r.z % p384 }

/-- A multiple of a point, by the multiplier's 384 bits. -/
def mulP (k : Nat) (q : Jac) : Jac :=
  (List.range 384).foldr (fun i a => let t := dblP a; if k.testBit i then addP t q else t) { x := 1, y := 1, z := 0 }

/-- A power modulo a number, by the exponent's 384 bits. -/
def powM (m b k : Nat) : Nat := (List.range 384).foldr (fun i a => let t := a * a % m; if k.testBit i then t * b % m else t) 1

/-- An uncompressed point of 97 bytes (SEC 1) that lies on the curve. -/
def pointOf (bs : List Nat) : Option Jac :=
  let x := beNat ((bs.drop 1).take 48)
  let y := beNat ((bs.drop 49).take 48)
  if bs.getD 0 0 = 4 ∧ x < p384 ∧ y < p384 ∧ y * y % p384 = subP (x * x * x + b384) (3 * x) then some { x := x, y := y, z := 1 } else none

/-- ECDSA verification of a signature of 96 bytes (r, s) over a digest under a key. -/
def ecdsaOk (key sig : List Nat) (digest : Nat) : Bool :=
  let r := beNat (sig.take 48)
  let s := beNat ((sig.drop 48).take 48)
  match pointOf key with
  | none => false
  | some q =>
    if r = 0 ∨ n384 ≤ r ∨ s = 0 ∨ n384 ≤ s then false
    else
      let w := powM n384 s (n384 - 2)
      let v := addP (mulP (digest * w % n384) { x := gx384, y := gy384, z := 1 }) (mulP (r * w % n384) q)
      v.z != 0 && v.x * powM p384 (v.z * v.z) (p384 - 2) % p384 % n384 == r

/-- The key hash that the Attic holds for 13 trailer words: of the point's 97 bytes, its first byte lowest in the first word
(Table 15.6, log 13). -/
def keyHash (key : List Nat) : Nat := sha384 (key.take 97)

end Sys2Proof.Machine
end

