-- ==== Sys2Proof/Machine/FPlan.lean ====
section
/-! DEFINITION. The Floor Plan: load sessions, the ordered checks of Table 2.7, and the application of full and partial plans
(R34 to R50). -/
namespace Sys2Proof.Machine

/-! Layouts (Tables 2.1 to 2.5). -/

/-- A field of a plan word: word within the instance, low bit, width. -/
abbrev PlanField := Nat × Nat × Nat

/-- Words of an instance of a section type, a gate list aside (Table 2.3). -/
def typeWords (t : Nat) : Nat := if t = 1 ∨ t = 7 ∨ t = 8 ∨ t = 9 ∨ t = 12 then 2 else if t = 11 then 4 else 1

/-- Instances of a section type in a full plan (Table 2.3). -/
def typeInsts (t : Nat) : Nat :=
  if t = 1 ∨ t = 9 then 1 else if t = 2 ∨ t = 6 ∨ t = 10 then 72 else if t = 3 ∨ t = 12 then 8
  else if t = 4 ∨ t = 5 then 128 else if t = 7 then 64 else if t = 8 then 1024 else 3

/-- A type of Table 2.3, and one a partial plan may carry (Table 2.9). -/
def knownType (t : Nat) : Bool := decide (1 ≤ t) && decide (t ≤ 12)
def partialType (t : Nat) : Bool := knownType t && t != 1 && t != 3 && t != 12

/-- Used bits of word `j` of an instance (Tables 2.4 and 2.5): low bit and width of each field. -/
def usedBits (t j : Nat) : List (Nat × Nat) :=
  match t, j with
  | 1, 0 => [(0, 24)] | 1, _ => [(0, 32)]
  | 2, _ => [(0, 13), (20, 20)]
  | 3, _ => [(0, 1), (4, 28)]
  | 4, _ => [(0, 8)] | 5, _ => [(0, 8)] | 6, _ => [(0, 16)]
  | 7, 0 => [(0, 19), (32, 19)] | 7, _ => [(0, 5), (8, 1), (16, 32)]
  | 8, 0 => [(0, 64)] | 8, _ => [(0, 19)]
  | 9, 0 => [(0, 64)] | 9, _ => [(0, 16)]
  | 10, 0 => [(0, 7), (8, 9), (32, 32)] | 10, _ => [(0, 40)]
  | 11, 0 => [(0, 16)] | 11, 3 => [] | 11, _ => [(0, 32)]
  | _, _ => [(0, 32)]

/-- Bits outside the used ones are zero (R38). -/
def reservedZero (used : List (Nat × Nat)) (w : Nat) : Bool :=
  used.foldl (fun x f => x - bits w f.1 f.2 * 2 ^ f.1) w == 0

/-- A section as parsed: type, index of its first header word, first instance, and the entries with the index of their first
word. -/
structure PlanSec where
  ty : Nat
  pos : Nat
  first : Nat
  entries : List (Nat × List Word)
deriving DecidableEq, Repr

/-- A failed check: cause, BAD_TYPE, BAD_WORD. -/
structure Bad where
  cause : Nat
  ty : Nat
  word : Nat
deriving DecidableEq, Repr

/-- What range checks consult: the installed plan with this plan's sections laid over it. -/
structure PlanCtx where
  node : Nat
  dims : Nat
  sizes : List Nat
  roles : List Nat
  crystal : List (Nat × Nat)
deriving DecidableEq, Repr

/-! Parsing (R36). -/

/-- Cut words into entries of `n` words from word index `pos`. -/
def cutEntries (n : Nat) : Nat → Nat → List Word → List (Nat × List Word)
  | 0, _, _ => []
  | k + 1, pos, ws => (pos, ws.take n) :: cutEntries n k (pos + n) (ws.drop n)

/-- Cut the body of a GATES section into lists, each 1 + ENTRIES words. -/
def cutGates : Nat → Nat → List Word → Option (List (Nat × List Word))
  | 0, _, ws => if ws.isEmpty then some [] else none
  | k + 1, pos, ws =>
    let n := 1 + wf_ ws 0 8 9
    if ws.length < n then none else (cutGates k (pos + n) (ws.drop n)).map (fun r => (pos, ws.take n) :: r)

/-- Entries of a section of `count` instances whose body is `body`: none where the length does not match. -/
def entriesOf (t count pos : Nat) (body : List Word) : Option (List (Nat × List Word)) :=
  if t = 10 then (if count ≤ body.length then cutGates count pos body else none)
  else if body.length = count * typeWords t then some (cutEntries (typeWords t) count pos body) else none

/-! RANGE (Table 2.7, R39, R86). -/

/-- An identifier that a plan may name. -/
def okId (c : PlanCtx) (id : Nat) : Bool := configuredId c.dims c.sizes id

/-- A PORT_MAP or ESCAPE entry names a port of its dimension, and VALID is 0 for the device's own coordinate and beyond the
size. -/
def okRoute (c : PlanCtx) (i w : Nat) : Bool :=
  let d := i / 32
  decide (bits w 0 7 ≤ 71) && (bits w 7 1 == 0 ||
    (decide (d < c.dims) && decide (i % 32 < dimSize c.sizes d) && i % 32 != coord c.node d && bits (c.roles.getD (bits w 0 7) 0) 0 3 == d + 1))

/-- A via of a DETOUR entry: another port of the same dimension. -/
def okVia (c : PlanCtx) (i via valid : Nat) : Bool :=
  let r := bits (c.roles.getD i 0) 0 3
  decide (via ≤ 71) && (valid == 0 || (via != i && decide (1 ≤ r) && decide (r ≤ 4) && bits (c.roles.getD via 0) 0 3 == r))

/-- The fields of word `j` of instance `i` lie in their ranges. -/
def okFields (c : PlanCtx) (t i j : Nat) (e : List Word) : Bool :=
  let w := wn e j
  match t, j with
  | 1, 0 => decide (1 ≤ bits w 20 3) && decide (bits w 20 3 ≤ 4) && okId c (bits w 0 20)
  | 1, _ => (List.range 4).all (fun d => decide (1 ≤ bits w (8 * d) 8) && decide (bits w (8 * d) 8 ≤ 32)
      && (decide (d < c.dims) || bits w (8 * d) 8 == 1))
  | 2, _ => decide (bits w 0 3 ≤ 5) && (bits w 0 3 != 5 || okId c (bits w 20 20))
  | 3, _ => if bits w 0 1 = 1 then decide (4 ≤ bits w 4 12) else bits w 4 12 == 0 && bits w 16 16 == 0
  | 4, _ => okRoute c i w
  | 5, _ => okRoute c i w
  | 6, _ => okVia c i (bits w 0 7) (bits w 7 1) && okVia c i (bits w 8 7) (bits w 15 1)
  | 7, 1 => decide (6 ≤ bits w 0 5) && decide (bits w 0 5 ≤ 16)
  | 8, 1 => (decide (bits w 9 7 ≤ 71) || bits w 9 7 == 127) && (bits w 18 1 == 0 || ((bits w 16 2 == 3) == (bits w 9 7 == 127)))
  | 10, 0 => decide (bits w 0 7 ≤ 71) && decide (1 ≤ bits w 8 9) && decide (bits w 8 9 ≤ 256)
  | 10, _ => decide (16 ≤ bits w 8 32)
  | _, _ => true

/-- First word of an entry out of range. -/
def badWord (c : PlanCtx) (t i : Nat) (e : Nat × List Word) : Option Nat :=
  ((List.range e.2.length).find? (fun j => !reservedZero (usedBits t j) (wn e.2 j) || !okFields c t i j e.2)).map (e.1 + ·)

/-- Replace element `i` of a list, padded with a default as far as needed. -/
def setPad {α : Type} (d : α) (l : List α) (i : Nat) (v : α) : List α :=
  (l ++ List.replicate (i + 1 - l.length) d).set i v

/-- Lay a section over the context. -/
def overlay (c : PlanCtx) (t first : Nat) (es : List (Nat × List Word)) : PlanCtx :=
  es.zipIdx.foldl (fun (a : PlanCtx) x =>
    let w := x.1.2
    let i := first + x.2
    if t = 1 then { a with node := wf_ w 0 0 20, dims := wf_ w 0 20 3, sizes := (List.range 4).map (fun d => wf_ w 1 (8 * d) 8) }
    else if t = 2 then { a with roles := setPad 0 a.roles i (wn w 0) }
    else if t = 7 then { a with crystal := setPad (0, 0) a.crystal i (wn w 0, wn w 1) }
    else a) c

/-- Conditions on a section as a whole (R39, Table 5.4, the CRYSTAL totals). -/
def okWhole (c : PlanCtx) (t : Nat) (es : List (Nat × List Word)) : Bool :=
  if t = 3 then
    let on := es.filter (fun e => wf_ e.2 0 0 1 == 1)
    let sum := (on.map (fun e => wf_ e.2 0 4 12)).sum
    let mask := es.zipIdx.foldl (fun a x => a + wf_ x.1.2 0 0 1 * 2 ^ x.2) 0
    decide (sum ≤ poolCells) && legalVcSets.contains mask && on.all (fun e => decide (wf_ e.2 0 16 16 ≤ poolCells - sum))
  else if t = 7 then
    decide ((c.crystal.map (fun x => bits x.1 0 19)).sum ≤ 262144) && decide ((c.crystal.map (fun x => bits x.1 32 19)).sum ≤ 262144)
  else true

/-! The checks of R45, in order. -/

/-- Fields of the header (Table 2.1). -/
def hMagic (ws : List Word) : Nat := wf_ ws 0 0 32
def hFormat (ws : List Word) : Nat := wf_ ws 0 32 8
def hKind (ws : List Word) : Nat := wf_ ws 0 40 1
def hRaise (ws : List Word) : Bool := (wn ws 0).testBit 41
def hSlot (ws : List Word) : Nat := wf_ ws 0 42 1
def hSections (ws : List Word) : Nat := wf_ ws 0 48 16
def hLength (ws : List Word) : Nat := wf_ ws 1 0 32
def hDevice (ws : List Word) : Nat := wf_ ws 1 32 16
def hPlanId (ws : List Word) : Nat := wn ws 2
def hBase (ws : List Word) : Nat := wn ws 3
def hSerial (ws : List Word) : Nat := wf_ ws 4 0 32
def hNode (ws : List Word) : Nat := wf_ ws 5 0 20
def hActivate (ws : List Word) : Nat := wn ws 6

/-- The first element of a list of conditional failures whose condition holds. -/
def firstBad : List (Bool × Bad) → Option Bad
  | [] => none
  | (b, x) :: r => if b then some x else firstBad r

/-- Step 2: the header. -/
def checkHeader (kind : Nat) (ws : List Word) : Option Bad :=
  let full := hKind ws == 0
  firstBad [
    (hMagic ws != 0x4F4C5046, ⟨1, 0, 0⟩), (hFormat ws != 1, ⟨2, 0, 0⟩), (hDevice ws != 0x4200, ⟨3, 0, 1⟩),
    (hKind ws != kind, ⟨21, 0, 0⟩), (hLength ws != ws.length, ⟨5, 0, 1⟩),
    (wf_ ws 0 43 5 != 0, ⟨8, 0, 0⟩), (wf_ ws 1 48 16 != 0, ⟨8, 0, 1⟩), (full && hBase ws != 0, ⟨8, 0, 3⟩),
    (wf_ ws 5 20 44 != 0, ⟨8, 0, 5⟩), (full && hActivate ws != 0, ⟨8, 0, 6⟩), (wn ws 7 != 0, ⟨8, 0, 7⟩),
    (full && hSections ws != 12, ⟨7, 0, 0⟩)]

/-- The section at word `pos`, checked against the types before it (step 3): the section and the context it leaves. -/
def checkSection (full : Bool) (k last pos : Nat) (ws : List Word) (c : PlanCtx) : Sum Bad (PlanSec × PlanCtx × Nat) :=
  let tpos := ws.length - 26
  let t := wf_ ws pos 0 8
  let len := wf_ ws pos 32 32
  let first := wf_ ws (pos + 1) 0 32
  let count := wf_ ws (pos + 1) 32 32
  let bt := t % 16
  if tpos < pos + 2 then .inl ⟨5, 0, 1⟩
  else if !knownType t || decide (t ≤ last) || (full && (t != k + 1 || first != 0 || count != typeInsts t)) then .inl ⟨7, bt, pos⟩
  else if len < 3 ∨ tpos < pos + len then .inl ⟨5, bt, pos⟩
  else
    match entriesOf t count (pos + 2) ((ws.drop (pos + 2)).take (len - 3)) with
    | none => .inl ⟨5, bt, pos⟩
    | some es =>
      let chk := pos + len - 1
      let c1 := overlay c t first es
      match firstBad [
        (wn ws chk != crc32c (wordsBytes ((ws.drop pos).take (len - 1))), ⟨6, bt, chk⟩), (wf_ ws pos 8 8 != 1, ⟨2, bt, pos⟩),
        (!full && !partialType t, ⟨13, bt, pos⟩), (wf_ ws pos 16 16 != 0, ⟨8, bt, pos⟩),
        (count == 0 || decide (typeInsts t < first + count), ⟨8, bt, pos + 1⟩)] with
      | some b => .inl b
      | none =>
        match es.zipIdx.findSome? (fun x => badWord c1 t (first + x.2) x.1) with
        | some w => .inl ⟨8, bt, w⟩
        | none => if okWhole c1 t es then .inr (⟨t, pos, first, es⟩, c1, pos + len) else .inl ⟨8, bt, pos⟩

/-- Step 3 over `n` sections. -/
def checkSections (full : Bool) (ws : List Word) : Nat → Nat → Nat → Nat → PlanCtx → Sum Bad (List PlanSec)
  | 0, _, _, pos, _ => if pos = ws.length - 26 then .inr [] else .inl ⟨5, 0, 1⟩
  | n + 1, k, last, pos, c =>
    match checkSection full k last pos ws c with
    | .inl b => .inl b
    | .inr (sec, c1, pos1) =>
      match checkSections full ws n (k + 1) sec.ty pos1 c1 with
      | .inl b => .inl b
      | .inr r => .inr (sec :: r)

/-- Steps 4 and 5: the trailer, the key, the signature and the serial, under the shadows in force at COMMIT (R40, R388); words give
their bytes lowest first, as for check words (log 13). -/
def checkTrust (shadow ws : List Word) : Option Bad :=
  let tpos := ws.length - 26
  let slot := hSlot ws
  let key := wordsBytes ((ws.drop (tpos + 1)).take 13)
  let hash := beNat (wordsBytes ((shadow.drop (if slot = 0 then 2 else 8)).take 6))
  firstBad [
    (wn ws tpos != 0x0000001A000001FF, ⟨5, 15, tpos⟩),
    (hash == 0 || keyHash key != hash || wf_ shadow 1 (32 + slot) 1 == 1, ⟨10, 15, tpos⟩),
    (!ecdsaOk key (wordsBytes (ws.drop (tpos + 14))) (sha384 (wordsBytes (ws.take tpos))), ⟨9, 15, tpos⟩),
    (decide (hSerial ws < wf_ shadow 1 0 32), ⟨11, 0, 4⟩)]

/-- A Cellar region exceeds what is usable, or overlaps one before it: of two regions that overlap the later one is the offending
entry (DESIGN CHOICE, log 26: Table 2.7 names none). -/
def badRegion (usable : Nat) : List (Nat × Nat) → List (Nat × List Word) → Option Nat
  | _, [] => none
  | seen, (pos, e) :: r =>
    let b := wf_ e 0 0 32
    let n := wf_ e 1 0 32
    if 0 < n ∧ (usable < b + n ∨ seen.any (fun x => decide (b < x.1 + x.2) && decide (x.1 < b + n))) then some pos
    else badRegion usable (if 0 < n then (b, n) :: seen else seen) r

/-- CELLAR_FIT of one section; sections are judged in ascending type, so DOMAINS before CELLAR_MAP (DESIGN CHOICE, log 26: R45 gives
its two conditions no order). -/
def cellarFit (usable : Nat) (sec : PlanSec) : Option Bad :=
  if sec.ty = 9 then
    sec.entries.findSome? (fun e =>
      if (wf_ e.2 1 12 1 = 1 ∨ wf_ e.2 1 13 1 = 1) ∧ wf_ e.2 1 14 1 = 0 then some ⟨17, 9, e.1⟩ else none)
  else if sec.ty = 12 then (badRegion usable [] sec.entries).map (fun w => ⟨17, 12, w⟩)
  else none

/-- Types a partial plan may carry while the device is at L3 (Table 2.7, SAFE_STATE). -/
def safeType (t : Nat) : Bool := t == 2 || t == 4 || t == 5 || t == 6 || t == 9

/-- NODE_ID of the NODE section. -/
def sectionNode (secs : List PlanSec) : Option Nat :=
  (secs.find? (fun x => x.ty == 1)).bind (fun x => x.entries.head?.map (fun e => wf_ e.2 0 0 20))

/-- Step 6: the plan against the installed state. -/
def checkInstalled (ws : List Word) (secs : List PlanSec) (s : State) : Option Bad :=
  let full := hKind ws == 0
  let unsafe_ := secs.find? (fun x => !safeType x.ty)
  match firstBad [
    (full && s.plan.installed, ⟨19, 0, 0⟩),
    (full && sectionNode secs != some (hNode ws), ⟨4, 0, 5⟩), (!full && (!s.plan.installed || hNode ws != s.own), ⟨4, 0, 5⟩),
    (!full && hBase ws != s.get .FPLAN_ID_PLAN_ID, ⟨12, 0, 3⟩),
    (!full && decide (3 ≤ s.devLevel) && unsafe_.isSome, ⟨20, ((unsafe_.map (·.ty)).getD 0) % 16, (unsafe_.map (·.pos)).getD 0⟩)] with
  | some b => some b
  | none => if full then secs.findSome? (cellarFit (s.get .CELLAR_STAT_USABLE_MIB)) else none

/-- The context that a plan's range checks start from: nothing, for a full plan and for a partial plan while none is installed
(R44). Such a partial plan names no valid route entry and no ROLE 5 port that lies in range, so one that does is rejected RANGE at
step 3 of R45, before WRONG_NODE of step 6 (DESIGN CHOICE, log 26). -/
def startCtx (full : Bool) (s : State) : PlanCtx :=
  if full || !s.plan.installed then ⟨0, 0, [1, 1, 1, 1], [], []⟩
  else ⟨s.own, s.plan.dims, s.plan.sizes, s.plan.roles, s.plan.crystal⟩

/-- Every check but those at application: the failed check, or the sections. -/
def verifyPlan (s : State) : Sum Bad (List PlanSec) :=
  let ws := s.session.words
  match checkHeader s.session.kind ws with
  | some b => .inl b
  | none =>
    let full := hKind ws == 0
    match checkSections full ws (hSections ws) 0 0 8 (startCtx full s) with
    | .inl b => .inl b
    | .inr secs =>
      match checkTrust s.session.shadow ws with
      | some b => .inl b
      | none =>
        match checkInstalled ws secs s with
        | some b => .inl b
        | none => .inr secs

/-! Application (R44, R47, R48, Table 2.9). -/

/-- Change the plan. -/
def modPlan (f : PlanSt → PlanSt) (s : State) : State := { s with plan := f s.plan }

/-- Replace a gate list: at once in a full plan, at the next cycle boundary of its port in a partial one. -/
def putGates (full : Bool) (w : List Word) (s : State) : State :=
  let p := wf_ w 0 0 7
  let l : GateList := { offset := wf_ w 0 32 32, entries := (List.range (wf_ w 0 8 9)).map (fun i => (wf_ w (i + 1) 0 8, wf_ w (i + 1) 8 32)) }
  match gateList s p with
  | some old =>
    if full then modPlan (fun a => { a with gates := Tab.put a.gates p l, gatesNext := Tab.del a.gatesNext p }) s
    else
      let at1 := s.netNs + (gateCycle old - gatePos old s.netNs)
      modPlan (fun a => { a with gates := Tab.put a.gates p old, gatesNext := Tab.put a.gatesNext p (at1, l) }) s
  | none => modPlan (fun a => { a with gates := Tab.put a.gates p l, gatesNext := Tab.del a.gatesNext p }) s

/-- A TREES entry. -/
def putTreeEntry (t : Nat) (w : List Word) (s : State) : State :=
  let s1 := (((s.set .TREE_CHILD_CHILD_LO (wn w 0) t).set .TREE_ENTRY_CHILD_HI (wf_ w 1 0 8) t).set .TREE_ENTRY_HOST (wf_ w 1 8 1) t).set
    .TREE_ENTRY_PARENT (wf_ w 1 9 7) t
  resetSeqs t (((s1.set .TREE_ENTRY_ROLE (wf_ w 1 16 2) t).set .TREE_ENTRY_VALID (wf_ w 1 18 1) t).set .TREE_ENTRY_STATE 0 t)

/-- The NODE section. -/
def putNode (w : List Word) (s : State) : State :=
  let s1 := modPlan (fun a => { a with dims := wf_ w 0 20 3, service := wf_ w 0 23 1 == 1,
                                       sizes := (List.range 4).map (fun d => wf_ w 1 (8 * d) 8) }) s
  ((s1.set .NODE_ID_NODE (wf_ w 0 0 20)).set .NODE_ID_INDEX (s1.idxOf (wf_ w 0 0 20))).set .NODE_ID_VALID 1

/-- One instance of a section. -/
def putEntry (full : Bool) (t i : Nat) (w : List Word) (s : State) : State :=
  match t with
  | 1 => putNode w s
  | 2 => loadRole i (modPlan (fun a => { a with roles := setPad 0 a.roles i (wn w 0) }) s)
  | 3 =>
    (modPlan (fun a => { a with vcs := setPad 0 a.vcs i (wn w 0) }) s).set .HALL_STAT_VC_SET
      (putBit (s.get .HALL_STAT_VC_SET) i (wf_ w 0 0 1 == 1))
  | 4 => s.set .PORT_MAP_RD_ENTRY (wf_ w 0 0 8) i
  | 5 => s.set .ESCAPE_RD_ENTRY (wf_ w 0 0 8) i
  | 6 => s.set .DETOUR_RD_ENTRY (wf_ w 0 0 16) i
  | 7 => modPlan (fun a => { a with crystal := setPad (0, 0) a.crystal i (wn w 0, wn w 1) }) s
  | 8 => putTreeEntry i w s
  | 9 => setTargets (wn w 0) (wf_ w 1 0 16) s
  | 10 => putGates full w s
  | 11 => modPlan (fun a => { a with budgets := setPad (0, 0, 0) a.budgets i (wf_ w 0 0 16, wf_ w 1 0 32, wf_ w 2 0 32) }) s
  | 12 => modPlan (fun a => { a with cellar := setPad (0, 0) a.cellar i (wf_ w 0 0 32, wf_ w 1 0 32) }) s
  | _ => s

/-- A rewrite of plan-loaded entries mends their parity (R358). -/
def mendPlan (t first n : Nat) (s : State) : State :=
  forEach (blockIds) (fun b a => mendSites b (fun x => match x with
    | .plan c ty i => c == b && ty == t && decide (first ≤ i) && decide (i < first + n)
    | .reg .. => false) a) s

/-- Apply a section. -/
def putSection (full : Bool) (sec : PlanSec) (s : State) : State :=
  mendPlan sec.ty sec.first sec.entries.length
    (forEach sec.entries.zipIdx (fun x a => putEntry full sec.ty (sec.first + x.2) x.1.2 a) s)

/-- A port is down, or its domain is off. -/
def portDownNow (s : State) (p : Nat) : Bool := pst s p == 0 || !s.domainOn p

/-- The port a route table entry names is down, if it names one. -/
def routeDown (s : State) (e : Nat) : Bool := bits e 7 1 == 0 || pst s (bits e 0 7) == 0

/-- A partition holds a posted, unexpected or spilled entry. -/
def partBusy (s : State) (p : Nat) : Bool := s.crystal.posted.any (fun e => e.part == p) || s.crystal.unexp.any (fun e => e.part == p)

/-- The live condition of an entry (Table 2.9): the cause where it fails. -/
def liveCause (s : State) (t i : Nat) (w : List Word) : Option Nat :=
  if t = 2 ∧ !portDownNow s i then some 14
  else if t = 5 ∧ wf_ w 0 0 8 ≠ s.get .ESCAPE_RD_ENTRY i ∧ !(routeDown s (wf_ w 0 0 8) && routeDown s (s.get .ESCAPE_RD_ENTRY i)) then some 14
  else if t = 8 ∧ (s.tree i).any (fun x => x.begun) then some 15
  else if t = 7 ∧ partBusy s i then some 16
  else none

/-- The first live condition that fails, in ascending type and instance order. -/
def checkLive (s : State) (secs : List PlanSec) : Option Bad :=
  secs.findSome? (fun sec => sec.entries.zipIdx.findSome? (fun x =>
    (liveCause s sec.ty (sec.first + x.2) x.1.2).map (fun c => ⟨c, sec.ty % 16, x.1.1⟩)))

/-- A session ends DONE. -/
def endDone (s : State) : State :=
  let s1 := { s with session := {} }
  event 3 .FPLAN_EVENTS_DONE (tally .PLAN_DONE (s1.set .FPLAN_STAT_STATE 5))

/-- Install a full plan (R41, R44, R61, R152). -/
def installFull (secs : List PlanSec) (s : State) : State :=
  let ws := s.session.words
  let s1 := forEach secs (putSection true) (modPlan (fun a => { a with installed := true }) s)
  let s2 := (((s1.set .FPLAN_ID_PLAN_ID (hPlanId ws)).set .FPLAN_SERIAL_SERIAL (hSerial ws)).set .FPLAN_SERIAL_PARTIALS 0).set .BOOT_STAT_PHASE 6
  let s3 := serviceFallback 6 0 (if hRaise ws then raiseFloor (hSerial ws) s2 else s2)
  endDone (forEach (List.range 72) startBringUp s3)

/-- Apply a partial plan (R47, R48, R61). -/
def applyPartial (late : Bool) (secs : List PlanSec) (s : State) : State :=
  match checkLive s secs with
  | some b => endRejected b.cause b.ty b.word s
  | none =>
    let s1 := forEach secs (putSection false) s
    let s2 := s1.set .FPLAN_SERIAL_PARTIALS (min 65535 (s1.get .FPLAN_SERIAL_PARTIALS + 1))
    let s3 := if late then event 3 .FPLAN_EVENTS_LATE (tally .PLAN_LATE s2) else s2
    endDone (if secs.any (fun x => x.ty == 11) then enterScheduled false s3 else s3)

/-! Commands (R42, R43). -/

/-- A session is open: RECEIVING to APPLYING. -/
def sessionOpen (s : State) : Bool := decide (1 ≤ s.get .FPLAN_STAT_STATE) && decide (s.get .FPLAN_STAT_STATE ≤ 4)

/-- A write that is ignored under R43. -/
def foreignWrite (s : State) : State := event 3 .FPLAN_EVENTS_FOREIGN_WRITE (tally .FOREIGN_WRITE s)

/-- A session of another master is open. -/
def foreign (m : Master) (s : State) : Bool := sessionOpen s && s.session.owner != some (masterId m)

/-- OWNER of a master (Table 2.14); it gives MGMT requesters no code. -/
def ownerCode : Master → Nat
  | .host h => 1 + h % 4
  | .stair => 5
  | .hk _ _ => 6
  | .mgmt _ => 0

/-- FPLAN accepts OPEN: from PLAN_WAIT on (Table 15.13, step 8), not HALTED (R398) and not isolated (Table 14.1). -/
def openAccepted (s : State) : Bool :=
  decide (5 ≤ s.get .BOOT_STAT_PHASE) && s.get .BOOT_STAT_PHASE != 7 && decide (s.level 3 < 2)

/-- OPEN with a KIND. -/
def openSession (m : Master) (kind : Nat) (s : State) : State :=
  if sessionOpen s || !openAccepted s then s
  else
    let s1 := ((s.set .FPLAN_STAT_STATE 1).set .FPLAN_STAT_OWNER (ownerCode m)).set .FPLAN_STAT_WORDS 0
    let s2 := ((s1.set .FPLAN_STAT_REJECT 0).set .FPLAN_STAT_BAD_TYPE 0).set .FPLAN_STAT_BAD_WORD 0
    { s2 with session := { kind := kind % 2, lastNs := s.now, owner := some (masterId m) } }

/-- A write of FPLAN_CTRL by another master than an open session's owner is ignored, KIND included. -/
def planCtrl (m : Master) (act : State → State) (s : State) : State := if foreign m s then foreignWrite s else act s

/-- FPLAN_OPEN (R42). -/
def execFplanOpen (m : Master) (kind : Nat) (s : State) : Host.Outcome State Fault Refusal :=
  .next (guarded m .FPLAN_CTRL_OPEN 0 (planCtrl m (fun a => openSession m kind (a.set .FPLAN_CTRL_KIND kind))) s)

/-- A word for the staging store (R42, R43). -/
def planWord (m : Master) (w : Word) (s : State) : State :=
  let n := s.get .FPLAN_STAT_WORDS
  if s.get .FPLAN_STAT_STATE ≠ 1 ∨ s.session.owner ≠ some (masterId m) then foreignWrite s
  else if 131072 ≤ n ∨ (2 ≤ n ∧ hLength s.session.words ≤ n) then abortSession s
  else
    let s1 := s.set .FPLAN_STAT_WORDS (n + 1)
    { s1 with session := { s1.session with words := s1.session.words ++ [w], lastNs := s.now } }

/-- FPLAN_DATA_WRITE (R42). -/
def execFplanDataWrite (m : Master) (w : Word) (s : State) : Host.Outcome State Fault Refusal :=
  .next (guarded m .FPLAN_DATA_WORD 0 (planWord m w) s)

/-- COMMIT: the shadows in force are those the plan is verified under (R388). -/
def commitSession (s : State) : State :=
  if s.get .FPLAN_STAT_STATE ≠ 1 then foreignWrite s
  else
    let s1 := s.set .FPLAN_STAT_STATE 2
    { s1 with session := { s1.session with shadow := shadowWords s } }

/-- FPLAN_COMMIT (R42). -/
def execFplanCommit (m : Master) (s : State) : Host.Outcome State Fault Refusal :=
  .next (guarded m .FPLAN_CTRL_COMMIT 0 (planCtrl m commitSession) s)

/-- ABORT: ignored, with FOREIGN_WRITE, once APPLYING; while no session is open it is ignored and not counted (DESIGN CHOICE, log
27: R43 speaks of the writes of other masters, of FPLAN_DATA and of COMMIT, and not of this one). -/
def abortWrite (s : State) : State := if s.get .FPLAN_STAT_STATE = 4 then foreignWrite s else abortSession s

/-- FPLAN_ABORT (R43). -/
def execFplanAbort (m : Master) (s : State) : Host.Outcome State Fault Refusal :=
  .next (guarded m .FPLAN_CTRL_ABORT 0 (planCtrl m abortWrite) s)

/-- FPLAN_SESSION_TIMEOUT (R43): 100 ms without a word or COMMIT. -/
def execFplanSessionTimeout (s : State) : Host.Outcome State Fault Refusal :=
  if s.get .FPLAN_STAT_STATE = 1 ∧ s.session.lastNs + 100000000 ≤ s.now then .next (abortSession s) else .next s

/-- PLAN_VERIFY_DONE (R45): a full plan, and a partial plan whose ACTIVATE_AT is 0 or has passed, is applied; another waits. -/
def execPlanVerifyDone (s : State) : Host.Outcome State Fault Refusal :=
  if s.get .FPLAN_STAT_STATE ≠ 2 then .next s
  else
    match verifyPlan s with
    | .inl b => .next (endRejected b.cause b.ty b.word s)
    | .inr _ =>
      let at1 := hActivate s.session.words
      .next (s.set .FPLAN_STAT_STATE (if s.session.kind = 1 ∧ s.netNs ≤ at1 ∧ at1 ≠ 0 then 3 else 4))

/-- The sections of the verified plan of the session. -/
def sessionSections (s : State) : List PlanSec :=
  let ws := s.session.words
  match checkSections (hKind ws == 0) ws (hSections ws) 0 0 8 (startCtx (hKind ws == 0) s) with
  | .inl _ => []
  | .inr secs => secs

/-- FULL_PLAN_APPLY_DONE (R44). -/
def execFullPlanApplyDone (s : State) : Host.Outcome State Fault Refusal :=
  if s.get .FPLAN_STAT_STATE = 4 ∧ s.session.kind = 0 then .next (installFull (sessionSections s) s) else .next s

/-- PLAN_ACTIVATE (R47): at ACTIVATE_AT, or at once after verification. -/
def execPlanActivate (s : State) : Host.Outcome State Fault Refusal :=
  let st := s.get .FPLAN_STAT_STATE
  let at1 := hActivate s.session.words
  if s.session.kind = 1 ∧ st = 4 then .next (applyPartial (at1 != 0) (sessionSections s) s)
  else if st = 3 ∧ at1 ≤ s.netNs then .next (applyPartial false (sessionSections (s.set .FPLAN_STAT_STATE 4)) (s.set .FPLAN_STAT_STATE 4))
  else .next s

end Sys2Proof.Machine
end

