-- ==== Sys2Proof/Machine/Faults.lean ====
section
/-! DEFINITION. Faults and recovery (chapter 14): what isolation of a block does (Table 14.1), queue resets (R23, Table 1.5),
quiet periods and acknowledgement (R351), injection (R349), parity (R358, R359), the host-side reset (R356), the L4 hold (R357),
suspects (R363, R364) and fences (R366 to R368). -/
namespace Sys2Proof.Machine

/-! Isolation (Table 14.1). -/

/-- What a block does as it comes to L2; the blocks not named here act on their level where they work. -/
def isolate (b : Nat) (s : State) : State :=
  if b = 3 then abortSession s
  else if b = 7 then abortAllTrees stTimeout s
  else if b = 11 then latchesStopped s
  else if b = 12 then abandonRecord s
  else if 16 ≤ b then portDown (b - 16) 7 s
  else s

/-- On entry to L4 the ports leave service, which their trees and the time tree see. -/
def portsLeave (s : State) : State :=
  refreshParent (forEach ((List.range 72).filter (fun p => pst s p == 6)) (fun p a => treePortChanged p true a) s)

/-- A block detects a fault, with the isolation and the device state that follow (R349, R353). -/
def faultAt (b cls unit detail : Nat) (s : State) (injected : Bool := false) : State :=
  let s1 := raiseCore b cls (classLevel cls) unit detail s injected
  let l := classLevel cls + b2n (faultEscalates b cls s)
  let s2 := if 2 ≤ s1.level b ∧ (s.level b < 2 ∨ 2 ≤ l) then isolate b s1 else s1
  if s.devLevel < 4 ∧ 4 ≤ s2.devLevel then portsLeave s2 else s2

/-! Queues that lose their entries (R23, Table 1.5). -/

/-- Entries of a list that are lost, by position, and those that are kept. -/
def lose {α : Type} (lost : Nat → Bool) (l : List α) : List α × List α :=
  let parts := l.zipIdx.partition (fun e => lost e.2)
  (parts.1.map (·.1), parts.2.map (·.1))

/-- Entries that stand in a crossing queue as its pointers fail: a free number of them, no more than its depth, those nearest to it
(R23; log 17). -/
def crossing (q : QueueId) (lost : Nat → Bool) (s : State) : (Nat → Bool) × State :=
  let (v, s1) := draw s
  (fun i => decide (i < v % (queueDepth q + 1)) && lost i, s1)

/-- Lost work entries complete with QUEUE_RESET. -/
def loseWork (h : Nat) (lost : Nat → Bool) (s : State) : State :=
  let (mine, rest) := s.porch.fetchQ.partition (fun it => (s.room it.room).hport == h)
  let (gone, kept) := lose lost mine
  forEach gone (fun it a => freePick it (failStalled stQueueReset it a)) { s with porch := { s.porch with fetchQ := kept ++ rest } }

/-- A lost segment descriptor is outstanding: the Threshold retransmits the segment after its timeout. -/
def loseSeg (g : Seg) (s : State) : State :=
  let rto := rtoOf s g.peer
  s.modSend g.peer (fun f => { f with out := f.out ++ [{ g with
    firstNs := some (g.firstNs.getD s.now), rto := rto, timerAt := some (s.now + rto), toMs := s.get .THRESH_CFG_OP_TIMEOUT_MS }] })

/-- The operations of the trees whose cells are lost end with QUEUE_RESET on every member. -/
def loseTrees (cs : List Cell) (s : State) : State :=
  forEach ((cs.filter (fun c => c.vc == 1)).map cellTree).eraseDups (fun t a => abortTree t stQueueReset none a) s

/-- A lost operation of the Crystalliser's input: a lead comes again from its source, a receive or CANCEL completes, and a removal, which no
source repeats, is asked again. -/
def loseCrOp (o : CrOp) (s : State) : State :=
  match o with
  | .arrive x q => dropRSeg x q s
  | .post p => refuseRecv p stQueueReset s
  | .cancel r e => failWork r e stQueueReset s
  | .remove r posted => askRemoval r posted s

/-- A delivery command is one that a test of its segment selects; the Crystalliser's are those of SENDs and of stored messages. -/
def ofCrystal (s : State) (d : Delivery) : Bool :=
  match d with
  | .seg x q => (rsegOf s x q).any (fun g => leadOp g.body == 1)
  | .stored _ => true

/-- A lost delivery command: its room enters ERROR, and the operation ends at its source by timeout. -/
def loseDelivery (d : Delivery) (s : State) : State :=
  match d with
  | .seg x q => match rsegOf s x q with
    | some g => roomError (leadDestRoom g.body) 4 s
    | none => s
  | .stored i => match msgById s i with
    | some m => roomError m.room 4 s
    | none => s

/-- Delivery commands of a kind are lost. -/
def loseDeliveries (sel : Delivery → Bool) (lost : Nat → Bool) (s : State) : State :=
  let (mine, rest) := s.porch.deliveries.partition sel
  let (gone, kept) := lose lost mine
  forEach gone loseDelivery { s with porch := { s.porch with deliveries := kept ++ rest } }

/-- Completion writes of a port are lost: which of its ACTIVE rooms they were for is a free value, and those enter ERROR. -/
def loseCompletions (h : Nat) (s : State) : State :=
  forEach ((s.porch.rooms.filter (fun e => e.2.st == 1 && e.2.hport == h)).map (·.1)) (fun r a =>
    let (v, a1) := draw a
    if v % 2 = 1 then roomError r 4 a1 else a1) s

/-- Operands of running operations are lost in a Rake crossing: which trees they belonged to is a free value (log 17). -/
def loseOperands (s : State) : State :=
  forEach ((s.rake.trees.filter (fun e => e.2.begun)).map (·.1)) (fun t a =>
    let (v, a1) := draw a
    if v % 2 = 1 then abortTree t stQueueReset none a1 else a1) s

/-- Cells of the Vestibule are lost in a crossing: which segments lose their latest cell is a free value. Their sources send them again. -/
def loseVest (s : State) : State :=
  let l := s.thresh.flows.flatMap (fun e => (e.2.recv.segs.filter (fun g => !g.got.isEmpty && !g.queued && g.st == .inProgress)).map (fun g => (e.1, g.seq)))
  forEach (l.take (queueDepth (.vestCrossing 0))) (fun e a =>
    let (v, a1) := draw a
    if v % 2 = 1 then modRSeg e.1 e.2 (fun g => { g with got := g.got.dropLast }) a1 else a1) s

/-- Cells lost from an injection queue. -/
def loseInj (input : Nat) (sel : Cell → Bool) (lost : Nat → Bool) (s : State) : List Cell × State :=
  let (mine, rest) := (Tab.get s.hall.inj input []).partition (fun h => sel h.cell)
  let (gone, kept) := lose lost mine
  (gone.map (·.cell), { s with hall := { s.hall with inj := Tab.set s.hall.inj input (kept ++ rest) [] } })

/-- Cells lost from an ejection queue. -/
def loseEject (out : Nat) (lost : Nat → Bool) (s : State) : List Cell × State :=
  let (gone, kept) := lose lost (Tab.get s.hall.eject out [])
  (gone.map (·.2), { s with hall := { s.hall with eject := Tab.set s.hall.eject out kept [] } })

/-- Cells lost from a Landing; their credits are returned. -/
def loseLanding (p : Nat) (lost : Nat → Bool) (s : State) : State :=
  let (gone, kept) := lose lost (s.port p).landing
  let (mine, rest) := s.hall.waiting.partition (fun h => h.inLanding && h.input == p)
  let (gone2, kept2) := lose lost mine
  let s1 := setWaiting (kept2 ++ rest) (s.modPort p (fun x => { x with landing := kept, holds := if kept.isEmpty then [] else x.holds }))
  forEach gone2 freeSlot (forEach gone (fun l a => returnCredit p l.vcIn a) s1)

/-- Cells lost from a Hall-to-transmit queue. -/
def loseTx (p v : Nat) (lost : Nat → Bool) (s : State) : State :=
  let (mine, rest) := (s.port p).htq.partition (fun c => c.cell.vc == v)
  let (gone, kept) := lose lost mine
  loseTrees (gone.map (·.cell)) (s.modPort p (fun x => { x with htq := kept ++ rest }))

/-- The operations at the Crystalliser's input that are lost. -/
def loseInput (lost : Nat → Bool) (s : State) : State :=
  let (gone, kept) := lose lost s.crystal.input
  forEach gone loseCrOp (modCrystal (fun c => { c with input := kept }) s)

/-- A crossing queue loses what stands in it, by the direction that its instance names (Tables 1.3 and 1.5). -/
def loseCrossing (q : QueueId) (lost : Nat → Bool) (s : State) : State :=
  match q with
  | .rxCrossing p =>
    let n := (s.port p).landing.length
    loseLanding p (fun i => decide (i < n) && lost (n - 1 - i)) s
  | .txCrossing p =>
    let (gone, kept) := lose lost (s.port p).htq
    loseTrees (gone.map (·.cell)) (s.modPort p (fun x => { x with htq := kept }))
  | .porchHallCrossing i =>
    if i % 2 = 0 then (loseInj (72 + i / 2) (fun _ => true) lost s).2 else loseDeliveries (fun _ => true) lost s
  | .returnCrossing i => if i = 0 then (loseEject 78 lost s).2 else (loseInj 78 (fun _ => true) lost s).2
  | .crystalCrossing i => if i = 0 then loseInput lost s else loseDeliveries (ofCrystal s) lost s
  | .rakeCrossing i =>
    let (gone, s1) := if i = 0 then loseEject 77 lost s else loseInj 77 (fun _ => true) lost s
    loseOperands (loseTrees gone s1)
  | .hkCrossing i => if i = 0 then (loseEject 79 lost s).2 else (loseInj 79 (fun _ => true) lost s).2
  | _ => loseVest s

/-- A queue loses entries. The fetch queue of a port holds what the Porch-to-Threshold queue has no room for. -/
def loseQueue (q : QueueId) (lost : Nat → Bool) (s : State) : State :=
  match q with
  | .fetch h => loseWork h (fun i => decide (porchThreshWork ≤ i) && lost (i - porchThreshWork)) s
  | .porchThresh h => loseWork h (fun i => decide (i < porchThreshWork) && lost i) s
  | .threshSluice =>
    let (gone, kept) := lose lost s.thresh.admitQ
    forEach gone loseSeg (modThresh (fun t => { t with admitQ := kept }) s)
  | .sluiceHall h => (loseInj (72 + h) (fun _ => true) lost s).2
  | .landing p => loseLanding p lost s
  | .hallTx p v => loseTx p v lost s
  | .ejection => (loseEject 78 lost s).2
  | .threshCrystal => loseInput lost s
  | .delivery => loseDeliveries (ofCrystal s) lost s
  | .threshPorch => loseDeliveries (fun d => !ofCrystal s d) lost s
  | .completion h => loseCompletions h s
  | .rendezvous =>
    let (gone, kept) := lose lost s.crystal.gets
    forEach gone (fun g a => match g.recv with
      | some p => refuseRecv p stQueueReset a
      | none => a) (modCrystal (fun c => { c with gets := kept }) s)
  | .rakeToHall => let (gone, s1) := loseInj 77 (fun _ => true) lost s; loseTrees gone s1
  | .hallToRake => let (gone, s1) := loseEject 77 lost s; loseTrees gone s1
  | .cellarClient _ => redecide (fun _ g => g.park == some .reads) (modThresh (fun t => { t with cellarWait := [] }) s)
  | .hkPath => (loseEject 79 lost (loseInj 79 (fun _ => true) lost s).2).2
  | .ackNack => (loseInj 78 (fun c => c.ty == tyAck || c.ty == tyNack) lost s).2
  | q =>
    let (l, s1) := crossing q lost s
    loseCrossing q l s1

/-- Owner of a queue, and the UNIT that names its instance (Tables 1.3 and 1.4). -/
def queueOwner : QueueId → Nat × Nat
  | .rxCrossing p | .txCrossing p | .landing p => (16 + p, 0)
  | .porchHallCrossing i => (9, i)
  | .returnCrossing i | .vestCrossing i => (8, i)
  | .crystalCrossing i => (6, i)
  | .rakeCrossing i => (7, i)
  | .hkCrossing i => (0, i)
  | .fetch h | .porchThresh h | .completion h => (9, h)
  | .threshSluice | .ejection | .ackNack => (8, 0)
  | .sluiceHall h => (5, h)
  | .hallTx p v => (4, 8 * p + v)
  | .threshCrystal | .rendezvous => (6, 0)
  | .delivery | .threshPorch => (9, 0)
  | .rakeToHall | .hallToRake => (7, 0)
  | .cellarClient i => (10, i)
  | .hkPath => (0, 0)

/-- The device has the queue. -/
def queueExists : QueueId → Bool
  | .rxCrossing p | .txCrossing p | .landing p => decide (p < 72)
  | .hallTx p v => decide (p < 72) && decide (v < 8)
  | .fetch h | .porchThresh h | .completion h | .sluiceHall h => decide (h < 4)
  | .porchHallCrossing i => decide (i < 8)
  | .returnCrossing i | .crystalCrossing i | .rakeCrossing i | .hkCrossing i | .vestCrossing i => decide (i < 2)
  | _ => true

/-- QUEUE_PTR_MISMATCH (R23). -/
def execQueuePtrMismatch (q : QueueId) (s : State) : Host.Outcome State Fault Refusal :=
  .next (if queueExists q then faultAt (queueOwner q).1 3 (queueOwner q).2 0 (loseQueue q (fun _ => true) s) else s)

/-! Memory errors (Table 14.3). -/

/-- The queue that a block's array of a number holds, where it holds one. -/
def arrayQueue (b u : Nat) : Option QueueId :=
  if 16 ≤ b then (if u = 0 then some (.landing (b - 16)) else none)
  else if b = 0 then (if u = 0 then some .hkPath else none)
  else if b = 4 then (if u < 576 then some (.hallTx (u / 8) (u % 8)) else none)
  else if b = 5 then (if u < 4 then some (.sluiceHall u) else none)
  else if b = 6 then (if u = 0 then some .threshCrystal else if u = 1 then some .rendezvous else none)
  else if b = 7 then (if u = 0 then some .rakeToHall else if u = 1 then some .hallToRake else none)
  else if b = 8 then (if u = 0 then some .threshSluice else if u = 1 then some .ejection else if u = 2 then some .ackNack else none)
  else if b = 9 then (if u < 4 then some (.fetch u) else if u = 4 then some .delivery else none)
  else if b = 10 then some (.cellarClient u)
  else none

/-- SRAM_ECC_ERROR (R348): which entries an error that cannot be corrected loses is a free value. -/
def execSramEccError (at_ : ArrayAt) (correctable : Bool) (s : State) : Host.Outcome State Fault Refusal :=
  if !classOf at_.block 20 then .next s
  else if correctable then .next (faultAt at_.block 20 at_.unit 0 s)
  else
    let (v, s1) := draw s
    .next (faultAt at_.block 21 at_.unit 0 (match arrayQueue at_.block at_.unit with
      | some q => loseQueue q (fun i => v.testBit i) s1
      | none => s1))

/-- DDR_ECC_ERROR (R348): a read that cannot be corrected is a failed tile. -/
def execDdrEccError (correctable : Bool) (s : State) : Host.Outcome State Fault Refusal :=
  .next (if correctable then faultAt 10 16 0 0 s else faultAt 10 17 0 0 (modCrystal (fun c => { c with ueNext := true }) s))

/-- DDR_LINK_FAIL (R348). -/
def execDdrLinkFail (s : State) : Host.Outcome State Fault Refusal := .next (faultAt 10 18 0 0 (s.set .CELLAR_STAT_TRAINED 0))

/-! Acknowledgement, quiet periods and injection (R349 to R352). -/

/-- Write FAULT_UNACK; STICKY clears as it reads zero (R350). -/
def setUnack (b v : Nat) (s : State) : State :=
  let s1 := s.set .FAULT_UNACK_UNACK v b
  if v = 0 then s1.set .FAULT_STAT_STICKY 0 b else s1

/-- RECOVERY_COUNT rises by 1, and holds at its largest value. -/
def countRecovery (b : Nat) (s : State) : State :=
  s.set .RECOVERY_COUNT_COUNT (min (s.get .RECOVERY_COUNT_COUNT b + 1) 0xFFFFFFFF) b

/-- A block's quiet period ends (R351). -/
def quietEnd (b : Nat) (s : State) : State :=
  let sticky := s.flag .FAULT_STAT_STICKY b
  let lvl := s.level b
  let s1 := setUnack b 0 { s with fault := { s.fault with quietAt := Tab.del s.fault.quietAt b } }
  if sticky then
    { s1 with fault := { s1.fault with quietAt := Tab.put s1.fault.quietAt b (s.now + s.get .FAULT_CFG_QUIET_MS b * 1000000) } }
  else if (lvl = 1 ∨ lvl = 2) ∧ !s.flag .FAULT_STAT_PARITY_STANDING b ∧ !s.fault.l3.contains b then
    event b .FAULT_EVENTS_RECOVERED (recomputeDevice (countRecovery b ((s1.set .FAULT_STAT_LEVEL 0 b).set .FAULT_STAT_FIRST_CLASS 0 b))) b
  else s1

/-- QUIET_TIMER_EXPIRY (R351). -/
def execQuietTimerExpiry (b : Nat) (s : State) : Host.Outcome State Fault Refusal :=
  match Tab.find? s.fault.quietAt b with
  | some t => if t ≤ s.now then .next (quietEnd b s) else .next s
  | none => .next s

/-- Acknowledge classes: bit c - 1 of the field is class c. -/
def ackClasses (b ack : Nat) (s : State) : State :=
  let un := s.get .FAULT_UNACK_UNACK b
  setUnack b (un - (un &&& ack)) s

/-- FAULT_ACK_WRITE (R351). -/
def execFaultAckWrite (m : Master) (b mask : Nat) (s : State) : Host.Outcome State Fault Refusal :=
  .next (if blockIds.contains b then guardedV m .FAULT_ACK_ACK b (mask % 2 ^ 64 / 2) (ackClasses b (mask % 2 ^ 64 / 2)) s else s)

/-- FAULT_INJECT.GO: a class that Table 14.3 does not give the block is ignored. -/
def injectFault (b : Nat) (s : State) : State :=
  let c := s.get .FAULT_INJECT_CLASS b
  if classOf b c then faultAt b c 0 0 s true else s

/-- FAULT_INJECT (R349): CLASS and GO in one write, each under its own privilege. -/
def execFaultInject (m : Master) (b cls : Nat) (s : State) : Host.Outcome State Fault Refusal :=
  .next (if !blockIds.contains b || !reaches s m then s
    else if !mayWrite (privOf m) .FAULT_INJECT_GO then refusePriv m (regAddr .FAULT_INJECT b) true s
    else injectFault b (guardedV m .FAULT_INJECT_CLASS b (cls % 64) (fun a => a.set .FAULT_INJECT_CLASS cls b) s))

/-! Parity (R358, R359). -/

/-- DETAIL of a parity mismatch (Table 14.6). -/
def siteDetail : ParitySite → Nat
  | .reg _ off => off / 8 * 8
  | .plan .. => 0

/-- Two sites name one register, or the same plan entries. -/
def sameSite : ParitySite → ParitySite → Bool
  | .reg b off, .reg c off2 => b == c && off / 8 == off2 / 8
  | x, y => x == y

/-- CFG_PARITY_MISMATCH (R358, R409): once for a register while a half of it stands. -/
def execCfgParityMismatch (site : ParitySite) (s : State) : Host.Outcome State Fault Refusal :=
  let b := siteBlock site
  let s1 := notePar b { s with fault := { s.fault with standing := s.fault.standing ++ [site] } }
  .next (if !blockIds.contains b || s.fault.standing.contains site then s
    else if s.fault.standing.any (sameSite site) then s1 else faultAt b 1 0 (siteDetail site) s1)

/-- Eight history entries of which nothing is known. -/
def freeHist : Nat → State → List HistEntry × State
  | 0, s => ([], s)
  | n + 1, s =>
    let (a, s1) := draw s
    let (b, s2) := draw s1
    let (l, s3) := freeHist n s2
    ({ ns := a % 2 ^ 64, hi := b % 2 ^ 64 } :: l, s3)

/-- A block's level, unacknowledged bits and history are unknown (R359). -/
def forgetFaults (b : Nat) (s : State) : State :=
  let (l, s1) := draw s
  let (u, s2) := draw s1
  let (h, s3) := freeHist 8 s2
  let s4 := (s3.set .FAULT_STAT_LEVEL (l % (if ceilingL2 b then 3 else 4)) b).set .FAULT_UNACK_UNACK u b
  { s4 with fault := { s4.fault with hist := Tab.put s4.fault.hist b h } }

/-- FAULT_REG_PARITY_MISMATCH (R359). -/
def execFaultRegParityMismatch (b : Nat) (s : State) : Host.Outcome State Fault Refusal :=
  .next (if blockIds.contains b then forgetFaults b (faultAt b 2 0 0 s) else s)

/-! The host-side reset (R356, Table 14.5). -/

/-- A running key command completes, and a room command is abandoned. -/
def endCommands (s : State) : State :=
  let s1 := if s.thresh.keyBusy.isSome then
      modThresh (fun t => { t with keyBusy := none }) ((s.set .KEY_CMD_STAT_BUSY 0).set .KEY_CMD_STAT_RESULT 0)
    else s
  if s1.porch.cmdRoom.isSome then endCmd 1 s1 else s1

/-- A room becomes INACTIVE, with words 5 to 30 of its context cleared. -/
def clearRoom (r : Nat) (s : State) : State :=
  let q := s.room r
  let s1 := s.setRoom r { hport := q.hport, job := q.job, everActive := q.everActive, ctx := q.ctx, resident := q.resident,
                          dirty := q.resident, lastUse := q.lastUse }
  if q.resident || q.st == 0 then s1 else writeBox r s1

/-- Injection and ejection queues of the host-side blocks are emptied. -/
def emptyHostQueues (s : State) : State :=
  let inj := s.hall.inj.filter (fun e => e.1 == 79)
  let ej := s.hall.eject.filter (fun e => e.1 == 79)
  { s with hall := { s.hall with inj := inj, eject := ej, pins := [] }, sluice := { s.sluice with queues := [], waitCount := 0 } }

/-- Contexts, caches and tables of the Threshold are emptied; rank tables and keys in the Cellar are kept. -/
def emptyThresh (s : State) : State :=
  modThresh (fun t => { t with
    flows := [], ops := [], keyCache := [], rankCache := [], atomics := [], tracker := [], atb := [],
    misses := [], missOrder := [], walking := [], prqHeld := [], reads := [], admitQ := [], respWait := [], cellarWait := [], cellarFailed := none }) s

/-- Steps 2 and 3 of the host-side reset. -/
def resetHostSide (s : State) : State :=
  let s1 := endCommands s
  let s2 := { s1 with porch := { s1.porch with fetchQ := [], stalled := [], deliveries := [], waitSlot := [], lbUsed := 0, pickUsed := 0 } }
  let s3 := forEach (s2.porch.rooms.map (·.1)) clearRoom s2
  abandonRecord (emptyHostQueues (emptyRake (emptyCrystal (emptyThresh s3))))

/-- HOST_RESET is written: ignored while it runs and at L4. -/
def hostResetGo (s : State) : State :=
  if s.flag .DEV_FAULT_HOST_RESET_BUSY || decide (4 ≤ s.devLevel) then s else resetHostSide (s.set .DEV_FAULT_HOST_RESET_BUSY 1)

/-- HOST_RESET (R356). -/
def execHostReset (m : Master) (s : State) : Host.Outcome State Fault Refusal :=
  .next (guarded m .DEV_FAULT_CTRL_HOST_RESET 0 hostResetGo s)

/-- Blocks that step 4 returns to L0: those of Table 14.5, and those that FAULT_REG_PARITY placed at L3 (R359). -/
def hostSideBlocks (s : State) : List Nat := blockIds.filter (fun b => [0, 5, 6, 7, 8, 9, 10, 12].contains b || s.fault.l3.contains b)

/-- A block returns to L0 at step 4; a history that was unknown is empty again. -/
def restoreBlock (unknown : Bool) (b : Nat) (s : State) : State :=
  let s1 := countRecovery b (setUnack b 0 ((s.set .FAULT_STAT_LEVEL 0 b).set .FAULT_STAT_FIRST_CLASS 0 b))
  { s1 with fault := { s1.fault with quietAt := Tab.del s1.fault.quietAt b,
                                     hist := if unknown then Tab.del s1.fault.hist b else s1.fault.hist } }

/-- DEV_FAULT as the blocks give it now, also below L3. -/
def renewDevice (s : State) : State :=
  let new := levelNow s
  match blockIds.find? (fun b => contribution s b == new && new != 0) with
  | some b => setDevFault new b (s.get .FAULT_STAT_FIRST_CLASS b) s
  | none => if s.fault.l4 then s else setDevFault 0 0 0 s

/-- DDR5 has lost its training, and nothing has trained it again: the cause of DDR_LINK stands (R356, R348). -/
def untrained (s : State) : Bool := s.domainOn 78 && decide (5 ≤ s.get .BOOT_STAT_PHASE) && !s.flag .CELLAR_STAT_TRAINED

/-- HOST_RESET_COMPLETE (R356): step 4; a standing mismatch, and DDR5 that is not trained, raise their block anew. -/
def execHostResetComplete (s : State) : Host.Outcome State Fault Refusal :=
  if !s.flag .DEV_FAULT_HOST_RESET_BUSY then .next s
  else
    let bs := hostSideBlocks s
    let s1 := forEach bs (fun b a => restoreBlock (s.fault.l3.contains b) b a) (s.set .DEV_FAULT_HOST_RESET_BUSY 0)
    let s2 := renewDevice { s1 with fault := { s1.fault with l3 := [] } }
    let s3 := forEach (s2.fault.standing.filter (fun p => bs.contains (siteBlock p)))
      (fun p a => faultAt (siteBlock p) 1 0 (siteDetail p) a) s2
    .next (if untrained s3 then faultAt 10 18 0 0 s3 else s3)

/-! The Off-fabric state (R357). -/

/-- L4_HOLD is written; 1 stops the countdown. -/
def writeL4Hold (v : Nat) (s : State) : State :=
  let s1 := s.set .DEV_FAULT_CTRL_L4_HOLD v
  if v % 2 = 1 then { s1 with fault := { s1.fault with l4At := none } }.set .DEV_FAULT_L4_RESET_PENDING 0 else s1

/-- L4_HOLD_WRITE (R357). -/
def execL4HoldWrite (m : Master) (v : Nat) (s : State) : Host.Outcome State Fault Refusal :=
  .next (guardedV m .DEV_FAULT_CTRL_L4_HOLD 0 (v % 2) (writeL4Hold v) s)

/-! Suspects (R364). -/

/-- A PENDING entry is freed without a notice. -/
def cancelSuspect (e : Nat) (s : State) : State :=
  event 8 .SUSPECT_EVENTS_CANCELLED (tally .SUSPECT_CANCELLED (freeSuspect e s))

/-- SUSPECT_JITTER_EXPIRY (R364). -/
def execSuspectJitterExpiry (e : Nat) (s : State) : Host.Outcome State Fault Refusal :=
  match Tab.find? s.fault.suspects e with
  | some x =>
    if x.st = 1 ∧ x.until_ ≤ s.now then
      .next (if s.fenced x.node || x.fenceSeen then cancelSuspect e s
        else sendSuspect x x.kind (putSuspect e { x with st := 2, until_ := holdEnd s } s))
    else .next s
  | none => .next s

/-- SUSPECT_HOLD_EXPIRY (R364). -/
def execSuspectHoldExpiry (e : Nat) (s : State) : Host.Outcome State Fault Refusal :=
  match Tab.find? s.fault.suspects e with
  | some x =>
    if x.st = 2 ∧ x.until_ ≤ s.now then
      .next (if x.rpt && !s.fenced x.node then sendSuspect x x.kind (putSuspect e { x with rpt := false, until_ := holdEnd s } s)
        else freeSuspect e s)
    else .next s
  | none => .next s

/-! Fences (R366 to R368). -/

/-- A set of numbers in rising order, with one more. -/
def insertUp (x : Nat) (l : List Nat) : List Nat := l.filter (fun y => decide (y < x)) ++ [x] ++ l.filter (fun y => decide (x < y))

/-- The first three points of R367: what came from a node and is not whole is discarded. -/
def dropSource (x : Nat) (s : State) : State :=
  let cut := s.crystal.msgs.filter (fun m => m.src == x && decide (m.done.length < segCount m.total))
  let whole := fun (i : Nat) => !cut.any (fun m => m.id == i)
  let other := fun (o : CrOp) => match o with
    | .arrive y _ => y != x
    | _ => true
  let s1 := modCrystal (fun c => { c with
    msgs := c.msgs.filter (fun m => whole m.id), unexp := c.unexp.filter (fun u => whole u.id),
    input := c.input.filter other, holding := c.holding.filter (fun h => other h.2) }) s
  let ds := s1.porch.deliveries.filter (fun d => match d with
    | .seg y _ => y != x
    | .stored i => whole i)
  let s2 := { s1 with porch := { s1.porch with deliveries := ds } }.modRecv x
    (fun r => { r with segs := r.segs.filter (fun g => g.st != RState.inProgress) })
  forEach cut cutMessage s2

/-- Segments toward a node leave the flow and the Sluice. -/
def dropToward (x : Nat) (s : State) : State :=
  let s1 := (clearQueued x s).modSend x (fun f => { f with out := [], pend := [], respHints := [] })
  modThresh (fun t => { t with respWait := t.respWait.filter (fun w => w.src != x) }) s1

/-- Operations toward the nodes a test selects complete with FENCED (R275). -/
def fenceOps (sel : Nat → Bool) (s : State) : State :=
  forEach ((s.thresh.ops.filter (fun e => sel e.2.peer)).map (·.1)) (failOp stFenced 1) s

/-- The PENDING suspect entry of a node is freed. -/
def freePending (x : Nat) (s : State) : State :=
  match List.find? (fun e => e.2.node == x && e.2.st == 1) s.fault.suspects with
  | some (i, _) => cancelSuspect i s
  | none => s

/-- Ports whose peer is a node. -/
def portsToward (s : State) (x : Nat) : List Nat := (List.range 72).filter (fun p => s.role p != 0 && s.idxOf (s.peerNode p) == x)

/-- A fence bit changes: service falls back (R62). -/
def noteFence (s : State) : State := serviceFallback 4 0 { s with sluice := { s.sluice with lastFence := some s.now } }

/-- Bit x becomes set (R367, R368): a device that fences itself is quarantined. -/
def fenceOn (x : Nat) (s : State) : State :=
  if s.fenced x then s
  else
    let s1 := noteFence (tally .FENCE_SET { s with fault := { s.fault with fences := insertUp x s.fault.fences } })
    let s2 := dropSource x s1
    let s3 := if x = s.ownIdx then fenceOps (fun _ => true) s2 else fenceOps (fun y => y == x) s2
    let s4 := freePending x (if x = s.ownIdx then forEach (s3.thresh.flows.map (·.1)) dropToward s3 else dropToward x s3)
    refreshParent (forEach (portsToward s4 x) (fun p a => treePortChanged p false a) s4)

/-- Bit x becomes clear (R366): the flow context is reset (R274). -/
def fenceOff (x : Nat) (s : State) : State :=
  if !s.fenced x then s
  else
    let s1 := noteFence (tally .FENCE_LIFT { s with fault := { s.fault with
      fences := s.fault.fences.filter (· != x),
      suspects := s.fault.suspects.map (fun e => if e.2.node = x then (e.1, { e.2 with fenceSeen := true }) else e) } })
    refreshParent (resetContext x s1)

/-- FENCE_SET (R367). -/
def execFenceSet (m : Master) (node : Nat) (s : State) : Host.Outcome State Fault Refusal :=
  .next (guarded m .FENCE_CMD_CMD 0 (fenceOn (node % 131072)) s)

/-- FENCE_LIFT (R366). -/
def execFenceLift (m : Master) (node : Nat) (s : State) : Host.Outcome State Fault Refusal :=
  .next (guarded m .FENCE_CMD_CMD 0 (fenceOff (node % 131072)) s)

/-- Every bit is lifted, in ascending node index. -/
def liftAll (s : State) : State := forEach s.fault.fences fenceOff s

/-- FENCE_LIFT_ALL (R366). -/
def execFenceLiftAll (m : Master) (s : State) : Host.Outcome State Fault Refusal := .next (guarded m .FENCE_CMD_CMD 0 liftAll s)

/-- 64 bits of the table are replaced: each changed bit acts, in ascending node index (R366). -/
def fenceWord (w : Nat) (s : State) : State :=
  let base := 64 * s.get .FENCE_SEL_WORD
  forEach (List.range 64) (fun i a => if w.testBit i then fenceOn (base + i) a else fenceOff (base + i) a) s

/-- FENCE_DATA_WRITE (R366). -/
def execFenceDataWrite (m : Master) (w : Word) (s : State) : Host.Outcome State Fault Refusal :=
  .next (guardedV m .FENCE_DATA_BITS 0 w.toNat (fenceWord w.toNat) s)

end Sys2Proof.Machine
end

