-- ==== Sys2Proof/Machine/Power.lean ====
section
/-! DEFINITION. Host links (R214, R456); cycle meters and the voltage policy (R24 to R31, R444); resets (R378 to R384); the
watchdog and thermal trip (R382, R383); logic BIST and start-up (R395 to R399). -/
namespace Sys2Proof.Machine

/-- Change the power state. -/
def modPower (f : PowerSt → PowerSt) (s : State) : State := { s with power := f s.power }

/-! Host links. -/

/-- HOST_LINK_DOWN (R456): HOST_LINK, the port's rooms, and its master ID (R425). -/
def execHostLinkDown (h : Nat) (s : State) : Host.Outcome State Fault Refusal :=
  .next (if s.flag .HPORT_STAT_LINK_UP h then masterReset h (failRooms h (faultAt 9 19 h 0 (linkDown h s))) else s)

/-- A host port's link may come up: its domain on, out of reset, and Hearth's decision of step 5 made (R398, R448). -/
def mayLink (s : State) (h : Nat) : Bool :=
  decide (h < 4) && s.domainOn (72 + h) && !s.power.inReset && decide (4 ≤ s.get .BOOT_STAT_PHASE)

/-- HOST_LINK_UP (R214): MSI-X state at reset values; entries that waited for the link are judged again (R456). -/
def execHostLinkUp (h width speed : Nat) (atomicOp : Bool) (s : State) : Host.Outcome State Fault Refusal :=
  if s.flag .HPORT_STAT_LINK_UP h || !mayLink s h then .next s
  else
    let s1 := (((s.set .HPORT_STAT_LINK_UP 1 h).set .HPORT_STAT_WIDTH width h).set .HPORT_STAT_SPEED speed h).set
      .HPORT_STAT_ATOMICOP (b2n atomicOp) h
    let s2 := { s1 with porch := { s1.porch with msix := s1.porch.msix.filter (fun e => e.1 / 2048 != h) } }
    .next (resumeStalled (fun it => it.misses.isEmpty) s2)

/-! Cycle meters (R24 to R26). -/

/-- A meter takes part in the core period. -/
def meterCounted (s : State) (m : Nat) : Bool :=
  decide (m < 18) || (decide (m < 20) && s.domainOn 76) || (decide (20 ≤ m) && decide (m < 22) && s.domainOn 77)

/-- The core period and the meter that sets it, the lowest of equals. -/
def corePeriod (s : State) (ps : List Nat) : Nat × Nat :=
  ((List.range 22).filter (meterCounted s)).foldl (fun b m => if b.1 < ps.getD m 0 then (ps.getD m 0, m) else b) (0, 0)

/-- The admission scale, 1.15 fixed point (R26). -/
def admissionScale (t p : Nat) : Nat := if t < p then t * 0x8000 / p else 0x8000

/-- Target period of the selected operating point. -/
def targetNow (s : State) : Nat := targetPs (s.get .OP_CTRL_OP_POINT)

/-- A set-point write toward the regulator. -/
def setPoint (mv : Nat) (s : State) : State :=
  let s1 := modPower (fun p => { p with avsPrev := s.get .VPOL_STAT_VCORE_MV, avsWant := some mv, avsFails := 0 }) (emit (.avs mv) s)
  let s2 := s1.set .VPOL_STAT_VCORE_MV mv
  if mv = s.get .VPOL_CFG_VMAX ∧ s.get .VPOL_STAT_VCORE_MV ≠ mv then event 13 .VPOL_EVENTS_VMAX_SEEN s2 else s2

/-- Hearth's policy does not act: stale, or the POWER block isolated (R29, Table 14.1). -/
def policyHeld (s : State) : Bool := s.flag .VPOL_STAT_POLICY_STALE || decide (2 ≤ s.level 13)

/-- While the policy is held, a core period above 1.10 × T raises VCORE_ST to VMAX (R29); until the policy first runs VCORE_ST
keeps the boot value (R30; DEDUCED, log 77: R30 holds against R29). -/
def staleGuard (s : State) : State :=
  let vmax := s.get .VPOL_CFG_VMAX
  if s.power.policyRan ∧ policyHeld s ∧ 110 * targetNow s < 100 * s.get .VPOL_STAT_CORE_PERIOD_PS ∧ s.get .VPOL_STAT_VCORE_MV ≠ vmax then setPoint vmax s
  else s

/-- The readings of a window reach CYCLE_METER. -/
def showMeters (ps : List Nat) (s : State) : State :=
  forEach (List.range 24) (fun m a => a.set .CYCLE_METER_PERIOD_PS (ps.getD m 0) m) s

/-- CYCLE_METER_WINDOW_END (R26). -/
def execCycleMeterWindowEnd (periods : List Nat) (s : State) : Host.Outcome State Fault Refusal :=
  let ps := periods.map (· % 65536)
  let c := corePeriod s ps
  let s1 := modPower (fun p => { p with metered := true })
    (((showMeters ps s).set .VPOL_STAT_CORE_PERIOD_PS c.1).set .VPOL_STAT_SLOWEST_METER c.2)
  .next (staleGuard (s1.set .VPOL_STAT_SCALE (admissionScale (targetNow s) c.1)))

/-! The voltage policy (R27 to R31). -/

/-- The set-point of an interval (R27). -/
def policyStep (p t v step deadband vmin vmax : Nat) : Nat :=
  if t < p then min (v + step) vmax else if p * 100 < t * (100 - deadband) then max (v - step) vmin else v

/-- The settled condition (R27). -/
def settledNow (p t deadband : Nat) : Bool := decide (p ≤ t) && decide (t * (100 - deadband) ≤ p * 100)

/-- An operating point transition ends settled, and the seed takes the settled set-point (R31). -/
def noteSettled (s : State) : State :=
  let s1 := s.set .VPOL_SEED_SEED_MV (s.get .VPOL_STAT_VCORE_MV) (s.get .OP_CTRL_OP_POINT)
  if s.power.opTrans then event 13 .VPOL_EVENTS_OP_DONE (modPower (fun p => { p with opTrans := false }) s1) else s1

/-- One interval of Hearth's voltage policy (R27, R28). -/
def policyRun (s : State) : State :=
  let p := s.get .VPOL_STAT_CORE_PERIOD_PS
  let t := targetNow s
  let db := s.get .VPOL_CFG_DEADBAND
  let vmax := s.get .VPOL_CFG_VMAX
  let v := policyStep p t (s.get .VPOL_STAT_VCORE_MV) (s.get .VPOL_CFG_STEP) db (s.get .VPOL_CFG_VMIN) vmax
  let s1 := if v = s.get .VPOL_STAT_VCORE_MV then s else setPoint v s
  let settled := settledNow p t db
  let high := decide (t < p) && v == vmax
  let short := high && s.power.atVmax
  let s2 := modPower (fun q => { q with policyRan := true, atVmax := high }) ((s1.set .VPOL_STAT_SETTLED (b2n settled)).set .VPOL_STAT_SHORTFALL (b2n short))
  if settled then noteSettled s2
  else if short && !s.flag .VPOL_STAT_SHORTFALL then event 13 .VPOL_EVENTS_SHORTFALL_SEEN (modPower (fun q => { q with opTrans := false }) s2)
  else s2

/-- Hearth runs: the Housekeepers are released and its policy has been started (Table 15.13, step 7). -/
def hearthUp (s : State) : Bool := !s.power.hkHeld && decide (4 ≤ s.get .BOOT_STAT_PHASE) && s.get .BOOT_STAT_PHASE != 7

/-- Step 3 of Table 1.6: Hearth sends the seed of the selected operating point. -/
def sendSeed (s : State) : State :=
  modPower (fun p => { p with seedDue := true, seedOwed := false, policyRan := true }) (setPoint (s.get .VPOL_SEED_SEED_MV (s.get .OP_CTRL_OP_POINT)) s)

/-- The next interval starts now, with the INTERVAL of now (R27; 0 reads as 1). -/
def startInterval (s : State) : State :=
  modPower (fun p => { p with vpolDue := some (s.now + max 1 (s.get .VPOL_CFG_INTERVAL) * 1000) }) s

/-- The policy interval in progress has ended; the first begins with the policy's first run. -/
def intervalOver (s : State) : Bool :=
  match s.power.vpolDue with
  | none => true
  | some t => decide (t ≤ s.now)

/-- VPOL_INTERVAL (R27): nothing before the interval's end or while the policy is held; a seed still owed is sent; the loop does not
trim while a seed set-point is being reached. -/
def execVpolInterval (s : State) : Host.Outcome State Fault Refusal :=
  .next (if !hearthUp s || policyHeld s || !intervalOver s then s
    else startInterval (if s.power.seedOwed then sendSeed s else if s.power.seedDue then s else policyRun s))

/-- POLICY_STALE_TIMEOUT (R29). -/
def execPolicyStaleTimeout (s : State) : Host.Outcome State Fault Refusal :=
  if s.now < s.power.heartbeatAt + 1000000 then .next s
  else .next (staleGuard (event 13 .VPOL_EVENTS_STALE_SEEN (s.set .VPOL_STAT_POLICY_STALE 1)))

/-- VPOL_CFG.HEARTBEAT is written. -/
def heartbeatGo (s : State) : State := (modPower (fun p => { p with heartbeatAt := s.now }) s).set .VPOL_STAT_POLICY_STALE 0

/-- HEARTBEAT (R29). -/
def execHeartbeat (m : Master) (s : State) : Host.Outcome State Fault Refusal :=
  .next (guarded m .VPOL_CFG_HEARTBEAT 0 heartbeatGo s)

/-- OP_POINT takes a new value (R31): the admission scale is computed against the new target, the Sluice adopts the budgets at its
next refill, and Hearth sends the seed, or owes it while its policy is held or has not run yet (R30). DESIGN CHOICE, log 77: a
shortfall counts intervals at one operating point only, so the previous interval's count is dropped. -/
def writeOpPoint (op : Nat) (s : State) : State :=
  if op = 3 ∨ op = s.get .OP_CTRL_OP_POINT then s
  else
    let s1 := (modPower (fun p => { p with opTrans := true, atVmax := false, seedOwed := true }) (s.set .OP_CTRL_OP_POINT op)).set
      .VPOL_STAT_SCALE (admissionScale (targetPs op) (s.get .VPOL_STAT_CORE_PERIOD_PS))
    if !hearthUp s || policyHeld s || !s.power.policyRan then s1 else sendSeed s1

/-- OP_POINT_WRITE (R31). -/
def execOpPointWrite (m : Master) (op : Nat) (s : State) : Host.Outcome State Fault Refusal :=
  .next (guardedV m .OP_CTRL_OP_POINT 0 (op % 4) (writeOpPoint (op % 4)) s)

/-- REGULATOR_SEED_REACHED (R31): trimming by the policy loop begins. -/
def execRegulatorSeedReached (s : State) : Host.Outcome State Fault Refusal := .next (modPower (fun p => { p with seedDue := false }) s)

/-- AVS_WRITE_RETRY (R444): the latest set-point write was not acknowledged and is sent again; VCORE_MV keeps the previous
value unless one of the four attempts is acknowledged. -/
def execAvsWriteRetry (acked : Bool) (s : State) : Host.Outcome State Fault Refusal :=
  match s.power.avsWant with
  | none => .next s
  | some mv =>
    let n := s.power.avsFails + 1
    let s1 := emit (.avs mv) s
    if acked then .next ((modPower (fun p => { p with avsWant := none, avsFails := 0 }) s1).set .VPOL_STAT_VCORE_MV mv)
    else .next ((modPower (fun p => { p with avsWant := if n = 3 then none else some mv, avsFails := n }) s1).set
      .VPOL_STAT_VCORE_MV s.power.avsPrev)

/-! Device and power-on resets (R378 to R381). -/

/-- RESET_CAUSE bits by device-reset source (Table 15.15). -/
def causeField : Nat → Fld
  | 1 => .RESET_CAUSE_PERST
  | 2 => .RESET_CAUSE_STAIR
  | 3 => .RESET_CAUSE_WATCHDOG
  | 4 => .RESET_CAUSE_SOFTWARE
  | 5 => .RESET_CAUSE_L4
  | 6 => .RESET_CAUSE_THERMAL
  | _ => .RESET_CAUSE_POWER_ON

/-- Fields that a device reset keeps: RESET_CAUSE, and the Stair step address, lock and chain-end state (Table 15.3). -/
def vauxFlds : List Fld :=
  [.RESET_CAUSE_POWER_ON, .RESET_CAUSE_PERST, .RESET_CAUSE_STAIR, .RESET_CAUSE_WATCHDOG, .RESET_CAUSE_SOFTWARE, .RESET_CAUSE_L4,
   .RESET_CAUSE_THERMAL, .RESET_CAUSE_HOST_PORT, .STAIR_STAT_STEP, .STAIR_STAT_VALID, .STAIR_STAT_CHAIN_END, .STAIR_STAT_LOCK_UP,
   .STAIR_STAT_LOCK_DOWN]

/-- The highest reading and its sensor, the lowest numbered of equals. -/
def hottest (t : Tab Nat) : Nat × Nat := t.foldl (fun b e => if b.1 < e.2 then (e.2, e.1) else b) (0, 0)

/-- THERM_STAT follows the readings, and the trip's cooling time runs while every sensor is below 95 °C. -/
def showTemps (s : State) : State :=
  let h := hottest s.power.temps
  let s1 := ((s.set .THERM_STAT_MAX_C h.1).set .THERM_STAT_SENSOR h.2).set .THERM_STAT_WARN (b2n (decide (s.get .THERM_CFG_WARN_C ≤ h.1)))
  modPower (fun p => { p with thermLowAt := if h.1 < 95 then some (p.thermLowAt.getD s.now) else none }) s1

/-- What no reset returns: elapsed time, the Attic, the model's log, free-value counter and command queue. -/
def clearedState (s : State) : State :=
  { State.reset with
    clk := { ns := s.clk.ns }
    power := { attic := s.power.attic, inReset := true }
    free := s.free
    out := s.out
    pending := s.pending }

/-- A device reset of a cause (Table 15.3): VAUX logic keeps its state; READ frames whose register stalls are dropped with the
Latches they wait on. -/
def deviceReset (cause : Nat) (s : State) : State :=
  let s1 := clearedState s
  let kept := s.fld.filter (fun e => vauxFlds.any (fun f => f.ctorIdx == e.1 % 1024))
  let s2 := { s1 with
    fld := kept
    power := { s1.power with temps := s.power.temps, thermHold := s.power.thermHold, thermLowAt := s.power.thermLowAt } }
  showTemps (s2.set (causeField cause) 1)

/-- A power-on reset: everything but the Attic. -/
def powerOn (s : State) : State := clearedState s

/-- POWER_ON_RESET (R378). -/
def execPowerOnReset (s : State) : Host.Outcome State Fault Refusal := .next (powerOn s)

/-- SUPPLY_FAULT (R372). -/
def execSupplyFault (s : State) : Host.Outcome State Fault Refusal := .next (powerOn s)

/-- Every reset source has ended: the option bytes are read, HOST_MODE taken, and the Housekeepers released (R379, R387). -/
def releaseReset (s : State) : State :=
  let s1 := readOptions s
  let mode := optHostMode s1
  let s2 := forEach (List.range 4) (fun h a => a.set .HPORT_STAT_MODE (b2n (mode.testBit h)) h) s1
  (modPower (fun p => { p with inReset := false, hkHeld := false, hearthAt := s.now, heartbeatAt := s.now,
                               wdogAt := s.now + s.get .WDOG_CFG_TIMEOUT_MS * 1000000 }) s2).set .BOOT_STAT_PHASE 1

/-- RESET_RELEASE (R379): not while a thermal trip holds the reset (R383). -/
def execResetRelease (s : State) : Host.Outcome State Fault Refusal :=
  .next (if s.power.thermHold || !s.power.hkHeld || s.power.bistOn then s else releaseReset s)

/-- PERST_PRIMARY (R378). -/
def execPerstPrimary (s : State) : Host.Outcome State Fault Refusal := .next (deviceReset 1 s)

/-- PERST# of a host port other than the primary (Table 15.3): the function is in reset before its rooms fail, so no error notice
is sent (R214). -/
def hostPortReset (h : Nat) (s : State) : State :=
  let c := s.get .RESET_CAUSE_HOST_PORT
  let s1 := if c.testBit h then s else s.set .RESET_CAUSE_HOST_PORT (c + 2 ^ h)
  failRooms h (resetHostPort h s1)

/-- PERST_SECONDARY (R378): of the primary host port it is the device reset. -/
def execPerstSecondary (h : Nat) (s : State) : Host.Outcome State Fault Refusal :=
  .next (if 4 ≤ h then s else if h = optPrimary s then deviceReset 1 s else hostPortReset h s)

/-- A device reset asked for without its confirmation is refused (R381). -/
def refuseReset (m : Master) (s : State) : State :=
  event 0 .GLOBAL_EVENTS_RESET_REFUSED (tally .RESET_REFUSED (logAccess m (regAddr .RESET_CTRL 0) 5 true s))

/-- DEVICE_RESET_WRITE (R381). -/
def execDeviceResetWrite (m : Master) (confirm : Nat) (s : State) : Host.Outcome State Fault Refusal :=
  .next (guarded m .RESET_CTRL_DEVICE_RESET 0 (fun a => if confirm % 256 = 0x42 then deviceReset 4 a else refuseReset m a) s)

/-! Block resets (R384). -/

/-- Idle (Table 15.4): every count of Table 9.8, MSG_IN_USE and HELD are zero. -/
def crystalIdle (s : State) : Bool :=
  s.crystal.posted.isEmpty && s.crystal.unexp.isEmpty && s.crystal.msgs.isEmpty
    && s.thresh.flows.all (fun e => e.2.recv.segs.all (fun g => g.park != some .order))

/-- A COLL entry is outstanding in some room. -/
def collOutstanding (s : State) : Bool :=
  !s.rake.colls.isEmpty || !s.rake.dels.isEmpty || s.rake.trees.any (fun e => e.2.host.isSome)
    || s.porch.fetchQ.any (fun it => weOp it.entry == 0x40) || s.porch.stalled.any (fun it => weOp it.entry == 0x40)

def rakeIdle (s : State) : Bool := s.rake.trees.all (fun e => !e.2.begun) && !collOutstanding s
def countIdle (s : State) : Bool := s.count.writing.isNone && !s.flag .COUNT_STAT_SNAP_PENDING

/-- CRYSTAL's block reset: plan-loaded state and counters are kept. -/
def blockCrystal (s : State) : State := resetBusy (crystalIdle s) (clearFaults 6 (resetCrystal s))

/-- RAKE's block reset. -/
def blockRake (s : State) : State := resetBusy (rakeIdle s) (clearFaults 7 (resetRake s))

/-- COUNT's block reset: counter values are kept. -/
def blockCount (s : State) : State :=
  let s1 := abandonRecord s
  let s2 := { s1 with count := { ctr := s1.count.ctr } }
  resetBusy (countIdle s) (clearFaults 12 (resetFlds ((blkFlds .COUNT)) (fun _ _ => true) s2))

/-- BLOCK_RESET_CRYSTAL (R384). -/
def execBlockResetCrystal (m : Master) (s : State) : Host.Outcome State Fault Refusal :=
  .next (guarded m .RESET_CTRL_CRYSTAL 0 blockCrystal s)

/-- BLOCK_RESET_RAKE (R384). -/
def execBlockResetRake (m : Master) (s : State) : Host.Outcome State Fault Refusal :=
  .next (guarded m .RESET_CTRL_RAKE 0 blockRake s)

/-- BLOCK_RESET_COUNT (R384). -/
def execBlockResetCount (m : Master) (s : State) : Host.Outcome State Fault Refusal :=
  .next (guarded m .RESET_CTRL_COUNT 0 blockCount s)

/-- Bits of RESET_CAUSE that a write of RESET_CAUSE_CLR names are cleared (R380). -/
def clearCauses (mask : Nat) (s : State) : State :=
  let s1 := forEach (List.range 7) (fun i a => if mask.testBit i then a.set (causeField i) 0 else a) s
  let c := s1.get .RESET_CAUSE_HOST_PORT
  s1.set .RESET_CAUSE_HOST_PORT (c - (c &&& bits mask 8 4))

/-- RESET_CAUSE_CLEAR (R380). -/
def execResetCauseClear (m : Master) (mask : Nat) (s : State) : Host.Outcome State Fault Refusal :=
  .next (guardedV m .RESET_CAUSE_CLR_CLEAR 0 (mask % 4096) (clearCauses mask) s)

/-- L4_RESET_TIMER (R357). -/
def execL4ResetTimer (s : State) : Host.Outcome State Fault Refusal :=
  match s.fault.l4At with
  | some t => if t ≤ s.now ∧ !s.flag .DEV_FAULT_CTRL_L4_HOLD then .next (deviceReset 5 s) else .next s
  | none => .next s

/-! The watchdog (R382). -/

/-- WATCHDOG_EXPIRY (R382). -/
def execWatchdogExpiry (s : State) : Host.Outcome State Fault Refusal :=
  if s.flag .WDOG_CFG_ENABLE && !s.power.hkHeld && !s.power.bistOn && decide (s.power.wdogAt ≤ s.now) then .next (deviceReset 3 s)
  else .next s

/-- The count restarts, with the TIMEOUT_MS of now. -/
def kickWatchdog (s : State) : State := modPower (fun p => { p with wdogAt := s.now + s.get .WDOG_CFG_TIMEOUT_MS * 1000000 }) s

/-- WATCHDOG_KICK (R382). -/
def execWatchdogKick (m : Master) (s : State) : Host.Outcome State Fault Refusal := .next (guarded m .WDOG_CFG_KICK 0 kickWatchdog s)

/-! Temperature (R383). -/

/-- A sensor's reading: at WARN_C or above THERMAL is raised, at 115 °C or above the device trips. -/
def readTemp (sensor temp : Nat) (s : State) : State :=
  let t := temp % 256
  let s1 := showTemps (modPower (fun p => { p with temps := Tab.set p.temps (sensor % 16) t 0 }) s)
  let s2 := if s.get .THERM_CFG_WARN_C ≤ t then faultAt 13 23 (sensor % 16) 0 s1 else s1
  if t < 115 then s2
  else deviceReset 6 (modPower (fun p => { p with thermHold := true }) (if s.power.thermHold then s2 else emit (.thermtrip true) s2))

/-- THERMAL_WARNING (R383). -/
def execThermalWarning (sensor temp : Nat) (s : State) : Host.Outcome State Fault Refusal := .next (readTemp sensor temp s)

/-- THERMAL_TRIP (R383). -/
def execThermalTrip (sensor temp : Nat) (s : State) : Host.Outcome State Fault Refusal := .next (readTemp sensor temp s)

/-- THERMAL_TRIP_RELEASE (R383): every sensor below 95 °C for 1 s. -/
def execThermalTripRelease (s : State) : Host.Outcome State Fault Refusal :=
  if s.power.thermHold && s.power.thermLowAt.any (fun t => decide (t + 1000000000 ≤ s.now)) then
    .next (emit (.thermtrip false) (modPower (fun p => { p with thermHold := false }) s))
  else .next s

/-! Logic BIST (R395 to R398). -/

/-- BOARD_TIME now: the seconds written and those elapsed since. -/
def boardTime (s : State) : Nat := (s.power.boardBase + (s.now - s.power.boardAt) / 1000000000) % 2 ^ 40

/-- The groups of the next round start: at most PARALLEL, in ascending order. The Housekeepers are held while group 15 runs, which
resets their master IDs (R425). -/
def nextRound (s : State) : State :=
  let k := min 6 (s.get .BIST_CTRL_PARALLEL)
  let g := s.power.bistLeft.take k
  let s1 := if g.contains 15 then forEach [8, 9, 10, 11, 12, 13, 14, 15] masterReset s else s
  modPower (fun p => { p with bistRun := g, bistLeft := p.bistLeft.drop k, hkHeld := p.hkHeld || g.contains 15 }) s1

/-- A run begins (R396): the record reads RUNNING before its first group. -/
def beginRun (s : State) : State :=
  let s1 := putAttic 64 (wd (setBits (s.atticWord 64).toNat 0 2 1)) s
  let s2 := (s1.set .BOOT_STAT_DONE_MASK 0).set .BOOT_STAT_FAIL_MASK 0
  nextRound (modPower (fun p => { p with bistOn := true, bistLeft := List.range 16, bistRun := [], bistPassed := false }) s2)

/-- The record of a run that has ended (Table 15.11). -/
def writeRecord (fails : Nat) (s : State) : State :=
  let w0 := at_ (if fails = 0 then 2 else 3) 0 2 + at_ Config.bistVersion.toNat 8 8 + at_ fails 16 16
  let time := if s.power.boardValidAt.isSome then boardTime s else 0
  let starts := bits (s.atticWord 66).toNat 0 32
  let runs := (bits (s.atticWord 67).toNat 0 32 + 1) % 2 ^ 32
  putAttic 67 (wd runs) (putAttic 66 (wd starts) (putAttic 65 (wd time) (putAttic 64 (wd w0) s)))

/-- A run ends (R397, R398): the Housekeepers restart from the boot ROM. -/
def endRun (s : State) : State :=
  let fails := s.get .BOOT_STAT_FAIL_MASK
  let s1 := modPower (fun p => { p with bistOn := false, hkHeld := false, hearthAt := s.now, heartbeatAt := s.now, bistPassed := fails == 0,
                                        wdogAt := s.now + s.get .WDOG_CFG_TIMEOUT_MS * 1000000 }) (writeRecord fails s)
  s1.set .BOOT_STAT_PHASE (if s.power.shutdown then 9 else if fails = 0 then 1 else 7)

/-- BIST_GROUP_DONE (R395). -/
def execBistGroupDone (g : Nat) (pass : Bool) (s : State) : Host.Outcome State Fault Refusal :=
  if !s.power.bistRun.contains g then .next s
  else
    let bit := 2 ^ g
    let s1 := s.set .BOOT_STAT_DONE_MASK (s.get .BOOT_STAT_DONE_MASK + bit)
    let s2 := if pass then s1 else s1.set .BOOT_STAT_FAIL_MASK (s1.get .BOOT_STAT_FAIL_MASK + bit)
    let s3 := modPower (fun p => { p with bistRun := p.bistRun.filter (· != g) }) s2
    .next (if !s3.power.bistRun.isEmpty then s3 else if s3.power.bistLeft.isEmpty then endRun s3 else nextRound s3)

/-- START: a run at step 6 of Table 15.13. -/
def startRun (s : State) : State := if s.power.bistOn then s else beginRun (s.set .BOOT_STAT_PHASE 3)

/-- BIST_START (R395). -/
def execBistStart (m : Master) (s : State) : Host.Outcome State Fault Refusal := .next (guarded m .BIST_CTRL_START 0 startRun s)

/-- SHUTDOWN (Table 15.12): ports drain, host-side work is emptied, and every group runs. -/
def beginShutdown (s : State) : State :=
  if s.power.shutdown then s
  else
    let s1 := modPower (fun p => { p with shutdown := true }) (s.set .BOOT_STAT_PHASE 8)
    let s2 := resetHostSide (forEach (List.range 72) (fun p a => beginDrain p 1 a) s1)
    if s2.power.bistOn then s2 else beginRun s2

/-- BIST_SHUTDOWN (R397). -/
def execBistShutdown (m : Master) (s : State) : Host.Outcome State Fault Refusal :=
  .next (guarded m .BIST_CTRL_SHUTDOWN 0 beginShutdown s)

/-! Start-up (R398, R399). -/

/-- Steps 7 and 8 of Table 15.13: DDR5 is trained if its domain is on, and FPLAN accepts OPEN. -/
def toPlanWait (s : State) : State := (if s.domainOn 78 then trainCellar s else s).set .BOOT_STAT_PHASE 5

/-- The quick start applies (R398). -/
def quickStart (s : State) : Bool :=
  let w := (s.atticWord 64).toNat
  let t := bits (s.atticWord 65).toNat 0 40
  let age := optAgeDays s
  bits w 0 2 == 2 && bits w 8 8 == Config.bistVersion.toNat
    && s.power.boardValidAt.any (fun v => decide (v ≤ s.power.hearthAt + 200000000))
    && age != 0 && decide (t ≤ boardTime s) && decide (boardTime s - t ≤ age * 86400)

/-- Hearth still waits for BOARD_TIME: the record would do, and the 200 ms of R398 have not passed. -/
def awaitsTime (s : State) : Bool :=
  let w := (s.atticWord 64).toNat
  bits w 0 2 == 2 && bits w 8 8 == Config.bistVersion.toNat && optAgeDays s != 0 && s.power.boardValidAt.isNone
    && decide (s.now < s.power.hearthAt + 200000000)

/-- BOOT_DECISION (R398): Hearth decides once it has booted; after a run that passed in this start it goes on. -/
def execBootDecision (s : State) : Host.Outcome State Fault Refusal :=
  if s.power.hkHeld || s.power.bistOn || s.get .BOOT_STAT_PHASE != 1 then .next s
  else if s.power.bistPassed then .next (toPlanWait s)
  else if quickStart s then .next (toPlanWait (s.set .BOOT_STAT_QUICK 1))
  else if awaitsTime s then .next s
  else .next (startRun s)

/-- OVERRIDE ends HALTED: start-up goes on. -/
def overrideHalt (s : State) : State := if s.get .BOOT_STAT_PHASE = 7 then toPlanWait s else s

/-- BIST_OVERRIDE (R398). -/
def execBistOverride (m : Master) (s : State) : Host.Outcome State Fault Refusal := .next (guarded m .BOOT_CTRL_OVERRIDE 0 overrideHalt s)

end Sys2Proof.Machine
end

