-- ==== Sys2Proof/Machine/Count.lean ====
section
/-! DEFINITION. Counters read consistently: freezes, dumps and snapshots (R432 to R437), and the catalogue (R427, R431). -/
namespace Sys2Proof.Machine

/-- Change the counter state. -/
def modCount (f : CountSt → CountSt) (s : State) : State := { s with count := f s.count }

/-! The catalogue. -/

/-- Catalogue rows of a block; ports share one list. -/
def catRows (b : Nat) : List (Nat × Nat × Nat × Nat × Nat) := if 16 ≤ b then (if b ≤ 87 then catalogue 16 else []) else catalogue b

/-- A block of Table 14.1. -/
def isBlock (b : Nat) : Bool := decide (b ≤ 13) || (decide (16 ≤ b) && decide (b ≤ 87))

/-- Descriptor of a slot (Table 17.4): NAME_NO, INSTANCE, INST_KIND, UNIT; none for an unused slot. -/
def catSlot (b slot : Nat) : Option (Nat × Nat × Nat × Nat) :=
  if !isBlock b then none
  else if slot = 0 then some (0, 0, 0, 0)
  else if slot < 64 then (if classOf b slot then some (0, slot, 6, 0) else none)
  else (catRows b).findSome? (fun r =>
    if r.1 ≤ slot ∧ slot < r.1 + r.2.1 then some (r.2.2.2.2, slot - r.1, r.2.2.1, r.2.2.2.1) else none)

/-- CAT_DATA of a slot. -/
def catWord (b slot : Nat) : Nat :=
  match catSlot b slot with
  | none => 0
  | some (name, inst, kind, unit) => at_ name 0 16 + at_ inst 16 16 + at_ kind 32 4 + at_ 1 36 1 + at_ unit 37 3

/-- Used slots of a block, ascending. -/
def usedSlots (b : Nat) : List Nat :=
  0 :: ((List.range 64).filter (fun c => c != 0 && classOf b c)) ++ (catRows b).flatMap (fun r => (List.range r.2.1).map (· + r.1))

/-- A counter's live value. -/
def counterAt (s : State) (b slot : Nat) : Nat := Tab.get s.count.ctr (ckey b slot) 0

/-! Freezes and records. -/

/-- The header of a freeze now. -/
def freezeHdr (s : State) (late : Bool) (snapAt : Nat) : FreezeHdr :=
  { ns := s.netNs, frac := s.netFrac, synced := timeSynced s, late := late, level := s.devLevel, snapAt := snapAt, seq := s.count.dumpSeq }

/-- Word 3 of a record header (Table 17.1). -/
def hdrWord3 (f : FreezeHdr) : Nat := at_ f.frac 0 16 + at_ (b2n f.synced) 16 1 + at_ (b2n f.late) 17 1 + at_ f.level 18 3

/-- Record size in bytes: 64 + 8 × TOTAL, rounded up to 4 KiB. -/
def recordBytes : Nat := ceilDiv (64 + 8 * Config.usedSlots.toNat) 4096 * 4096

/-- The counter words of a record, in ascending block and slot order. -/
def recordWords (bank : Tab Nat) : List Word :=
  blockIds.flatMap (fun b => (usedSlots b).map (fun i => wd (Tab.get bank (ckey b i) 0)))

/-- Write a record to the dump ring: its body first, header word 0 last (R433). -/
def writeRing (snap : Bool) (f : FreezeHdr) (bank : Tab Nat) (s : State) : State :=
  let n := s.count.dumpSeq
  let size := 2 ^ s.get .DUMP_CFG_LOG2
  let h := s.get .DUMP_CFG_HPORT
  let at1 := s.get .DUMP_BASE_BASE * 4096 + n % size * recordBytes
  let body := [wd (at_ n 0 32 + at_ Config.usedSlots.toNat 32 32), wd f.ns, wd (hdrWord3 f), wd (if snap then f.snapAt else 0),
    wd s.own, wd (at_ s.count.skipped 0 32), 0] ++ recordWords bank
  emit (.hostWrite h at1 [wd (at_ (b2n snap) 0 1 + at_ (phaseOf n size) 63 1)]) (emit (.hostWrite h (at1 + 8) body) s)

/-- The dump engine runs: D79 on, COUNT not isolated, no host-side reset in progress. -/
def engineRuns (s : State) : Bool := s.domainOn 79 && decide (s.level 12 < 2) && !s.flag .DEV_FAULT_HOST_RESET_BUSY

/-- A record of the ring is free (R434). -/
def recordFree (s : State) : Bool := decide (subMod s.count.dumpSeq (s.get .DUMP_HEAD_HEAD) (2 ^ 32) < 2 ^ s.get .DUMP_CFG_LOG2)

/-- Periodic dumps run. -/
def dumpsRun (s : State) : Bool := !s.flag .COUNT_MODE_METHOD && s.flag .DUMP_CFG_ENABLE && engineRuns s

/-- A record begins to be written. -/
def beginRecord (snap : Bool) (s : State) : State := (modCount (fun c => { c with writing := some snap }) s).set .COUNT_STAT_DUMP_BUSY 1

/-- A period boundary: a freeze of bank D and its record, or a skipped dump (R433, R434). -/
def dumpNow (s : State) : State :=
  if !recordFree s || s.count.writing.isSome then
    event 12 .COUNT_EVENTS_DUMP_SKIPPED (tally .DUMP_SKIPPED (modCount (fun c => { c with skipped := (c.skipped + 1) % 2 ^ 32 }) s))
  else beginRecord false (modCount (fun c => { c with bankD := c.ctr, hdrD := some (freezeHdr s false 0) }) s)

/-- DUMP_PERIOD (R433). A period that ran out while METHOD was Snapshot stays run out, so a dump may begin at once when METHOD returns
to Dump (DESIGN CHOICE, log 79: R65 gives the next period no phase). -/
def execDumpPeriod (s : State) : Host.Outcome State Fault Refusal :=
  if s.now < s.count.dumpAt || !dumpsRun s then .next s
  else .next (dumpNow (modCount (fun c => { c with dumpAt := s.now + s.get .DUMP_CFG_PERIOD_US * 1000 }) s))

/-- The record being written is complete. -/
def endRecord (snap : Bool) (s : State) : State :=
  let n := s.count.dumpSeq
  let s1 := (modCount (fun c => { c with writing := none, dumpSeq := (n + 1) % 2 ^ 32, skipped := 0 }) s).set .COUNT_STAT_DUMP_BUSY 0
  if snap then event 12 .COUNT_EVENTS_SNAP_DONE (s1.set .COUNT_STAT_SNAP_PENDING 0) else s1

/-- DUMP_RECORD_DONE (R433). -/
def execDumpRecordDone (s : State) : Host.Outcome State Fault Refusal :=
  match s.count.writing with
  | some true => match s.count.hdrS with
    | some f => .next (endRecord true (modCount (fun c => { c with hdrS := some { f with seq := c.dumpSeq } }) (writeRing true f s.count.bankS s)))
    | none => .next (endRecord true s)
  | some false => match s.count.hdrD with
    | some f => .next (endRecord false (writeRing false f s.count.bankD s))
    | none => .next (endRecord false s)
  | none => .next s

/-! Snapshots (R435, R436). -/

/-- The armed snapshot is at its time: frozen, or missed. -/
def fireSnap (late : Bool) (s : State) : State :=
  let s1 := (modCount (fun c => { c with armed := false, jumped := false }) s).set .COUNT_STAT_SNAP_ARMED 0
  if !s.flag .COUNT_MODE_METHOD || !s.domainOn 79 || decide (2 ≤ s.level 12) || s.flag .COUNT_STAT_SNAP_PENDING then
    event 12 .COUNT_EVENTS_SNAP_MISSED (tally .SNAP_MISSED s1)
  else
    let s2 := (modCount (fun c => { c with bankS := c.ctr, hdrS := some (freezeHdr s late s.count.armAt) }) s1).set .COUNT_STAT_SNAP_PENDING 1
    if late then event 12 .COUNT_EVENTS_SNAP_LATE (tally .SNAP_LATE s2) else s2

/-- ARM is written: at SNAP_AT, or at once if that time has passed. -/
def armSnap (s : State) : State :=
  let at1 := s.get .SNAP_AT_NS
  let s1 := (modCount (fun c => { c with armed := true, armAt := at1, jumped := false }) s).set .COUNT_STAT_SNAP_ARMED 1
  if at1 < s.netNs then fireSnap true s1 else s1

/-- SNAP_ARM (R435). -/
def execSnapArm (m : Master) (s : State) : Host.Outcome State Fault Refusal := .next (guarded m .SNAP_CTRL_ARM 0 armSnap s)

/-- DISARM is written. -/
def disarmSnap (s : State) : State := (modCount (fun c => { c with armed := false, jumped := false }) s).set .COUNT_STAT_SNAP_ARMED 0

/-- SNAP_DISARM (R435). -/
def execSnapDisarm (m : Master) (s : State) : Host.Outcome State Fault Refusal := .next (guarded m .SNAP_CTRL_DISARM 0 disarmSnap s)

/-- SNAPSHOT_FIRE (R435): network time has reached the armed time; late if a step carried it past. -/
def execSnapshotFire (s : State) : Host.Outcome State Fault Refusal :=
  .next (if s.count.armed && decide (s.count.armAt ≤ s.netNs) then fireSnap s.count.jumped s else s)

/-- SNAP_RECORD_WRITE (R436): whatever the ring's ENABLE. -/
def execSnapRecordWrite (s : State) : Host.Outcome State Fault Refusal :=
  .next (if s.flag .COUNT_STAT_SNAP_PENDING && s.count.writing.isNone && recordFree s && engineRuns s then beginRecord true s else s)

/-- SNAP_AT is rewritten while armed: the old or the new time, a free value. -/
def rewriteSnapAt (v : Nat) (s : State) : State :=
  let s1 := s.set .SNAP_AT_NS v
  if s.count.armed then
    let (f, s2) := draw s1
    if f % 2 = 1 then modCount (fun c => { c with armAt := v }) s2 else s2
  else s1

/-- ENABLE of the dumps is written. -/
def writeDumpEnable (v : Nat) (s : State) : State :=
  let s1 := s.set .DUMP_CFG_ENABLE v
  if v % 2 = 1 then
    modCount (fun c => { c with dumpSeq := 0, skipped := 0, dumpAt := if s.flag .DUMP_CFG_ENABLE then c.dumpAt else s.now + s.get .DUMP_CFG_PERIOD_US * 1000 }) s1
  else s1

/-- ENABLE of the trace is written. -/
def writeTraceEnable (v : Nat) (s : State) : State :=
  let s1 := s.set .TRACE_CFG_ENABLE v
  if v % 2 = 1 then modCount (fun c => { c with traceBuf := [] }) ((s1.set .TRACE_STAT_TRACE_SEQ 0).set .TRACE_STAT_LOST 0) else s1

end Sys2Proof.Machine
end

