-- ==== Sys2Proof/Machine/Lanes.lean ====
section
/-! DEFINITION. The serial lanes' commands: alignment markers, figures of merit, lane failures, blind start and stepped
negotiation (R158 to R174). -/
namespace Sys2Proof.Machine

/-! Alignment markers (R160 to R163). -/

/-- One lane sends its marker, with the BIP8 of its line bits since the marker before. -/
def sendMarker (p fec k : Nat) (s : State) : State :=
  let n := (laneOf s p k).amSent
  let rate := if framesFlow s p then s.get .PORT_STAT_RATE_ACTIVE p else (s.port p).rate
  emit (.marker p k (markerBits fec rate (onOneLane s p) k n ((s.lineOf p).lanes.getD k {}).bip))
    (modLane p k (fun l => { l with amSent := (n + 1) % 65536 }) s)

/-- ALIGNMENT_MARKER_SEND (R160, R161): after 1,024 line frames each transmitting lane sends its marker, which names the FEC of the line
frames that follow; scrambler and BIP8 start again. The BIP8 is the device's own (log 4). -/
def execAlignmentMarkerSend (p _bip0 _bip1 : Nat) (s : State) : Host.Outcome State Fault Refusal :=
  let x := s.lineOf p
  if !lineFrames s p || x.frames != 1024 then .next s
  else
    let fec := if framesFlow s p then s.get .PORT_STAT_FEC_ACTIVE p else x.fec
    .next ((forEach (txLanes s p (onOneLane s p)) (sendMarker p fec) s).setLine p { x with frames := 0, fec := fec, lanes := [{}, {}] })

/-- Every lane still in training has locked: the training ends (Tables 7.4 and 7.6, R172). -/
def lockProgress (p : Nat) (s : State) : State :=
  let ph := (s.port p).phase
  if (ph = .blindLock ∨ ph = .doneLock ∨ ph = .train) ∧ lanesLocked s p then enterParam p s else s

/-- The skew of a lane is judged at its first marker with both lanes locked (R162). -/
def deskew (p k skew : Nat) (s : State) : State :=
  if (laneOf s p k).deskewed || (usable s p).length != 2 || !lanesLocked s p then s
  else
    let s1 := (modLane p k (fun l => { l with deskewed := true }) s).set .LANE_STAT_SKEW_PS skew (2 * p + k)
    if s.get .LANE_CFG_SKEW_MAX_NS p * 1000 < skew then laneFailed p k 4 s1 else s1

/-- A lane achieves alignment lock at a marker (R162). -/
def lockLane (p k skew : Nat) (s : State) : State :=
  lockProgress p (deskew p k skew (event (16 + p) .LANE_EVENTS_LOCK_SEEN (setLane p k 4 s) p))

/-- A bad or missing marker at its expected position (R163). -/
def badMarker (p k : Nat) (missing : Bool) (s : State) : State :=
  let s1 := if missing then s else tallyPort .AM_BAD p s k
  let n := (laneOf s1 p k).badRun + 1
  let s2 := modLane p k (fun l => { l with badRun := if n < 3 then n else 0 }) s1
  if n < 3 then s2 else laneFailed p k 3 (tallyPort .LOCK_LOSS p s2 k)

/-- ALIGNMENT_MARKER_RECEIVE (R159, R161 to R163): a lane is known by the LANE field of the markers that its land receives. -/
def execAlignmentMarkerReceive (p land : Nat) (mk : Marker) (s : State) : Host.Outcome State Fault Refusal :=
  if mk.missing || !mk.patternOk || !mk.crcOk then
    let k := (s.port p).lands.getD land land
    (if lst s p k = 4 then .next (badMarker p k mk.missing s) else .next s)
  else
    let k := mk.lane
    let st := lst s p k
    let s1 := (modLane p k (fun l => { l with badRun := 0, inverted := mk.inverted, rxFec := mk.fec, rxRate := mk.rate }) s).modPort p
      (fun x => { x with lands := x.lands.set land k })
    if st = 4 then .next (deskew p k mk.skewPs (tallyPortN .BIP_ERR p mk.bipDiff s1 k))
    else if st = 3 then .next (lockLane p k mk.skewPs s1)
    else .next s1

/-! Figure of merit and lane failures (R164 to R166). -/

/-- A lane whose FOM, or the partner's report of it, is below the pass threshold has not held it (R171). -/
def fomHeld (p k : Nat) (s : State) : State :=
  let low := decide (s.get .LANE_STAT_FOM (2 * p + k) < passThr s p)
    || (stepped s p && decide (s.get .LANE_STAT_PARTNER_FOM (2 * p + k) < passThr s p))
  if low then modLane p k (fun l => { l with fomGood := false }) s else s

/-- FOM_BLOCK_END (R164), with the spacings of the three PAM4 eyes and the slicer's error variance of the block. -/
def execFomBlockEnd (p k : Nat) (b : EyeBlock) (s : State) : Host.Outcome State Fault Refusal :=
  let i := 2 * p + k
  let f := fomOf (min b.e0 (min b.e1 b.e2) ^ 2) (4 * b.var)
  let s1 := (s.set .LANE_STAT_FOM f i).set .LANE_STAT_FOM_MIN (min f (s.get .LANE_STAT_FOM_MIN i)) i
  if lst s p k = 4 && framesFlow s p then
    let low := decide (f < s.get .LANE_FOM_CFG_FAIL p)
    let s2 := modLane p k (fun l => { l with fomLowSince := if low then some (l.fomLowSince.getD s.now) else none }) s1
    .next (if !low && decide (f < passThr s p) then event (16 + p) .LANE_EVENTS_FOM_WARN s2 p else s2)
  else .next (fomHeld p k s1)

/-- FOM_FAIL_WINDOW_EXPIRY (R165). -/
def execFomFailWindowExpiry (p k : Nat) (s : State) : Host.Outcome State Fault Refusal :=
  match (laneOf s p k).fomLowSince with
  | none => .next s
  | some t =>
    if lst s p k = 4 ∧ s.get .LANE_STAT_FOM (2 * p + k) < s.get .LANE_FOM_CFG_FAIL p
        ∧ t + s.get .LANE_CFG_FAIL_WINDOW_US p * 1000 ≤ s.now then .next (laneFailed p k 2 s)
    else .next s

/-- Clock recovery or signal is gone from a lane: a locked lane of a running port fails, another starts over, and a bring-up that no
lane's signal is left for waits for one (R165, R173). -/
def laneLost (p k cause : Nat) (s : State) : State :=
  let s1 := if cause = 6 then modLane p k (fun l => { l with signal := false }) s else s
  let st := lst s1 p k
  let s2 := if st = 4 ∧ 3 ≤ pst s p then laneFailed p k cause s1
    else if 2 ≤ st ∧ st ≤ 4 then setLane p k (if cause = 6 then 1 else 2) (modLane p k (fun l => { l with fomGood := false }) s1)
    else s1
  if pst s p = 1 && !(laneOf s2 p 0).signal && !(laneOf s2 p 1).signal && (s.port p).attemptAt.isSome then beginLanes p s2 else s2

/-- CDR_LOCK_LOSS (R165). -/
def execCdrLockLoss (p k : Nat) (s : State) : Host.Outcome State Fault Refusal :=
  .next (laneLost p k 1 (if 2 ≤ lst s p k ∧ lst s p k ≤ 4 then tallyPort .LOCK_LOSS p s k else s))

/-- SIGNAL_LOSS (R165). -/
def execSignalLoss (p k : Nat) (s : State) : Host.Outcome State Fault Refusal := .next (laneLost p k 6 s)

/-- LANE_SIGNAL_DETECT (R173): an attempt begins with the first signal. -/
def execLaneSignalDetect (p k : Nat) (s : State) : Host.Outcome State Fault Refusal :=
  let s1 := modLane p k (fun l => { l with signal := true }) s
  let s2 := if lst s1 p k = 1 then setLane p k 2 s1 else s1
  let x := s2.port p
  let waits := pst s p == 1 && decide (x.attemptAt = none) && x.phase != .idle
  .next (if waits then s2.setPort p { x with attemptAt := some s.now, phaseAt := s.now } else s2)

/-! Negotiation (Table 7.6). -/

/-- Record the result of a negotiation in LANE_NEG. -/
def negResult (p result : Nat) (s : State) : State :=
  let x := s.port p
  let s1 := (((s.set .LANE_NEG_LAST_RESULT result p).set .LANE_NEG_STEPS (min 15 x.steps) p).set .LANE_NEG_LEADER (b2n x.leader) p).set
    .LANE_NEG_RATE_REACHED x.rateLast p
  event (16 + p) (if result = 1 then .LANE_EVENTS_NEG_DONE else .LANE_EVENTS_NEG_FAIL) s1 p

/-- A failed negotiation waits for the bound of its attempt (R173). -/
def negFail (p result : Nat) (s : State) : State := setPhase p .idle (sendTcws p 6 0 (negResult p result s))

/-- Step 6: DONE, line frames, alignment. -/
def negDone (p : Nat) (s : State) : State :=
  startLine p <| setPhase p .doneLock (forEach (usable s p) (fun k a => setLane p k 3 a) (sendTcws p 5 0 (negResult p 1 s)))

/-- The leader asks for a rate (R170). -/
def stepTo (p rate : Nat) (s : State) : State :=
  sendTcws p 2 rate ((setPhase p .stepReq s).modPort p (fun x => { x with rateWant := rate, stepAcked := none }))

/-- The next higher rate both CAPS allow. -/
def nextRate (s : State) (p : Nat) : Option Nat :=
  let c := ownCaps s p &&& s.get .LANE_NEG_PARTNER_CAPS p
  ((List.range (s.port p).rate).filter (fun r => c.testBit r)).getLast?

/-- The present rate has passed: the leader steps on or ends (Table 7.6, steps 3 and 5). -/
def ratePassed (p : Nat) (s : State) : State :=
  let s1 := s.modPort p (fun x => { x with rateLast := x.rate })
  let x := s1.port p
  if !x.leader then s1
  else
    match (if x.stepsLeft && decide ((usable s p).length = 2) then nextRate s1 p else none) with
    | some r => stepTo p r s1
    | none => negDone p s1

/-- Every usable lane has passed. -/
def allGood (s : State) (p : Nat) : Bool := !(usable s p).isEmpty && (usable s p).all (fun k => (laneOf s p k).fomGood)

/-- LANE_FOM_PASS (R171, Tables 7.4 and 7.6): the lane's FOM, and for a stepped port the partner's report of it, hold the
threshold. -/
def execLaneFomPass (p k : Nat) (s : State) : Host.Outcome State Fault Refusal :=
  let i := 2 * p + k
  let ok := decide (passThr s p ≤ s.get .LANE_STAT_FOM i) && (!stepped s p || decide (passThr s p ≤ s.get .LANE_STAT_PARTNER_FOM i))
  let ph := (s.port p).phase
  if lst s p k != 2 || !ok then .next s
  else
    let s1 := modLane p k (fun l => { l with fomGood := true }) s
    if ph = .blindAdapt then
      .next (if allGood s1 p then setPhase p .blindLock (forEach (usable s1 p) (fun j a => setLane p j 3 a) s1) else s1)
    else if ph = .train then .next (setLane p k 3 (if lineFrames s p then s1 else startLine p s1))
    else if ph = .tune ∨ ph = .tuneRate ∨ ph = .backStep then .next (if allGood s1 p then ratePassed p s1 else s1)
    else .next s

/-- Signed value of a tap. -/
def tapVal (b : Nat) : Int := sint 8 b

/-- The taps satisfy the limits of Table 7.5. -/
def tapsLegal (t : List Nat) : Bool :=
  decide ((t.map (fun b => (tapVal b).natAbs)).sum ≤ 64) && decide (24 ≤ tapVal (t.getD 2 0))

/-- This end's TCW leaves again with the answer to the partner's request. -/
def answerTcw (p k : Nat) (s : State) : State :=
  match (laneOf s p k).tcw, (laneOf s p k).eqAnswer with
  | some t, some (q, no) =>
    let u := { t with fom := s.get .LANE_STAT_FOM (2 * p + k), eqAck := !no, eqLimit := no, eqSeq := q }
    emit (.training p k u (trainingSync :: tcwWords u)) (modLane p k (fun l => { l with tcw := some u }) s)
  | _, _ => s

/-- The partner's equaliser request on a lane (R169): carried out once per SEQ, or refused with EQ_LIMIT. -/
def eqRequest (p k : Nat) (t : TCW) (s : State) : State :=
  let l := laneOf s p k
  let seen := match l.eqAnswer with
    | some (q, _) => q == t.seq
    | none => false
  if t.eqReq == 0 || decide (3 < t.eqReq) || decide (4 < t.eqTap) || seen then s
  else
    let cur := tapsNow s p k
    let new := if t.eqReq = 1 then presetTaps s p k
      else cur.set t.eqTap ((cur.getD t.eqTap 0 + (if t.eqReq = 2 then 1 else 255)) % 256)
    let no := (s.port p).eqHold || !tapsLegal new
    answerTcw p k (modLane p k (fun x => if no then { x with eqAnswer := some (t.seq, true) }
      else { x with eqAnswer := some (t.seq, false), taps := some new, stored := Tab.put x.stored (s.port p).rate new }) s)

/-- Step 1 ends when both lanes have a valid TCW: the leader is known, a common rate is needed. -/
def capsStep (p node : Nat) (s : State) : State :=
  if (laneOf s p 0).tcwSeen && (laneOf s p 1).tcwSeen then
    let s1 := s.modPort p (fun x => { x with leader := decide (s.own < node) })
    if ownCaps s p &&& s.get .LANE_NEG_PARTNER_CAPS p = 0 then negFail p 2 s1 else sendTcws p 4 0 (setPhase p .tune s1)
  else s

/-- What a valid TCW does to the negotiation in progress. A STEP_REQ that names the rate in use is a repeat of one already
answered (R169; DEDUCED, log 41). -/
def tcwStep (p : Nat) (t : TCW) (s : State) : State :=
  let x := s.port p
  let tuning := x.phase == .tune || x.phase == .tuneRate || x.phase == .backStep
  if x.phase = .caps then (if t.state = 6 then negFail p 2 s else capsStep p t.node s)
  else if t.state = 2 ∧ !x.leader ∧ tuning ∧ t.rateReq ≠ x.rate ∧ (ownCaps s p).testBit t.rateReq then
    sendTcws p 3 t.rateReq ((setPhase p .stepReq s).modPort p (fun y => { y with rateWant := t.rateReq, stepAcked := some s.now }))
  else if t.state = 3 ∧ x.leader ∧ x.phase = .stepReq ∧ t.rateReq = x.rateWant ∧ x.stepAcked = none then
    s.setPort p { x with stepAcked := some s.now }
  else if t.state = 5 ∧ !x.leader ∧ tuning then negDone p (s.setPort p { x with rateLast := x.rate })
  else s

/-- TRAINING_FRAME_RECEIVE (R169): at a port that is UP, training frames mean lanes lost without a request. -/
def execTrainingFrameReceive (p k : Nat) (t : TCW) (s : State) : Host.Outcome State Fault Refusal :=
  if !s.domainOn p || pst s p = 0 then .next s
  else if !t.crcOk then .next (tallyPort .AM_BAD p s k)
  else if t.node = s.own ∧ t.port = p then .next (event (16 + p) .LANE_EVENTS_SELF_LOOP s p)
  else
    let s1 := ((s.set .LANE_NEG_PARTNER_CAPS t.caps p).set .LANE_NEG_PARTNER_NODE t.node p).set .LANE_NEG_PARTNER_PORT t.port p
    let s2 := fomHeld p k (modLane p k (fun l => { l with tcwSeen := true, inverted := t.inverted })
      (s1.set .LANE_STAT_PARTNER_FOM t.fom (2 * p + k)))
    if pst s p = 3 then .next (startRetrain p 6 false s2)
    else if !stepped s p then .next s2
    else .next (tcwStep p t (eqRequest p k t s2))

/-- RATE_STEP_SWITCH (R170): 1 µs after the STEP_ACK both ends resume at the requested rate. -/
def execRateStepSwitch (p : Nat) (s : State) : Host.Outcome State Fault Refusal :=
  let x := s.port p
  match x.stepAcked with
  | none => .next s
  | some t =>
    if x.phase = .stepReq ∧ t + 1000 ≤ s.now then
      let back := decide (x.rate < x.rateWant)
      let s1 := trainLanes p x.rateWant (s.setPort p { x with
        steps := x.steps + 1, stepAcked := none, stepWindow := s.get .LANE_CFG_STEP_WINDOW p })
      .next (sendTcws p 4 0 (setPhase p (if back then .backStep else .tuneRate) s1))
    else .next s

/-- STEP_WINDOW_EXPIRY (R171): the leader steps back to the last rate that passed. The window is as the step found it (Table 7.9). -/
def execStepWindowExpiry (p : Nat) (s : State) : Host.Outcome State Fault Refusal :=
  let x := s.port p
  if x.phase = .tuneRate ∧ x.leader ∧ x.phaseAt + x.stepWindow * 10000 ≤ s.now then
    .next (stepTo p x.rateLast (s.setPort p { x with stepsLeft := false }))
  else .next s

/-- Cumulative bound of a bring-up attempt in ns (Tables 7.4 and 7.6). -/
def attemptBound (s : State) (p : Nat) : Nat :=
  if stepped s p then 1000000 + 30000 * s.get .LANE_CFG_STEP_WINDOW p else 125000 + markerPeriod (s.get .PORT_CFG_RATE_MAX p)

/-- BRINGUP_ATTEMPT_TIMEOUT (R173). -/
def execBringupAttemptTimeout (p : Nat) (s : State) : Host.Outcome State Fault Refusal :=
  let x := s.port p
  match x.attemptAt with
  | none => .next s
  | some t =>
    if pst s p = 1 ∧ t + attemptBound s p ≤ s.now then
      .next (retryLanes p (if stepped s p && x.phase != .idle then negResult p 4 s else s))
    else .next s

/-- The lane training of a retrain ends with the lanes that locked (R172). -/
def endAttempt (p : Nat) (s : State) : State :=
  enterParam p (forEach ((usable s p).filter (fun k => lst s p k != 4)) (fun k a =>
    failLane p k (if (laneOf a p k).fomGood then 3 else 5) a) s)

/-- RETRAIN_ATTEMPT_TIMEOUT (R172): 180 µs. -/
def execRetrainAttemptTimeout (p : Nat) (s : State) : Host.Outcome State Fault Refusal :=
  let x := s.port p
  match x.attemptAt with
  | none => .next s
  | some t =>
    if pst s p = 5 ∧ x.phase = .train ∧ t + 180000 ≤ s.now then
      let next := if x.rate < x.priorRate then x.priorRate else x.rate + 1
      if (usable s p).any (fun k => lst s p k == 4) then .next (endAttempt p s)
      else if x.attempt = 1 ∧ stepped s p ∧ next ≤ 3 then .next (retrainAttempt p next 2 s)
      else .next (s.setPort p { x with attemptAt := none })
    else .next s

/-- Lanes without the property of a step are marked failed if another has it; otherwise the attempt ends. -/
def splitLanes (p cause : Nat) (good : Nat → Bool) (s : State) : Option State :=
  let g := (usable s p).filter good
  if g.isEmpty then none
  else some (forEach ((usable s p).filter (fun k => !good k)) (fun k a => failLane p k cause a) s)

/-- TRAINING_STEP_BOUND_EXPIRY (R168, R171). -/
def execTrainingStepBoundExpiry (p : Nat) (s : State) : Host.Outcome State Fault Refusal :=
  let x := s.port p
  let past := fun (d : Nat) => pst s p == 1 && decide (x.phaseAt + d ≤ s.now) && x.attemptAt.isSome
  if x.phase = .blindAdapt ∧ past 110000 then
    match splitLanes p 5 (fun k => (laneOf s p k).fomGood) s with
    | some s1 => .next (setPhase p .blindLock (forEach (usable s1 p) (fun j a => setLane p j 3 a) s1))
    | none => .next (setPhase p .idle s)
  else if x.phase = .blindLock ∧ past (markerPeriod x.rate) then
    match splitLanes p 3 (fun k => lst s p k == 4) s with
    | some s1 => .next (lockProgress p s1)
    | none => .next (setPhase p .idle s)
  else if x.phase = .tune ∧ past 600000 then
    match splitLanes p 5 (fun k => (laneOf s p k).fomGood) s with
    | some s1 => .next (ratePassed p s1)
    | none => .next (negFail p 3 s)
  else .next s

end Sys2Proof.Machine
end

