-- ==== Sys2Proof/Machine/View.lean ====
section
/-! DEFINITION. What a read of each register field shows where the field reports a state held elsewhere: occupancies, pools,
positions, counts and selected entries (the register tables of every chapter). -/
namespace Sys2Proof.Machine

/-- Bits set in a number, of its lowest 64. -/
def ones (v : Nat) : Nat := ((List.range 64).filter (fun i => v.testBit i)).length

/-- A number from its bits [0, n). -/
def fromBits (n : Nat) (p : Nat → Bool) : Nat := ((List.range n).map (fun i => if p i then 2 ^ i else 0)).sum

/-- Age in µs of the oldest cell that waits in a Landing or holds its slot at a Hall input. -/
def oldestUs (s : State) : Nat :=
  let a := s.ports.flatMap (fun e => e.2.landing.map (·.at_))
  let b := (s.hall.waiting.filter (·.inLanding)).map (·.stamp)
  ((a ++ b).map (fun t => (s.now - t) / 1000)).foldl max 0

/-- Segments that wait in order or for another reason at the target. -/
def parkedSegs (s : State) (p : Park → Bool) : List RSeg :=
  s.thresh.flows.flatMap (fun e => e.2.recv.segs.filter (fun g => g.park.any p))

/-- A refill of R231 is in progress: a partition has spilled entries and space on chip for the next. -/
def refilling (s : State) : Bool :=
  (List.range 64).any (fun p => (decide (0 < postedSpilled s p) && decide (postedOn s p < partPosted s p))
    || (decide (0 < unexpSpilled s p) && decide (unexpOn s p < partUnexp s p)))

/-- The suspect entry that SUSPECT_SEL names. -/
def selSuspect (s : State) : Option Suspect := Tab.find? s.fault.suspects (s.get .SUSPECT_SEL_ENTRY)

/-- The word of the fence table that FENCE_SEL names. -/
def fenceBits (s : State) : Nat := fromBits 64 (fun i => s.fenced (64 * s.get .FENCE_SEL_WORD + i))

/-- The flow context that FLOW_SEL names. -/
def selFlow (s : State) : Flow := s.flow (s.get .FLOW_SEL_NODE_INDEX)

/-- LATCH_STAT (Table 16.12). -/
def latchStat (s : State) (k : Nat) : Nat :=
  let x := s.latchOf k
  (latchValue x.owner.isSome x.abandoned x.forced false (x.owner.getD 0) x.waiters.length).toNat

/-- Milliseconds until a block's quiet timer expires. -/
def quietLeft (s : State) (b : Nat) : Nat :=
  match Tab.find? s.fault.quietAt b with
  | some t => ceilDiv (t - s.now) 1000000
  | none => 0

/-- The value of a shadow bank that SHADOW_SEL names (R432). -/
def shadowValue (s : State) : Nat :=
  Tab.get (if s.flag .SHADOW_SEL_BANK then s.count.bankS else s.count.bankD) (ckey (s.get .SHADOW_SEL_BLOCK) (s.get .SHADOW_SEL_SLOT)) 0

/-- CAT_DATA of the slot that CAT_SEL names. -/
def catData (s : State) : Nat := if isBlock (s.get .CAT_SEL_BLOCK) then catWord (s.get .CAT_SEL_BLOCK) (s.get .CAT_SEL_SLOT) else 0

/-- A tap in use on lane `j` of the ports, counted 2 per port. -/
def tapInUse (s : State) (j k : Nat) : Nat := (tapsNow s (j / 2) (j % 2)).getD k 0

/-- Fields of the Hall, the Sluice and the collectives. -/
def viewFabric (s : State) (f : Fld) (i : Nat) : Nat :=
  match f with
  | .HALL_STAT_DETOURS_ACTIVE => ones (s.get .HALL_DETOUR_LO_DETOUR) + ones (s.get .HALL_DETOUR_HI_DETOUR)
  | .HALL_STAT_OLDEST_US => oldestUs s
  | .HALL_AVAIL_LO_AVAIL => fromBits 64 s.avail
  | .HALL_AVAIL_HI_AVAIL => fromBits 8 (fun p => s.avail (64 + p))
  | .HALL_FENCED_LO_FENCED => fromBits 64 s.peerFenced
  | .HALL_FENCED_HI_FENCED => fromBits 8 (fun p => s.peerFenced (64 + p))
  | .PORT_STAT_REPLAY_OCC => (s.port i).replay.length
  | .LANDING_VC_OCC => landOcc s (i / 8) (i % 8)
  | .LANDING_VC_RESERVED => planReserved s (i % 8)
  | .LANDING_VC_SHARED_CAP => planCap s (i % 8)
  | .PARTNER_VC_SENDER_OCC => senderOcc (s.port (i / 8)) (i % 8)
  | .LANE_STAT_STATE => if s.domainOn (i / 2) then s.get f i else 0
  | .LANE_TXEQ_C_M2 => tapInUse s i 0
  | .LANE_TXEQ_C_M1 => tapInUse s i 1
  | .LANE_TXEQ_C_0 => tapInUse s i 2
  | .LANE_TXEQ_C_P1 => tapInUse s i 3
  | .LANE_TXEQ_C_P2 => tapInUse s i 4
  | .RAKE_STAT_OPS_ACTIVE => (s.rake.trees.filter (fun e => e.2.begun)).length
  | .SLUICE_STAT_BUDGET_NOW => s.budgetRow.2.1 * scaleOf s / 0x8000
  | .SLUICE_STAT_TICKET_RATE_NOW => s.budgetRow.2.2 * scaleOf s / 0x8000
  | .SLUICE_STAT_WAITING => s.sluice.waitCount
  | .TIME_STAT_SYNCED => b2n (timeSynced s)
  | .TIME_STAT_HOPS => timeHops s
  | .HIST_BIN_COUNT => Tab.get s.sluice.hist (histKey (s.get .HIST_SEL_QUEUE) (s.get .HIST_SEL_KIND) i) 0
  | .GATE_POS_ENTRY => (gateNow s i).1
  | .GATE_POS_MASK => (gateNow s i).2
  | .GATE_POS_ACTING => b2n (gateActs s i)
  | .SHAPE_STAT_TOKENS => (tokensOf s i / 327680 % 2 ^ 32).toNat
  | .SHAPE_STAT_QUEUED => (Tab.get s.sluice.queues i []).length
  | _ => s.get f i

/-- Fields of the host side: Porch, Crystalliser, Threshold. -/
def viewHost (s : State) (f : Fld) (i : Nat) : Nat :=
  match f with
  | .PORCH_STAT_RESIDENT => (s.porch.rooms.filter (fun e => e.2.resident)).length
  | .PORCH_STAT_PINNED_NOW => ((pinnedRooms s).take (s.get .PORCH_CFG_PIN_LIMIT)).length
  | .PORCH_STAT_ACTIVE => (s.porch.rooms.filter (fun e => e.2.st == 1)).length
  | .POOL_STAT_LB_FREE_KIB => lbFree s / 1024
  | .POOL_STAT_PICKUP_FREE_KIB => pickFree s / 1024
  | .HPORT_STAT_BOXROOM => b2n (s.get .PORCH_CFG_BOX_HPORT == i)
  | .CRYSTAL_STAT_MSG_IN_USE => s.crystal.msgs.length
  | .CRYSTAL_STAT_REFILLING => b2n (refilling s)
  | .CRYSTAL_STAT_HELD => min 0xFFFF (parkedSegs s (· == .order)).length
  | .PART_POSTED_ON_CHIP => postedOn s i
  | .PART_POSTED_SPILLED => postedSpilled s i
  | .PART_UNEXP_ON_CHIP => unexpOn s i
  | .PART_UNEXP_SPILLED => unexpSpilled s i
  | .PART_STORE_USED_TILES => tilesUsed s i
  | .THRESH_STAT_FLOWS_CACHED => s.thresh.flows.length
  | .THRESH_STAT_ATOMIC_USED => s.thresh.atomics.length
  | .THRESH_STAT_TRACKER_USED => s.thresh.tracker.length
  | .THRESH_STAT_VEST_PARKED_KIB => ((parkedSegs s (fun _ => true)).map vestBytes).sum / 1024
  | .FLOW_STAT0_SEND_STATE => (selFlow s).send.st
  | .FLOW_STAT0_SEND_EPOCH => (selFlow s).send.epoch
  | .FLOW_STAT0_RECV_STATE => (selFlow s).recv.st
  | .FLOW_STAT0_RECV_EPOCH => (selFlow s).recv.epoch
  | .FLOW_STAT0_TX_NEXT => (selFlow s).send.next
  | .FLOW_STAT0_TX_ACKED => (selFlow s).send.acked
  | .FLOW_STAT0_RX_W => (selFlow s).recv.w
  | .FLOW_STAT1_OUTSTANDING => (selFlow s).send.out.length
  | .FLOW_STAT1_RTO_US => rtoOf s (s.get .FLOW_SEL_NODE_INDEX) / 1000
  | .FLOW_STAT1_SRTT_NS => min 0xFFFF (selFlow s).send.srtt
  | .XLATE_STAT_MISSES0 => (s.missOf 0).length
  | .XLATE_STAT_MISSES1 => (s.missOf 1).length
  | .XLATE_STAT_MISSES2 => (s.missOf 2).length
  | .XLATE_STAT_MISSES3 => (s.missOf 3).length
  | .FENCE_DATA_BITS => fenceBits s
  | .FENCE_STAT_COUNT => s.fault.fences.length
  | .FENCE_STAT_SELF => b2n (s.fenced s.ownIdx)
  | .SUSPECT_STAT_USED => s.fault.suspects.length
  | .SUSPECT_ENTRY_NODE_INDEX => (selSuspect s).elim 0 (·.node)
  | .SUSPECT_ENTRY_STATE => (selSuspect s).elim 0 (·.st)
  | .SUSPECT_ENTRY_KIND => (selSuspect s).elim 0 (·.kind)
  | .SUSPECT_ENTRY_REPEAT => (selSuspect s).elim 0 (fun e => b2n e.rpt)
  | .SUSPECT_ENTRY_OBS => (selSuspect s).elim 0 (·.obs)
  | .SUSPECT_ENTRY_ROOMS => (selSuspect s).elim 0 (fun e => min 0xFFFF e.rooms.length)
  | _ => s.get f i

/-- Fields of the device: faults, power, Latches and counters. -/
def viewDevice (s : State) (f : Fld) (i : Nat) : Nat :=
  match f with
  | .CYCLE_METER_COUNTED => b2n (s.power.metered && meterCounted s i)
  | .FAULT_STAT_QUIET_LEFT_MS => quietLeft s i
  | .DEV_FAULT_BLOCKS_LO_AT_L1 => fromBits 64 (fun b => blockIds.contains b && decide (1 ≤ s.level b))
  | .DEV_FAULT_BLOCKS_HI_AT_L1 => fromBits 24 (fun b => decide (1 ≤ s.level (64 + b)))
  | .BOARD_TIME_SECONDS => if s.power.boardValidAt.isSome then boardTime s else 0
  | .BOARD_TIME_VALID => b2n s.power.boardValidAt.isSome
  | .LATCH_STAT_VALUE => latchStat s i
  | .CAT_DATA_NAME_NO => bits (catData s) 0 16
  | .CAT_DATA_INSTANCE => bits (catData s) 16 16
  | .CAT_DATA_INST_KIND => bits (catData s) 32 4
  | .CAT_DATA_USED => bits (catData s) 36 1
  | .CAT_DATA_UNIT => bits (catData s) 37 3
  | .SHADOW_DATA_VALUE => shadowValue s
  | .BANK_VAL_VALUE => counterAt s (i / 16) (s.get .BANK_SEL_SLOT i) % 2 ^ 40
  | .COUNTER_VALUE => counterAt s (i / 1024) (i % 1024)
  | _ => s.get f i

/-- The registers of a block read as zero while its domain is off, or at level L2 (R240, R314, Table 14.1). -/
def dark (s : State) (r : Reg) : Bool :=
  match r.place.blk with
  | .CRYSTAL => !s.crystalOn && r != .CRYSTAL_CFG
  | .RAKE => !s.rakeOn && r != .RAKE_CFG && r != .TREE_JOB
  | _ => false

/-- What a read of a field shows. -/
def fieldView (s : State) (f : Fld) (i : Nat) : Nat :=
  let b := f.info.reg.place.blk
  if dark s f.info.reg then 0
  else
    (match b with
    | .HALL | .PORT | .RAKE | .SLUICE => viewFabric s f i
    | .PORCH | .CRYSTAL | .THRESH => viewHost s f i
    | _ => viewDevice s f i) % 2 ^ f.info.width

end Sys2Proof.Machine
end

