-- ==== Sys2Proof/Machine/Registers.lean ====
section
/-! DEFINITION. Register accesses: widths, decoding, privilege field by field, immediate effect (R401 to R412), what each write
starts, reads and the bits they clear (R6), the wide-value mailbox (R415, R416), and accesses in MGMT cells (R417, R418). -/
namespace Sys2Proof.Machine

/-! Decoding (R404, R410, R411). -/

/-- Decode mask of a block (Table 16.3). -/
def decodeMask : Blk → Nat
  | .STAIR | .ATTIC | .FPLAN | .CELLAR => 0xFF38
  | .THRESH => 0x1FFF8
  | .COUNT => 0xFFFF8
  | .PORT => 0xF1F8
  | _ => 0xFFF8

/-- Global block by number. -/
def globalBlk : Nat → Option Blk
  | 0 => some .GLOBAL | 1 => some .STAIR | 2 => some .ATTIC | 3 => some .FPLAN | 4 => some .HALL | 5 => some .SLUICE
  | 6 => some .CRYSTAL | 7 => some .RAKE | 8 => some .THRESH | 9 => some .PORCH | 10 => some .CELLAR | 11 => some .LATCH
  | 12 => some .COUNT | 13 => some .POWER | _ => none

/-- The block and offset that an address selects: its number among blocks of its kind; none where it is unmapped (R410). -/
def selectBlock (a : Nat) : Option (Blk × Nat × Nat) :=
  if a.testBit 24 then (if bits a 16 8 < 72 then some (.PORT, bits a 16 8, bits a 0 16) else none)
  else (globalBlk (bits a 20 4)).map (fun b => (b, 0, bits a 0 20))

/-- The instance of a register that a masked offset reaches, if it does. -/
def instanceAt (r : Reg) (mask off : Nat) : Option Nat :=
  let p := r.place
  let base := p.off &&& mask
  if off < base then none
  else
    let d := off - base
    let i := d / p.stride
    let j := d % p.stride / p.stride2
    if p.count2 = 1 then (if d % p.stride = 0 ∧ i < p.count then some i else none)
    else if d % p.stride % p.stride2 = 0 ∧ i < p.count ∧ j < p.count2 then some (i * p.count2 + j) else none

/-- The register and instance at an offset of a block; fault group instances are block IDs (R411). -/
def registerAt (b : Blk) (n off : Nat) : Option (Reg × Nat) :=
  let mask := decodeMask b
  match b.regs.findSome? (fun r => (instanceAt r mask (off &&& mask)).map (fun i => (r, n * (r.place.count * r.place.count2) + i))) with
  | some x => some x
  | none => Blk.FAULTG.regs.findSome? (fun r => (instanceAt r mask (off &&& mask)).map (fun _ => (r, blkId b n)))

/-- A register with a copy for each master ID: the reader's or writer's own (R414, R415). -/
def ownCopy (m : Master) (r : Reg) (i : Nat) : Nat :=
  match r with
  | .INT_PEND_LO | .INT_PEND_HI | .WIDE_SEL | .WIDE_STAT => masterId m
  | .WIDE_DATA => 4 * masterId m + i
  | _ => i

/-- The halves of a register that an access reaches: low and high. -/
structure Reach where
  low : Bool
  high : Bool
deriving DecidableEq, Repr

/-- Width and alignment (R404). -/
def reachOf (a : Access) : Option Reach :=
  if a.bytes = 8 ∧ a.addr % 8 = 0 then some ⟨true, true⟩
  else if a.bytes = 4 ∧ a.addr % 4 = 0 then some ⟨!a.addr.testBit 2, a.addr.testBit 2⟩
  else none

/-- The bits of a field that an access reaches. -/
def Reach.part (h : Reach) (f : Fld) : Nat :=
  ((if h.low then 0xFFFFFFFF else 0) + (if h.high then 0xFFFFFFFF00000000 else 0)) / 2 ^ f.info.lo % 2 ^ f.info.width

/-- An access judged by R404 and R410: a register, no register, or refused whole with its cause. -/
inductive Judged
  | reg (r : Reg) (i : Nat) (h : Reach) | nothing | badWidth | unmapped
deriving DecidableEq, Repr

/-- Judge an access by its width, then its address (R410). -/
def judge (m : Master) (a : Access) : Judged :=
  match reachOf a with
  | none => .badWidth
  | some h =>
    match selectBlock a.addr with
    | none => .unmapped
    | some (b, n, off) =>
      match registerAt b n off with
      | none => .nothing
      | some (r, i) => .reg r (ownCopy m r i) h

/-- An access of a refused width or alignment. -/
def refuseWidth (m : Master) (a : Access) (write : Bool) (s : State) : State :=
  event 0 .GLOBAL_EVENTS_BAD_WIDTH (tally .BAD_WIDTH (logAccess m a.addr 2 write s))

/-- An access to an unmapped address. -/
def refuseUnmapped (m : Master) (a : Access) (write : Bool) (s : State) : State :=
  event 0 .GLOBAL_EVENTS_UNMAPPED (tally .UNMAPPED (logAccess m a.addr 3 write s))

/-! A write, field by field. -/

/-- A write as it reaches a register: its master, its halves, its data in place. -/
structure Wr where
  m : Master
  h : Reach
  data : Nat
deriving DecidableEq, Repr

/-- The bits written to a field, zero elsewhere. -/
def Wr.bitsOf (w : Wr) (f : Fld) : Nat := w.data / 2 ^ f.info.lo &&& w.h.part f

/-- The write reaches the field, and its master may write it. -/
def Wr.takes (w : Wr) (f : Fld) : Bool := w.h.part f != 0 && mayWrite (privOf w.m) f

/-- The write is refused in part at the field (R403): RO fields ignore writes of every master, RC fields those of masters that
may read them (Table 0.5, R402). -/
def Wr.refused (w : Wr) (f : Fld) : Bool :=
  w.h.part f != 0 &&
    (match f.info.acc with
    | .RO => false
    | .RC => privOf w.m == .user && w.bitsOf f != 0
    | .WO => !mayWrite (privOf w.m) f
    | _ => !mayWrite (privOf w.m) f && w.bitsOf f != 0)

/-- A value as its field stores it (R408). -/
def clampFld (f : Fld) (v : Nat) : Nat :=
  match f.info.clamp with
  | .none => v
  | .range lo hi => clampTo lo hi v
  | .only lo hi other => if lo ≤ v ∧ v ≤ hi then v else other

/-- The value a write forms over the field's present one: bits not written keep it (R404). -/
def Wr.over (w : Wr) (f : Fld) (old : Nat) : Nat := clampFld f (old - (old &&& w.h.part f) + w.bitsOf f)

/-- The value formed over what the field stores. -/
def Wr.form (w : Wr) (s : State) (f : Fld) (i : Nat) : Nat := w.over f (s.get f i)

/-- The field holds what is written. -/
def holdsValue (f : Fld) : Bool :=
  match f.info.acc with
  | .RW | .RWP | .RWS => true
  | _ => false

/-- Store the field, if the write takes it. -/
def Wr.store (w : Wr) (i : Nat) (f : Fld) (s : State) : State :=
  if holdsValue f && w.takes f then s.set f (w.form s f i) i else s

/-- Store every field of the register that the write takes. -/
def Wr.storeAll (w : Wr) (r : Reg) (i : Nat) (s : State) : State := forEach r.fields (w.store i) s

/-- Store every field but some. -/
def Wr.storeBut (w : Wr) (r : Reg) (i : Nat) (not : List Fld) (s : State) : State :=
  forEach (r.fields.filter (fun f => !not.contains f)) (w.store i) s

/-- Act on the value formed for a field, if the write takes it. -/
def Wr.act (w : Wr) (f : Fld) (i : Nat) (k : Nat → State → State) (s : State) : State :=
  if w.takes f then k (w.form s f i) s else s

/-- Act if the write sets a W1 bit it may set. -/
def Wr.fire (w : Wr) (f : Fld) (k : State → State) (s : State) : State := if w.takes f && w.bitsOf f != 0 then k s else s

/-! Changes while running that are unpredictable (Table 0.7, R12, R13). -/

/-- The fault that an unpredictable outcome may raise in the block that holds the offending state, within a level (R12). -/
def riskFault (b cap : Nat) (s : State) : State :=
  let (v, s1) := draw s
  if riskClass b cap v s1 then faultAt b v 0 0 s1 else s1

/-- A free outcome on host-side work: any room may be struck, and a fault up to L3 may be raised in the block. -/
def hostRisk (b : Nat) (s : State) : State := riskFault b 3 (forEach (s.porch.rooms.map (·.1)) unpredictableRoom s)

/-- A free outcome on the rooms of some jobs, with a fault up to L2 in the Threshold, which holds the job slots. -/
def jobRisk (jobs : List Nat) (s : State) : State :=
  riskFault 8 2 (forEach ((s.porch.rooms.filter (fun e => jobs.contains e.2.job)).map (·.1)) unpredictableRoom s)

/-- One of some fields differs between two states. -/
def changed (fs : List Fld) (i : Nat) (s t : State) : Bool := fs.any (fun f => s.get f i != t.get f i)

/-- Apply a risk if the work runs and a field changed. -/
def riskIf (runs : Bool) (fs : List Fld) (i b : Nat) (s t : State) : State := if runs && changed fs i s t then hostRisk b t else t

/-! What each register's write does. -/

/-- VPOL_CFG: VMAX is not below VMIN, and a heartbeat. -/
def writeVpol (w : Wr) (s : State) : State :=
  let s1 := w.storeAll .VPOL_CFG 0 s
  let s2 := if w.takes .VPOL_CFG_VMAX then s1.set .VPOL_CFG_VMAX (max (s1.get .VPOL_CFG_VMAX) (s1.get .VPOL_CFG_VMIN)) else s1
  w.fire .VPOL_CFG_HEARTBEAT heartbeatGo s2

/-- RESET_CTRL (R381, R384): a device reset without its confirmation has the whole write ignored. -/
def writeResetCtrl (w : Wr) (s : State) : State :=
  let blocks := fun a => w.fire .RESET_CTRL_COUNT blockCount (w.fire .RESET_CTRL_RAKE blockRake (w.fire .RESET_CTRL_CRYSTAL blockCrystal a))
  if w.takes .RESET_CTRL_DEVICE_RESET && w.bitsOf .RESET_CTRL_DEVICE_RESET != 0 then
    (if w.takes .RESET_CTRL_CONFIRM && w.bitsOf .RESET_CTRL_CONFIRM == 0x42 then deviceReset 4 s else refuseReset w.m s)
  else blocks s

/-- WDOG_CFG: a watchdog that is enabled starts its count. -/
def writeWdog (w : Wr) (s : State) : State :=
  let s1 := w.storeAll .WDOG_CFG 0 s
  let s2 := if !s.flag .WDOG_CFG_ENABLE && s1.flag .WDOG_CFG_ENABLE then kickWatchdog s1 else s1
  w.fire .WDOG_CFG_KICK kickWatchdog s2

/-- BOARD_TIME: the clock runs on from the value written. -/
def writeBoardTime (w : Wr) (s : State) : State :=
  if w.takes .BOARD_TIME_SECONDS then
    let v := w.over .BOARD_TIME_SECONDS (fieldView s .BOARD_TIME_SECONDS 0)
    modPower (fun p => { p with boardBase := v, boardAt := s.now, boardValidAt := some (p.boardValidAt.getD s.now) }) s
  else s

/-- ATTIC_CMD; whether a written word verifies is the Attic's affair and a free value (R385). -/
def atticCommand (cmd : Nat) (s : State) : State :=
  if cmd = 1 then atticReadCmd s
  else if cmd = 2 then
    let (v, s1) := draw s
    atticWriteCmd (v % 2 == 0) s1
  else if cmd = 3 then optCommitCmd s
  else s.set .ATTIC_CMD_CMD 0

/-- FPLAN_CTRL (R42, R43). -/
def writePlanCtrl (w : Wr) (s : State) : State :=
  if !w.takes .FPLAN_CTRL_KIND then s
  else
    planCtrl w.m (fun a =>
      let s1 := w.storeAll .FPLAN_CTRL 0 a
      let s2 := w.fire .FPLAN_CTRL_OPEN (openSession w.m (s1.get .FPLAN_CTRL_KIND)) s1
      w.fire .FPLAN_CTRL_ABORT abortWrite (w.fire .FPLAN_CTRL_COMMIT commitSession s2)) s

/-- FPLAN_DATA: a 32-bit write is ignored with FOREIGN_WRITE (Table 2.14). -/
def writePlanData (w : Wr) (s : State) : State :=
  if !mayWrite (privOf w.m) .FPLAN_DATA_WORD then s
  else if w.h.low && w.h.high then planWord w.m (wd w.data) s else foreignWrite s

/-- PORT_CFG (R147, R151, R152). -/
def writePortCfg (w : Wr) (p : Nat) (s : State) : State :=
  let s1 := w.storeBut .PORT_CFG p [.PORT_CFG_FEC, .PORT_CFG_ONE_LANE, .PORT_CFG_RATE_MAX, .PORT_CFG_ADMIN_DOWN] s
  if w.takes .PORT_CFG_FEC then
    let s2 := setPortSettings p (w.form s1 .PORT_CFG_FEC p) (w.form s1 .PORT_CFG_ONE_LANE p) (w.form s1 .PORT_CFG_RATE_MAX p) s1
    writeAdminDown p (w.form s2 .PORT_CFG_ADMIN_DOWN p) s2
  else s1

/-- A lane in use whose figure of merit lies below FAIL starts its window; at or above FAIL none runs (Table 7.10, R165). -/
def startFailWindow (p k : Nat) (s : State) : State :=
  let low := lst s p k == 4 && framesFlow s p && decide (s.get .LANE_STAT_FOM (2 * p + k) < s.get .LANE_FOM_CFG_FAIL p)
  modLane p k (fun l => { l with fomLowSince := if low then some (l.fomLowSince.getD s.now) else none }) s

/-- LANE_FOM_CFG: FAIL is not above a pass threshold. -/
def writeFomCfg (w : Wr) (p : Nat) (s : State) : State :=
  let s1 := w.storeAll .LANE_FOM_CFG p s
  if w.takes .LANE_FOM_CFG_FAIL then
    let low := min (s1.get .LANE_FOM_CFG_THR_LIGHT p) (s1.get .LANE_FOM_CFG_THR_HEAVY p)
    startFailWindow p 1 (startFailWindow p 0 (s1.set .LANE_FOM_CFG_FAIL (min (s1.get .LANE_FOM_CFG_FAIL p) low) p))
  else s1

/-- LANE_TXEQ: a write that breaks the tap limits is ignored; another sets the preset and the taps in use (Table 7.14). -/
def writeTxeq (w : Wr) (i : Nat) (s : State) : State :=
  if tapsLegal (Reg.LANE_TXEQ.fields.map (fun f => w.form s f i)) then
    let s1 := w.storeAll .LANE_TXEQ i s
    modLane (i / 2) (i % 2) (fun l => { l with
      taps := none, stored := Tab.put l.stored (s.port (i / 2)).rate (presetTaps s1 (i / 2) (i % 2)) }) s1
  else s

/-- ROOM_CMD (R185). -/
def roomCommand (r cmd : Nat) (s : State) : State :=
  beginCmd r cmd (if cmd = 1 then activateCmd r else if cmd = 2 then deactivateCmd r else if cmd = 3 then resetCmd r
    else if cmd = 4 then fetchCmd r else if cmd = 5 then evictCmd r else endCmd 6) s

/-- A write of ROOM_CMD forms ROOM and CMD and starts the command. -/
def writeRoomCmd (w : Wr) (s : State) : State :=
  if w.takes .ROOM_CMD_CMD then roomCommand (w.form s .ROOM_CMD_ROOM 0) (w.form s .ROOM_CMD_CMD 0) s else s

/-- ROOM_CTX_DATA: bits not written keep the selected context word's. -/
def writeCtxData (w : Wr) (s : State) : State :=
  let old := ((s.room (s.get .ROOM_CTX_SEL_ROOM)).ctx.getD (s.get .ROOM_CTX_SEL_WORD) 0).toNat
  if w.takes .ROOM_CTX_DATA_DATA then writeCtx (wd (w.over .ROOM_CTX_DATA_DATA old)) s else s

/-- PORCH_CFG: a lower PIN_LIMIT may make a slot free. -/
def writePorchCfg (w : Wr) (s : State) : State :=
  serveSlots (riskIf (anyActive s) [.PORCH_CFG_BOX_HPORT] 0 9 s (w.storeAll .PORCH_CFG 0 s))

/-- THRESH_CFG: RTO_MAX_US is not below the RTO_MIN_US of the same write. -/
def writeThreshCfg (w : Wr) (s : State) : State :=
  let s1 := w.storeAll .THRESH_CFG 0 s
  if w.takes .THRESH_CFG_RTO_MAX_US then s1.set .THRESH_CFG_RTO_MAX_US (max (s1.get .THRESH_CFG_RTO_MAX_US) (s1.get .THRESH_CFG_RTO_MIN_US))
  else s1

/-- KEY_CMD (Table 10.18). -/
def keyCmd (cmd : Nat) (s : State) : State :=
  if cmd = 1 then keyWrite s else if cmd = 2 then keyRead s else if cmd = 3 then keyInvalidate s else s

/-- RANK_CMD (R293). -/
def rankCmd (cmd : Nat) (s : State) : State :=
  if cmd = 1 then rankWrite s else if cmd = 2 then rankRead s else if cmd = 3 then rankFlush s else s

/-- FENCE_CMD (R366). -/
def fenceCmd (x cmd : Nat) (s : State) : State :=
  if cmd = 1 then fenceOn x s else if cmd = 2 then fenceOff x s else if cmd = 3 then liftAll s else s

/-- RAKE_CTRL (R310, R312). -/
def rakeCmd (t cmd : Nat) (s : State) : State :=
  rakeCtrl t (if cmd = 1 then softAbort t else if cmd = 2 then resync t else fun a => a) s

/-- MISS_DONE (R286 to R288). -/
def missDone (h id status : Nat) (s : State) : State :=
  let s1 := noteMissDone h id status s
  if status = 1 then failMiss false h id s1 else if status = 2 then failMiss true h id s1
  else if status = 3 then notPresent h id s1 else if status = 4 then resolveMiss h id s1 else s1

/-- ATB_CMD (R288). -/
def atbCmd (w : Wr) (s : State) : State :=
  let s1 := w.storeAll .ATB_CMD 0 s
  let cmd := s1.get .ATB_CMD_CMD
  let h := s1.get .ATB_CMD_HPORT
  if cmd = 1 then installCmd h (if s1.flag .ATB_CMD_HAS_MISS then some (s1.get .ATB_CMD_MISS_ID) else none) s1
  else if cmd = 2 then invalidateCmd h s1 else if cmd = 3 then atbReadCmd h (s1.get .ATB_CMD_INDEX) s1 else s1

/-- Another valid slot holds the job of slot `i` (R94). -/
def slotTwice (i : Nat) (s : State) : Bool :=
  s.flag .JOB_SLOT_VALID i && s.fld.any (fun e => e.1 % 1024 == Fld.JOB_SLOT_VALID.ctorIdx && e.2 == 1 && e.1 / 1024 != i
    && s.get .JOB_SLOT_JOB (e.1 / 1024) == s.get .JOB_SLOT_JOB i)

/-- JOB_SLOT: JOB and RT_OFFSET of a slot in use change with a free outcome for its jobs (Table 4.15), and so does a second valid slot
of a job (R94). -/
def writeJobSlot (w : Wr) (i : Nat) (s : State) : State :=
  let t := w.storeAll .JOB_SLOT i s
  if s.flag .JOB_SLOT_VALID i && changed [.JOB_SLOT_JOB, .JOB_SLOT_RT_OFFSET] i s t then
    jobRisk [s.get .JOB_SLOT_JOB i, t.get .JOB_SLOT_JOB i] t
  else if changed [.JOB_SLOT_JOB, .JOB_SLOT_VALID] i s t && slotTwice i t then jobRisk [t.get .JOB_SLOT_JOB i] t
  else t

/-- The translation service of a host port runs. -/
def portRuns (s : State) (h : Nat) : Bool := s.porch.rooms.any (fun e => e.2.st == 1 && e.2.hport == h)

/-- The dump ring is in use. -/
def dumpInUse (s : State) : Bool := s.flag .DUMP_CFG_ENABLE || s.count.writing.isSome || s.flag .COUNT_STAT_SNAP_PENDING

/-- DUMP_CFG. -/
def writeDumpCfg (w : Wr) (s : State) : State :=
  let s1 := riskIf (dumpInUse s) [.DUMP_CFG_LOG2, .DUMP_CFG_HPORT] 0 12 s (w.storeBut .DUMP_CFG 0 [.DUMP_CFG_ENABLE] s)
  w.act .DUMP_CFG_ENABLE 0 writeDumpEnable s1

/-- TRACE_CFG. -/
def writeTraceCfg (w : Wr) (s : State) : State :=
  let s1 := riskIf (s.flag .TRACE_CFG_ENABLE) [.TRACE_CFG_LOG2] 0 12 s (w.storeBut .TRACE_CFG 0 [.TRACE_CFG_ENABLE] s)
  w.act .TRACE_CFG_ENABLE 0 writeTraceEnable s1

/-- BANK_SEL: an entry that names another slot has no wrap of it yet (R438). -/
def writeBankSel (w : Wr) (i : Nat) (s : State) : State :=
  let t := w.storeAll .BANK_SEL i s
  if changed [.BANK_SEL_SLOT] i s t then t.set .BANK_VAL_WRAP40 0 i else t

/-- DEV_FAULT_CTRL (R356, R357). -/
def writeDevFault (w : Wr) (s : State) : State :=
  let s1 := w.storeBut .DEV_FAULT_CTRL 0 [.DEV_FAULT_CTRL_L4_HOLD] s
  w.fire .DEV_FAULT_CTRL_HOST_RESET hostResetGo (w.act .DEV_FAULT_CTRL_L4_HOLD 0 writeL4Hold s1)

/-- TIME_CFG: the followers' parent is judged anew where the master changes. -/
def writeTimeCfg (w : Wr) (s : State) : State :=
  let t := w.storeAll .TIME_CFG 0 s
  if changed [.TIME_CFG_MASTER, .TIME_CFG_MASTER_NODE] 0 s t then timeCfgWritten t else t

/-- Capture a wide value in a master's mailbox: status DONE with VALID or ERROR, and four words (R416). -/
def putWide (m : Nat) (valid error : Bool) (ws : List Nat) (s : State) : State :=
  let s1 := ((s.set .WIDE_STAT_DONE 1 m).set .WIDE_STAT_VALID (b2n valid) m).set .WIDE_STAT_ERROR (b2n error) m
  forEach [0, 1, 2, 3] (fun k a => a.set .WIDE_DATA_DATA (ws.getD k 0) (4 * m + k)) s1

/-- The header of a freeze as a wide value (R437). -/
def wideHeader (snap : Bool) (o : Option FreezeHdr) (m : Nat) (s : State) : State :=
  match o with
  | some f => putWide m true false [f.ns, hdrWord3 f, if snap then f.snapAt else 0, f.seq] s
  | none => putWide m false false [] s

/-- The capture that WIDE_SEL starts (Table 16.5). -/
def captureWide (m kind block index : Nat) (s : State) : State :=
  if kind = 0 then
    putWide m true false [s.netNs, at_ s.netFrac 0 16 + at_ (b2n (timeSynced s)) 16 1 + at_ (s.get .TIME_STAT_HOLDOVER) 17 1] s
  else if kind = 1 then
    if !blockIds.contains block || decide (8 ≤ index) then putWide m false true [] s
    else
      match (Tab.get s.fault.hist block [])[index]? with
      | some e => putWide m true false [e.ns, e.hi] s
      | none => putWide m false false [] s
  else if kind = 2 ∧ index = 0 then wideHeader true s.count.hdrS m s
  else if kind = 2 ∧ index = 1 then wideHeader false s.count.hdrD m s
  else putWide m false true [] s

/-- A write of WIDE_SEL. -/
def writeWide (w : Wr) (i : Nat) (s : State) : State :=
  if w.takes .WIDE_SEL_KIND then
    let t := w.storeAll .WIDE_SEL i s
    captureWide i (t.get .WIDE_SEL_KIND i) (t.get .WIDE_SEL_BLOCK i) (t.get .WIDE_SEL_INDEX i) t
  else s

/-- A write at the registers of POWER. -/
def writePower (w : Wr) (r : Reg) (i : Nat) (s : State) : State :=
  match r with
  | .OP_CTRL => w.act .OP_CTRL_OP_POINT 0 writeOpPoint s
  | .VPOL_CFG => writeVpol w s
  | .DOMAIN_TARGET_LO => w.act .DOMAIN_TARGET_LO_TARGET 0 (fun v a => setTargets v (a.get .DOMAIN_TARGET_HI_TARGET) a) s
  | .DOMAIN_TARGET_HI => w.act .DOMAIN_TARGET_HI_TARGET 0 (fun v a => setTargets (a.get .DOMAIN_TARGET_LO_TARGET) v a) s
  | .RESET_CAUSE_CLR => w.fire .RESET_CAUSE_CLR_CLEAR (clearCauses (w.bitsOf .RESET_CAUSE_CLR_CLEAR)) s
  | .RESET_CTRL => writeResetCtrl w s
  | .WDOG_CFG => writeWdog w s
  | .THERM_CFG => showTemps (w.storeAll .THERM_CFG 0 s)
  | .BOOT_CTRL => w.fire .BOOT_CTRL_OVERRIDE overrideHalt s
  | .BOARD_TIME => writeBoardTime w s
  | .BIST_CTRL => w.fire .BIST_CTRL_START startRun (w.fire .BIST_CTRL_SHUTDOWN beginShutdown (w.storeAll .BIST_CTRL 0 s))
  | r => w.storeAll r i s

/-- A write at the registers of a port. -/
def writePort (w : Wr) (r : Reg) (i : Nat) (s : State) : State :=
  match r with
  | .PORT_CFG => writePortCfg w i s
  | .PORT_CTRL => w.fire .PORT_CTRL_BRING_UP (startBringUp i) (w.fire .PORT_CTRL_RETRAIN (retrainBySoftware i) s)
  | .LANE_FOM_CFG => writeFomCfg w i s
  | .LANE_TXEQ => writeTxeq w i s
  | r => w.storeAll r i s

/-- A write at the registers of the Porch. -/
def writePorch (w : Wr) (r : Reg) (i : Nat) (s : State) : State :=
  match r with
  | .PORCH_CFG => writePorchCfg w s
  | .BOXROOM_BASE => riskIf (anyActive s) [.BOXROOM_BASE_BASE] 0 9 s (w.storeAll .BOXROOM_BASE 0 s)
  | .ROOM_CMD => writeRoomCmd w s
  | .ROOM_CTX_DATA => writeCtxData w s
  | r => w.storeAll r i s

/-- A write at the registers of the Threshold. -/
def writeThresh (w : Wr) (r : Reg) (i : Nat) (s : State) : State :=
  match r with
  | .JOB_SLOT => writeJobSlot w i s
  | .THRESH_CFG => writeThreshCfg w s
  | .KEY_CMD => w.act .KEY_CMD_CMD 0 keyCmd s
  | .FLOW_CMD => w.fire .FLOW_CMD_RESET (fun a => resetContext (a.get .FLOW_SEL_NODE_INDEX) a) s
  | .XCTX_BASE => riskIf (portRuns s i) [.XCTX_BASE_LOG2, .XCTX_BASE_BASE] i 8 s (w.storeAll .XCTX_BASE i s)
  | .INV_RING => w.fire .INV_RING_RING (fun a => ringKind (a.get .INV_MBOX0_KIND i) i a) s
  | .PRQ_BASE => flushPrq i (riskIf (portRuns s i) [.PRQ_BASE_LOG2, .PRQ_BASE_BASE] i 8 s (w.storeAll .PRQ_BASE i s))
  | .PRQ_CTRL => flushPrq i (w.storeAll .PRQ_CTRL i s)
  | .MISS_DONE =>
    if w.takes .MISS_DONE_ID then
      missDone (w.form s .MISS_DONE_HPORT 0) (w.form s .MISS_DONE_ID 0) (w.form s .MISS_DONE_STATUS 0) s
    else s
  | .WALK_REQ =>
    if w.takes .WALK_REQ_ADDR then walkRead i (w.form s .WALK_REQ_HPORT i) (8 * w.form s .WALK_REQ_ADDR i) s else s
  | .ATB_CMD => if w.takes .ATB_CMD_CMD then atbCmd w s else s
  | .RANK_CMD => w.act .RANK_CMD_CMD 0 rankCmd s
  | .FENCE_DATA =>
    if w.takes .FENCE_DATA_BITS then fenceWord (w.over .FENCE_DATA_BITS (fenceBits s)) s else s
  | .FENCE_CMD =>
    if w.takes .FENCE_CMD_CMD then fenceCmd (w.bitsOf .FENCE_CMD_NODE_INDEX) (w.bitsOf .FENCE_CMD_CMD) s else s
  | r => w.storeAll r i s

/-- A write at the registers of the Sluice. -/
def writeSluice (w : Wr) (r : Reg) (i : Nat) (s : State) : State :=
  match r with
  | .SLUICE_MODE =>
    w.fire .SLUICE_MODE_SCHEDULE (enterScheduled true) (w.act .SLUICE_MODE_FORCE_MARKED 0 writeForceMarked s)
  | .HIST_CTRL => w.fire .HIST_CTRL_CLEAR clearHist (w.storeAll .HIST_CTRL 0 s)
  | .TIME_CFG => writeTimeCfg w s
  | .TIME_ADJ => w.fire .TIME_ADJ_SET setNetTime (w.storeAll .TIME_ADJ 0 s)
  | r => w.storeAll r i s

/-- A write at the registers of COUNT. -/
def writeCount (w : Wr) (r : Reg) (i : Nat) (s : State) : State :=
  match r with
  | .DUMP_CFG => writeDumpCfg w s
  | .DUMP_BASE => riskIf (dumpInUse s) [.DUMP_BASE_BASE] 0 12 s (w.storeAll .DUMP_BASE 0 s)
  | .SNAP_AT => w.act .SNAP_AT_NS 0 rewriteSnapAt s
  | .SNAP_CTRL => w.fire .SNAP_CTRL_DISARM disarmSnap (w.fire .SNAP_CTRL_ARM armSnap s)
  | .BANK_SEL => writeBankSel w i s
  | .TRACE_CFG => writeTraceCfg w s
  | .TRACE_BASE => riskIf (s.flag .TRACE_CFG_ENABLE) [.TRACE_BASE_BASE] 0 12 s (w.storeAll .TRACE_BASE 0 s)
  | r => w.storeAll r i s

/-- A write at a register of a fault group. -/
def writeFaultGroup (w : Wr) (r : Reg) (b : Nat) (s : State) : State :=
  match r with
  | .FAULT_ACK => w.fire .FAULT_ACK_ACK (ackClasses b (w.bitsOf .FAULT_ACK_ACK)) s
  | .FAULT_INJECT => w.fire .FAULT_INJECT_GO (injectFault b) (w.storeAll .FAULT_INJECT b s)
  | r => w.storeAll r b s

/-- A write at the other blocks. -/
def writeOther (w : Wr) (r : Reg) (i : Nat) (s : State) : State :=
  match r with
  | .FPLAN_CTRL => writePlanCtrl w s
  | .FPLAN_DATA => writePlanData w s
  | .ATTIC_CMD => w.act .ATTIC_CMD_CMD 0 atticCommand s
  | .RAKE_CFG => applyWindow (w.storeAll .RAKE_CFG 0 s)
  | .RAKE_CTRL => if w.takes .RAKE_CTRL_CMD then rakeCmd (w.form s .RAKE_CTRL_TREE 0) (w.bitsOf .RAKE_CTRL_CMD) s else s
  | .LATCH_RELEASE => if w.takes .LATCH_RELEASE_ANY then releaseLatch w.m i s else s
  | .LATCH_FORCE => w.fire .LATCH_FORCE_GO (forceLatch i) s
  | .DEV_FAULT_CTRL => writeDevFault w s
  | .WIDE_SEL => writeWide w i s
  | r => w.storeAll r i s

/-- What a write does at the register it reaches (R408): every field the master may write. -/
def actWrite (w : Wr) (r : Reg) (i : Nat) (s : State) : State :=
  let s1 := match r.place.blk with
    | .POWER => writePower w r i s
    | .PORT => writePort w r i s
    | .PORCH => writePorch w r i s
    | .THRESH => writeThresh w r i s
    | .SLUICE => writeSluice w r i s
    | .COUNT => writeCount w r i s
    | .FAULTG => writeFaultGroup w r i s
    | _ => writeOther w r i s
  if r.fields.any (fun f => holdsValue f && w.takes f) then mendReg r i w.h.low w.h.high s1 else s1

/-- A write to a register: served field by field; counted and recorded once where it is refused in part (R403). -/
def writeReg (w : Wr) (addr : Nat) (r : Reg) (i : Nat) (s : State) : State :=
  let s1 := actWrite w r i s
  if r.fields.any w.refused then refusePriv w.m addr true s1 else s1

/-- A 32-bit write's data in its place. -/
def placeData (h : Reach) (data : Nat) : Nat := if h.low && h.high then data else if h.high then data % 2 ^ 32 * 2 ^ 32 else data % 2 ^ 32

/-- A register-space write (R410). -/
def spaceWrite (m : Master) (a : Access) (data : Word) (s : State) : State :=
  match judge m a with
  | .badWidth => refuseWidth m a true s
  | .unmapped => refuseUnmapped m a true s
  | .nothing => s
  | .reg r i h => writeReg { m := m, h := h, data := placeData h data.toNat } a.addr r i s

/-! Reads. -/

/-- Bits that a read clears (R6): those it returns. FOM_MIN starts anew at the present figure; BANK_VAL clears bit 63 only. -/
def clearRead (h : Reach) (i : Nat) (f : Fld) (s : State) : State :=
  if f.info.acc != .RC || dark s f.info.reg || h.part f == 0 then s
  else
    match f with
    | .LANE_STAT_FOM_MIN => s.set f (s.get .LANE_STAT_FOM i) i
    | .BANK_VAL_VALUE => s
    | f => let v := s.get f i; s.set f (v - (v &&& h.part f)) i

/-- The word a read returns: the fields the master may read. -/
def wordOf (m : Master) (r : Reg) (i : Nat) (s : State) : Nat :=
  (r.fields.map (fun f => if mayRead (privOf m) f then fieldView s f i * 2 ^ f.info.lo else 0)).sum

/-- What a read of a register that acts returns: none where it stalls. Others return nothing here. -/
def readActs (m : Master) (r : Reg) (i : Nat) (h : Reach) (s : State) : Option (Option Word × State) :=
  match r with
  | .LATCH_TAKE =>
    let (w, s1) := takeLatch m i s
    some (some w, s1)
  | .LATCH_WAIT => some (waitLatch m i s)
  | .MISS_POP =>
    if h.low then
      let s1 := popMiss i s
      some (some (missWord i s1), s1)
    else some (some 0, s)
  | .ROOM_CTX_DATA =>
    let q := s.room (s.get .ROOM_CTX_SEL_ROOM)
    if q.resident then some (some (q.ctxWord (s.get .ROOM_CTX_SEL_WORD)), s)
    else
      let (v, s1) := draw (readBox (s.get .ROOM_CTX_SEL_ROOM) s)
      some (some (wd v), s1)
  | .WALK_DATA =>
    if s.get .WALK_STAT_STATUS i = 3 then
      some (none, modThresh (fun t => { t with
        walkStall := t.walkStall ++ [{ hk := i, m := m, low := h.low, high := h.high, till := s.now + 50000 }] }) s)
    else none
  | _ => none

/-- A mismatch stands in a register (R358). -/
def mismatched (s : State) (r : Reg) (i : Nat) : Bool :=
  s.fault.standing.any (fun x => x == .reg (regBlk r i) (regOff r i) || x == .reg (regBlk r i) (regOff r i + 4))

/-- The bits of the fields a master may read: reserved bits read as zero whatever the register holds (R7). -/
def readMask (m : Master) (r : Reg) : Nat :=
  ((r.fields.filter (mayRead (privOf m))).map (fun f => (2 ^ f.info.width - 1) * 2 ^ f.info.lo)).sum

/-- A register's whole word as a read returns it: none while it stalls. A register in which a mismatch stands holds unknown
values in its fields (R358). -/
def readWord (m : Master) (r : Reg) (i : Nat) (h : Reach) (s : State) : Option Word × State :=
  match readActs m r i h s with
  | some x => x
  | none =>
    let w := wd (wordOf m r i s)
    let s1 := forEach (r.fields.filter (mayRead (privOf m))) (clearRead h i) s
    if mismatched s r i then
      let (v, s2) := draw s1
      (some (wd (v &&& readMask m r)), s2)
    else (some w, s1)

/-- A read of a register: refused where the master may read no field (R403); a 32-bit read returns its half. -/
def readReg (m : Master) (addr : Nat) (r : Reg) (i : Nat) (h : Reach) (s : State) : Option Word × State :=
  if !r.fields.any (mayRead (privOf m)) then (some 0, refusePriv m addr false s)
  else
    match readWord m r i h s with
    | (some w, s1) => (some (if h.low && h.high then w else halfOf h.high w), s1)
    | x => x

/-- The place of a stalled read among its path's waiting frames or cells: the Latch of a LATCH_WAIT, and 512 and above for WALK_DATA. -/
def stallKey (m : Master) (a : Access) : Nat :=
  match judge m a with
  | .reg .WALK_DATA i _ => 512 + i
  | .reg _ i _ => i
  | _ => 0

/-- A register-space read (R410): the value, none while it stalls. -/
def spaceRead (m : Master) (a : Access) (s : State) : Option Word × State :=
  match judge m a with
  | .badWidth => (some 0, refuseWidth m a false s)
  | .unmapped => (some 0, refuseUnmapped m a false s)
  | .nothing => (some 0, s)
  | .reg r i h => readReg m a.addr r i h s

/-! The windows of a host port beside BAR0 (R181): room pages in BAR2, the MSI-X table and pending bits in BAR4. An Access
reaches BAR2 by bit 28 of its address and BAR4 by bit 29 (DESIGN CHOICE: the log names it). -/

/-- Vector and word of a BAR4 offset in the MSI-X table. -/
def msixAt (s : State) (h v : Nat) : MsixSt := Tab.get s.porch.msix (h * 2048 + v) {}

/-- The two 64-bit words of a vector's table entry. -/
def msixEntry (e : MsixSt) (upper : Bool) : Nat := if upper then e.data + at_ (b2n e.masked) 32 1 else e.addr

/-- A write into the MSI-X table (the entry layout of PCIe), of the halves it reaches: an unmasked vector sends what is pending. -/
def msixWrite (h off : Nat) (r : Reach) (data : Word) (s : State) : State :=
  if 0x8000 ≤ off then s
  else
    let v := off / 16
    let e := msixAt s h v
    let upper := decide (off % 16 = 8)
    let d := placeData r data.toNat
    let w := (if r.low then d else msixEntry e upper) % 2 ^ 32 + (if r.high then d else msixEntry e upper) / 2 ^ 32 * 2 ^ 32
    let e1 := if upper then { e with data := bits w 0 32, masked := w.testBit 32 } else { e with addr := w }
    let go := e1.pending && !e1.masked
    let s1 := { s with porch := { s.porch with msix := Tab.set s.porch.msix (h * 2048 + v) { e1 with pending := e1.pending && e1.masked } {} } }
    if go then emit (.msix h v) s1 else s1

/-- The 64-bit word that an aligned offset of BAR4 reads as. -/
def msixRead (h off : Nat) (s : State) : Word :=
  if off < 0x8000 then wd (msixEntry (msixAt s h (off / 16)) (decide (off % 16 = 8)))
  else if off < 0x8100 then wd (fromBits 64 (fun i => (msixAt s h (8 * (off - 0x8000) + i)).pending))
  else 0

/-- A BAR4 write of 64 or 32 bits; any other width or alignment does nothing (log 24). -/
def msixAccessWrite (h : Nat) (a : Access) (data : Word) (s : State) : State :=
  match reachOf a with
  | some r => msixWrite h (a.addr % 0x10000 / 8 * 8) r data s
  | none => s

/-- A BAR4 read of 64 or 32 bits; any other reads as zero (log 24). -/
def msixAccessRead (h : Nat) (a : Access) (s : State) : State :=
  let w := msixRead h (a.addr % 0x10000 / 8 * 8) s
  emit (.reg (.host h) (match reachOf a with
    | some r => if r.low && r.high then w else halfOf r.high w
    | none => 0)) s

/-- A room-page write of 64 bits (Table 8.6). -/
def pageStore (h r off : Nat) (data : Word) (s : State) : State :=
  if off < 0x40 then knockWrite h r 1 s
  else if off = 0x48 then pageWrite h r (fun a => a.modRoom r (fun q => { q with head := data.toNat % 2 ^ 32 })) s
  else if off = 0x58 then pageWrite h r (fun a => if data.getLsbD 0 then armRoom r a else a) s
  else if off = 0x70 then pageWrite h r (fun a => if data.getLsbD 0 then lbGiveBack r a else a) s
  else if off = 0x88 then pageWrite h r (pickSkip h r) s
  else if 0x400 ≤ off ∧ off < 0x800 then pageWrite h r (lbAppend h r data false) s
  else if 0x800 ≤ off ∧ off < 0xC00 then pageWrite h r (lbAppend h r data true) s
  else pageWrite h r (fun a => a) s

/-- A room-page access of 32 bits that acts as its 64-bit form: to KNOCK and CMPL_HEAD, at the offsets that Table 8.6 names (R186). -/
def page32 (off : Nat) : Bool := off % 8 == 0 && (decide (off < 0x40) || off == 0x48)

/-- A BAR2 write: room page r at r × 0x1000. -/
def pageAccessWrite (h : Nat) (a : Access) (data : Word) (s : State) : State :=
  let r := bits a.addr 12 16
  let off := a.addr % 0x1000
  if a.bytes = 8 ∧ off % 8 = 0 then pageStore h r off data s
  else if a.bytes = 4 ∧ page32 off then pageStore h r off data s
  else pageNarrow h r s

/-- A BAR2 read. -/
def pageAccessRead (h : Nat) (a : Access) (s : State) : State :=
  let r := bits a.addr 12 16
  let off := a.addr % 0x1000
  if a.bytes = 8 ∧ off % 8 = 0 then pageRead h r off s
  else if a.bytes = 4 ∧ page32 off then pageRead h r off s
  else emit (.page h 0) (pageNarrow h r s)

/-! Commands. -/

/-- One write access of a master, in the window that it reaches. -/
def accessWrite (m : Master) (a : Access) (data : Word) (s : State) : State :=
  match m with
  | .host h =>
    if a.addr.testBit 28 then pageAccessWrite h a data s
    else if a.addr.testBit 29 then msixAccessWrite h a data s
    else spaceWrite m a data s
  | _ => spaceWrite m a data s

/-- The accesses of a write request: a host's request of several aligned 64-bit words is one 64-bit write for each, in ascending address
order (R405). -/
def writeParts (m : Master) (a : Access) (data : List Word) : List (Access × Word) :=
  match m with
  | .host _ =>
    if 8 < a.bytes ∧ a.bytes % 8 = 0 ∧ a.addr % 8 = 0 then
      (List.range (a.bytes / 8)).map (fun i => ({ addr := a.addr + 8 * i, bytes := 8 }, data.getD i 0))
    else [(a, data.headD 0)]
  | _ => [(a, data.headD 0)]

/-- REGISTER_WRITE (R405, R408). -/
def execRegisterWrite (m : Master) (a : Access) (data : List Word) (s : State) : Host.Outcome State Fault Refusal :=
  .next (if reaches s m then forEach (writeParts m a data) (fun e t => accessWrite m e.1 e.2 t) s else s)

/-- A read answered to its master, unless it stalls. -/
def answerRead (m : Master) (x : Option Word × State) : State :=
  match x.1 with
  | some w => emit (.reg m w) x.2
  | none => x.2

/-- RC_REGISTER_READ (R6): any register's read. -/
def execRcRegisterRead (m : Master) (a : Access) (s : State) : Host.Outcome State Fault Refusal :=
  .next (if !reaches s m then s else match m with
    | .host h =>
      if a.addr.testBit 28 then pageAccessRead h a s
      else if a.addr.testBit 29 then msixAccessRead h a s
      else answerRead m (spaceRead m a s)
    | _ => answerRead m (spaceRead m a s))

/-- INT_PEND_READ (R414). -/
def execIntPendRead (m : Master) (hi : Bool) (s : State) : Host.Outcome State Fault Refusal :=
  let r := if hi then Reg.INT_PEND_HI else .INT_PEND_LO
  .next (if reaches s m then answerRead m (readReg m (regAddr r 0) r (masterId m) ⟨true, true⟩ s) else s)

/-- WIDE_SEL_WRITE (R416). -/
def execWideSelWrite (m : Master) (kind block index : Nat) (s : State) : Host.Outcome State Fault Refusal :=
  .next (if reaches s m then
      writeReg { m := m, h := ⟨true, true⟩, data := at_ kind 0 4 + at_ block 8 8 + at_ index 16 8 } (regAddr .WIDE_SEL 0) .WIDE_SEL (masterId m) s
    else s)

/-! MGMT cells (R417 to R419). -/

/-- A MGMT request of a kind. -/
def isMgmt (kind : Nat) (c : Cell) : Bool := c.ty == tyMgmt && wf_ c.body 0 0 2 == kind

/-- The requester is MGR_NODE. -/
def fromManager (s : State) (c : Cell) : Bool := c.src == s.get .MGMT_CFG_MGR_NODE

/-- The request is refused (R418). -/
def mgmtRefused (s : State) (c : Cell) : Bool :=
  !s.flag .MGMT_CFG_ENABLE || (!fromManager s c && !s.flag .MGMT_CFG_USER_OK) || s.fenced (s.idxOf c.src)

/-- The access a request asks for. -/
def mgmtAccess (c : Cell) : Access := { addr := wf_ c.body 1 0 26, bytes := if wf_ c.body 0 2 1 = 1 then 4 else 8 }

/-- Response kind of a request. -/
def mgmtRespKind (c : Cell) : Nat := wf_ c.body 0 0 2 + 2

/-- A request is refused: counted, recorded, answered. -/
def refuseMgmt (c : Cell) (s : State) : State :=
  let m := Master.mgmt (fromManager s c)
  mgmtAnswer c (mgmtRespKind c) 1 0
    (event 0 .GLOBAL_EVENTS_MGMT_REFUSED (tally .MGMT_REFUSED (logAccess m (wf_ c.body 1 0 26) 4 (wf_ c.body 0 0 2 == 1) s)))

/-- Answer of an access that was performed: OK, or BAD_WIDTH for an address that its width does not allow (R404). -/
def mgmtStatus (c : Cell) : Nat := if (reachOf (mgmtAccess c)).isSome then 0 else 3

/-- A READ request performed: its response, or a place among the stalled (R407). -/
def mgmtRead (c : Cell) (s : State) : State :=
  let m := Master.mgmt (fromManager s c)
  match spaceRead m (mgmtAccess c) s with
  | (some w, s1) => tally .MGMT_SERVED (mgmtAnswer c 2 (mgmtStatus c) w s1)
  | (none, s1) => { s1 with mgmt := { s1.mgmt with queue := s1.mgmt.queue ++ [(stallKey m (mgmtAccess c), c)] } }

/-- A WRITE request performed. -/
def mgmtWrite (c : Cell) (s : State) : State :=
  let m := Master.mgmt (fromManager s c)
  tally .MGMT_SERVED (mgmtAnswer c 3 (mgmtStatus c) 0 (spaceWrite m (mgmtAccess c) (wd (wn c.body 2)) s))

/-- A request arrives: refused, turned away with BUSY beyond 16 held requests, or performed; none at L4. -/
def mgmtIn (act : Cell → State → State) (c : Cell) (s : State) : State :=
  if s.devLevel = 4 then s
  else if mgmtRefused s c then refuseMgmt c s
  else if 16 ≤ s.mgmt.queue.length then mgmtAnswer c (mgmtRespKind c) 2 0 s
  else act c s

/-- The request cell: the operand, or the first of its kind in the Housekeepers' ejection queue; its body CRC must verify (R75). -/
def takeMgmt (kind : Nat) (c : Option Cell) (act : Cell → State → State) (s : State) : State :=
  match takeIf 79 (isMgmt kind) c s with
  | (some (_, x), s1) => if !isMgmt kind x then s1 else if x.check = bodyCrc x.body then act x s1 else badVc0 s1
  | (none, s1) => s1

/-- MGMT_READ_ARRIVAL (R418). -/
def execMgmtReadArrival (c : Option Cell) (s : State) : Host.Outcome State Fault Refusal :=
  .next (takeMgmt 0 c (mgmtIn mgmtRead) s)

/-- MGMT_WRITE_ARRIVAL (R418). -/
def execMgmtWriteArrival (c : Option Cell) (s : State) : Host.Outcome State Fault Refusal :=
  .next (takeMgmt 1 c (mgmtIn mgmtWrite) s)

end Sys2Proof.Machine
end

