-- ==== Sys2Proof/Machine/Stair.lean ====
section
/-! DEFINITION. The Stair chain: addresses, frames, answers, locks (R389 to R394, Tables 15.8 and 15.9). -/
namespace Sys2Proof.Machine

/-- Body bytes of a frame as it is repeated: its own CRC, right or wrong. -/
def repeated (ty : Nat) (f : StairFrame) (step : Nat) (payload : List Nat) : List Nat :=
  let bs := [at_ ty 0 4 + at_ f.tag 4 4, step % 128] ++ payload
  let c := crc16 bs ^^^ f.crcErr % 65536
  bs ++ [c / 256, c % 256]

/-- Register byte address bits 25:3 in three bytes, least significant first (Table 15.8). -/
def addrBytes (addr : Nat) : List Nat := [bits addr 3 8, bits addr 11 8, bits addr 19 7]

/-- A frame repeated downstream; the chain end has nothing below it. -/
def passDown (ty : Nat) (f : StairFrame) (payload : List Nat) (s : State) : State :=
  if s.flag .STAIR_STAT_CHAIN_END then s else emit (.stairDown (repeated ty f f.step payload)) s

/-- A response with the TAG and STEP of its frame. -/
def reply (ty : Nat) (f : StairFrame) (payload : List Nat) (s : State) : State :=
  emit (.stairUp (stairFrame ty f.tag f.step payload)) s

/-- ERR of a code of Table 15.9. -/
def replyErr (code : Nat) (f : StairFrame) (s : State) : State := reply 0xA f [code] s

/-- A frame whose CRC fails at its addressee (R392): CHAIN_FRAME and no answer. -/
def discardFrame (s : State) : State := event 1 .STAIR_EVENTS_FRAME_FAIL (faultAt 1 25 0 0 s)

/-- The device holds this step address. -/
def addressed (f : StairFrame) (s : State) : Bool := s.flag .STAIR_STAT_VALID && s.get .STAIR_STAT_STEP == f.step

/-- STAIR answers frames addressed to it below L2 only (Table 14.2). -/
def stairAnswers (s : State) : Bool := decide (s.level 1 < 2)

/-- A frame that is not for this device: repeated, and answered NO_STEP at the chain end of a device that holds an address. -/
def notHere (ty : Nat) (f : StairFrame) (payload : List Nat) (s : State) : State :=
  if s.flag .STAIR_STAT_CHAIN_END then
    (if f.crcErr % 65536 ≠ 0 ∨ !s.flag .STAIR_STAT_VALID ∨ !stairAnswers s then s else replyErr 2 f s)
  else passDown ty f payload s

/-- A frame addressed to this device (R392, R394): discarded on a CRC failure, unanswered at L2, refused in reset unless it is a
RESET, or acted on. -/
def consume (f : StairFrame) (inReset : Bool) (act : State → State) (s : State) : State :=
  if f.crcErr % 65536 ≠ 0 then discardFrame s
  else if !stairAnswers s then s
  else if s.power.inReset && !inReset then replyErr 1 f s
  else act s

/-- A broadcast at one device (R393): acted on where the device holds an address, and forwarded. -/
def broadcast (ty : Nat) (f : StairFrame) (payload : List Nat) (act : State → State) (s : State) : State :=
  let s1 := passDown ty f payload s
  if !s1.flag .STAIR_STAT_VALID then s1 else if f.crcErr % 65536 ≠ 0 then discardFrame s1 else if !stairAnswers s1 then s1 else act s1

/-- The chain end answers, and no other device. -/
def endReply (ty : Nat) (f : StairFrame) (payload : List Nat) (s : State) : State :=
  if s.flag .STAIR_STAT_CHAIN_END then reply ty f payload s else s

/-- An ENUM with STEP 0 clears the address; with STEP 64 or above it is refused; else it is taken and forwarded with STEP + 1
(R391). -/
def takeAddress (f : StairFrame) (s : State) : State :=
  if f.step = 0 then
    endReply 0xB f [] (passDown 1 f [] ((s.set .STAIR_STAT_VALID 0).set .STAIR_STAT_STEP 0))
  else if 64 ≤ f.step then replyErr 4 f (s.set .STAIR_STAT_OVERFLOW 1)
  else
    let s1 := event 1 .STAIR_EVENTS_ENUM_SEEN ((s.set .STAIR_STAT_VALID 1).set .STAIR_STAT_STEP f.step)
    endReply 0xB f [] (passDown 1 { f with step := f.step + 1 } [] s1)

/-- STAIR_ENUM (R391). -/
def execStairEnum (f : StairFrame) (s : State) : Host.Outcome State Fault Refusal :=
  .next (if f.crcErr % 65536 ≠ 0 then discardFrame s else takeAddress f s)

/-- The access of a frame: aligned, 64 bits (R390). -/
def stairAccess (addr : Nat) : Access := { addr := addr % 2 ^ 26 / 8 * 8, bytes := 8 }

/-- A READ frame's read: DATA, or a place among the stalled (R394). -/
def stairReadAct (f : StairFrame) (addr : Nat) (s : State) : State :=
  match spaceRead .stair (stairAccess addr) s with
  | (some w, s1) => stairData f.tag f.step w s1
  | (none, s1) => { s1 with stair := { s1.stair with queue := s1.stair.queue ++ [(stallKey .stair (stairAccess addr), f.tag, f.step)] } }

/-- STAIR_READ (R392, R393). -/
def execStairRead (f : StairFrame) (addr : Nat) (s : State) : Host.Outcome State Fault Refusal :=
  .next (if f.step = 0 then
      (if !s.flag .STAIR_STAT_CHAIN_END then passDown 2 f (addrBytes addr) s
       else if f.crcErr % 65536 ≠ 0 ∨ !s.flag .STAIR_STAT_VALID ∨ !stairAnswers s then s else replyErr 3 f s)
    else if addressed f s then consume f false (stairReadAct f addr) s
    else notHere 2 f (addrBytes addr) s)

/-- STAIR_WRITE (R392, R393). -/
def execStairWrite (f : StairFrame) (addr : Nat) (w : Word) (s : State) : Host.Outcome State Fault Refusal :=
  .next (if f.step = 0 then
      broadcast 3 f (addrBytes addr ++ wordsBytes [w]) (fun a =>
        if a.power.inReset then (if a.flag .STAIR_STAT_CHAIN_END then replyErr 1 f a else a)
        else endReply 8 f [] (spaceWrite .stair (stairAccess addr) w a)) s
    else if addressed f s then consume f false (fun a => reply 8 f [] (spaceWrite .stair (stairAccess addr) w a)) s
    else notHere 3 f (addrBytes addr ++ wordsBytes [w]) s)

/-- The reset that a RESET frame asks for: SCOPE 0 the device, SCOPE 1 the host side. -/
def resetScope (scope : Nat) (s : State) : State := if scope = 0 then deviceReset 2 s else if scope = 1 then hostResetGo s else s

/-- STAIR_RESET (R392 to R394): answered before the reset asserts. -/
def execStairReset (f : StairFrame) (scope confirm : Nat) (s : State) : Host.Outcome State Fault Refusal :=
  .next (if f.step = 0 then
      broadcast 4 f [scope % 256, confirm % 256] (fun a =>
        if confirm % 256 = 0x42 then resetScope (scope % 256) (endReply 8 f [] a) else endReply 0xA f [6] a) s
    else if addressed f s then
      consume f true (fun a => if confirm % 256 = 0x42 then resetScope (scope % 256) (reply 8 f [] a) else replyErr 6 f a) s
    else notHere 4 f [scope % 256, confirm % 256] s)

/-- STAIR_BAD_TYPE (R390). A broadcast of another TYPE is answered by the chain end only. -/
def execStairBadType (f : StairFrame) (ty : Nat) (payload : List Nat) (s : State) : Host.Outcome State Fault Refusal :=
  .next (if f.step = 0 then broadcast ty f payload (endReply 0xA f [5]) s
    else if addressed f s then consume f false (replyErr 5 f) s
    else notHere ty f payload s)

/-- STAIR_UPSTREAM_FRAME (R392). -/
def execStairUpstreamFrame (bytes : List Nat) (s : State) : Host.Outcome State Fault Refusal := .next (emit (.stairUp bytes) s)

/-- CHAIN_END_DETECT (R389). -/
def execChainEndDetect (s : State) : Host.Outcome State Fault Refusal :=
  .next ((s.set .STAIR_STAT_CHAIN_END 1).set .STAIR_STAT_LOCK_DOWN 0)

/-- STAIR_LOCK_LOSS (R425): the chain's master ID is reset. -/
def execStairLockLoss (s : State) : Host.Outcome State Fault Refusal := .next (masterReset 4 (s.set .STAIR_STAT_LOCK_UP 0))

/-- STAIR_COMMA_LOCK (R389). -/
def execStairCommaLock (down : Bool) (s : State) : Host.Outcome State Fault Refusal :=
  .next (if down then (s.set .STAIR_STAT_LOCK_DOWN 1).set .STAIR_STAT_CHAIN_END 0 else s.set .STAIR_STAT_LOCK_UP 1)

end Sys2Proof.Machine
end

