-- ==== Sys2Proof/Machine/Dispatch.lean ====
section
/-! DEFINITION. One arm per command: the direct call of its meaning. -/
namespace Sys2Proof.Machine

/-- The effect of a command on everything but the queue. -/
def exec (i : Instr) (s : State) : Host.Outcome State Fault Refusal :=
  match i with
  | .queuePtrMismatch q => Sys2Proof.Machine.execQueuePtrMismatch q s
  | .cycleMeterWindowEnd periods => Sys2Proof.Machine.execCycleMeterWindowEnd periods s
  | .vpolInterval => Sys2Proof.Machine.execVpolInterval s
  | .policyStaleTimeout => Sys2Proof.Machine.execPolicyStaleTimeout s
  | .heartbeat m => Sys2Proof.Machine.execHeartbeat m s
  | .opPointWrite m op => Sys2Proof.Machine.execOpPointWrite m op s
  | .regulatorSeedReached => Sys2Proof.Machine.execRegulatorSeedReached s
  | .avsWriteRetry acked => Sys2Proof.Machine.execAvsWriteRetry acked s
  | .fplanOpen m kind => Sys2Proof.Machine.execFplanOpen m kind s
  | .fplanDataWrite m w => Sys2Proof.Machine.execFplanDataWrite m w s
  | .fplanCommit m => Sys2Proof.Machine.execFplanCommit m s
  | .fplanAbort m => Sys2Proof.Machine.execFplanAbort m s
  | .fplanSessionTimeout => Sys2Proof.Machine.execFplanSessionTimeout s
  | .planVerifyDone => Sys2Proof.Machine.execPlanVerifyDone s
  | .fullPlanApplyDone => Sys2Proof.Machine.execFullPlanApplyDone s
  | .planActivate => Sys2Proof.Machine.execPlanActivate s
  | .scheduleRequest m => Sys2Proof.Machine.execScheduleRequest m s
  | .forceMarkedWrite m v => Sys2Proof.Machine.execForceMarkedWrite m v s
  | .headerParityFail at_ => Sys2Proof.Machine.execHeaderParityFail at_ s
  | .leadArrival c => Sys2Proof.Machine.execLeadArrival c s
  | .payloadArrival c => Sys2Proof.Machine.execPayloadArrival c s
  | .cellHallEntry input c => Sys2Proof.Machine.execCellHallEntry input c s
  | .arbitrationAttempt out => Sys2Proof.Machine.execArbitrationAttempt out s
  | .detourEnd q => Sys2Proof.Machine.execDetourEnd q s
  | .lifetimeDiscard input => Sys2Proof.Machine.execLifetimeDiscard input s
  | .pinHoldExpiry input => Sys2Proof.Machine.execPinHoldExpiry input s
  | .tileHoldExpiry p src seq tile => Sys2Proof.Machine.execTileHoldExpiry p src seq tile s
  | .linkFrameTransmit p => Sys2Proof.Machine.execLinkFrameTransmit p s
  | .linkFrameReceive p f => Sys2Proof.Machine.execLinkFrameReceive p f s
  | .paramFrameReceive p f blk => Sys2Proof.Machine.execParamFrameReceive p f blk s
  | .replayTimerExpiry p => Sys2Proof.Machine.execReplayTimerExpiry p s
  | .retrainTimeout p => Sys2Proof.Machine.execRetrainTimeout p s
  | .pauseAckTimeout p => Sys2Proof.Machine.execPauseAckTimeout p s
  | .retrainDrained p => Sys2Proof.Machine.execRetrainDrained p s
  | .portSettingWrite m p fec oneLane rate => Sys2Proof.Machine.execPortSettingWrite m p fec oneLane rate s
  | .portCtrlRetrain m p => Sys2Proof.Machine.execPortCtrlRetrain m p s
  | .portCtrlBringUp m p => Sys2Proof.Machine.execPortCtrlBringUp m p s
  | .adminDownSet m p => Sys2Proof.Machine.execAdminDownSet m p s
  | .adminDownClear m p => Sys2Proof.Machine.execAdminDownClear m p s
  | .adminDrainEnd p => Sys2Proof.Machine.execAdminDrainEnd p s
  | .goingDownEnd p => Sys2Proof.Machine.execGoingDownEnd p s
  | .autoUpTimer p => Sys2Proof.Machine.execAutoUpTimer p s
  | .landingEmpty p => Sys2Proof.Machine.execLandingEmpty p s
  | .paramTimeout p => Sys2Proof.Machine.execParamTimeout p s
  | .violationWindowEnd p => Sys2Proof.Machine.execViolationWindowEnd p s
  | .alignmentMarkerSend p bip0 bip1 => Sys2Proof.Machine.execAlignmentMarkerSend p bip0 bip1 s
  | .alignmentMarkerReceive p lane mk => Sys2Proof.Machine.execAlignmentMarkerReceive p lane mk s
  | .fomBlockEnd p k b => Sys2Proof.Machine.execFomBlockEnd p k b s
  | .fomFailWindowExpiry p k => Sys2Proof.Machine.execFomFailWindowExpiry p k s
  | .cdrLockLoss p k => Sys2Proof.Machine.execCdrLockLoss p k s
  | .signalLoss p k => Sys2Proof.Machine.execSignalLoss p k s
  | .laneSignalDetect p k => Sys2Proof.Machine.execLaneSignalDetect p k s
  | .laneFomPass p k => Sys2Proof.Machine.execLaneFomPass p k s
  | .trainingFrameReceive p k t => Sys2Proof.Machine.execTrainingFrameReceive p k t s
  | .rateStepSwitch p => Sys2Proof.Machine.execRateStepSwitch p s
  | .stepWindowExpiry p => Sys2Proof.Machine.execStepWindowExpiry p s
  | .bringupAttemptTimeout p => Sys2Proof.Machine.execBringupAttemptTimeout p s
  | .retrainAttemptTimeout p => Sys2Proof.Machine.execRetrainAttemptTimeout p s
  | .hostLinkDown h => Sys2Proof.Machine.execHostLinkDown h s
  | .hostLinkUp h width speed atomicOp => Sys2Proof.Machine.execHostLinkUp h width speed atomicOp s
  | .roomActivate m r => Sys2Proof.Machine.execRoomActivate m r s
  | .roomDeactivate m r => Sys2Proof.Machine.execRoomDeactivate m r s
  | .roomReset m r => Sys2Proof.Machine.execRoomReset m r s
  | .roomResetComplete r => Sys2Proof.Machine.execRoomResetComplete r s
  | .roomFetch r by_ => Sys2Proof.Machine.execRoomFetch r by_ s
  | .roomEvict m r => Sys2Proof.Machine.execRoomEvict m r s
  | .roomCmdInvalid m r cmd => Sys2Proof.Machine.execRoomCmdInvalid m r cmd s
  | .contextFetchDone r res => Sys2Proof.Machine.execContextFetchDone r res s
  | .roomCtxWrite m w => Sys2Proof.Machine.execRoomCtxWrite m w s
  | .roomCtxRead m res => Sys2Proof.Machine.execRoomCtxRead m res s
  | .knock h r k => Sys2Proof.Machine.execKnock h r k s
  | .workFetchStart r => Sys2Proof.Machine.execWorkFetchStart r s
  | .workFetchDone r entries => Sys2Proof.Machine.execWorkFetchDone r entries s
  | .rescanTimer r => Sys2Proof.Machine.execRescanTimer r s
  | .cmplHeadWrite h r v => Sys2Proof.Machine.execCmplHeadWrite h r v s
  | .armWrite h r v => Sys2Proof.Machine.execArmWrite h r v s
  | .lbGrantRead h r => Sys2Proof.Machine.execLbGrantRead h r s
  | .lbRelease h r v => Sys2Proof.Machine.execLbRelease h r v s
  | .letterboxWord h r w is32 => Sys2Proof.Machine.execLetterboxWord h r w is32 s
  | .lbEndWord h r w is32 => Sys2Proof.Machine.execLbEndWord h r w is32 s
  | .lbPacketEnqueue r => Sys2Proof.Machine.execLbPacketEnqueue r s
  | .pickupRead h r is32 => Sys2Proof.Machine.execPickupRead h r is32 s
  | .pickupSkip h r => Sys2Proof.Machine.execPickupSkip h r s
  | .roomQueueMismatch r pickup => Sys2Proof.Machine.execRoomQueueMismatch r pickup s
  | .porchDelivery => Sys2Proof.Machine.execPorchDelivery s
  | .matchArrival r => Sys2Proof.Machine.execMatchArrival r s
  | .matchPost r => Sys2Proof.Machine.execMatchPost r s
  | .spillReadDone r => Sys2Proof.Machine.execSpillReadDone r s
  | .refill part side => Sys2Proof.Machine.execRefill part side s
  | .recvCancel r => Sys2Proof.Machine.execRecvCancel r s
  | .storeReadbackDone src seq badTiles => Sys2Proof.Machine.execStoreReadbackDone src seq badTiles s
  | .rendezvousGetIssue => Sys2Proof.Machine.execRendezvousGetIssue s
  | .discardingEntryExpiry src msg => Sys2Proof.Machine.execDiscardingEntryExpiry src msg s
  | .parkBudgetExpiry src seq => Sys2Proof.Machine.execParkBudgetExpiry src seq s
  | .orphanTimeout src seq => Sys2Proof.Machine.execOrphanTimeout src seq s
  | .injectionTranslate => Sys2Proof.Machine.execInjectionTranslate s
  | .segmentAdmit q => Sys2Proof.Machine.execSegmentAdmit q s
  | .waitlistRetest peer => Sys2Proof.Machine.execWaitlistRetest peer s
  | .paceRelease peer => Sys2Proof.Machine.execPaceRelease peer s
  | .hostReadDone tag res => Sys2Proof.Machine.execHostReadDone tag res s
  | .ackArrival c => Sys2Proof.Machine.execAckArrival c s
  | .syncReqArrival c => Sys2Proof.Machine.execSyncReqArrival c s
  | .syncRespArrival c => Sys2Proof.Machine.execSyncRespArrival c s
  | .confArrival c => Sys2Proof.Machine.execConfArrival c s
  | .ackCoalTimer peer => Sys2Proof.Machine.execAckCoalTimer peer s
  | .retransmitTimeout peer seq => Sys2Proof.Machine.execRetransmitTimeout peer seq s
  | .opTimeout peer seq => Sys2Proof.Machine.execOpTimeout peer seq s
  | .nackNotReadyArrival c => Sys2Proof.Machine.execNackNotReadyArrival c s
  | .nackFinalArrival c => Sys2Proof.Machine.execNackFinalArrival c s
  | .nackFlowResetArrival c => Sys2Proof.Machine.execNackFlowResetArrival c s
  | .notReadyResend peer seq => Sys2Proof.Machine.execNotReadyResend peer seq s
  | .responseTimerExpiry op => Sys2Proof.Machine.execResponseTimerExpiry op s
  | .atomicCacheRelease src msg => Sys2Proof.Machine.execAtomicCacheRelease src msg s
  | .trackerTimeout src msg => Sys2Proof.Machine.execTrackerTimeout src msg s
  | .syncReqRetry peer => Sys2Proof.Machine.execSyncReqRetry peer s
  | .syncTimeout peer => Sys2Proof.Machine.execSyncTimeout peer s
  | .epochAdvanceDeferred peer => Sys2Proof.Machine.execEpochAdvanceDeferred peer s
  | .flowCmdReset m => Sys2Proof.Machine.execFlowCmdReset m s
  | .keyCmdWrite m => Sys2Proof.Machine.execKeyCmdWrite m s
  | .keyCmdRead m => Sys2Proof.Machine.execKeyCmdRead m s
  | .keyCmdInvalidate m => Sys2Proof.Machine.execKeyCmdInvalidate m s
  | .keyCmdComplete => Sys2Proof.Machine.execKeyCmdComplete s
  | .missPop m hk => Sys2Proof.Machine.execMissPop m hk s
  | .missDoneWalkFault m h id => Sys2Proof.Machine.execMissDoneWalkFault m h id s
  | .missDoneWalkDevice m h id => Sys2Proof.Machine.execMissDoneWalkDevice m h id s
  | .missDoneNotPresent m h id => Sys2Proof.Machine.execMissDoneNotPresent m h id s
  | .missDoneRetry m h id => Sys2Proof.Machine.execMissDoneRetry m h id s
  | .walkReq m hk h addr => Sys2Proof.Machine.execWalkReq m hk h addr s
  | .walkReadDone hk res => Sys2Proof.Machine.execWalkReadDone hk res s
  | .atbInstall m h hasMiss miss => Sys2Proof.Machine.execAtbInstall m h hasMiss miss s
  | .atbInvalidate m h => Sys2Proof.Machine.execAtbInvalidate m h s
  | .atbRead m h index => Sys2Proof.Machine.execAtbRead m h index s
  | .invRange m h => Sys2Proof.Machine.execInvRange m h s
  | .invContext m h => Sys2Proof.Machine.execInvContext m h s
  | .invPortAll m h => Sys2Proof.Machine.execInvPortAll m h s
  | .pageDone m h => Sys2Proof.Machine.execPageDone m h s
  | .invRequestComplete h => Sys2Proof.Machine.execInvRequestComplete h s
  | .rankCmdWrite m => Sys2Proof.Machine.execRankCmdWrite m s
  | .rankCmdRead m => Sys2Proof.Machine.execRankCmdRead m s
  | .rankCmdFlushJob m => Sys2Proof.Machine.execRankCmdFlushJob m s
  | .collAdmit => Sys2Proof.Machine.execCollAdmit s
  | .treeHeadArrival port c => Sys2Proof.Machine.execTreeHeadArrival port c s
  | .treeDataArrival port c => Sys2Proof.Machine.execTreeDataArrival port c s
  | .treeGrantArrival port c => Sys2Proof.Machine.execTreeGrantArrival port c s
  | .treeAbortArrival port c => Sys2Proof.Machine.execTreeAbortArrival port c s
  | .treeContextTake t => Sys2Proof.Machine.execTreeContextTake t s
  | .treeStallTimeout t => Sys2Proof.Machine.execTreeStallTimeout t s
  | .rakeAbortCmd m t => Sys2Proof.Machine.execRakeAbortCmd m t s
  | .rakeResyncCmd m t => Sys2Proof.Machine.execRakeResyncCmd m t s
  | .collResultWrite t => Sys2Proof.Machine.execCollResultWrite t s
  | .timeCellSend p => Sys2Proof.Machine.execTimeCellSend p s
  | .timeCellArrival p c => Sys2Proof.Machine.execTimeCellArrival p c s
  | .timeHoldoverTimeout => Sys2Proof.Machine.execTimeHoldoverTimeout s
  | .timeSet m ns frac => Sys2Proof.Machine.execTimeSet m ns frac s
  | .gateEntryChange p => Sys2Proof.Machine.execGateEntryChange p s
  | .budgetRefill => Sys2Proof.Machine.execBudgetRefill s
  | .shaperRefill q => Sys2Proof.Machine.execShaperRefill q s
  | .ticketBudgetRefill => Sys2Proof.Machine.execTicketBudgetRefill s
  | .ticketRequestArrival c => Sys2Proof.Machine.execTicketRequestArrival c s
  | .ticketGrantArrival c => Sys2Proof.Machine.execTicketGrantArrival c s
  | .ticketGrantIssue => Sys2Proof.Machine.execTicketGrantIssue s
  | .ticketRequestRetry peer => Sys2Proof.Machine.execTicketRequestRetry peer s
  | .ticketExpiry peer => Sys2Proof.Machine.execTicketExpiry peer s
  | .rateIncreaseTick peer => Sys2Proof.Machine.execRateIncreaseTick peer s
  | .histSample => Sys2Proof.Machine.execHistSample s
  | .histClear m => Sys2Proof.Machine.execHistClear m s
  | .quietTimerExpiry b => Sys2Proof.Machine.execQuietTimerExpiry b s
  | .faultAckWrite m b mask => Sys2Proof.Machine.execFaultAckWrite m b mask s
  | .faultInject m b cls => Sys2Proof.Machine.execFaultInject m b cls s
  | .cfgParityMismatch site => Sys2Proof.Machine.execCfgParityMismatch site s
  | .faultRegParityMismatch b => Sys2Proof.Machine.execFaultRegParityMismatch b s
  | .hostReset m => Sys2Proof.Machine.execHostReset m s
  | .hostResetComplete => Sys2Proof.Machine.execHostResetComplete s
  | .l4ResetTimer => Sys2Proof.Machine.execL4ResetTimer s
  | .l4HoldWrite m v => Sys2Proof.Machine.execL4HoldWrite m v s
  | .suspectJitterExpiry e => Sys2Proof.Machine.execSuspectJitterExpiry e s
  | .suspectHoldExpiry e => Sys2Proof.Machine.execSuspectHoldExpiry e s
  | .fenceDataWrite m w => Sys2Proof.Machine.execFenceDataWrite m w s
  | .fenceSet m node => Sys2Proof.Machine.execFenceSet m node s
  | .fenceLift m node => Sys2Proof.Machine.execFenceLift m node s
  | .fenceLiftAll m => Sys2Proof.Machine.execFenceLiftAll m s
  | .ddrEccError correctable => Sys2Proof.Machine.execDdrEccError correctable s
  | .ddrLinkFail => Sys2Proof.Machine.execDdrLinkFail s
  | .sramEccError at_ correctable => Sys2Proof.Machine.execSramEccError at_ correctable s
  | .powerOnReset => Sys2Proof.Machine.execPowerOnReset s
  | .supplyFault => Sys2Proof.Machine.execSupplyFault s
  | .resetRelease => Sys2Proof.Machine.execResetRelease s
  | .perstPrimary => Sys2Proof.Machine.execPerstPrimary s
  | .perstSecondary h => Sys2Proof.Machine.execPerstSecondary h s
  | .deviceResetWrite m confirm => Sys2Proof.Machine.execDeviceResetWrite m confirm s
  | .blockResetCrystal m => Sys2Proof.Machine.execBlockResetCrystal m s
  | .blockResetRake m => Sys2Proof.Machine.execBlockResetRake m s
  | .blockResetCount m => Sys2Proof.Machine.execBlockResetCount m s
  | .resetCauseClear m mask => Sys2Proof.Machine.execResetCauseClear m mask s
  | .watchdogExpiry => Sys2Proof.Machine.execWatchdogExpiry s
  | .watchdogKick m => Sys2Proof.Machine.execWatchdogKick m s
  | .thermalWarning sensor temp => Sys2Proof.Machine.execThermalWarning sensor temp s
  | .thermalTrip sensor temp => Sys2Proof.Machine.execThermalTrip sensor temp s
  | .thermalTripRelease => Sys2Proof.Machine.execThermalTripRelease s
  | .domainTargetWrite m hi w => Sys2Proof.Machine.execDomainTargetWrite m hi w s
  | .domainTransitionDone d => Sys2Proof.Machine.execDomainTransitionDone d s
  | .atticRead m => Sys2Proof.Machine.execAtticRead m s
  | .atticWrite m verified => Sys2Proof.Machine.execAtticWrite m verified s
  | .optCommit m => Sys2Proof.Machine.execOptCommit m s
  | .stairEnum f => Sys2Proof.Machine.execStairEnum f s
  | .stairRead f addr => Sys2Proof.Machine.execStairRead f addr s
  | .stairWrite f addr w => Sys2Proof.Machine.execStairWrite f addr w s
  | .stairReset f scope confirm => Sys2Proof.Machine.execStairReset f scope confirm s
  | .stairBadType f ty payload => Sys2Proof.Machine.execStairBadType f ty payload s
  | .stairUpstreamFrame bytes => Sys2Proof.Machine.execStairUpstreamFrame bytes s
  | .chainEndDetect => Sys2Proof.Machine.execChainEndDetect s
  | .stairLockLoss => Sys2Proof.Machine.execStairLockLoss s
  | .bistShutdown m => Sys2Proof.Machine.execBistShutdown m s
  | .bistStart m => Sys2Proof.Machine.execBistStart m s
  | .bistGroupDone g pass => Sys2Proof.Machine.execBistGroupDone g pass s
  | .bistOverride m => Sys2Proof.Machine.execBistOverride m s
  | .bootDecision => Sys2Proof.Machine.execBootDecision s
  | .registerWrite m a data => Sys2Proof.Machine.execRegisterWrite m a data s
  | .rcRegisterRead m a => Sys2Proof.Machine.execRcRegisterRead m a s
  | .intPendRead m hi => Sys2Proof.Machine.execIntPendRead m hi s
  | .wideSelWrite m kind block index => Sys2Proof.Machine.execWideSelWrite m kind block index s
  | .mgmtReadArrival c => Sys2Proof.Machine.execMgmtReadArrival c s
  | .mgmtWriteArrival c => Sys2Proof.Machine.execMgmtWriteArrival c s
  | .latchTake m k => Sys2Proof.Machine.execLatchTake m k s
  | .latchWait m k => Sys2Proof.Machine.execLatchWait m k s
  | .latchWaitTimeout k => Sys2Proof.Machine.execLatchWaitTimeout k s
  | .latchRelease m k => Sys2Proof.Machine.execLatchRelease m k s
  | .latchForce m k => Sys2Proof.Machine.execLatchForce m k s
  | .dumpPeriod => Sys2Proof.Machine.execDumpPeriod s
  | .dumpRecordDone => Sys2Proof.Machine.execDumpRecordDone s
  | .snapArm m => Sys2Proof.Machine.execSnapArm m s
  | .snapDisarm m => Sys2Proof.Machine.execSnapDisarm m s
  | .snapshotFire => Sys2Proof.Machine.execSnapshotFire s
  | .snapRecordWrite => Sys2Proof.Machine.execSnapRecordWrite s
  | .trainingStepBoundExpiry p => Sys2Proof.Machine.execTrainingStepBoundExpiry p s
  | .cellarReadDone failed => Sys2Proof.Machine.execCellarReadDone failed s
  | .stairCommaLock down => Sys2Proof.Machine.execStairCommaLock down s

end Sys2Proof.Machine
end

