-- ==== Sys2Proof/Machine/Walk.lean ====
section
/-! DEFINITION. Hearth's miss handler (R285): what a Housekeeper that walks a miss does next of its own accord. The commands of the
table perform the same accesses one by one; with no command waiting, Hearth performs the next one itself (DESIGN CHOICE, log 90). -/
namespace Sys2Proof.Machine

/-- The entry that a walk's leaf makes goes to ATB_DATA and is installed, naming the miss (R285, R288). -/
def installWalk (w : MissWalk) (size : Nat) (write : Bool) (bpage : Nat) (s : State) : State :=
  let s1 := ((s.set .ATB_DATA0_SIZE size).set .ATB_DATA0_WRITE (b2n write)).set .ATB_DATA0_VPAGE w.page
  let s2 := (s1.set .ATB_DATA1_BPAGE bpage).set .ATB_DATA2_CTX w.ctx
  installCmd w.h (some w.id) (((noteAtbCmd 1 w.h s2).set .ATB_CMD_HAS_MISS 1).set .ATB_CMD_MISS_ID w.id)

/-- What a walk that has come to its end does: MISS_DONE with the status, the page request first for a page that is not present, or
the install (R285 to R287). -/
def finishWalk (w : MissWalk) (v : WalkNext) (s : State) : State :=
  match v with
  | .page size write bpage => installWalk w size write bpage s
  | .device => failMiss true w.h w.id (noteMissDone w.h w.id 2 s)
  | .absent => notPresent w.h w.id (noteMissDone w.h w.id 3 s)
  | .fault | .table _ => failMiss false w.h w.id (noteMissDone w.h w.id 1 s)

/-- A walk that waits for no read, and is its Housekeeper's oldest. -/
def walkDue (s : State) : Option MissWalk := s.thresh.walking.find? (fun w => !w.asked && s.walkOf w.hk == some w)

/-- Hearth's next access, if a walk has one due. -/
def hearthTurn (s : State) : State :=
  match walkDue s with
  | none => s
  | some w =>
    match w.ending with
    | some v => finishWalk w v s
    | none => walkRead w.hk w.h (walkAddr s w) s

/-- Reads of WALK_DATA that have stalled for 50 µs return; what they return is not stated (R286, R407; a free value, log 90). -/
def endStalls (s : State) : State :=
  let due := fun (x : WalkStall) => decide (x.till ≤ s.now)
  if s.thresh.walkStall.any due then
    let (v, s1) := draw s
    answerWalk due (wd v) s1
  else s

/-- What a step does with no command waiting: time passes, stalled reads reach their limit, and Hearth does its next access. -/
def idle (s : State) : State := hearthTurn (endStalls (tick s))

end Sys2Proof.Machine
end

