-- ==== Sys2Proof/Safety.lean ====
section
/-! DEFINITION. What the statements speak of: a command that completes with an effect, the parts of the state and the
register fields an effect leaves alone, the register store's invariant, and a safe run. -/
namespace Sys2Proof.Machine

/-- The parts of the state beside the register fields. The queue of waiting commands and the model's own counter of free
values are not among them. -/
inductive Part
  | clk | plan | session | hall | ports | line | porch | thresh | crystal | rake | sluice | fault | power | stair | latch | count
  | mgmt | out
deriving DecidableEq, Repr

/-- A part holds the same in two states. -/
def Part.same (s t : State) : Part → Prop
  | .clk => t.clk = s.clk
  | .plan => t.plan = s.plan
  | .session => t.session = s.session
  | .hall => t.hall = s.hall
  | .ports => t.ports = s.ports
  | .line => t.line = s.line
  | .porch => t.porch = s.porch
  | .thresh => t.thresh = s.thresh
  | .crystal => t.crystal = s.crystal
  | .rake => t.rake = s.rake
  | .sluice => t.sluice = s.sluice
  | .fault => t.fault = s.fault
  | .power => t.power = s.power
  | .stair => t.stair = s.stair
  | .latch => t.latch = s.latch
  | .count => t.count = s.count
  | .mgmt => t.mgmt = s.mgmt
  | .out => t.out = s.out

/-- Every part outside the list is unchanged. -/
def Keeps (changed : List Part) (s t : State) : Prop := ∀ p, p ∉ changed → p.same s t

/-- Every register field outside the list reads as before, in every instance. -/
def OnlyRegs (changed : List Fld) (s t : State) : Prop := ∀ f, f ∉ changed → ∀ i, t.get f i = s.get f i

/-- The command takes effect: it answers a next state of which `Q` holds; the queue, every part outside `parts` and every register
field outside `regs` are unchanged. -/
def Does (c : Instr) (s : State) (parts : List Part) (regs : List Fld) (Q : State → Prop) : Prop :=
  ∃ t, exec c s = .next t ∧ t.pending = s.pending ∧ Keeps parts s t ∧ OnlyRegs regs s t ∧ Q t

/-- The command answers a next state that is the state it found. -/
def Nothing (c : Instr) (s : State) : Prop := exec c s = .next s

/-- The master's accesses reach the device, and it may write the field (Tables 15.2 and 16.2, R402). -/
abbrev May (s : State) (m : Master) (f : Fld) : Prop := reaches s m = true ∧ mayWrite (privOf m) f = true

/-- The master's accesses reach the device, and it may read the field. -/
abbrev MaySee (s : State) (m : Master) (f : Fld) : Prop := reaches s m = true ∧ mayRead (privOf m) f = true

/-- The master's accesses reach the device, and it may not write the field. -/
abbrev MayNot (s : State) (m : Master) (f : Fld) : Prop := reaches s m = true ∧ mayWrite (privOf m) f = false

/-- An access that is not the several aligned words of a host's request (R405). -/
abbrev OneAccess (m : Master) (a : Access) : Prop := ∀ h, m = .host h → a.bytes ≤ 8 ∨ a.bytes % 8 ≠ 0 ∨ a.addr % 8 ≠ 0

/-- Due: the instant has come. -/
abbrev Due (s : State) (t : Nat) : Prop := t ≤ s.now

/-- The fields an interrupt writes: the masters' copies of the pending bits (R414). -/
def intRegs : List Fld := [.INT_PEND_LO_PEND, .INT_PEND_HI_PEND]

/-- The fields a counted event writes: the wrap marks of a counter and the interrupt that tells of them (R427 to R430, R438). -/
def countRegs : List Fld := [.BANK_VAL_WRAP40, .WRAP_WRAPPED, .COUNT_EVENTS_WRAP_SEEN] ++ intRegs

/-- The fields a refused access writes (R403). -/
def refuseRegs : List Fld :=
  [.ACCESS_LOG_ADDR, .ACCESS_LOG_MASTER, .ACCESS_LOG_CAUSE, .ACCESS_LOG_WRITE, .GLOBAL_EVENTS_PRIV_REFUSED] ++ countRegs

/-- The parts a detected fault may change (R346 to R361): fault state and history, ports that drain, rooms that stop, flows
that fall back to Marked service, notices that leave, counters. -/
def faultParts : List Part := [.fault, .ports, .porch, .thresh, .hall, .count, .out]

/-- The fields a detected fault may write. -/
def faultRegs : List Fld :=
  [.FAULT_UNACK_UNACK, .FAULT_STAT_LEVEL, .FAULT_STAT_LAST_CLASS, .FAULT_STAT_FIRST_CLASS, .FAULT_STAT_STICKY,
   .FAULT_EVENTS_LEVEL_RAISED, .FAULT_EVENTS_ESCALATED, .FAULT_EVENTS_NOTICE_SUPPRESSED, .SLUICE_MODE_SERVICE,
   .SLUICE_MODE_FALLBACK_CAUSE, .SLUICE_MODE_FALLBACK_PORT, .SLUICE_EVENTS_FALLBACK, .PORCH_EVENTS_ROOM_ERROR, .PORT_STAT_STATE,
   .PORT_STAT_DOWN_CAUSE, .PORT_EVENTS_DOWN_SEEN, .LANE_STAT_STATE, .LANE_STAT_TX_CARRY, .LANE_STAT_RX_CARRY, .DEV_FAULT_LEVEL, .DEV_FAULT_CAUSE_BLOCK, .DEV_FAULT_CAUSE_CLASS,
   .DEV_FAULT_L4_RESET_PENDING] ++ countRegs

/-- What the trees may change when a port leaves or joins their service (R312): parts and fields. -/
def treeParts : List Part := [.rake, .hall, .count, .out, .porch]
def treeRegs : List Fld :=
  [.RAKE_EVENTS_ABORT_SEEN, .RAKE_EVENTS_FENCED_SEEN, .RAKE_EVENTS_MISMATCH_SEEN, .RAKE_STAT_CTX_FREE, .RAKE_STAT_CTX_TOTAL,
   .RAKE_STAT_WINDOW_LOG2, .TREE_ENTRY_ABORTED_SEQ, .TREE_ENTRY_ABORTED_VALID, .TREE_ENTRY_NEXT_SEQ, .TREE_ENTRY_STATE,
   .TREE_ENTRY_WINDOW_LOG2] ++ countRegs

/-- The fields that name the time parent (R320). -/
def timeRegs : List Fld := [.TIME_STAT_PARENT_PORT, .TIME_STAT_HOPS]

/-- What a fault may change that may bring the device to L4, where the ports leave service (R357). -/
def blockFaultParts : List Part := .rake :: faultParts
def blockFaultRegs : List Fld := faultRegs ++ treeRegs ++ timeRegs

/-- What a port that goes down may change (R145, R146): itself, the trees and the time tree, the flows' service, the Hall's waiting
cells, the suspect table, and what a fault changes. -/
def portParts : List Part := [.rake, .sluice] ++ faultParts
def portRegs : List Fld :=
  [.PORT_SEQ_TX_NEXT, .PORT_SEQ_TX_OLDEST, .PORT_SEQ_RX_EXPECTED, .PORT_STAT_REPLAY_COUNT,
   .HALL_EVENTS_LIFETIME_SEEN, .SUSPECT_EVENTS_SENT, .SUSPECT_EVENTS_DROPPED] ++ blockFaultRegs

/-- What a retrain's start may change (R147). -/
def retrainParts : List Part := [.ports, .fault, .thresh] ++ treeParts
def retrainRegs : List Fld :=
  [.PORT_STAT_STATE, .PORT_STAT_RETRAIN_CAUSE, .PORT_EVENTS_RETRAIN_SEEN, .SLUICE_MODE_SERVICE, .SLUICE_MODE_FALLBACK_CAUSE,
   .SLUICE_MODE_FALLBACK_PORT, .SLUICE_EVENTS_FALLBACK] ++ treeRegs ++ timeRegs

/-- What the end of a master's session, Latches and stalled reads may change (R43, R286, R425). -/
def masterParts : List Part := [.session, .latch, .mgmt, .stair, .thresh, .hall, .count, .out, .porch]
def masterRegs : List Fld :=
  [.FPLAN_STAT_STATE, .FPLAN_STAT_REJECT, .FPLAN_STAT_BAD_TYPE, .FPLAN_STAT_BAD_WORD, .FPLAN_EVENTS_REJECTED,
   .LATCH_EVENTS_ABANDONED_SEEN] ++ countRegs

/-- What a fault of any block may change, with the isolation that follows it (Table 14.1). -/
def anyFaultParts : List Part := [.session, .latch, .mgmt, .stair] ++ portParts
def anyFaultRegs : List Fld :=
  [.FPLAN_STAT_STATE, .FPLAN_STAT_REJECT, .FPLAN_STAT_BAD_TYPE, .FPLAN_STAT_BAD_WORD, .FPLAN_EVENTS_REJECTED, .COUNT_STAT_DUMP_BUSY,
   .COUNT_STAT_SNAP_PENDING] ++ portRegs

/-- The state that a device reset of a cause leaves (R378, R379): every register field outside the VAUX logic reads its reset value
(THERM_STAT reads the sensors), RESET_CAUSE names the cause and keeps the others, and every other part of the machine is as after
reset but for elapsed time, the Attic, the sensors' readings, and what has left the device. -/
def DeviceReset (cause : Nat) (s t : State) : Prop :=
  (∀ f, f ∉ vauxFlds → f ∉ [Fld.THERM_STAT_MAX_C, .THERM_STAT_SENSOR, .THERM_STAT_WARN] → ∀ i, t.get f i = f.resetAt i)
  ∧ (∀ f ∈ vauxFlds, ∀ i, f ≠ causeField cause ∨ i ≠ 0 → t.get f i = s.get f i)
  ∧ t.get (causeField cause) = 1
  ∧ t.clk = { ns := s.clk.ns } ∧ t.plan = {} ∧ t.session = {} ∧ t.hall = {} ∧ t.ports = [] ∧ t.line = [] ∧ t.porch = {} ∧ t.thresh = {}
  ∧ t.crystal = {} ∧ t.rake = {} ∧ t.sluice = {} ∧ t.fault = {} ∧ t.stair = {} ∧ t.latch = [] ∧ t.count = {} ∧ t.mgmt = {}
  ∧ t.power.attic = s.power.attic ∧ t.power.inReset = true ∧ t.power.hkHeld = true ∧ t.power.bistOn = false
  ∧ t.pending = s.pending

/-- The reset value of a place of the register store. -/
def fldReset (k : Nat) : Nat := (Fld.ofNat (k % 1024)).resetAt (k / 1024)

/-- The register store is in its canonical form (keys strictly rising, no entry equal to its reset value), and every value fits
its field. -/
abbrev RegsOk (s : State) : Prop :=
  Tab.wfD s.fld fldReset ∧ ∀ e ∈ s.fld, e.2 < 2 ^ (Fld.ofNat (e.1 % 1024)).info.width

/-- The field of a parity mismatch that a write mends (R358, R409). -/
def mendRegs : List Fld := [.FAULT_STAT_PARITY_STANDING]

/-- A class of fault was detected in a block (R349): it is the block's latest class, it waits for acknowledgement, and the block's
level is the higher of what it was and the class's level, one higher for a repeat that was not acknowledged, up to the ceiling. -/
def Raised (b c : Nat) (s t : State) : Prop :=
  t.get .FAULT_STAT_LAST_CLASS b = c ∧ (t.get .FAULT_UNACK_UNACK b).testBit (c - 1) = true
  ∧ (RegsOk s → t.level b = faultLevel b (classLevel c + b2n (faultEscalates b c s)) s)

/-- A register-space access of BAR0, or of a master that is no host port. -/
abbrev Plain (m : Master) (a : Access) : Prop := ∀ h, m = .host h → a.addr.testBit 28 = false ∧ a.addr.testBit 29 = false

/-- What the application of a Floor Plan may change (R44, R48): every part it configures, and what a fall-back, a port's bring-up and
a domain's switching touch. -/
def planParts : List Part := [.crystal, .plan, .power, .session] ++ portParts
def planRegs : List Fld :=
  [.CELLAR_STAT_SELF_REFRESH, .DETOUR_RD_ENTRY, .DOMAIN_EVENTS_REFUSED, .DOMAIN_REFUSE_CAUSE, .DOMAIN_REFUSE_DOMAIN, .DOMAIN_STAT_HI_BUSY,
   .DOMAIN_TARGET_HI_TARGET, .DOMAIN_TARGET_LO_TARGET, .ESCAPE_RD_ENTRY, .FPLAN_EVENTS_DONE, .FPLAN_SERIAL_PARTIALS, .HALL_STAT_VC_SET,
   .LANE_STAT_FAIL_CAUSE, .NODE_ID_INDEX, .NODE_ID_NODE, .NODE_ID_VALID, .PORT_CFG_FEC, .PORT_CFG_ONE_LANE, .PORT_CFG_RATE_MAX,
   .PORT_MAP_RD_ENTRY, .TREE_CHILD_CHILD_LO, .TREE_ENTRY_CHILD_HI, .TREE_ENTRY_HOST, .TREE_ENTRY_PARENT, .TREE_ENTRY_ROLE,
   .TREE_ENTRY_VALID] ++ anyFaultRegs ++ mendRegs

/-- What a queue that loses its entries may change beside the fault (Table 1.5). -/
def loseParts : List Part := .crystal :: anyFaultParts
def loseRegs : List Fld :=
  [.PORCH_EVENTS_RESIDENCY_FULL, .THRESH_EVENTS_ACK_SPILL_FULL, .THRESH_EVENTS_ATOMIC_FULL, .THRESH_EVENTS_KEY_FAULT_SEEN,
   .THRESH_EVENTS_TRACKER_FULL, .XLATE_EVENTS_MISS_FULL] ++ anyFaultRegs

/-- What the Hall may change as it moves cells (R98 to R118): cells, queues and credits, the trees whose cells are lost, the service. -/
def hallParts : List Part := [.hall, .ports, .sluice, .thresh, .rake, .count, .out, .porch]
def hallRegs : List Fld :=
  [.HALL_DETOUR_LO_DETOUR, .HALL_DETOUR_HI_DETOUR, .HALL_EVENTS_DETOUR_START, .HALL_EVENTS_FENCE_DROP_SEEN, .HALL_EVENTS_LIFETIME_SEEN,
   .HALL_EVENTS_NO_ROUTE_SEEN, .SLUICE_EVENTS_FALLBACK, .SLUICE_MODE_FALLBACK_CAUSE, .SLUICE_MODE_FALLBACK_PORT, .SLUICE_MODE_SERVICE]
  ++ treeRegs

/-- The fields that a bring-up's start writes (R152, R167). -/
def bringUpRegs : List Fld := [.PORT_STAT_STATE, .LANE_STAT_STATE, .LANE_STAT_FAIL_CAUSE]

/-- The fields that a violation writes beside its fault (R153). -/
def violRegs : List Fld :=
  [.PORT_EVENTS_VIOLATION_SEEN, .PORT_VIOL_LAST_CODE, .PORT_VIOL_LAST_SEQ, .PORT_VIOL_LAST_VC, .PORT_VIOL_WINDOW_COUNT] ++ faultRegs

/-- A frame that decodes, without a correction, event, NACK or new acknowledgement. -/
abbrev PlainFrame (s : State) (p : Nat) (f : RxFrame) : Prop :=
  f.uncorrectable = false ∧ f.corrected = false ∧ f.crcOk = true ∧ headerMalformed s p f.hdr = false ∧ f.hdr.nackCode = 0
  ∧ f.hdr.ackNext = s.get .PORT_SEQ_TX_OLDEST p

/-- The fields that a room command writes (R185). -/
def roomCmdRegs : List Fld :=
  [.ROOM_CMD_ROOM, .ROOM_CMD_CMD, .ROOM_CMD_STAT_BUSY, .ROOM_CMD_STAT_RESULT, .ROOM_CMD_STAT_ROOM, .PORCH_EVENTS_CMD_DONE]
  ++ intRegs ++ mendRegs

/-- A room command has ended with a RESULT (R185). -/
def CmdEnded (r result : Nat) (t : State) : Prop :=
  t.flag .ROOM_CMD_STAT_BUSY = false ∧ t.get .ROOM_CMD_STAT_RESULT = result ∧ t.get .ROOM_CMD_STAT_ROOM = r
  ∧ t.flag .PORCH_EVENTS_CMD_DONE = true

/-- The read of a room's context from the Box room has begun (R183). -/
def FetchBegun (r : Nat) (s t : State) : Prop :=
  (t.room r).fetching = true ∧ (t.room r).resident = false
  ∧ t.out.head? = some (.hostRead (s.get .PORCH_CFG_BOX_HPORT) (boxAddr s r) 256 r)

/-- Every room but one is as before. -/
def OtherRooms (r : Nat) (s t : State) : Prop := ∀ x, x ≠ r → t.room x = s.room x

/-- No request waits for a context slot. -/
abbrev NoneWaits (s : State) : Prop := s.porch.waitSlot = []

/-- A host port's access to the page of a room acts: the port's domain is on, the room is bound to it, and ACTIVE (R182, Table 15.2). -/
abbrev PageActs (s : State) (h r : Nat) : Prop := hostReaches s h = true ∧ bound s h r = true ∧ (s.room r).st = 1

/-- No lead is parked. -/
abbrev NoParked (s : State) : Prop := ∀ e ∈ s.thresh.flows, ∀ g ∈ e.2.recv.segs, g.park = none

/-- What a segment's judgement or delivery at the target may change (R91, R212, R222): parts and fields. -/
def targetParts : List Part := .crystal :: faultParts
def targetRegs : List Fld :=
  [.PORCH_EVENTS_RESIDENCY_FULL, .THRESH_EVENTS_ACK_SPILL_FULL, .THRESH_EVENTS_ATOMIC_FULL, .THRESH_EVENTS_KEY_FAULT_SEEN,
   .THRESH_EVENTS_TRACKER_FULL, .XLATE_EVENTS_MISS_FULL] ++ faultRegs

/-- Every flow but one is as before. -/
def OtherFlows (x : Nat) (s t : State) : Prop := ∀ y, y ≠ x → t.flow y = s.flow y

/-- A single cell has been queued at the Threshold's Hall input. -/
def CellQueued (s t : State) (P : Cell → Prop) : Prop :=
  ∃ h, Tab.get t.hall.inj 78 [] = Tab.get s.hall.inj 78 [] ++ [h] ∧ P h.cell

/-- An arriving cell of a flow passes the checks before its window: host-side work runs, its source is not fenced, and its epoch is
the receive side's (R92, R272). -/
abbrev Proceeds (x : Nat) (c : Cell) (s : State) : Prop :=
  s.hostStopped = false ∧ x = s.idxOf c.src ∧ s.fenced x = false ∧ (s.flow x).recv.st = 1 ∧ c.epoch = (s.flow x).recv.epoch

/-- The first check of R91 that a lead fails, by its NACK code; 0 if it fails none before its key. -/
def leadRefusal (s : State) (x : Nat) (l : List Word) (cells : Nat) : Nat :=
  if knownOpcode (leadOp l) = false then 2 else if lengthsHold l cells = false then 4
  else if isAtomic (leadOp l) = true ∧ leadRemote l % 8 ≠ 0 then 3
  else if stillTakes s x l = true then 0
  else if s.jobSlot (leadJob l) = none then 5 else if (s.room (leadDestRoom l)).st ≠ 1 then 6
  else if (s.room (leadDestRoom l)).job ≠ leadJob l then 7 else 0

/-- A work entry of a room has completed (R194 to R198): its slot is released, it is no longer outstanding, and its completion entry was
written at the ring's next place (as one write where the port is in the mode that takes it). -/
def EntryEnds (r : Nat) (c : Cmpl) (s t : State) : Prop :=
  (t.room r).written = ((s.room r).written + 1) % 2 ^ 32 ∧ (t.room r).outstanding = (s.room r).outstanding - 1
  ∧ (t.room r).reserved = (s.room r).reserved - 1 ∧ OtherRooms r s t
  ∧ (s.flag .HPORT_STAT_MODE (s.room r).hport = true → (s.room r).cmplNotify = false →
      t.out.head? = some (.hostWrite (s.room r).hport ((s.room r).cmplBase + 32 * ((s.room r).written % (s.room r).cmplSize))
        (c.words (phaseOf (s.room r).written (s.room r).cmplSize))))

/-- A room's completions are the spec's own: no unpredictable use of the room is recorded (R12), and no request waits for a context slot that
a completion could free (R210). -/
abbrev Certain (r : Nat) (s : State) : Prop := (s.room r).risk = false ∧ NoneWaits s

/-- The entry at the head of the fetch queue is judged next: host-side work runs, nothing is stalled, its operation has not begun, and an
entry for the Crystalliser has a credit of its queue (R18). -/
abbrev Judging (it : WorkItem) (rest : List WorkItem) (s : State) : Prop :=
  s.hostStopped = false ∧ s.porch.stalled = [] ∧ s.porch.fetchQ = it :: rest ∧ it.cont = none ∧ it.lb = none ∧ creditWaits s it = false

/-- The node and room of a rank are in the rank cache, and a route of five links at most leads there (R88, R102). -/
abbrev RankKnown (it : WorkItem) (node dr : Nat) (s : State) : Prop :=
  (∃ slot w, (s.room it.room).job ≠ 0 ∧ s.jobSlot (s.room it.room).job = some slot ∧ weRank it.entry ≤ s.get .JOB_SLOT_LAST_RANK slot
    ∧ rankCached s (s.room it.room).job (weRank it.entry) = some w ∧ w.getLsbD 63 = true ∧ node = bits w.toNat 0 20
    ∧ dr = bits w.toNat 32 16)
  ∧ s.fenced s.ownIdx = false ∧ s.fenced (s.idxOf node) = false ∧ minLength s.plan.dims s.plan.sizes s.own node ≤ 5

/-- An arriving single cell of the return path is used: its type and body CRC are as they must be, host-side work runs, and its
source has the node index (R75, R355). -/
abbrev Used (ty x : Nat) (c : Cell) (s : State) : Prop :=
  c.ty = ty ∧ c.check = bodyCrc c.body ∧ s.hostStopped = false ∧ x = s.idxOf c.src

/-- What a flow's reset may change (R272, R273): parts and fields. -/
def flowParts : List Part := .sluice :: faultParts
def flowRegs : List Fld := [.THRESH_EVENTS_ACK_SPILL_FULL, .THRESH_EVENTS_FLOW_RESET_SEEN] ++ faultRegs

/-- No access waits for a translation. -/
abbrev NoWaiters (s : State) : Prop :=
  s.porch.stalled = [] ∧ NoParked s ∧ s.thresh.respWait = [] ∧ ∀ m ∈ s.crystal.msgs, m.misses = []

/-- The fields of a MISS_DONE and of an ATB_CMD write. -/
def missDoneRegs : List Fld := [.MISS_DONE_ID, .MISS_DONE_HPORT, .MISS_DONE_STATUS] ++ countRegs ++ mendRegs
def atbRegs : List Fld :=
  [.ATB_CMD_CMD, .ATB_CMD_HPORT, .ATB_CMD_STAT_BUSY, .ATB_CMD_STAT_RESULT, .ATB_CMD_STAT_REMOVED] ++ mendRegs

/-- Every tree but one is as before. -/
def OtherTrees (i : Nat) (s t : State) : Prop := ∀ j, j ≠ i → t.tree j = s.tree j

/-- The operation `x` of a tree was aborted (R312): the tree is idle and records the number, the abort shows, and a begun operation uses up
its number and completes the COLL of its host. -/
def Aborted (i : Nat) (x : TreeSt) (s t : State) : Prop :=
  t.tree i = none ∧ OtherTrees i s t ∧ t.flag .TREE_ENTRY_ABORTED_VALID i = true ∧ t.get .TREE_ENTRY_ABORTED_SEQ i = x.opSeq % 256
  ∧ t.get .TREE_ENTRY_STATE i = 0 ∧ t.flag .RAKE_EVENTS_ABORT_SEEN = true
  ∧ (x.begun = true → t.get .TREE_ENTRY_NEXT_SEQ i = (s.get .TREE_ENTRY_NEXT_SEQ i + 1) % 256)
  ∧ (x.begun = true → ∀ d, s.rake.dels.find? (fun e => e.tree == i && e.seq == x.opSeq) = some d → s.hostStopped = false →
      Certain d.room s → (s.room d.room).st = 1 → weSilent d.entry = false →
      (t.room d.room).written = ((s.room d.room).written + 1) % 2 ^ 32 ∧ (t.room d.room).outstanding = (s.room d.room).outstanding - 1
        ∧ t.rake.dels = s.rake.dels.filter (fun e => !(e.tree == i && e.seq == x.opSeq)))

/-- A cell of the Rake's was queued at its Hall input for the ports `ports`. -/
def TreeCellQueued (ports : List Nat) (s t : State) (P : Cell → Prop) : Prop :=
  ∃ h, Tab.get t.hall.inj 77 [] = Tab.get s.hall.inj 77 [] ++ [h] ∧ h.copies = ports ∧ P h.cell

/-- A tree cell from a port is used: the Rake serves, the body CRC holds, and the entry is valid and names the port. -/
abbrev TreeCellUsed (port : Nat) (c : Cell) (s : State) : Prop :=
  (c.ty = tyTreeUp ∨ c.ty = tyTreeDown) ∧ s.rakeOn = true ∧ s.hostStopped = false ∧ c.check = bodyCrc c.body
  ∧ s.flag .TREE_ENTRY_VALID (cellTree c) = true ∧ (port = treeParent s (cellTree c) ∨ port ∈ treeKids s (cellTree c))

/-- The COLL entry at the head of the Rake's queue is judged next: its tree runs nothing. -/
abbrev CollNext (it : WorkItem) (rest : List WorkItem) (s : State) : Prop :=
  s.hostStopped = false ∧ s.rake.colls = it :: rest ∧ s.tree (weTree it.entry) = none ∧ it.lb = none

/-- The gate checks of a COLL (Table 12.1, checks 1 to 4) pass. -/
abbrev CollGatePasses (it : WorkItem) (s : State) : Prop :=
  weCop it.entry ≤ 10 ∧ weCtype it.entry ≤ 6 ∧ s.flag .TREE_ENTRY_VALID (weTree it.entry) = true
  ∧ s.flag .TREE_ENTRY_HOST (weTree it.entry) = true ∧ s.hasVc 1 = true
  ∧ s.get .TREE_JOB_JOB (weTree it.entry) = (s.room it.room).job ∧ s.rakeOn = true

/-- A refused write of a field is shown (R403): the access log holds the master, the address and cause 1, and the event bit is set. -/
def RefusalShown (m : Master) (f : Fld) (i : Nat) (t : State) : Prop :=
  t.get .ACCESS_LOG_CAUSE = 1 ∧ t.get .ACCESS_LOG_MASTER = masterId m ∧ t.flag .ACCESS_LOG_WRITE = true
  ∧ t.get .ACCESS_LOG_ADDR = regAddr f.info.reg i / 8 % 2 ^ Fld.ACCESS_LOG_ADDR.info.width ∧ t.flag .GLOBAL_EVENTS_PRIV_REFUSED = true

/-- A safe run of so many steps: no step stops with a fault or a refusal. -/
def SafeRun (n : Nat) (s : State) : Prop := ∃ t, Host.Core.run Sys2Proof.core n s = .next t

end Sys2Proof.Machine
end

