-- ==== Sys2Proof/Certificates/Slice0/Obligations.lean ====
section
/-! DEFINITION. The statements about the block that are to be proved: each says in its docstring what it formalises. -/
open Sys2Proof Sys2Proof.Machine

/-! ## The queue of commands and the tick -/

/-- One step takes the command at the front of the queue and runs it with the rest of the queue. -/
def Obligations.StepRunsTheFrontCommand : Prop :=
  ∀ (c : Instr) (rest : List Instr) (s : State), s.pending = c :: rest → step s = exec c { s with pending := rest }

/-- With no command waiting one nanosecond passes (the model's choice: log 1): elapsed time advances by 1 ns, network time by 1 ns
and the whole part of the rate correction (R319), and where Hearth walks no miss and no read of WALK_DATA stalls (log 90) nothing else but the
slew's count changes. -/
def Obligations.EmptyQueuePassesOneNanosecond : Prop :=
  (∀ s : State, s.pending = [] → s.thresh.walking = [] → s.thresh.walkStall = [] → ∃ t, step s = .next t ∧ t.now = s.now + 1
    ∧ t.clk.net * 2 ^ 32 + t.clk.acc = (s.clk.net + 65536) * 2 ^ 32 + s.clk.acc + rateNow s
    ∧ 0 ≤ t.clk.acc ∧ t.clk.acc < 2 ^ 32 ∧ t.clk.freq = s.clk.freq ∧ t.clk.slew = s.clk.slew
    ∧ t.clk.slewTicks = s.clk.slewTicks - 1 ∧ Keeps [.clk] s t ∧ OnlyRegs [] s t ∧ t.pending = [])
  ∧ (∀ s : State, s.pending = [] → ∃ t, step s = .next t ∧ t.now = s.now + 1 ∧ t.clk.net * 2 ^ 32 + t.clk.acc
      = (s.clk.net + 65536) * 2 ^ 32 + s.clk.acc + rateNow s ∧ t.pending = [])

/-! ## The register store -/

/-- The register store after reset is in its canonical form and every field reads its reset value; in a canonical store every field reads a value of
its width. -/
def Obligations.ResetStoreIsCanonical : Prop :=
  (RegsOk State.reset ∧ ∀ (f : Fld) (i : Nat), State.reset.get f i = f.resetAt i)
  ∧ (∀ (s : State) (f : Fld) (i : Nat), RegsOk s → s.get f i < 2 ^ f.info.width)

/-- Every step keeps the canonical form of the register store and the width of every field; and every command, in every state, completes: it answers a
next state whose queue is as it was and whose register store is canonical if it was. -/
def Obligations.StepKeepsRegsOk : Prop :=
  (∀ s t : State, RegsOk s → step s = .next t → RegsOk t)
  ∧ (∀ (c : Instr) (s : State), ∃ t, exec c s = .next t ∧ t.pending = s.pending ∧ (RegsOk s → RegsOk t))

/-! ## Cycle meters and the voltage policy (R24 to R31, R444) -/

/-- CYCLE_METER_WINDOW_END shows the readings of the 24 meters and the core period, the largest reading of the meters that take part, with the lowest meter
that gives it, and presents the admission scale of R26; a stale or isolated policy that has run once, with a core period above 1.10 × T, is raised to
VMAX (R29; that it waits for the policy's first run is the model's choice: log 77). The scale is
0x8000 × T ÷ P rounded down when the core period P is above the target T, and 0x8000 otherwise. -/
def Obligations.WindowEndShowsPeriodAndScale : Prop :=
  (∀ (ps : List Nat) (s : State),
    policyHeld s = false →
    Does (.cycleMeterWindowEnd ps) s [.power] [.CYCLE_METER_PERIOD_PS, .VPOL_STAT_CORE_PERIOD_PS, .VPOL_STAT_SLOWEST_METER, .VPOL_STAT_SCALE]
      fun t => (∀ m, m < 24 → t.get .CYCLE_METER_PERIOD_PS m = ps.getD m 0 % 65536)
        ∧ (∀ m, m < 22 → meterCounted s m = true → ps.getD m 0 % 65536 ≤ t.get .VPOL_STAT_CORE_PERIOD_PS)
        ∧ (t.get .VPOL_STAT_CORE_PERIOD_PS = 0 ∨
            (meterCounted s (t.get .VPOL_STAT_SLOWEST_METER) = true
              ∧ ps.getD (t.get .VPOL_STAT_SLOWEST_METER) 0 % 65536 = t.get .VPOL_STAT_CORE_PERIOD_PS
              ∧ ∀ m, m < t.get .VPOL_STAT_SLOWEST_METER → meterCounted s m = true →
                  ps.getD m 0 % 65536 < t.get .VPOL_STAT_CORE_PERIOD_PS))
        ∧ t.get .VPOL_STAT_SCALE = admissionScale (targetNow s) (t.get .VPOL_STAT_CORE_PERIOD_PS)
        ∧ t.power = { s.power with metered := true })
  ∧ (∀ (ps : List Nat) (s : State) (p : Nat),
    RegsOk s → s.power.policyRan = true → policyHeld s = true → s.get .VPOL_STAT_VCORE_MV ≠ s.get .VPOL_CFG_VMAX →
    p = (corePeriod s (ps.map (· % 65536))).1 → 110 * targetNow s < 100 * p →
    Does (.cycleMeterWindowEnd ps) s [.power, .out, .porch]
      (([.CYCLE_METER_PERIOD_PS, .VPOL_STAT_CORE_PERIOD_PS, .VPOL_STAT_SLOWEST_METER, .VPOL_STAT_SCALE, .VPOL_STAT_VCORE_MV,
        .VPOL_EVENTS_VMAX_SEEN] : List Fld) ++ intRegs)
      fun t => t.get .VPOL_STAT_CORE_PERIOD_PS = p ∧ t.get .VPOL_STAT_VCORE_MV = s.get .VPOL_CFG_VMAX
        ∧ t.flag .VPOL_EVENTS_VMAX_SEEN = true ∧ .avs (s.get .VPOL_CFG_VMAX) ∈ t.out)
  ∧ (∀ t p : Nat, (t < p → admissionScale t p = 32768 * t / p) ∧ (p ≤ t → admissionScale t p = 32768) ∧ admissionScale t p ≤ 32768)

/-- VPOL_INTERVAL while Hearth's policy acts: the set-point rises by STEP to at most VMAX when P is above T, falls by STEP to at
least VMIN when P is below T by more than the deadband, and is left alone otherwise; SETTLED and SHORTFALL follow (R27, R28). A set-point
that changes is sent to the regulator. The next interval has the length of VPOL_CFG.INTERVAL, and nothing happens before its end; the loop does not
trim while a seed is being reached, and a seed that is owed is sent first (R31). -/
def Obligations.PolicyIntervalStepsTheSetPoint : Prop :=
  (∀ s : State, RegsOk s → hearthUp s = true → policyHeld s = false → intervalOver s = true → s.power.seedOwed = false → s.power.seedDue = false →
    Does (.vpolInterval) s [.power, .out, .porch]
      (([.VPOL_STAT_VCORE_MV, .VPOL_STAT_SETTLED, .VPOL_STAT_SHORTFALL, .VPOL_EVENTS_VMAX_SEEN, .VPOL_EVENTS_SHORTFALL_SEEN,
        .VPOL_EVENTS_OP_DONE, .VPOL_SEED_SEED_MV] : List Fld) ++ intRegs)
      fun t =>
        let p := s.get .VPOL_STAT_CORE_PERIOD_PS
        let g := targetNow s
        let v := s.get .VPOL_STAT_VCORE_MV
        let low := g * (100 - s.get .VPOL_CFG_DEADBAND)
        (g < p → t.get .VPOL_STAT_VCORE_MV = min (v + s.get .VPOL_CFG_STEP) (s.get .VPOL_CFG_VMAX))
        ∧ (p ≤ g → p * 100 < low → t.get .VPOL_STAT_VCORE_MV = max (v - s.get .VPOL_CFG_STEP) (s.get .VPOL_CFG_VMIN))
        ∧ (p ≤ g → low ≤ p * 100 → t.get .VPOL_STAT_VCORE_MV = v)
        ∧ (t.flag .VPOL_STAT_SETTLED = true ↔ p ≤ g ∧ low ≤ p * 100)
        ∧ (t.flag .VPOL_STAT_SHORTFALL = true ↔ g < p ∧ t.get .VPOL_STAT_VCORE_MV = s.get .VPOL_CFG_VMAX ∧ s.power.atVmax = true)
        ∧ (t.power.atVmax = true ↔ g < p ∧ t.get .VPOL_STAT_VCORE_MV = s.get .VPOL_CFG_VMAX)
        ∧ (t.get .VPOL_STAT_VCORE_MV ≠ v → .avs (t.get .VPOL_STAT_VCORE_MV) ∈ t.out)
        ∧ (p ≤ g → low ≤ p * 100 → t.get .VPOL_SEED_SEED_MV (s.get .OP_CTRL_OP_POINT) = v ∧ t.power.opTrans = false)
        ∧ t.power.vpolDue = some (s.now + max 1 (s.get .VPOL_CFG_INTERVAL) * 1000) ∧ t.power.policyRan = true)
  ∧ (∀ s : State, hearthUp s = true → policyHeld s = false → intervalOver s = true → s.power.seedOwed = false → s.power.seedDue = true →
    Does .vpolInterval s [.power] []
      fun t => t.power = { s.power with vpolDue := some (s.now + max 1 (s.get .VPOL_CFG_INTERVAL) * 1000) })
  ∧ (∀ s : State, RegsOk s → hearthUp s = true → policyHeld s = false → intervalOver s = true → s.power.seedOwed = true →
    Does .vpolInterval s [.power, .out, .porch] (([.VPOL_STAT_VCORE_MV, .VPOL_EVENTS_VMAX_SEEN] : List Fld) ++ intRegs)
      fun t => t.get .VPOL_STAT_VCORE_MV = s.get .VPOL_SEED_SEED_MV (s.get .OP_CTRL_OP_POINT) ∧ t.power.seedOwed = false
        ∧ t.power.seedDue = true ∧ .avs (s.get .VPOL_SEED_SEED_MV (s.get .OP_CTRL_OP_POINT)) ∈ t.out)
  ∧ (∀ s : State, hearthUp s = false ∨ policyHeld s = true ∨ intervalOver s = false → Nothing .vpolInterval s)

/-- The policy's heartbeat and operating points: a missed heartbeat of 1 ms makes the policy stale, a heartbeat ends that (R29); a new
OP_POINT computes the admission scale against its target and begins a transition with its seed as set-point (R31), which trimming follows, or owes the
seed while the policy is held or has not run (R30, R31; log 77); a set-point write that is not acknowledged is sent again, and VCORE_MV keeps the value
before it unless an attempt is acknowledged (R444). -/
def Obligations.VoltageCommandsTakeEffect : Prop :=
  (∀ s : State, Due s (s.power.heartbeatAt + 1000000) →
    Does .policyStaleTimeout s [.power, .out, .porch]
      (([.VPOL_STAT_POLICY_STALE, .VPOL_EVENTS_STALE_SEEN, .VPOL_STAT_VCORE_MV, .VPOL_EVENTS_VMAX_SEEN] : List Fld) ++ intRegs)
      fun t => t.flag .VPOL_STAT_POLICY_STALE = true ∧ t.flag .VPOL_EVENTS_STALE_SEEN = true
        ∧ (RegsOk s → s.power.policyRan = true → 110 * targetNow s < 100 * s.get .VPOL_STAT_CORE_PERIOD_PS →
            t.get .VPOL_STAT_VCORE_MV = s.get .VPOL_CFG_VMAX)
        ∧ (s.power.policyRan = false → t.get .VPOL_STAT_VCORE_MV = s.get .VPOL_STAT_VCORE_MV))
  ∧ (∀ (m : Master) (s : State), May s m .VPOL_CFG_HEARTBEAT →
    Does (.heartbeat m) s [.power, .fault] (([.VPOL_STAT_POLICY_STALE] : List Fld) ++ mendRegs)
      fun t => t.flag .VPOL_STAT_POLICY_STALE = false ∧ t.power = { s.power with heartbeatAt := s.now })
  ∧ (∀ (m : Master) (op : Nat) (s : State), May s m .OP_CTRL_OP_POINT → op < 3 → op ≠ s.get .OP_CTRL_OP_POINT →
    Does (.opPointWrite m op) s [.power, .out, .porch, .fault]
      (([.OP_CTRL_OP_POINT, .VPOL_STAT_VCORE_MV, .VPOL_STAT_SCALE, .VPOL_EVENTS_VMAX_SEEN] : List Fld) ++ mendRegs ++ intRegs)
      fun t => t.get .OP_CTRL_OP_POINT = op ∧ t.power.opTrans = true
        ∧ t.get .VPOL_STAT_SCALE = admissionScale (targetPs op) (s.get .VPOL_STAT_CORE_PERIOD_PS)
        ∧ (RegsOk s → hearthUp s = true → policyHeld s = false → s.power.policyRan = true →
            t.get .VPOL_STAT_VCORE_MV = s.get .VPOL_SEED_SEED_MV op ∧ t.power.seedDue = true ∧ .avs (s.get .VPOL_SEED_SEED_MV op) ∈ t.out)
        ∧ (hearthUp s = false ∨ policyHeld s = true ∨ s.power.policyRan = false →
            t.get .VPOL_STAT_VCORE_MV = s.get .VPOL_STAT_VCORE_MV ∧ t.power.seedOwed = true))
  ∧ (∀ s : State, Does .regulatorSeedReached s [.power] [] fun t => t.power = { s.power with seedDue := false })
  ∧ (∀ (mv : Nat) (s : State), s.power.avsWant = some mv → mv < 4096 →
    Does (.avsWriteRetry true) s [.power, .out] [.VPOL_STAT_VCORE_MV]
      fun t => t.out = .avs mv :: s.out ∧ t.get .VPOL_STAT_VCORE_MV = mv ∧ t.power.avsWant = none)
  ∧ (∀ (mv : Nat) (s : State), s.power.avsWant = some mv → s.power.avsPrev < 4096 →
    Does (.avsWriteRetry false) s [.power, .out] [.VPOL_STAT_VCORE_MV]
      fun t => t.out = .avs mv :: s.out ∧ t.get .VPOL_STAT_VCORE_MV = s.power.avsPrev
        ∧ t.power.avsFails = s.power.avsFails + 1 ∧ (s.power.avsFails = 2 → t.power.avsWant = none)
        ∧ (s.power.avsFails ≠ 2 → t.power.avsWant = some mv))

/-! ## Resets, the watchdog, temperature (R372, R378 to R384) -/

/-- A power-on reset and a supply fault return every register field to its reset value and every part of the machine to its state after reset, in
reset, and keep only elapsed time and the Attic (R372, R378, R379; that elapsed time goes on is the model's choice: log 33). RESET_RELEASE reads the
option copies, takes HOST_MODE and releases the Housekeepers (R379, R387); with no copy that verifies the shadows are those of R387. -/
def Obligations.PowerOnResetsAndReleaseReads : Prop :=
  (∀ (c : Instr) (s : State), c = .powerOnReset ∨ c = .supplyFault →
    ∃ t, exec c s = .next t ∧ (∀ f i, t.get f i = f.resetAt i) ∧ t.clk = { ns := s.clk.ns } ∧ t.plan = {} ∧ t.session = {}
      ∧ t.hall = {} ∧ t.ports = [] ∧ t.line = [] ∧ t.porch = {} ∧ t.thresh = {} ∧ t.crystal = {} ∧ t.rake = {} ∧ t.sluice = {} ∧ t.fault = {}
      ∧ t.power = { attic := s.power.attic, inReset := true } ∧ t.stair = {} ∧ t.latch = [] ∧ t.count = {} ∧ t.mgmt = {}
      ∧ t.out = s.out ∧ t.pending = s.pending)
  ∧ (∀ s : State, s.power.thermHold = false → s.power.hkHeld = true → s.power.bistOn = false →
    Does .resetRelease s [.power] [.OPT_STAT_ACTIVE, .OPT_STAT_BAD, .OPT_STAT_GEN, .BOOT_STAT_OPT_BAD, .BOOT_STAT_PHASE, .HPORT_STAT_MODE]
      fun t => t.power.inReset = false ∧ t.power.hkHeld = false ∧ t.get .BOOT_STAT_PHASE = 1 ∧ t.power.heartbeatAt = s.now
        ∧ t.power.wdogAt = s.now + s.get .WDOG_CFG_TIMEOUT_MS * 1000000
        ∧ (∀ h, h < 4 → t.flag .HPORT_STAT_MODE h = (optHostMode t).testBit h)
        ∧ (∀ c, chooseCopy s = some c → t.get .OPT_STAT_ACTIVE = c ∧ t.flag .OPT_STAT_BAD = false
            ∧ t.get .OPT_STAT_GEN = copyGen s c ∧ t.power.shadow = (copyWords s c).take 14)
        ∧ (chooseCopy s = none → t.flag .OPT_STAT_BAD = true ∧ t.flag .BOOT_STAT_OPT_BAD = true ∧ t.power.shadow = badShadow))

/-- Every source of a device reset resets the device and marks its bit of RESET_CAUSE: PERST# of the primary host port, the watchdog
while it runs and has expired, DEVICE_RESET with its confirmation, the L4 countdown, and a temperature of 115 °C or more, which also
drives THERMTRIP_L (R357, R378 to R383). -/
def Obligations.DeviceResetSourcesReset : Prop :=
  (∀ s : State, ∃ t, exec .perstPrimary s = .next t ∧ DeviceReset 1 s t ∧ t.out = s.out)
  ∧ (∀ (h : Nat) (s : State), h < 4 → h = optPrimary s →
    ∃ t, exec (.perstSecondary h) s = .next t ∧ DeviceReset 1 s t ∧ t.out = s.out)
  ∧ (∀ s : State, s.flag .WDOG_CFG_ENABLE = true → s.power.hkHeld = false → s.power.bistOn = false → Due s s.power.wdogAt →
    ∃ t, exec .watchdogExpiry s = .next t ∧ DeviceReset 3 s t ∧ t.out = s.out)
  ∧ (∀ (m : Master) (s : State), May s m .RESET_CTRL_DEVICE_RESET →
    ∃ t, exec (.deviceResetWrite m 0x42) s = .next t ∧ DeviceReset 4 s t ∧ t.out = s.out)
  ∧ (∀ (m : Master) (k : Nat) (s : State), May s m .RESET_CTRL_DEVICE_RESET → k % 256 ≠ 0x42 →
    Does (.deviceResetWrite m k) s [.count, .out, .porch, .fault]
      (([.ACCESS_LOG_ADDR, .ACCESS_LOG_MASTER, .ACCESS_LOG_CAUSE, .ACCESS_LOG_WRITE, .GLOBAL_EVENTS_RESET_REFUSED] : List Fld) ++ countRegs ++ mendRegs)
      fun t => t.flag .GLOBAL_EVENTS_RESET_REFUSED = true ∧ t.get .ACCESS_LOG_CAUSE = 5 ∧ t.get .ACCESS_LOG_MASTER = masterId m
        ∧ t.get .ACCESS_LOG_WRITE = 1)
  ∧ (∀ (at1 : Nat) (s : State), s.fault.l4At = some at1 → Due s at1 → s.flag .DEV_FAULT_CTRL_L4_HOLD = false →
    ∃ t, exec .l4ResetTimer s = .next t ∧ DeviceReset 5 s t ∧ t.out = s.out)
  ∧ (∀ (sensor temp : Nat) (s : State), 115 ≤ temp → temp < 256 → s.power.thermHold = false → (∀ e ∈ s.power.temps, e.2 < 256) →
    ∃ t, exec (.thermalTrip sensor temp) s = .next t ∧ DeviceReset 6 s t ∧ t.power.thermHold = true ∧ .thermtrip true ∈ t.out
      ∧ temp ≤ t.get .THERM_STAT_MAX_C)

/-- PERST# of a host port other than the primary resets that port alone (R378): its bit of RESET_CAUSE.HOST_PORT, its link down, its ACTIVE rooms in
ERROR with cause PORCH_FAULT, HOST_MODE read again, its master ID reset (R425). A block reset returns the block's own registers, state and fault group
to reset: CRYSTAL and RAKE their tables, COUNT all but the counters (R384); on a block that is idle no other part changes, on a busy one the outcome is
unpredictable for the rooms and their operations (R12, R384). -/
def Obligations.HostPortAndBlockResets : Prop :=
  (∀ (h : Nat) (s : State), h < 4 → h ≠ optPrimary s →
    Does (.perstSecondary h) s masterParts
      (masterRegs ++ ([.RESET_CAUSE_HOST_PORT, .HPORT_STAT_LINK_UP, .HPORT_STAT_WIDTH, .HPORT_STAT_SPEED, .HPORT_STAT_ATOMICOP,
        .HPORT_STAT_MODE, .PORCH_EVENTS_ROOM_ERROR] : List Fld))
      fun t => (t.get .RESET_CAUSE_HOST_PORT).testBit h = true ∧ t.flag .HPORT_STAT_LINK_UP h = false
        ∧ t.get .HPORT_STAT_WIDTH h = 0 ∧ t.flag .HPORT_STAT_MODE h = (atticHostMode s).testBit h
        ∧ (∀ k, k ≠ h → t.flag .HPORT_STAT_LINK_UP k = s.flag .HPORT_STAT_LINK_UP k)
        ∧ (∀ r, (s.room r).st = 1 → (s.room r).hport = h → (t.room r).st = 2 ∧ (t.room r).err = 4)
        ∧ (∀ r, (∀ e ∈ s.porch.rooms, e.1 = r → e.2.hport ≠ h) → t.room r = s.room r)
        ∧ (s.session.owner = some h → abortable s = true → t.session = {} ∧ t.get .FPLAN_STAT_STATE = 6 ∧ t.get .FPLAN_STAT_REJECT = 18)
        ∧ (∀ k, (t.latchOf k).owner ≠ some h))
  ∧ (∀ (m : Master) (s : State), May s m .RESET_CTRL_CRYSTAL →
    Does (.blockResetCrystal m) s [.crystal, .fault, .out, .porch, .thresh]
      (blkFlds .CRYSTAL ++ blkFlds .FAULTG ++ ([.DEV_FAULT_LEVEL, .DEV_FAULT_CAUSE_BLOCK, .DEV_FAULT_CAUSE_CLASS, .PORCH_EVENTS_ROOM_ERROR] : List Fld)
        ++ intRegs)
      fun t => t.crystal = {} ∧ t.get .FAULT_STAT_LEVEL 6 = 0 ∧ t.get .FAULT_UNACK_UNACK 6 = 0
        ∧ (∀ f ∈ blkFlds .CRYSTAL, ∀ i, t.get f i = f.resetAt i)
        ∧ (∀ f ∈ blkFlds .FAULTG, f ≠ .FAULT_STAT_PARITY_STANDING → ∀ b, b ≠ 6 → t.get f b = s.get f b)
        ∧ (crystalIdle s = true → t.porch = s.porch ∧ t.out = s.out ∧ t.thresh = s.thresh))
  ∧ (∀ (m : Master) (s : State), May s m .RESET_CTRL_RAKE →
    Does (.blockResetRake m) s [.rake, .fault, .out, .porch, .thresh]
      (blkFlds .RAKE ++ blkFlds .FAULTG ++ ([.DEV_FAULT_LEVEL, .DEV_FAULT_CAUSE_BLOCK, .DEV_FAULT_CAUSE_CLASS, .PORCH_EVENTS_ROOM_ERROR] : List Fld)
        ++ intRegs)
      fun t => t.rake = {} ∧ t.get .FAULT_STAT_LEVEL 7 = 0 ∧ (∀ k, t.get .TREE_ENTRY_NEXT_SEQ k = 0 ∧ t.get .TREE_ENTRY_STATE k = 0)
        ∧ (∀ k, t.get .TREE_JOB_JOB k = s.get .TREE_JOB_JOB k ∧ t.get .TREE_ENTRY_VALID k = s.get .TREE_ENTRY_VALID k)
        ∧ (∀ f ∈ blkFlds .FAULTG, f ≠ .FAULT_STAT_PARITY_STANDING → ∀ b, b ≠ 7 → t.get f b = s.get f b)
        ∧ (rakeIdle s = true → t.porch = s.porch ∧ t.out = s.out ∧ t.thresh = s.thresh))
  ∧ (∀ (m : Master) (s : State), May s m .RESET_CTRL_COUNT →
    Does (.blockResetCount m) s [.count, .fault, .out, .porch, .thresh]
      (blkFlds .COUNT ++ blkFlds .FAULTG ++ ([.DEV_FAULT_LEVEL, .DEV_FAULT_CAUSE_BLOCK, .DEV_FAULT_CAUSE_CLASS, .PORCH_EVENTS_ROOM_ERROR] : List Fld)
        ++ intRegs)
      fun t => t.count = { ctr := s.count.ctr } ∧ t.get .FAULT_STAT_LEVEL 12 = 0 ∧ (∀ f ∈ blkFlds .COUNT, ∀ i, t.get f i = f.resetAt i)
        ∧ (∀ f ∈ blkFlds .FAULTG, f ≠ .FAULT_STAT_PARITY_STANDING → ∀ b, b ≠ 12 → t.get f b = s.get f b)
        ∧ (countIdle s = true → t.porch = s.porch ∧ t.out = s.out ∧ t.thresh = s.thresh))

/-- RESET_CAUSE bits clear as a write names them (R380); a kick restarts the watchdog's count (R382); a reading shows in THERM_STAT,
and one at WARN_C or above raises THERMAL at POWER (R383); the trip releases after 1 s below 95 °C at every sensor (R383). -/
def Obligations.CausesWatchdogAndTemperature : Prop :=
  (∀ (m : Master) (mask : Nat) (s : State), May s m .RESET_CAUSE_CLR_CLEAR → mask < 4096 →
    Does (.resetCauseClear m mask) s [.fault]
      (([.RESET_CAUSE_POWER_ON, .RESET_CAUSE_PERST, .RESET_CAUSE_STAIR, .RESET_CAUSE_WATCHDOG, .RESET_CAUSE_SOFTWARE, .RESET_CAUSE_L4,
        .RESET_CAUSE_THERMAL, .RESET_CAUSE_HOST_PORT] : List Fld) ++ mendRegs)
      fun t => (∀ k, k < 7 → t.get (causeField k) = if mask.testBit k then 0 else s.get (causeField k))
        ∧ (∀ h, h < 4 → (t.get .RESET_CAUSE_HOST_PORT).testBit h = ((s.get .RESET_CAUSE_HOST_PORT).testBit h && !mask.testBit (8 + h))))
  ∧ (∀ (m : Master) (s : State), May s m .WDOG_CFG_KICK →
    Does (.watchdogKick m) s [.power, .fault] mendRegs
      fun t => t.power = { s.power with wdogAt := s.now + s.get .WDOG_CFG_TIMEOUT_MS * 1000000 })
  ∧ (∀ (sensor temp : Nat) (s : State), sensor < 16 → temp < 115 → temp < s.get .THERM_CFG_WARN_C → (∀ e ∈ s.power.temps, e.2 < 256 ∧ e.1 < 16) →
    Does (.thermalWarning sensor temp) s [.power] [.THERM_STAT_MAX_C, .THERM_STAT_SENSOR, .THERM_STAT_WARN]
      fun t => Tab.get t.power.temps sensor 0 = temp ∧ (∀ k, k ≠ sensor → Tab.get t.power.temps k 0 = Tab.get s.power.temps k 0)
        ∧ (∀ k, Tab.get t.power.temps k 0 ≤ t.get .THERM_STAT_MAX_C)
        ∧ ((t.get .THERM_STAT_SENSOR, t.get .THERM_STAT_MAX_C) ∈ t.power.temps ∨ t.get .THERM_STAT_MAX_C = 0)
        ∧ (t.flag .THERM_STAT_WARN = true ↔ s.get .THERM_CFG_WARN_C ≤ t.get .THERM_STAT_MAX_C))
  ∧ (∀ (sensor temp : Nat) (s : State), RegsOk s → sensor < 16 → temp < 115 → s.get .THERM_CFG_WARN_C ≤ temp →
    Does (.thermalWarning sensor temp) s (.power :: blockFaultParts) (([.THERM_STAT_MAX_C, .THERM_STAT_SENSOR, .THERM_STAT_WARN] : List Fld) ++ blockFaultRegs)
      fun t => Tab.get t.power.temps sensor 0 = temp ∧ t.get .FAULT_STAT_LAST_CLASS 13 = 23
        ∧ (t.get .FAULT_UNACK_UNACK 13).testBit 22 = true ∧ 1 ≤ t.level 13)
  ∧ (∀ (since : Nat) (s : State), s.power.thermHold = true → s.power.thermLowAt = some since → Due s (since + 1000000000) →
    Does .thermalTripRelease s [.power, .out] [] fun t => t.power = { s.power with thermHold := false } ∧ t.out = .thermtrip false :: s.out)

/-! ## Logic BIST and start-up (R395 to R399) -/

/-- A run starts with the first PARALLEL groups and its record RUNNING (R395, R396); a group's end sets its bits, starts the next round
or ends the run with PHASE HALTED after a failure, WAIT after none, and OFF at a shutdown (R397, R398); start-up goes to PLAN_WAIT after a passed run or
with the quick start, waits up to 200 ms for BOARD_TIME where the record would do, and otherwise begins a run (R398); OVERRIDE ends HALTED. -/
def Obligations.BistAndStartUpTakeEffect : Prop :=
  (∀ (m : Master) (s : State), May s m .BIST_CTRL_START → s.power.bistOn = false →
    Does (.bistStart m) s [.power, .fault] (([.BOOT_STAT_PHASE, .BOOT_STAT_DONE_MASK, .BOOT_STAT_FAIL_MASK] : List Fld) ++ mendRegs)
      fun t => t.get .BOOT_STAT_PHASE = 3 ∧ t.get .BOOT_STAT_DONE_MASK = 0 ∧ t.get .BOOT_STAT_FAIL_MASK = 0 ∧ t.power.bistOn = true
        ∧ t.power.bistRun = (List.range 16).take (min 6 (s.get .BIST_CTRL_PARALLEL))
        ∧ t.power.bistLeft = (List.range 16).drop (min 6 (s.get .BIST_CTRL_PARALLEL))
        ∧ (t.atticWord 64).toNat % 4 = 1)
  ∧ (∀ (g : Nat) (pass : Bool) (s : State), g ∈ s.power.bistRun → s.power.bistRun.filter (· != g) ≠ [] →
    s.get .BOOT_STAT_DONE_MASK + 2 ^ g < 65536 → s.get .BOOT_STAT_FAIL_MASK + 2 ^ g < 65536 →
    Does (.bistGroupDone g pass) s [.power] [.BOOT_STAT_DONE_MASK, .BOOT_STAT_FAIL_MASK]
      fun t => t.get .BOOT_STAT_DONE_MASK = s.get .BOOT_STAT_DONE_MASK + 2 ^ g
        ∧ t.get .BOOT_STAT_FAIL_MASK = s.get .BOOT_STAT_FAIL_MASK + (if pass then 0 else 2 ^ g)
        ∧ t.power = { s.power with bistRun := s.power.bistRun.filter (· != g) })
  ∧ (∀ (g : Nat) (pass : Bool) (s : State), s.power.bistRun = [g] → s.power.bistLeft = [] →
    s.get .BOOT_STAT_DONE_MASK + 2 ^ g < 65536 → s.get .BOOT_STAT_FAIL_MASK + 2 ^ g < 65536 →
    Does (.bistGroupDone g pass) s [.power] [.BOOT_STAT_DONE_MASK, .BOOT_STAT_FAIL_MASK, .BOOT_STAT_PHASE]
      fun t =>
        let bad := s.get .BOOT_STAT_FAIL_MASK + (if pass then 0 else 2 ^ g)
        t.power.bistOn = false ∧ t.power.hkHeld = false ∧ t.power.bistPassed = (bad == 0)
        ∧ t.get .BOOT_STAT_PHASE = (if s.power.shutdown then 9 else if bad = 0 then 1 else 7)
        ∧ (t.atticWord 64).toNat % 4 = (if bad = 0 then 2 else 3))
  ∧ (∀ (g : Nat) (pass : Bool) (s : State), s.power.bistRun = [g] → s.power.bistLeft ≠ [] → s.get .BOOT_STAT_DONE_MASK + 2 ^ g < 65536 →
    Does (.bistGroupDone g pass) s (.power :: masterParts) (([.BOOT_STAT_DONE_MASK, .BOOT_STAT_FAIL_MASK] : List Fld) ++ masterRegs)
      fun t => t.get .BOOT_STAT_DONE_MASK = s.get .BOOT_STAT_DONE_MASK + 2 ^ g
        ∧ t.power.bistRun = s.power.bistLeft.take (min 6 (s.get .BIST_CTRL_PARALLEL))
        ∧ t.power.bistLeft = s.power.bistLeft.drop (min 6 (s.get .BIST_CTRL_PARALLEL)) ∧ t.power.bistOn = s.power.bistOn
        ∧ (t.power.hkHeld = true ↔ s.power.hkHeld = true ∨ 15 ∈ t.power.bistRun))
  ∧ (∀ (m : Master) (s : State), May s m .BIST_CTRL_SHUTDOWN → s.power.shutdown = false →
    Does (.bistShutdown m) s ([.power, .crystal] ++ anyFaultParts)
      (([.BOOT_STAT_PHASE, .BOOT_STAT_DONE_MASK, .BOOT_STAT_FAIL_MASK, .KEY_CMD_STAT_BUSY, .KEY_CMD_STAT_RESULT, .ROOM_CMD_STAT_BUSY,
        .ROOM_CMD_STAT_RESULT, .PORCH_EVENTS_CMD_DONE] : List Fld) ++ mendRegs ++ masterRegs ++ anyFaultRegs)
      fun t => t.power.shutdown = true ∧ t.get .BOOT_STAT_PHASE = 8 ∧ t.power.bistOn = true ∧ t.crystal = {} ∧ t.rake = {}
        ∧ t.thresh.flows = [] ∧ t.thresh.ops = [] ∧ t.porch.fetchQ = [] ∧ t.porch.deliveries = [])
  ∧ (∀ s : State, s.power.hkHeld = false → s.power.bistOn = false → s.get .BOOT_STAT_PHASE = 1 →
    Does .bootDecision s [.power, .thresh]
      [.BOOT_STAT_PHASE, .BOOT_STAT_QUICK, .BOOT_STAT_DONE_MASK, .BOOT_STAT_FAIL_MASK, .CELLAR_STAT_INSTALLED_GIB, .CELLAR_STAT_SPEED,
       .CELLAR_STAT_TRAINED, .CELLAR_STAT_SELF_REFRESH, .CELLAR_STAT_USABLE_MIB]
      fun t => (s.power.bistPassed = true ∨ quickStart s = true → t.get .BOOT_STAT_PHASE = 5 ∧ t.power = s.power
          ∧ (s.domainOn 78 = true → t.flag .CELLAR_STAT_TRAINED = true ∧ t.thresh.keys = [] ∧ t.thresh.ranks = []))
        ∧ (s.power.bistPassed = false → quickStart s = true → t.flag .BOOT_STAT_QUICK = true)
        ∧ (s.power.bistPassed = false → quickStart s = false → awaitsTime s = false → t.get .BOOT_STAT_PHASE = 3 ∧ t.power.bistOn = true)
        ∧ (s.power.bistPassed = false → awaitsTime s = true → t.get .BOOT_STAT_PHASE = 1 ∧ t.power = s.power))
  ∧ (∀ (m : Master) (s : State), May s m .BOOT_CTRL_OVERRIDE → s.get .BOOT_STAT_PHASE = 7 →
    Does (.bistOverride m) s [.thresh, .fault]
      (([.BOOT_STAT_PHASE, .CELLAR_STAT_INSTALLED_GIB, .CELLAR_STAT_SPEED, .CELLAR_STAT_TRAINED, .CELLAR_STAT_SELF_REFRESH,
        .CELLAR_STAT_USABLE_MIB] : List Fld) ++ mendRegs)
      fun t => t.get .BOOT_STAT_PHASE = 5)

/-! ## Host links (R214, R456) -/

/-- A link that comes up shows its width and speed, resets the port's MSI-X table and lets the entries that waited go on; a link that is
lost raises HOST_LINK at the Porch, puts the port's ACTIVE rooms in ERROR and resets its master ID (R214, R425, R456). -/
def Obligations.HostLinksComeAndGo : Prop :=
  (∀ (h w v : Nat) (ato : Bool) (s : State), s.flag .HPORT_STAT_LINK_UP h = false → mayLink s h = true →
    Does (.hostLinkUp h w v ato) s [.porch] [.HPORT_STAT_LINK_UP, .HPORT_STAT_WIDTH, .HPORT_STAT_SPEED, .HPORT_STAT_ATOMICOP]
      fun t => t.flag .HPORT_STAT_LINK_UP h = true
        ∧ t.get .HPORT_STAT_WIDTH h = w % 2 ^ Fld.HPORT_STAT_WIDTH.info.width
        ∧ t.get .HPORT_STAT_SPEED h = v % 2 ^ Fld.HPORT_STAT_SPEED.info.width
        ∧ t.flag .HPORT_STAT_ATOMICOP h = ato ∧ t.porch.rooms = s.porch.rooms
        ∧ (∀ k, k / 2048 = h → Tab.get t.porch.msix k {} = {}) ∧ (∀ k, k / 2048 ≠ h → Tab.get t.porch.msix k {} = Tab.get s.porch.msix k {})
        ∧ t.porch.stalled = s.porch.stalled.filter (fun it => !it.misses.isEmpty))
  ∧ (∀ (h : Nat) (s : State), RegsOk s → h < 4 → s.flag .HPORT_STAT_LINK_UP h = true →
    Does (.hostLinkDown h) s ([.latch, .session, .mgmt, .stair] ++ blockFaultParts)
      (([.HPORT_STAT_LINK_UP, .HPORT_STAT_WIDTH, .HPORT_STAT_SPEED, .HPORT_STAT_ATOMICOP] : List Fld) ++ masterRegs ++ blockFaultRegs)
      fun t => t.flag .HPORT_STAT_LINK_UP h = false ∧ t.get .HPORT_STAT_WIDTH h = 0 ∧ t.get .FAULT_STAT_LAST_CLASS 9 = 19
        ∧ 1 ≤ t.level 9 ∧ (∀ r, (s.room r).st = 1 → (s.room r).hport = h → (t.room r).st = 2 ∧ (t.room r).err = 4))

/-! ## Latches (R421 to R426) -/

/-- A read takes a free Latch with its marks, which it clears, and is answered BUSY with the owner on a held one (R422); a read of LATCH_WAIT takes a
free Latch, waits for a held one up to STALL_US while fewer than 64 reads wait, and is answered BUSY beyond that (R423). Stalled reads whose limit has
come are answered BUSY and leave; a release by the owner frees the Latch, which goes to the oldest stalled read if there is one, and any other release
shows NOT_OWNER; a forced Latch is freed with its mark, which goes with the grant (R424). -/
def Obligations.LatchesAreTakenAndReleased : Prop :=
  (∀ (m : Master) (k : Nat) (s : State), k < 512 → MaySee s m .LATCH_TAKE_VALUE → s.level 11 < 2 → (s.latchOf k).owner = none →
    Does (.latchTake m k) s [.latch, .count, .out, .porch] countRegs
      fun t => t.out.head? = some (.reg m (latchValue true (s.latchOf k).abandoned (s.latchOf k).forced false (masterId m) 0))
        ∧ t.latchOf k = { s.latchOf k with owner := some (masterId m), abandoned := false, forced := false }
        ∧ ∀ j, j ≠ k → t.latchOf j = s.latchOf j)
  ∧ (∀ (m : Master) (k o : Nat) (s : State), k < 512 → MaySee s m .LATCH_TAKE_VALUE → (s.latchOf k).owner = some o →
    Does (.latchTake m k) s [.count, .out, .porch] countRegs
      fun t => t.out.head? = some (.reg m (latchValue false false false true o 0)))
  ∧ (∀ (m : Master) (k : Nat) (s : State), k < 512 → MaySee s m .LATCH_WAIT_VALUE → s.level 11 < 2 → (s.latchOf k).owner = none →
    Does (.latchWait m k) s [.latch, .count, .out, .porch] countRegs
      fun t => t.out.head? = some (.reg m (latchValue true (s.latchOf k).abandoned (s.latchOf k).forced false (masterId m) 0))
        ∧ t.latchOf k = { s.latchOf k with owner := some (masterId m), abandoned := false, forced := false })
  ∧ (∀ (m : Master) (k o : Nat) (s : State), k < 512 → MaySee s m .LATCH_WAIT_VALUE → s.level 11 < 2 →
    (s.latchOf k).owner = some o → stalledReads s < 64 →
    Does (.latchWait m k) s [.latch] []
      fun t => t.latchOf k = { s.latchOf k with waiters := (s.latchOf k).waiters ++ [(m, s.now + s.get .LATCH_CFG_STALL_US * 1000)] }
        ∧ ∀ j, j ≠ k → t.latchOf j = s.latchOf j)
  ∧ (∀ (m : Master) (k o : Nat) (s : State), k < 512 → MaySee s m .LATCH_WAIT_VALUE → s.level 11 < 2 →
    (s.latchOf k).owner = some o → 64 ≤ stalledReads s →
    Does (.latchWait m k) s [.count, .out, .porch] (.LATCH_EVENTS_WAIT_FULL :: countRegs)
      fun t => t.out.head? = some (.reg m (latchValue false false false true o 0)) ∧ t.flag .LATCH_EVENTS_WAIT_FULL = true)
  ∧ (∀ (k : Nat) (s : State), k < 512 →
    Does (.latchWaitTimeout k) s [.latch, .mgmt, .stair, .hall, .count, .out, .porch] countRegs
      fun t => (t.latchOf k).waiters = (s.latchOf k).waiters.filter (fun w => !decide (w.2 ≤ s.now))
        ∧ (t.latchOf k).owner = (s.latchOf k).owner
        ∧ (∀ j, j ≠ k → t.latchOf j = s.latchOf j)
        ∧ (∀ h d, (Master.host h, d) ∈ (s.latchOf k).waiters → Due s d → .reg (.host h) (latchBusy k s) ∈ t.out))
  ∧ (∀ (m : Master) (k : Nat) (s : State), k < 512 → May s m .LATCH_RELEASE_ANY → (s.latchOf k).owner = some (masterId m) →
    Does (.latchRelease m k) s [.latch, .mgmt, .stair, .hall, .count, .out, .porch, .fault] (countRegs ++ mendRegs)
      fun t => ((s.latchOf k).waiters = [] → (t.latchOf k).owner = none)
        ∧ (∀ w d r, (s.latchOf k).waiters = (w, d) :: r → (t.latchOf k).owner = some (masterId w) ∧ (t.latchOf k).waiters = r)
        ∧ (∀ j, j ≠ k → t.latchOf j = s.latchOf j))
  ∧ (∀ (m : Master) (k : Nat) (s : State), k < 512 → May s m .LATCH_RELEASE_ANY → (s.latchOf k).owner ≠ some (masterId m) →
    Does (.latchRelease m k) s [.count, .out, .porch, .fault] (.LATCH_EVENTS_NOT_OWNER :: (countRegs ++ mendRegs))
      fun t => t.flag .LATCH_EVENTS_NOT_OWNER = true)
  ∧ (∀ (m : Master) (k o : Nat) (s : State), k < 512 → May s m .LATCH_FORCE_GO → (s.latchOf k).owner = some o →
    Does (.latchForce m k) s [.latch, .mgmt, .stair, .hall, .count, .out, .porch, .fault] (.LATCH_EVENTS_FORCED_SEEN :: (countRegs ++ mendRegs))
      fun t => t.flag .LATCH_EVENTS_FORCED_SEEN = true
        ∧ ((s.latchOf k).waiters = [] → (t.latchOf k).owner = none ∧ (t.latchOf k).forced = true)
        ∧ (∀ w d r, (s.latchOf k).waiters = (w, d) :: r → (t.latchOf k).owner = some (masterId w) ∧ (t.latchOf k).forced = false)
        ∧ (∀ j, j ≠ k → t.latchOf j = s.latchOf j))

/-! ## Network time and gate lists (R319 to R331) -/

/-- TIME cells are sent when due and echo the partner's, samples of the parent steer the clock, a parent lost for eight periods puts the device in
holdover with TIME_UNSYNC at the Sluice (R322 to R326); the master sets the time in Marked service only (R328); a gate list whose boundary has come is
the port's list (R331). The servo (R325): an error above STEP_NS steps network time by the error and counts TIME_STEP; a smaller one leaves the time and
corrects the rate, within 95 ppm of slew and 500 ppm of frequency. -/
def Obligations.TimeCommandsAndServo : Prop :=
  (∀ (p : Nat) (s : State), s.get .PORT_STAT_STATE p = 3 → Due s (s.port p).timeNext → credit s p 0 = true →
    Does (.timeCellSend p) s [.ports] timeRegs
      fun t => (∃ c : TxCell, (t.port p).htq = (s.port p).htq ++ [c] ∧ c.cell.ty = tyTime ∧ c.cell.vc = 0 ∧ c.cell.dest = s.peerNode p
          ∧ c.queuedAt = s.now)
        ∧ (t.port p).timeNext = s.now + s.get .TIME_CFG_PERIOD_US * 1000 ∧ ∀ q, q ≠ p → t.port q = s.port q)
  ∧ (∀ (p : Nat) (c : Cell) (s : State), c.ty = tyTime → c.check = bodyCrc c.body →
    Does (.timeCellArrival p c) s [.clk, .ports, .sluice, .count, .out, .porch]
      (([.TIME_STAT_SYNCED, .TIME_STAT_HOLDOVER, .TIME_STAT_THETA_PS, .TIME_DELAY_DELAY_PS, .SLUICE_EVENTS_TIME_FOREIGN,
        .SLUICE_EVENTS_TIME_STEP, .SLUICE_EVENTS_TIME_SYNC, .SLUICE_EVENTS_TIME_UNSYNC] : List Fld) ++ timeRegs ++ countRegs)
      fun t => (t.port p).timeEcho = some (wn c.body 0, wf_ c.body 1 0 16, s.clk.net) ∧ (∀ q, q ≠ p → t.port q = s.port q)
        ∧ ((wn c.body 1).testBit 40 = false → t.clk = s.clk ∧ t.sluice = s.sluice
            ∧ (t.port p).timeLast = some ((wn c.body 1).testBit 39, wf_ c.body 1 16 20, wf_ c.body 1 36 3))
        ∧ (timeMaster s = true → t.clk = s.clk))
  ∧ (∀ s : State, timeMaster s = false → Due s (s.sluice.lastSample + 8 * (s.get .TIME_CFG_PERIOD_US * 1000)) → s.flag .TIME_STAT_HOLDOVER = false →
    Does .timeHoldoverTimeout s (.sluice :: faultParts)
      (([.TIME_STAT_SYNCED, .TIME_STAT_HOLDOVER, .SLUICE_EVENTS_TIME_UNSYNC] : List Fld) ++ timeRegs ++ faultRegs)
      fun t => t.flag .TIME_STAT_HOLDOVER = true ∧ t.flag .TIME_STAT_SYNCED = false ∧ t.sluice.syncRun = 0
        ∧ (s.flag .TIME_STAT_SYNCED = true → t.flag .SLUICE_EVENTS_TIME_UNSYNC = true) ∧ t.get .FAULT_STAT_LAST_CLASS 5 = 22)
  ∧ (∀ (m : Master) (ns frac : Nat) (s : State), May s m .TIME_ADJ_SET → ns < 2 ^ 64 → frac < 65536 → s.flag .SLUICE_MODE_SERVICE = false →
    Does (.timeSet m ns frac) s [.clk, .count, .fault] (([.TIME_SET_NS_NS, .TIME_ADJ_SET_FRAC] : List Fld) ++ mendRegs)
      fun t => (timeMaster s = true → t.clk.net = (ns : Int) * 65536 + frac ∧ t.clk.ns = s.clk.ns)
        ∧ (timeMaster s = false → t.clk = s.clk) ∧ t.count.ctr = s.count.ctr)
  ∧ (∀ (m : Master) (ns frac : Nat) (s : State), May s m .TIME_ADJ_SET → s.flag .SLUICE_MODE_SERVICE = true →
    Does (.timeSet m ns frac) s [.count, .out, .porch, .fault]
      (([.TIME_SET_NS_NS, .TIME_ADJ_SET_FRAC, .SLUICE_EVENTS_SET_REFUSED] : List Fld) ++ mendRegs ++ countRegs)
      fun t => t.flag .SLUICE_EVENTS_SET_REFUSED = true)
  ∧ (∀ (p at1 : Nat) (l : GateList) (s : State), Tab.find? s.plan.gatesNext p = some (at1, l) → at1 ≤ s.netNs →
    Does (.gateEntryChange p) s [.plan] []
      fun t => Tab.find? t.plan.gates p = some l ∧ Tab.find? t.plan.gatesNext p = none
        ∧ ∀ q, q ≠ p → Tab.find? t.plan.gates q = Tab.find? s.plan.gates q)
  ∧ (∀ (theta : Int) (s : State),
    (s.get .TIME_CFG_STEP_NS * 65536 < theta.natAbs →
      (steer theta s).clk.net = s.clk.net + theta ∧ (steer theta s).flag .SLUICE_EVENTS_TIME_STEP = true ∧ (steer theta s).sluice.syncRun = 0)
    ∧ (theta.natAbs ≤ s.get .TIME_CFG_STEP_NS * 65536 →
      (steer theta s).clk.net = s.clk.net ∧ (steer theta s).clk.freq.natAbs ≤ 140737488356
        ∧ Keeps [.clk] s (steer theta s) ∧ OnlyRegs [] s (steer theta s)
        ∧ (theta = 0 → (steer theta s).clk.slew = 0)))

/-! ## The Attic (R385 to R388) -/

/-- ATTIC_CMD reads, writes and commits: a read shows the selected word, a write stores it unless it lies in the active option copy, a word
that fails its verify ends VERIFY_FAIL with ATTIC_VERIFY raised, and OPT_COMMIT makes the other copy active with GEN plus 1 and a CRC
that verifies (R385, R388). -/
def Obligations.AtticCommandsTakeEffect : Prop :=
  (∀ (m : Master) (s : State), May s m .ATTIC_CMD_CMD →
    Does (.atticRead m) s [.fault] (([.ATTIC_CMD_CMD, .ATTIC_DATA_DATA, .ATTIC_STAT_RESULT, .ATTIC_STAT_BUSY] : List Fld) ++ mendRegs)
      fun t => t.get .ATTIC_DATA_DATA = (s.atticWord (s.get .ATTIC_SEL_WORD)).toNat ∧ t.get .ATTIC_STAT_RESULT = 0
        ∧ t.get .ATTIC_STAT_BUSY = 0)
  ∧ (∀ (m : Master) (s : State), RegsOk s → May s m .ATTIC_CMD_CMD → s.level 2 < 2 → inActive s (s.get .ATTIC_SEL_WORD) = false →
    Does (.atticWrite m true) s [.power, .fault] (([.ATTIC_CMD_CMD, .ATTIC_STAT_RESULT, .ATTIC_STAT_BUSY] : List Fld) ++ mendRegs)
      fun t => (t.atticWord (s.get .ATTIC_SEL_WORD)).toNat = s.get .ATTIC_DATA_DATA ∧ t.get .ATTIC_STAT_RESULT = 0
        ∧ (∀ i, i ≠ s.get .ATTIC_SEL_WORD → t.atticWord i = s.atticWord i) ∧ { t.power with attic := s.power.attic } = s.power)
  ∧ (∀ (m : Master) (v : Bool) (s : State), May s m .ATTIC_CMD_CMD → 2 ≤ s.level 2 ∨ inActive s (s.get .ATTIC_SEL_WORD) = true →
    Does (.atticWrite m v) s [.fault] (([.ATTIC_CMD_CMD, .ATTIC_STAT_RESULT, .ATTIC_STAT_BUSY] : List Fld) ++ mendRegs)
      fun t => t.get .ATTIC_STAT_RESULT = 2)
  ∧ (∀ (m : Master) (s : State), May s m .ATTIC_CMD_CMD → s.level 2 < 2 → inActive s (s.get .ATTIC_SEL_WORD) = false →
    Does (.atticWrite m false) s (.power :: faultParts) (([.ATTIC_CMD_CMD, .ATTIC_STAT_RESULT, .ATTIC_STAT_BUSY] : List Fld) ++ mendRegs ++ faultRegs)
      fun t => t.get .ATTIC_STAT_RESULT = 3 ∧ t.get .FAULT_STAT_LAST_CLASS 2 = 24
        ∧ (∀ i, i ≠ s.get .ATTIC_SEL_WORD → t.atticWord i = s.atticWord i))
  ∧ (∀ (m : Master) (s : State), RegsOk s → May s m .ATTIC_CMD_CMD → s.level 2 < 2 →
    Does (.optCommit m) s [.power, .fault]
      (([.ATTIC_CMD_CMD, .ATTIC_STAT_RESULT, .ATTIC_STAT_BUSY, .OPT_STAT_ACTIVE, .OPT_STAT_GEN, .OPT_STAT_BAD, .BOOT_STAT_OPT_BAD] : List Fld) ++ mendRegs)
      fun t => t.get .ATTIC_STAT_RESULT = 0 ∧ t.get .OPT_STAT_ACTIVE = 1 - s.get .OPT_STAT_ACTIVE
        ∧ t.get .OPT_STAT_GEN = (s.get .OPT_STAT_GEN + 1) % 2 ^ 32 ∧ t.flag .OPT_STAT_BAD = false
        ∧ copyOk t (t.get .OPT_STAT_ACTIVE) = true ∧ copyGen t (t.get .OPT_STAT_ACTIVE) = t.get .OPT_STAT_GEN
        ∧ (∀ i, i < 30 → (copyWords t (t.get .OPT_STAT_ACTIVE)).getD i 0 = (copyWords s (t.get .OPT_STAT_ACTIVE)).getD i 0)
        ∧ (∀ i, i < 32 → (copyWords t (s.get .OPT_STAT_ACTIVE)).getD i 0 = (copyWords s (s.get .OPT_STAT_ACTIVE)).getD i 0))

/-! ## Power domains (R374 to R377) -/

/-- A new target of one network port's domain begins its transition (R375); a target off of the primary host port's domain is refused and
written back (R376); a transition that ends gives the domain its new state and DOMAIN_EVENTS.DONE, and the DDR5 domain that comes on is
trained (R375, R450, Table 15.2). -/
def Obligations.DomainsSwitch : Prop :=
  (∀ (m : Master) (d : Nat) (w : Word) (s : State), RegsOk s → May s m .DOMAIN_TARGET_LO_TARGET → d < 64 → s.power.trans = [] →
    (∀ e, e < 80 → domainTarget s e = s.domainOn e) → s.domainOn d = false →
    w.toNat = s.get .DOMAIN_TARGET_LO_TARGET + 2 ^ d →
    Does (.domainTargetWrite m false w) s [.power, .fault]
      (([.DOMAIN_TARGET_LO_TARGET, .DOMAIN_TARGET_HI_TARGET, .DOMAIN_STAT_HI_BUSY] : List Fld) ++ mendRegs)
      fun t => t.power = { s.power with trans := [{ d := d, on := true }] } ∧ t.get .DOMAIN_STAT_HI_BUSY = 1
        ∧ t.get .DOMAIN_TARGET_LO_TARGET = w.toNat ∧ t.get .DOMAIN_TARGET_HI_TARGET = s.get .DOMAIN_TARGET_HI_TARGET)
  ∧ (∀ (m : Master) (w : Word) (s : State), RegsOk s → May s m .DOMAIN_TARGET_HI_TARGET → s.power.trans = [] →
    (∀ e, e < 80 → domainTarget s e = s.domainOn e) → s.domainOn (72 + optPrimary s) = true →
    w.toNat + 2 ^ (8 + optPrimary s) = s.get .DOMAIN_TARGET_HI_TARGET →
    Does (.domainTargetWrite m true w) s [.fault, .out, .porch]
      (([.DOMAIN_TARGET_LO_TARGET, .DOMAIN_TARGET_HI_TARGET, .DOMAIN_REFUSE_DOMAIN, .DOMAIN_REFUSE_CAUSE, .DOMAIN_EVENTS_REFUSED] : List Fld)
        ++ mendRegs ++ intRegs)
      fun t => t.flag .DOMAIN_EVENTS_REFUSED = true ∧ t.get .DOMAIN_REFUSE_DOMAIN = 72 + optPrimary s ∧ t.get .DOMAIN_REFUSE_CAUSE = 1
        ∧ t.get .DOMAIN_TARGET_HI_TARGET = s.get .DOMAIN_TARGET_HI_TARGET
        ∧ t.get .DOMAIN_TARGET_LO_TARGET = s.get .DOMAIN_TARGET_LO_TARGET)
  ∧ (∀ (x : Trans) (s : State), RegsOk s → s.power.trans = [x] → x.d < 80 → (∀ e, e < 80 → e ≠ x.d → domainTarget s e = s.domainOn e) →
    domainTarget s x.d = x.on → x.d = 79 →
    Does (.domainTransitionDone x.d) s [.power, .out, .porch]
      (([.DOMAIN_STAT_HI_ON, .DOMAIN_STAT_HI_BUSY, .DOMAIN_EVENTS_DONE] : List Fld) ++ intRegs)
      fun t => t.domainOn x.d = x.on ∧ t.flag .DOMAIN_EVENTS_DONE = true ∧ t.power = { s.power with trans := [] } ∧ t.get .DOMAIN_STAT_HI_BUSY = 0
        ∧ ∀ e, e < 80 → e ≠ x.d → t.domainOn e = s.domainOn e)
  ∧ (∀ s : State, RegsOk s → s.power.trans = [{ d := 78, on := true }] → (∀ e, e < 80 → e ≠ 78 → domainTarget s e = s.domainOn e) →
    domainTarget s 78 = true →
    Does (.domainTransitionDone 78) s [.power, .thresh, .fault, .out, .porch]
      (([.DOMAIN_STAT_HI_ON, .DOMAIN_STAT_HI_BUSY, .DOMAIN_EVENTS_DONE, .CELLAR_STAT_INSTALLED_GIB, .CELLAR_STAT_SPEED, .CELLAR_STAT_TRAINED,
        .CELLAR_STAT_SELF_REFRESH, .CELLAR_STAT_USABLE_MIB, .DEV_FAULT_LEVEL, .DEV_FAULT_CAUSE_BLOCK, .DEV_FAULT_CAUSE_CLASS] : List Fld)
        ++ blkFlds .FAULTG ++ intRegs)
      fun t => t.domainOn 78 = true ∧ t.flag .CELLAR_STAT_TRAINED = true ∧ t.flag .CELLAR_STAT_SELF_REFRESH = false
        ∧ t.get .CELLAR_STAT_INSTALLED_GIB = Config.cellarGib.toNat ∧ t.thresh.keys = [] ∧ t.thresh.ranks = [])

/-! ## The Stair chain (R389 to R394) -/

/-- A frame addressed to this device and below L2 (R392). -/
def Obligations.StairFramesAddressedHereAreAnswered : Prop :=
  ∀ (f : StairFrame) (s : State), f.crcErr % 65536 = 0 → f.step ≠ 0 → s.flag .STAIR_STAT_VALID = true → s.get .STAIR_STAT_STEP = f.step →
    s.level 1 < 2 →
    (∀ (addr : Nat) (w : Word) (s1 : State), s.power.inReset = false → spaceRead .stair (stairAccess addr) s = (some w, s1) →
      exec (.stairRead f addr) s = .next (emit (.stairUp (stairFrame 9 f.tag f.step (wordsBytes [w]))) s1))
    ∧ (∀ (addr : Nat) (w : Word), s.power.inReset = false →
      exec (.stairWrite f addr w) s
        = .next (emit (.stairUp (stairFrame 8 f.tag f.step [])) (spaceWrite .stair (stairAccess addr) w s)))
    ∧ (∃ t, exec (.stairReset f 0 0x42) s = .next t ∧ DeviceReset 2 s t ∧ t.out = .stairUp (stairFrame 8 f.tag f.step []) :: s.out)
    ∧ (∀ sc k : Nat, k % 256 ≠ 0x42 → Does (.stairReset f sc k) s [.out] []
        fun t => t.out = .stairUp (stairFrame 0xA f.tag f.step [6]) :: s.out)
    ∧ (∀ (ty : Nat) (pl : List Nat), s.power.inReset = false → Does (.stairBadType f ty pl) s [.out] []
        fun t => t.out = .stairUp (stairFrame 0xA f.tag f.step [5]) :: s.out)
    ∧ (∀ (addr : Nat) (w : Word), s.power.inReset = true →
        Does (.stairRead f addr) s [.out] [] (fun t => t.out = .stairUp (stairFrame 0xA f.tag f.step [1]) :: s.out)
        ∧ Does (.stairWrite f addr w) s [.out] [] (fun t => t.out = .stairUp (stairFrame 0xA f.tag f.step [1]) :: s.out))

/-- Stair frames for other devices go on down the chain as they came, and at the chain end are answered NO_STEP (R392); a broadcast READ is executed by no device
and answered BROADCAST_READ by the chain end (R393); an ENUM whose CRC fails is discarded with its fault; a frame from below goes up as it came; locks
and the chain end show in STAIR_STAT, and a lost upstream lock resets the chain's master ID (R389, R425). -/
def Obligations.StairFramesPassAndLocksShow : Prop :=
  (∀ (f : StairFrame) (s : State) (addr sc k ty : Nat) (w : Word) (pl : List Nat), f.step ≠ 0 →
    s.flag .STAIR_STAT_VALID = false ∨ s.get .STAIR_STAT_STEP ≠ f.step →
    (s.flag .STAIR_STAT_CHAIN_END = false →
      Does (.stairRead f addr) s [.out] [] (fun t => t.out = .stairDown (repeated 2 f f.step (addrBytes addr)) :: s.out)
      ∧ Does (.stairWrite f addr w) s [.out] [] (fun t => t.out = .stairDown (repeated 3 f f.step (addrBytes addr ++ wordsBytes [w])) :: s.out)
      ∧ Does (.stairReset f sc k) s [.out] [] (fun t => t.out = .stairDown (repeated 4 f f.step [sc % 256, k % 256]) :: s.out)
      ∧ Does (.stairBadType f ty pl) s [.out] [] (fun t => t.out = .stairDown (repeated ty f f.step pl) :: s.out))
    ∧ (s.flag .STAIR_STAT_CHAIN_END = true → s.flag .STAIR_STAT_VALID = true → f.crcErr % 65536 = 0 → s.level 1 < 2 →
      Does (.stairRead f addr) s [.out] [] (fun t => t.out = .stairUp (stairFrame 0xA f.tag f.step [2]) :: s.out)
      ∧ Does (.stairWrite f addr w) s [.out] [] (fun t => t.out = .stairUp (stairFrame 0xA f.tag f.step [2]) :: s.out)))
  ∧ (∀ (f : StairFrame) (addr : Nat) (s : State), f.step = 0 →
    (s.flag .STAIR_STAT_CHAIN_END = false →
      Does (.stairRead f addr) s [.out] [] fun t => t.out = .stairDown (repeated 2 f 0 (addrBytes addr)) :: s.out)
    ∧ (s.flag .STAIR_STAT_CHAIN_END = true → s.flag .STAIR_STAT_VALID = true → f.crcErr % 65536 = 0 → s.level 1 < 2 →
      Does (.stairRead f addr) s [.out] [] fun t => t.out = .stairUp (stairFrame 0xA f.tag 0 [3]) :: s.out))
  ∧ (∀ (f : StairFrame) (s : State), f.crcErr % 65536 ≠ 0 →
    Does (.stairEnum f) s blockFaultParts (.STAIR_EVENTS_FRAME_FAIL :: blockFaultRegs)
      fun t => t.flag .STAIR_EVENTS_FRAME_FAIL = true ∧ t.get .FAULT_STAT_LAST_CLASS 1 = 25
        ∧ t.get .STAIR_STAT_STEP = s.get .STAIR_STAT_STEP)
  ∧ (∀ (bytes : List Nat) (s : State), Does (.stairUpstreamFrame bytes) s [.out] [] fun t => t.out = .stairUp bytes :: s.out)
  ∧ (∀ s : State, Does .chainEndDetect s [] [.STAIR_STAT_CHAIN_END, .STAIR_STAT_LOCK_DOWN]
      fun t => t.flag .STAIR_STAT_CHAIN_END = true ∧ t.flag .STAIR_STAT_LOCK_DOWN = false)
  ∧ (∀ s : State, Does .stairLockLoss s masterParts (.STAIR_STAT_LOCK_UP :: masterRegs)
      fun t => t.flag .STAIR_STAT_LOCK_UP = false ∧ t.stair.queue = [] ∧ (∀ k, (t.latchOf k).owner ≠ some 4)
        ∧ (s.session.owner = some 4 → abortable s = true → t.session = {} ∧ t.get .FPLAN_STAT_STATE = 6))
  ∧ (∀ s : State, Does (.stairCommaLock true) s [] [.STAIR_STAT_LOCK_DOWN, .STAIR_STAT_CHAIN_END]
      fun t => t.flag .STAIR_STAT_LOCK_DOWN = true ∧ t.flag .STAIR_STAT_CHAIN_END = false)
  ∧ (∀ s : State, Does (.stairCommaLock false) s [] [.STAIR_STAT_LOCK_UP] fun t => t.flag .STAIR_STAT_LOCK_UP = true)

/-- ENUM (R391), whatever address the device holds: one that carries a STEP from 1 to 63 gives the device that address and goes on with STEP + 1,
or is answered ENUM_END at the chain end; one with STEP 64 or above gives none, sets OVERFLOW, is answered CHAIN_LONG and goes no further; one with
STEP 0 takes the address away and goes on unchanged, or is answered ENUM_END with STEP 0. -/
def Obligations.StairEnumGivesAddresses : Prop :=
  (∀ (f : StairFrame) (s : State), f.crcErr % 65536 = 0 → 1 ≤ f.step → f.step < 64 →
    Does (.stairEnum f) s [.out, .porch] (([.STAIR_STAT_VALID, .STAIR_STAT_STEP, .STAIR_EVENTS_ENUM_SEEN] : List Fld) ++ intRegs)
      fun t => t.flag .STAIR_STAT_VALID = true ∧ t.get .STAIR_STAT_STEP = f.step ∧ t.flag .STAIR_EVENTS_ENUM_SEEN = true
        ∧ (s.flag .STAIR_STAT_CHAIN_END = false → t.out.head? = some (.stairDown (repeated 1 { f with step := f.step + 1 } (f.step + 1) [])))
        ∧ (s.flag .STAIR_STAT_CHAIN_END = true → t.out.head? = some (.stairUp (stairFrame 0xB f.tag f.step []))))
  ∧ (∀ (f : StairFrame) (s : State), f.crcErr % 65536 = 0 → 64 ≤ f.step →
    Does (.stairEnum f) s [.out] [.STAIR_STAT_OVERFLOW]
      fun t => t.get .STAIR_STAT_OVERFLOW = 1 ∧ t.out = .stairUp (stairFrame 0xA f.tag f.step [4]) :: s.out)
  ∧ (∀ (f : StairFrame) (s : State), f.crcErr % 65536 = 0 → f.step = 0 →
    Does (.stairEnum f) s [.out] [.STAIR_STAT_VALID, .STAIR_STAT_STEP]
      fun t => t.flag .STAIR_STAT_VALID = false
        ∧ (s.flag .STAIR_STAT_CHAIN_END = false → t.out = .stairDown (repeated 1 f 0 []) :: s.out)
        ∧ (s.flag .STAIR_STAT_CHAIN_END = true → t.out = .stairUp (stairFrame 0xB f.tag 0 []) :: s.out))

/-! ## The Floor Plan (R34 to R50) -/

/-- FPLAN_CTRL and FPLAN_DATA (R42, R43): OPEN begins a session and clears what the last one left; its owner's words are appended to the
staging store up to the length its header names, COMMIT begins verification under the options in force, ABORT and 100 ms without a write end it ABORTED;
writes of another master are ignored with FOREIGN_WRITE. -/
def Obligations.PlanSessionsLoad : Prop :=
  (∀ (m : Master) (kind : Nat) (s : State), May s m .FPLAN_CTRL_OPEN → sessionOpen s = false → openAccepted s = true →
    Does (.fplanOpen m kind) s [.session, .fault]
      (([.FPLAN_CTRL_KIND, .FPLAN_STAT_STATE, .FPLAN_STAT_OWNER, .FPLAN_STAT_WORDS, .FPLAN_STAT_REJECT, .FPLAN_STAT_BAD_TYPE,
        .FPLAN_STAT_BAD_WORD] : List Fld) ++ mendRegs)
      fun t => t.get .FPLAN_STAT_STATE = 1 ∧ t.get .FPLAN_STAT_OWNER = ownerCode m ∧ t.get .FPLAN_STAT_WORDS = 0
        ∧ t.get .FPLAN_STAT_REJECT = 0 ∧ t.get .FPLAN_STAT_BAD_WORD = 0 ∧ t.get .FPLAN_CTRL_KIND = kind % 2
        ∧ t.session = { kind := kind % 2, lastNs := s.now, owner := some (masterId m) })
  ∧ (∀ (m : Master) (w : Word) (s : State), May s m .FPLAN_DATA_WORD → s.get .FPLAN_STAT_STATE = 1 → s.session.owner = some (masterId m) →
    s.get .FPLAN_STAT_WORDS < 131072 → s.get .FPLAN_STAT_WORDS < 2 ∨ s.get .FPLAN_STAT_WORDS < hLength s.session.words →
    Does (.fplanDataWrite m w) s [.session, .fault] (([.FPLAN_STAT_WORDS] : List Fld) ++ mendRegs)
      fun t => t.get .FPLAN_STAT_WORDS = s.get .FPLAN_STAT_WORDS + 1
        ∧ t.session = { s.session with words := s.session.words ++ [w], lastNs := s.now })
  ∧ (∀ (m : Master) (w : Word) (s : State), May s m .FPLAN_DATA_WORD → s.get .FPLAN_STAT_STATE = 1 → s.session.owner = some (masterId m) →
    131072 ≤ s.get .FPLAN_STAT_WORDS ∨ (2 ≤ s.get .FPLAN_STAT_WORDS ∧ hLength s.session.words ≤ s.get .FPLAN_STAT_WORDS) →
    Does (.fplanDataWrite m w) s [.session, .count, .fault, .out, .porch]
      (([.FPLAN_STAT_STATE, .FPLAN_STAT_REJECT, .FPLAN_STAT_BAD_TYPE, .FPLAN_STAT_BAD_WORD, .FPLAN_EVENTS_REJECTED] : List Fld) ++ countRegs ++ mendRegs)
      fun t => t.get .FPLAN_STAT_STATE = 6 ∧ t.get .FPLAN_STAT_REJECT = 18 ∧ t.flag .FPLAN_EVENTS_REJECTED = true ∧ t.session = {})
  ∧ (∀ (m : Master) (s : State), May s m .FPLAN_CTRL_COMMIT → s.get .FPLAN_STAT_STATE = 1 → s.session.owner = some (masterId m) →
    Does (.fplanCommit m) s [.session, .fault] (([.FPLAN_STAT_STATE] : List Fld) ++ mendRegs)
      fun t => t.get .FPLAN_STAT_STATE = 2 ∧ t.session = { s.session with shadow := shadowWords s })
  ∧ (∀ (m : Master) (s : State), May s m .FPLAN_CTRL_ABORT → abortable s = true → s.session.owner = some (masterId m) →
    Does (.fplanAbort m) s [.session, .count, .fault, .out, .porch]
      (([.FPLAN_STAT_STATE, .FPLAN_STAT_REJECT, .FPLAN_STAT_BAD_TYPE, .FPLAN_STAT_BAD_WORD, .FPLAN_EVENTS_REJECTED] : List Fld) ++ countRegs ++ mendRegs)
      fun t => t.get .FPLAN_STAT_STATE = 6 ∧ t.get .FPLAN_STAT_REJECT = 18 ∧ t.flag .FPLAN_EVENTS_REJECTED = true ∧ t.session = {})
  ∧ (∀ s : State, s.get .FPLAN_STAT_STATE = 1 → Due s (s.session.lastNs + 100000000) →
    Does .fplanSessionTimeout s [.session, .count, .out, .porch]
      (([.FPLAN_STAT_STATE, .FPLAN_STAT_REJECT, .FPLAN_STAT_BAD_TYPE, .FPLAN_STAT_BAD_WORD, .FPLAN_EVENTS_REJECTED] : List Fld) ++ countRegs)
      fun t => t.get .FPLAN_STAT_STATE = 6 ∧ t.get .FPLAN_STAT_REJECT = 18 ∧ t.session = {})
  ∧ (∀ (c : Instr) (m : Master) (f : Fld) (s : State),
      (∃ k, c = .fplanOpen m k ∧ f = .FPLAN_CTRL_OPEN) ∨ (∃ w, c = .fplanDataWrite m w ∧ f = .FPLAN_DATA_WORD)
        ∨ (c = .fplanCommit m ∧ f = .FPLAN_CTRL_COMMIT) ∨ (c = .fplanAbort m ∧ f = .FPLAN_CTRL_ABORT) →
      May s m f → foreign m s = true →
      Does c s [.count, .fault, .out, .porch] (([.FPLAN_EVENTS_FOREIGN_WRITE] : List Fld) ++ countRegs ++ mendRegs)
        fun t => t.flag .FPLAN_EVENTS_FOREIGN_WRITE = true)

/-- The end of verification: the first failed check ends the session REJECTED with its cause and place; a plan that passes waits for its time or is
applied (R45, R47). A full plan installs its identity, its NODE section, its routes and the rest and brings the ports up; a partial plan first
meets its live conditions, and else is rejected with the installed plan as it was (R44, R47, R48). -/
def Obligations.PlansAreVerifiedAndApplied : Prop :=
  (∀ (b : Bad) (s : State), s.get .FPLAN_STAT_STATE = 2 → verifyPlan s = .inl b →
    Does .planVerifyDone s [.session, .count, .out, .porch]
      (([.FPLAN_STAT_STATE, .FPLAN_STAT_REJECT, .FPLAN_STAT_BAD_TYPE, .FPLAN_STAT_BAD_WORD, .FPLAN_EVENTS_REJECTED] : List Fld) ++ countRegs)
      fun t => t.get .FPLAN_STAT_STATE = 6 ∧ t.get .FPLAN_STAT_REJECT = b.cause % 256 ∧ t.get .FPLAN_STAT_BAD_TYPE = b.ty % 16
        ∧ t.get .FPLAN_STAT_BAD_WORD = b.word % 2 ^ 24 ∧ t.flag .FPLAN_EVENTS_REJECTED = true ∧ t.session = {})
  ∧ (∀ (secs : List PlanSec) (s : State), s.get .FPLAN_STAT_STATE = 2 → checkHeader s.session.kind s.session.words = none →
    checkSections (hKind s.session.words == 0) s.session.words (hSections s.session.words) 0 0 8 (startCtx (hKind s.session.words == 0) s) = .inr secs →
    checkInstalled s.session.words secs s = none →
    Does .planVerifyDone s [.session, .count, .out, .porch]
      (([.FPLAN_STAT_STATE, .FPLAN_STAT_REJECT, .FPLAN_STAT_BAD_TYPE, .FPLAN_STAT_BAD_WORD, .FPLAN_EVENTS_REJECTED] : List Fld) ++ countRegs)
      fun t => (∀ b, checkTrust s.session.shadow s.session.words = some b →
          t.get .FPLAN_STAT_STATE = 6 ∧ t.get .FPLAN_STAT_REJECT = b.cause % 256 ∧ t.session = {})
        ∧ (checkTrust s.session.shadow s.session.words = none → Keeps [] s t ∧ OnlyRegs [.FPLAN_STAT_STATE] s t
          ∧ (t.get .FPLAN_STAT_STATE = 3 ↔ s.session.kind = 1 ∧ s.netNs ≤ hActivate s.session.words ∧ hActivate s.session.words ≠ 0)
          ∧ (t.get .FPLAN_STAT_STATE = 3 ∨ t.get .FPLAN_STAT_STATE = 4)))
  ∧ (∀ (secs : List PlanSec) (s : State), s.get .FPLAN_STAT_STATE = 2 → verifyPlan s = .inr secs →
    Does .planVerifyDone s [] [.FPLAN_STAT_STATE]
      fun t => (s.session.kind = 1 → s.netNs ≤ hActivate s.session.words → hActivate s.session.words ≠ 0 → t.get .FPLAN_STAT_STATE = 3)
        ∧ (s.session.kind ≠ 1 ∨ hActivate s.session.words < s.netNs ∨ hActivate s.session.words = 0 → t.get .FPLAN_STAT_STATE = 4))
  ∧ (∀ s : State, s.get .FPLAN_STAT_STATE = 4 → s.session.kind = 0 →
    Does .fullPlanApplyDone s (.line :: planParts)
      (([.BOOT_STAT_OPT_BAD, .BOOT_STAT_PHASE, .FPLAN_ID_PLAN_ID, .FPLAN_SERIAL_SERIAL, .OPT_STAT_ACTIVE, .OPT_STAT_BAD, .OPT_STAT_GEN] : List Fld)
        ++ planRegs)
      fun t => t.get .FPLAN_STAT_STATE = 5 ∧ t.flag .FPLAN_EVENTS_DONE = true ∧ t.session = {} ∧ t.plan.installed = true
        ∧ t.get .FPLAN_ID_PLAN_ID = hPlanId s.session.words ∧ t.get .FPLAN_SERIAL_SERIAL = hSerial s.session.words
        ∧ t.get .FPLAN_SERIAL_PARTIALS = 0 ∧ t.get .BOOT_STAT_PHASE = 6 ∧ t.flag .SLUICE_MODE_SERVICE = false
        ∧ (hKind s.session.words = 0 → ∀ n, sectionNode (sessionSections s) = some n → t.own = n ∧ t.flag .NODE_ID_VALID = true)
        ∧ (hKind s.session.words = 0 → ∀ sec ∈ sessionSections s, ∀ x ∈ sec.entries.zipIdx,
            (sec.ty = 4 → t.get .PORT_MAP_RD_ENTRY (sec.first + x.2) = wf_ x.1.2 0 0 8)
            ∧ (sec.ty = 5 → t.get .ESCAPE_RD_ENTRY (sec.first + x.2) = wf_ x.1.2 0 0 8)
            ∧ (sec.ty = 6 → t.get .DETOUR_RD_ENTRY (sec.first + x.2) = wf_ x.1.2 0 0 16)))
  ∧ (∀ s : State, s.get .FPLAN_STAT_STATE = 4 → s.session.kind = 1 → checkLive s (sessionSections s) = none →
    Does .planActivate s planParts (([.FPLAN_EVENTS_LATE, .SLUICE_EVENTS_SCHEDULED, .SLUICE_EVENTS_SCHEDULE_REFUSED] : List Fld) ++ planRegs)
      fun t => t.get .FPLAN_STAT_STATE = 5 ∧ t.flag .FPLAN_EVENTS_DONE = true ∧ t.session = {} ∧ t.plan.installed = s.plan.installed
        ∧ t.get .FPLAN_SERIAL_PARTIALS = min 65535 (s.get .FPLAN_SERIAL_PARTIALS + 1)
        ∧ (hActivate s.session.words ≠ 0 → t.flag .FPLAN_EVENTS_LATE = true))
  ∧ (∀ (s s1 : State), s.get .FPLAN_STAT_STATE = 3 → hActivate s.session.words ≤ s.netNs → s1 = s.set .FPLAN_STAT_STATE 4 →
    checkLive s1 (sessionSections s1) = none →
    Does .planActivate s planParts (([.SLUICE_EVENTS_SCHEDULED, .SLUICE_EVENTS_SCHEDULE_REFUSED] : List Fld) ++ planRegs)
      fun t => t.get .FPLAN_STAT_STATE = 5 ∧ t.flag .FPLAN_EVENTS_DONE = true ∧ t.session = {} ∧ t.plan.installed = s.plan.installed
        ∧ t.get .FPLAN_SERIAL_PARTIALS = min 65535 (s.get .FPLAN_SERIAL_PARTIALS + 1))
  ∧ (∀ s : State, s.get .FPLAN_STAT_STATE = 3 → s.netNs < hActivate s.session.words → Nothing .planActivate s)
  ∧ (∀ (b : Bad) (s : State), s.get .FPLAN_STAT_STATE = 4 → s.session.kind = 1 → checkLive s (sessionSections s) = some b →
    Does .planActivate s [.session, .count, .out, .porch]
      (([.FPLAN_STAT_STATE, .FPLAN_STAT_REJECT, .FPLAN_STAT_BAD_TYPE, .FPLAN_STAT_BAD_WORD, .FPLAN_EVENTS_REJECTED] : List Fld) ++ countRegs)
      fun t => t.get .FPLAN_STAT_STATE = 6 ∧ t.get .FPLAN_STAT_REJECT = b.cause % 256 ∧ t.session = {})

/-! ## Counters read consistently (R432 to R437) -/

/-- Dumps and snapshots freeze all counters at one instant: a dump period copies them and begins a record, or skips when no record is
free (R433, R434); an armed snapshot freezes them at its time, or at once when armed too late (R435); a record is written with its
sequence number and the ring goes on (R433, R436). -/
def Obligations.DumpsAndSnapshotsFreeze : Prop :=
  (∀ s : State, Due s s.count.dumpAt → dumpsRun s = true → recordFree s = true → s.count.writing = none →
    Does .dumpPeriod s [.count] [.COUNT_STAT_DUMP_BUSY]
      fun t => t.count.bankD = s.count.ctr ∧ t.count.hdrD = some (freezeHdr s false 0) ∧ t.count.ctr = s.count.ctr
        ∧ t.count.writing = some false ∧ t.count.dumpAt = s.now + s.get .DUMP_CFG_PERIOD_US * 1000 ∧ t.get .COUNT_STAT_DUMP_BUSY = 1)
  ∧ (∀ s : State, Due s s.count.dumpAt → dumpsRun s = true → recordFree s = false ∨ s.count.writing.isSome = true →
    Does .dumpPeriod s [.count, .out, .porch] (.COUNT_EVENTS_DUMP_SKIPPED :: countRegs)
      fun t => t.flag .COUNT_EVENTS_DUMP_SKIPPED = true ∧ t.count.skipped = (s.count.skipped + 1) % 2 ^ 32 ∧ t.count.bankD = s.count.bankD)
  ∧ (∀ (f : FreezeHdr) (s : State), s.count.writing = some false → s.count.hdrD = some f →
    Does .dumpRecordDone s [.count, .out] [.COUNT_STAT_DUMP_BUSY]
      fun t => t.count = { s.count with writing := none, dumpSeq := (s.count.dumpSeq + 1) % 2 ^ 32, skipped := 0 }
        ∧ t.get .COUNT_STAT_DUMP_BUSY = 0
        ∧ t.out.head? = some (.hostWrite (s.get .DUMP_CFG_HPORT)
            (s.get .DUMP_BASE_BASE * 4096 + s.count.dumpSeq % 2 ^ s.get .DUMP_CFG_LOG2 * recordBytes)
            [wd (at_ (phaseOf s.count.dumpSeq (2 ^ s.get .DUMP_CFG_LOG2)) 63 1)])
        ∧ t.out.tail.tail = s.out)
  ∧ (∀ (f : FreezeHdr) (s : State), s.count.writing = some true → s.count.hdrS = some f →
    Does .dumpRecordDone s [.count, .out, .porch]
      (([.COUNT_STAT_DUMP_BUSY, .COUNT_STAT_SNAP_PENDING, .COUNT_EVENTS_SNAP_DONE] : List Fld) ++ intRegs)
      fun t => t.flag .COUNT_EVENTS_SNAP_DONE = true ∧ t.flag .COUNT_STAT_SNAP_PENDING = false ∧ t.count.writing = none
        ∧ t.count.dumpSeq = (s.count.dumpSeq + 1) % 2 ^ 32 ∧ t.count.hdrS = some { f with seq := s.count.dumpSeq })
  ∧ (∀ (m : Master) (s : State), May s m .SNAP_CTRL_ARM → s.netNs ≤ s.get .SNAP_AT_NS →
    Does (.snapArm m) s [.count, .fault] (([.COUNT_STAT_SNAP_ARMED] : List Fld) ++ mendRegs)
      fun t => t.flag .COUNT_STAT_SNAP_ARMED = true ∧ t.count = { s.count with armed := true, armAt := s.get .SNAP_AT_NS, jumped := false })
  ∧ (∀ (m : Master) (s : State), May s m .SNAP_CTRL_ARM → s.get .SNAP_AT_NS < s.netNs → s.flag .COUNT_MODE_METHOD = true →
    s.domainOn 79 = true → s.level 12 < 2 → s.flag .COUNT_STAT_SNAP_PENDING = false →
    Does (.snapArm m) s [.count, .fault, .out, .porch]
      (([.COUNT_STAT_SNAP_ARMED, .COUNT_STAT_SNAP_PENDING, .COUNT_EVENTS_SNAP_LATE] : List Fld) ++ countRegs ++ mendRegs)
      fun t => t.flag .COUNT_STAT_SNAP_ARMED = false ∧ t.flag .COUNT_STAT_SNAP_PENDING = true ∧ t.flag .COUNT_EVENTS_SNAP_LATE = true
        ∧ t.count.bankS = s.count.ctr)
  ∧ (∀ (m : Master) (s : State), May s m .SNAP_CTRL_DISARM →
    Does (.snapDisarm m) s [.count, .fault] (([.COUNT_STAT_SNAP_ARMED] : List Fld) ++ mendRegs)
      fun t => t.flag .COUNT_STAT_SNAP_ARMED = false ∧ t.count = { s.count with armed := false, jumped := false })
  ∧ (∀ s : State, s.count.armed = true → s.count.armAt ≤ s.netNs → s.flag .COUNT_MODE_METHOD = true → s.domainOn 79 = true →
    s.level 12 < 2 → s.flag .COUNT_STAT_SNAP_PENDING = false →
    Does .snapshotFire s [.count, .out, .porch] (([.COUNT_STAT_SNAP_ARMED, .COUNT_STAT_SNAP_PENDING, .COUNT_EVENTS_SNAP_LATE] : List Fld) ++ countRegs)
      fun t => t.count.bankS = s.count.ctr ∧ t.count.hdrS = some (freezeHdr s s.count.jumped s.count.armAt) ∧ t.count.armed = false
        ∧ t.flag .COUNT_STAT_SNAP_PENDING = true)
  ∧ (∀ s : State, s.count.armed = true → s.count.armAt ≤ s.netNs → s.flag .COUNT_MODE_METHOD = false →
    Does .snapshotFire s [.count, .out, .porch] (([.COUNT_STAT_SNAP_ARMED, .COUNT_EVENTS_SNAP_MISSED] : List Fld) ++ countRegs)
      fun t => t.flag .COUNT_EVENTS_SNAP_MISSED = true ∧ t.count.armed = false ∧ t.count.bankS = s.count.bankS)
  ∧ (∀ s : State, s.flag .COUNT_STAT_SNAP_PENDING = true → s.count.writing = none → recordFree s = true → engineRuns s = true →
    Does .snapRecordWrite s [.count] [.COUNT_STAT_DUMP_BUSY]
      fun t => t.count = { s.count with writing := some true } ∧ t.get .COUNT_STAT_DUMP_BUSY = 1)

/-! ## Faults (R346 to R361) -/

/-- A queue whose pointers disagree loses its entries and raises QUEUE_RESET in its owner; memory errors raise the classes of Table 14.3;
a failed DDR5 link leaves the Cellar untrained; what Table 1.5 names of the lost entries is gone (R23, R348). -/
def Obligations.DetectedErrorsRaiseFaults : Prop :=
  (∀ (q : QueueId) (s : State), queueExists q = true → (∀ i, q ≠ .cellarClient i) →
    Does (.queuePtrMismatch q) s loseParts loseRegs
      fun t => Raised (queueOwner q).1 3 s t
        ∧ (q = .threshSluice → t.thresh.admitQ = [])
        ∧ (q = .delivery → ∀ d ∈ t.porch.deliveries, ofCrystal s d = false)
        ∧ (q = .threshPorch → ∀ d ∈ t.porch.deliveries, ofCrystal s d = true)
        ∧ (q = .threshCrystal → ∀ o ∈ t.crystal.input, ∃ r posted, o = .remove r posted)
        ∧ (∀ p, q = .landing p → (t.port p).landing = [] ∧ ∀ h ∈ t.hall.waiting, h.inLanding = false ∨ h.input ≠ p)
        ∧ (∀ p v, q = .hallTx p v → ∀ c ∈ (t.port p).htq, c.cell.vc ≠ v)
        ∧ (∀ h, q = .fetch h → (t.porch.fetchQ.filter (fun it => (s.room it.room).hport == h)).length ≤ porchThreshWork)
        ∧ (∀ h, q = .porchThresh h → (t.porch.fetchQ.filter (fun it => (s.room it.room).hport == h)).length
            ≤ (s.porch.fetchQ.filter (fun it => (s.room it.room).hport == h)).length - porchThreshWork))
  ∧ (∀ (i : Nat) (s : State), Does (.queuePtrMismatch (.cellarClient i)) s loseParts loseRegs
      fun t => t.get .FAULT_STAT_LAST_CLASS 10 = 3 ∧ (t.get .FAULT_UNACK_UNACK 10).testBit 2 = true)
  ∧ (∀ (a : ArrayAt) (s : State), classOf a.block 20 = true →
    Does (.sramEccError a true) s anyFaultParts anyFaultRegs (Raised a.block 20 s))
  ∧ (∀ (a : ArrayAt) (s : State), classOf a.block 20 = true →
    Does (.sramEccError a false) s loseParts loseRegs
      fun t => t.get .FAULT_STAT_LAST_CLASS a.block = 21 ∧ (t.get .FAULT_UNACK_UNACK a.block).testBit 20 = true)
  ∧ (∀ s : State, Does (.ddrEccError true) s blockFaultParts blockFaultRegs (Raised 10 16 s))
  ∧ (∀ s : State, Does (.ddrEccError false) s (.crystal :: blockFaultParts) blockFaultRegs
      fun t => Raised 10 17 s t ∧ t.crystal = { s.crystal with ueNext := true })
  ∧ (∀ s : State, Does .ddrLinkFail s blockFaultParts (.CELLAR_STAT_TRAINED :: blockFaultRegs)
      fun t => Raised 10 18 s t ∧ t.flag .CELLAR_STAT_TRAINED = false)

/-- Software's side of a block's fault group: a quiet period returns a block at L1 or L2 to L0 and counts the recovery, a sticky one waits
a period more (R350, R351); acknowledged classes clear (R351); an injected class is detected as its own (R349); a parity mismatch
stands until its register is written (R358), and one in the fault registers contains the block (R359). -/
def Obligations.FaultGroupsFollowTheirRules : Prop :=
  (∀ (b at1 : Nat) (s : State), Tab.find? s.fault.quietAt b = some at1 → Due s at1 → s.flag .FAULT_STAT_STICKY b = false →
    s.level b = 1 ∨ s.level b = 2 → s.flag .FAULT_STAT_PARITY_STANDING b = false → b ∉ s.fault.l3 →
    Does (.quietTimerExpiry b) s [.fault, .out, .porch]
      (([.FAULT_STAT_LEVEL, .FAULT_STAT_FIRST_CLASS, .FAULT_STAT_STICKY, .FAULT_UNACK_UNACK, .RECOVERY_COUNT_COUNT, .FAULT_EVENTS_RECOVERED,
        .DEV_FAULT_LEVEL, .DEV_FAULT_CAUSE_BLOCK, .DEV_FAULT_CAUSE_CLASS] : List Fld) ++ intRegs)
      fun t => t.level b = 0 ∧ t.get .FAULT_UNACK_UNACK b = 0 ∧ t.get .FAULT_STAT_FIRST_CLASS b = 0
        ∧ t.flag .FAULT_EVENTS_RECOVERED b = true
        ∧ t.get .RECOVERY_COUNT_COUNT b = min (s.get .RECOVERY_COUNT_COUNT b + 1) 0xFFFFFFFF
        ∧ (∀ c, c ≠ b → t.level c = s.level c ∧ t.get .FAULT_UNACK_UNACK c = s.get .FAULT_UNACK_UNACK c)
        ∧ Tab.find? t.fault.quietAt b = none)
  ∧ (∀ (b at1 : Nat) (s : State), Tab.find? s.fault.quietAt b = some at1 → Due s at1 → s.flag .FAULT_STAT_STICKY b = true →
    Does (.quietTimerExpiry b) s [.fault] [.FAULT_STAT_STICKY, .FAULT_UNACK_UNACK]
      fun t => t.get .FAULT_UNACK_UNACK b = 0 ∧ t.flag .FAULT_STAT_STICKY b = false
        ∧ Tab.find? t.fault.quietAt b = some (s.now + s.get .FAULT_CFG_QUIET_MS b * 1000000))
  ∧ (∀ (m : Master) (b mask : Nat) (s : State), RegsOk s → b ∈ blockIds → May s m .FAULT_ACK_ACK → mask < 2 ^ 64 →
    Does (.faultAckWrite m b mask) s [.fault] (([.FAULT_UNACK_UNACK, .FAULT_STAT_STICKY] : List Fld) ++ mendRegs)
      fun t => (∀ c, 1 ≤ c → c < 64 → (t.get .FAULT_UNACK_UNACK b).testBit (c - 1)
            = ((s.get .FAULT_UNACK_UNACK b).testBit (c - 1) && !mask.testBit c))
        ∧ (t.get .FAULT_UNACK_UNACK b = 0 → t.flag .FAULT_STAT_STICKY b = false)
        ∧ ∀ c, c ≠ b → t.get .FAULT_UNACK_UNACK c = s.get .FAULT_UNACK_UNACK c)
  ∧ (∀ (m : Master) (b cls : Nat) (s : State), b ∈ blockIds → May s m .FAULT_INJECT_GO → May s m .FAULT_INJECT_CLASS → cls < 64 → classOf b cls = true →
    Does (.faultInject m b cls) s anyFaultParts (([.FAULT_INJECT_CLASS] : List Fld) ++ anyFaultRegs ++ mendRegs)
      fun t => Raised b cls s t ∧ t.get .FAULT_INJECT_CLASS b = cls)
  ∧ (∀ (m : Master) (b cls : Nat) (s : State), b ∈ blockIds → May s m .FAULT_INJECT_GO → May s m .FAULT_INJECT_CLASS → cls < 64 → classOf b cls = false →
    Does (.faultInject m b cls) s [.fault] (([.FAULT_INJECT_CLASS] : List Fld) ++ mendRegs) fun t => t.get .FAULT_INJECT_CLASS b = cls)
  ∧ (∀ (site : ParitySite) (s : State), siteBlock site ∈ blockIds → s.fault.standing.any (sameSite site) = false →
    Does (.cfgParityMismatch site) s anyFaultParts (anyFaultRegs ++ mendRegs)
      fun t => Raised (siteBlock site) 1 s t ∧ t.fault.standing = s.fault.standing ++ [site]
        ∧ t.flag .FAULT_STAT_PARITY_STANDING (siteBlock site) = true)
  ∧ (∀ (b : Nat) (s : State), b ∈ blockIds →
    Does (.faultRegParityMismatch b) s anyFaultParts anyFaultRegs
      fun t => t.get .FAULT_STAT_LAST_CLASS b = 2 ∧ b ∈ t.fault.l3 ∧ t.level b ≤ (if ceilingL2 b then 2 else 3)
        ∧ (Tab.get t.fault.hist b []).length = 8)

/-- The host-side reset empties what the host side holds and leaves keys and rank tables (R356); its last step returns the host-side
blocks to L0, and the device with them; L4_HOLD stops the countdown to the reset of L4 (R357). -/
def Obligations.HostSideResetAndHold : Prop :=
  (∀ (m : Master) (s : State), May s m .DEV_FAULT_CTRL_HOST_RESET → s.flag .DEV_FAULT_HOST_RESET_BUSY = false → s.devLevel < 4 →
    Does (.hostReset m) s [.count, .crystal, .fault, .hall, .out, .porch, .rake, .sluice, .thresh]
      (([.COUNT_STAT_DUMP_BUSY, .COUNT_STAT_SNAP_PENDING, .DEV_FAULT_HOST_RESET_BUSY, .KEY_CMD_STAT_BUSY, .KEY_CMD_STAT_RESULT,
        .PORCH_EVENTS_CMD_DONE, .RAKE_STAT_CTX_FREE, .RAKE_STAT_CTX_TOTAL, .RAKE_STAT_WINDOW_LOG2, .ROOM_CMD_STAT_BUSY,
        .ROOM_CMD_STAT_RESULT, .TREE_ENTRY_ABORTED_SEQ, .TREE_ENTRY_ABORTED_VALID, .TREE_ENTRY_NEXT_SEQ, .TREE_ENTRY_STATE,
        .TREE_ENTRY_WINDOW_LOG2] : List Fld) ++ countRegs ++ mendRegs)
      fun t => t.flag .DEV_FAULT_HOST_RESET_BUSY = true ∧ t.thresh.flows = [] ∧ t.thresh.ops = [] ∧ t.crystal = {} ∧ t.rake = {}
        ∧ t.porch.fetchQ = [] ∧ t.porch.deliveries = [] ∧ (∀ r, (t.room r).st = 0) ∧ t.thresh.keys = s.thresh.keys
        ∧ t.thresh.ranks = s.thresh.ranks)
  ∧ (∀ s : State, s.flag .DEV_FAULT_HOST_RESET_BUSY = true → s.fault.standing = [] → untrained s = false →
    Does .hostResetComplete s [.fault]
      [.DEV_FAULT_HOST_RESET_BUSY, .FAULT_STAT_LEVEL, .FAULT_STAT_FIRST_CLASS, .FAULT_STAT_STICKY, .FAULT_UNACK_UNACK,
       .RECOVERY_COUNT_COUNT, .DEV_FAULT_LEVEL, .DEV_FAULT_CAUSE_BLOCK, .DEV_FAULT_CAUSE_CLASS]
      fun t => t.flag .DEV_FAULT_HOST_RESET_BUSY = false ∧ t.fault.l3 = []
        ∧ (∀ b ∈ [0, 5, 6, 7, 8, 9, 10, 12], t.level b = 0 ∧ t.get .FAULT_UNACK_UNACK b = 0)
        ∧ (∀ b, b ∉ [0, 5, 6, 7, 8, 9, 10, 12] → b ∉ s.fault.l3 → t.level b = s.level b)
        ∧ ((∀ b ∈ blockIds, b ∉ [0, 5, 6, 7, 8, 9, 10, 12] → s.level b = 0) → s.fault.l4 = false → t.devLevel = 0))
  ∧ (∀ (m : Master) (v : Nat) (s : State), May s m .DEV_FAULT_CTRL_L4_HOLD → v % 2 = 1 →
    Does (.l4HoldWrite m v) s [.fault] (([.DEV_FAULT_CTRL_L4_HOLD, .DEV_FAULT_L4_RESET_PENDING] : List Fld) ++ mendRegs)
      fun t => t.flag .DEV_FAULT_CTRL_L4_HOLD = true ∧ t.flag .DEV_FAULT_L4_RESET_PENDING = false ∧ t.fault.l4At = none)
  ∧ (∀ (m : Master) (v : Nat) (s : State), May s m .DEV_FAULT_CTRL_L4_HOLD → v % 2 = 0 →
    Does (.l4HoldWrite m v) s [.fault] (([.DEV_FAULT_CTRL_L4_HOLD] : List Fld) ++ mendRegs)
      fun t => t.flag .DEV_FAULT_CTRL_L4_HOLD = false ∧ t.fault.l4At = s.fault.l4At)

/-! ## Suspects and fences (R362 to R368) -/

/-- At the end of its jitter an END_TO_END entry is reported and held off, or freed when its node has been fenced; at the end of its hold-off it is
freed, or reported again if its node was observed in between (R364). Fences set, lift and are written 64 at a time (R366): the bits follow the
command and no other bit changes, every change ends Scheduled service (R62), and a write of a bit as it stands does nothing more. -/
def Obligations.SuspectsAndFencesFollowTheirRules : Prop :=
  (∀ (e : Nat) (x : Suspect) (s : State), Tab.find? s.fault.suspects e = some x → x.st = 1 → Due s x.until_ →
    s.fenced x.node = true ∨ x.fenceSeen = true →
    Does (.suspectJitterExpiry e) s [.fault, .count, .out, .porch] (.SUSPECT_EVENTS_CANCELLED :: countRegs)
      fun t => Tab.find? t.fault.suspects e = none ∧ t.flag .SUSPECT_EVENTS_CANCELLED = true)
  ∧ (∀ (e : Nat) (x : Suspect) (s : State), Tab.find? s.fault.suspects e = some x → x.st = 1 → Due s x.until_ →
    s.fenced x.node = false → x.fenceSeen = false →
    Does (.suspectJitterExpiry e) s [.fault, .count, .out, .porch, .hall] (.SUSPECT_EVENTS_SENT :: countRegs)
      fun t => Tab.find? t.fault.suspects e = some { x with st := 2, until_ := holdEnd s }
        ∧ (s.flag .SUSPECT_CFG_FM_VALID = false → t.hall = s.hall)
        ∧ (s.flag .SUSPECT_CFG_FM_VALID = true → t.flag .SUSPECT_EVENTS_SENT = true ∧
            ∃ c : HCell, Tab.get t.hall.inj 79 [] = Tab.get s.hall.inj 79 [] ++ [c] ∧ c.cell.ty = tySuspect
              ∧ c.cell.dest = s.get .SUSPECT_CFG_FM_NODE ∧ wf_ c.cell.body 0 0 17 = x.node % 2 ^ 17))
  ∧ (∀ (e : Nat) (x : Suspect) (s : State), Tab.find? s.fault.suspects e = some x → x.st = 2 → Due s x.until_ →
    x.rpt = false ∨ s.fenced x.node = true →
    Does (.suspectHoldExpiry e) s [.fault] [] fun t => Tab.find? t.fault.suspects e = none)
  ∧ (∀ (e : Nat) (x : Suspect) (s : State), Tab.find? s.fault.suspects e = some x → x.st = 2 → Due s x.until_ →
    x.rpt = true → s.fenced x.node = false →
    Does (.suspectHoldExpiry e) s [.fault, .count, .out, .porch, .hall] (.SUSPECT_EVENTS_SENT :: countRegs)
      fun t => Tab.find? t.fault.suspects e = some { x with rpt := false, until_ := holdEnd s })
  ∧ (∀ (m : Master) (x : Nat) (s : State), May s m .FENCE_CMD_CMD → x < 131072 → s.fenced x = false →
    Does (.fenceSet m x) s [.count, .crystal, .fault, .hall, .out, .porch, .rake, .sluice, .thresh]
      (([.SLUICE_MODE_SERVICE, .SLUICE_MODE_FALLBACK_CAUSE, .SLUICE_MODE_FALLBACK_PORT, .SLUICE_EVENTS_FALLBACK, .SUSPECT_EVENTS_CANCELLED] : List Fld)
        ++ treeRegs ++ timeRegs ++ mendRegs)
      fun t => t.fenced x = true ∧ (∀ y, y ≠ x → t.fenced y = s.fenced y) ∧ t.flag .SLUICE_MODE_SERVICE = false
        ∧ t.sluice.lastFence = some s.now)
  ∧ (∀ (m : Master) (x : Nat) (s : State), May s m .FENCE_CMD_CMD → x < 131072 → s.fenced x = true →
    Does (.fenceLift m x) s (.sluice :: faultParts) (([.THRESH_EVENTS_ACK_SPILL_FULL, .THRESH_EVENTS_FLOW_RESET_SEEN] : List Fld) ++ faultRegs
        ++ timeRegs ++ mendRegs)
      fun t => t.fenced x = false ∧ (∀ y, y ≠ x → t.fenced y = s.fenced y) ∧ t.flag .SLUICE_MODE_SERVICE = false
        ∧ t.sluice.lastFence = some s.now)
  ∧ (∀ (m : Master) (s : State), May s m .FENCE_CMD_CMD →
    Does (.fenceLiftAll m) s (.sluice :: faultParts) (([.THRESH_EVENTS_ACK_SPILL_FULL, .THRESH_EVENTS_FLOW_RESET_SEEN] : List Fld) ++ faultRegs
        ++ timeRegs ++ mendRegs)
      fun t => (∀ y, t.fenced y = false) ∧ (s.fault.fences ≠ [] → t.flag .SLUICE_MODE_SERVICE = false))
  ∧ (∀ (m : Master) (w : Word) (s : State), May s m .FENCE_DATA_BITS →
    Does (.fenceDataWrite m w) s (.crystal :: portParts)
      (([.THRESH_EVENTS_ACK_SPILL_FULL, .THRESH_EVENTS_FLOW_RESET_SEEN, .SUSPECT_EVENTS_CANCELLED] : List Fld) ++ blockFaultRegs ++ mendRegs)
      fun t => (∀ i, i < 64 → t.fenced (64 * s.get .FENCE_SEL_WORD + i) = w.toNat.testBit i)
        ∧ (∀ y, y / 64 ≠ s.get .FENCE_SEL_WORD → t.fenced y = s.fenced y))
  ∧ (∀ (m : Master) (x : Nat) (s : State), May s m .FENCE_CMD_CMD → x < 131072 →
    (s.fenced x = true → Does (.fenceSet m x) s [.fault] mendRegs fun t => t.fault.fences = s.fault.fences)
    ∧ (s.fenced x = false → Does (.fenceLift m x) s [.fault] mendRegs fun t => t.fault.fences = s.fault.fences))

/-! ## Register accesses (R401 to R419) -/

/-- A register access of the wrong width or alignment is refused whole with cause 2, one to an address no block holds with cause 3, and
one to no register of a block reads zero and writes nothing (R404, R410); an access of a host port whose domain is off changes nothing, in any
of its windows (Table 15.2). -/
def Obligations.StrayAccessesAreRefused : Prop :=
  (∀ (m : Master) (a : Access) (w : Word) (s : State), reaches s m = true → Plain m a → OneAccess m a → judge m a = .badWidth →
    Does (.registerWrite m a [w]) s [.count, .out, .porch]
      (([.ACCESS_LOG_ADDR, .ACCESS_LOG_MASTER, .ACCESS_LOG_CAUSE, .ACCESS_LOG_WRITE, .GLOBAL_EVENTS_BAD_WIDTH] : List Fld) ++ countRegs)
      (fun t => t.get .ACCESS_LOG_CAUSE = 2 ∧ t.get .ACCESS_LOG_MASTER = masterId m ∧ t.get .ACCESS_LOG_WRITE = 1
        ∧ t.flag .GLOBAL_EVENTS_BAD_WIDTH = true)
    ∧ Does (.rcRegisterRead m a) s [.count, .out, .porch]
      (([.ACCESS_LOG_ADDR, .ACCESS_LOG_MASTER, .ACCESS_LOG_CAUSE, .ACCESS_LOG_WRITE, .GLOBAL_EVENTS_BAD_WIDTH] : List Fld) ++ countRegs)
      (fun t => t.get .ACCESS_LOG_CAUSE = 2 ∧ t.get .ACCESS_LOG_WRITE = 0 ∧ t.out.head? = some (.reg m 0)
        ∧ t.flag .GLOBAL_EVENTS_BAD_WIDTH = true))
  ∧ (∀ (m : Master) (a : Access) (w : Word) (s : State), reaches s m = true → Plain m a → judge m a = .unmapped →
    Does (.registerWrite m a [w]) s [.count, .out, .porch]
      (([.ACCESS_LOG_ADDR, .ACCESS_LOG_MASTER, .ACCESS_LOG_CAUSE, .ACCESS_LOG_WRITE, .GLOBAL_EVENTS_UNMAPPED] : List Fld) ++ countRegs)
      (fun t => t.get .ACCESS_LOG_CAUSE = 3 ∧ t.get .ACCESS_LOG_WRITE = 1 ∧ t.flag .GLOBAL_EVENTS_UNMAPPED = true)
    ∧ Does (.rcRegisterRead m a) s [.count, .out, .porch]
      (([.ACCESS_LOG_ADDR, .ACCESS_LOG_MASTER, .ACCESS_LOG_CAUSE, .ACCESS_LOG_WRITE, .GLOBAL_EVENTS_UNMAPPED] : List Fld) ++ countRegs)
      (fun t => t.get .ACCESS_LOG_CAUSE = 3 ∧ t.get .ACCESS_LOG_WRITE = 0 ∧ t.out.head? = some (.reg m 0)
        ∧ t.flag .GLOBAL_EVENTS_UNMAPPED = true))
  ∧ (∀ (m : Master) (a : Access) (w : Word) (s : State), reaches s m = true → Plain m a → judge m a = .nothing →
    Nothing (.registerWrite m a [w]) s ∧ Does (.rcRegisterRead m a) s [.out] [] fun t => t.out = .reg m 0 :: s.out)
  ∧ (∀ (h : Nat) (a : Access) (ws : List Word) (s : State), hostReaches s h = false →
    Nothing (.registerWrite (.host h) a ws) s ∧ Nothing (.rcRegisterRead (.host h) a) s)

/-- A write stores every field it reaches that holds a value, clamped to the field's range, and no other; a read returns the fields and
clears those that a read clears; shown at the Hall's registers, whose writes and reads do nothing more (R403, R406 to R409, R6). A host's write of
several aligned words is one 64-bit write for each word, in ascending order (R405). -/
def Obligations.RegistersStoreAndShow : Prop :=
  (∀ (m : Master) (a : Access) (w : Word) (r : Reg) (i : Nat) (s : State), RegsOk s → reaches s m = true → Plain m a → privOf m ≠ .user →
    judge m a = .reg r i ⟨true, true⟩ → r.place.blk = .HALL →
    Does (.registerWrite m a [w]) s [.fault] (r.fields.filter holdsValue ++ mendRegs)
      fun t => (∀ f ∈ r.fields, holdsValue f = true →
          t.get f i = clampFld f (w.toNat / 2 ^ f.info.lo % 2 ^ f.info.width) % 2 ^ f.info.width)
        ∧ (∀ f ∈ r.fields, ∀ j, j ≠ i → t.get f j = s.get f j))
  ∧ (∀ (m : Master) (a : Access) (r : Reg) (i : Nat) (s : State), RegsOk s → reaches s m = true → Plain m a → privOf m ≠ .user →
    judge m a = .reg r i ⟨true, true⟩ → r.place.blk = .HALL → mismatched s r i = false →
    Does (.rcRegisterRead m a) s [.out] (r.fields.filter (fun f => f.info.acc == .RC))
      fun t => t.out = .reg m (wd (wordOf m r i s)) :: s.out
        ∧ (∀ f ∈ r.fields, f.info.acc = .RC → t.get f i = 0)
        ∧ (∀ f ∈ r.fields, ∀ j, j ≠ i → t.get f j = s.get f j))
  ∧ (∀ (h n addr : Nat) (ws : List Word) (s : State), hostReaches s h = true → 1 < n → n ≤ 8 → addr % 8 = 0 →
    exec (.registerWrite (.host h) { addr := addr, bytes := 8 * n } ws) s
      = .next (forEach (List.range n) (fun i t => accessWrite (.host h) { addr := addr + 8 * i, bytes := 8 } (ws.getD i 0) t) s))

/-- A read of INT_PEND returns and clears the reader's own copy alone (R414); WIDE_SEL captures network time in the writer's own mailbox, and
shows ERROR for what there is not (R415, R416). -/
def Obligations.MastersHaveTheirOwnCopies : Prop :=
  (∀ (m : Master) (s : State), RegsOk s → MaySee s m .INT_PEND_LO_PEND → mismatched s .INT_PEND_LO (masterId m) = false →
    Does (.intPendRead m false) s [.out] [.INT_PEND_LO_PEND]
      fun t => t.out = .reg m (wd (s.get .INT_PEND_LO_PEND (masterId m))) :: s.out ∧ t.get .INT_PEND_LO_PEND (masterId m) = 0
        ∧ ∀ j, j ≠ masterId m → t.get .INT_PEND_LO_PEND j = s.get .INT_PEND_LO_PEND j)
  ∧ (∀ (m : Master) (s : State), RegsOk s → MaySee s m .INT_PEND_HI_PEND → mismatched s .INT_PEND_HI (masterId m) = false →
    Does (.intPendRead m true) s [.out] [.INT_PEND_HI_PEND]
      fun t => t.out = .reg m (wd (s.get .INT_PEND_HI_PEND (masterId m))) :: s.out ∧ t.get .INT_PEND_HI_PEND (masterId m) = 0
        ∧ ∀ j, j ≠ masterId m → t.get .INT_PEND_HI_PEND j = s.get .INT_PEND_HI_PEND j)
  ∧ (∀ (m : Master) (kind block index : Nat) (s : State), May s m .WIDE_SEL_KIND → kind < 16 → block < 256 → index < 256 →
    Does (.wideSelWrite m kind block index) s [.fault]
      (([.WIDE_SEL_KIND, .WIDE_SEL_BLOCK, .WIDE_SEL_INDEX, .WIDE_STAT_DONE, .WIDE_STAT_VALID, .WIDE_STAT_ERROR, .WIDE_DATA_DATA] : List Fld) ++ mendRegs)
      fun t => t.flag .WIDE_STAT_DONE (masterId m) = true
        ∧ (kind = 0 → t.flag .WIDE_STAT_VALID (masterId m) = true ∧ t.get .WIDE_DATA_DATA (4 * masterId m) = s.netNs % 2 ^ 64
            ∧ t.get .WIDE_DATA_DATA (4 * masterId m + 1) % 65536 = s.netFrac)
        ∧ (kind = 1 → block ∈ blockIds → ∀ e, (Tab.get s.fault.hist block [])[index]? = some e → index < 8 →
            t.get .WIDE_DATA_DATA (4 * masterId m) = e.ns % 2 ^ 64 ∧ t.get .WIDE_DATA_DATA (4 * masterId m + 1) = e.hi % 2 ^ 64)
        ∧ (3 ≤ kind → t.flag .WIDE_STAT_ERROR (masterId m) = true ∧ t.flag .WIDE_STAT_VALID (masterId m) = false)
        ∧ ∀ j, j ≠ masterId m → t.get .WIDE_STAT_DONE j = s.get .WIDE_STAT_DONE j)

/-- MGMT requests (R417, R418): one that is not allowed is counted, recorded with cause 4 and answered REFUSED; one that comes while
16 wait is answered BUSY; an allowed one is performed with the rights of its requester and answered. -/
def Obligations.MgmtRequestsAreAnswered : Prop :=
  (∀ (c : Cell) (s : State), s.devLevel ≠ 4 → mgmtRefused s c = true →
    (isMgmt 0 c = true → Does (.mgmtReadArrival (some c)) s [.hall, .count, .out, .porch]
      (([.ACCESS_LOG_ADDR, .ACCESS_LOG_MASTER, .ACCESS_LOG_CAUSE, .ACCESS_LOG_WRITE, .GLOBAL_EVENTS_MGMT_REFUSED] : List Fld) ++ countRegs)
      fun t => t.flag .GLOBAL_EVENTS_MGMT_REFUSED = true ∧ t.get .ACCESS_LOG_CAUSE = 4 ∧ t.get .ACCESS_LOG_WRITE = 0
        ∧ ∃ x : HCell, Tab.get t.hall.inj 79 [] = Tab.get s.hall.inj 79 [] ++ [x] ∧ x.cell.ty = tyMgmt ∧ x.cell.dest = c.src
          ∧ wf_ x.cell.body 0 0 2 = 2 ∧ wf_ x.cell.body 0 4 4 = 1)
    ∧ (isMgmt 1 c = true → Does (.mgmtWriteArrival (some c)) s [.hall, .count, .out, .porch]
      (([.ACCESS_LOG_ADDR, .ACCESS_LOG_MASTER, .ACCESS_LOG_CAUSE, .ACCESS_LOG_WRITE, .GLOBAL_EVENTS_MGMT_REFUSED] : List Fld) ++ countRegs)
      fun t => t.flag .GLOBAL_EVENTS_MGMT_REFUSED = true ∧ t.get .ACCESS_LOG_CAUSE = 4 ∧ t.get .ACCESS_LOG_WRITE = 1
        ∧ ∃ x : HCell, Tab.get t.hall.inj 79 [] = Tab.get s.hall.inj 79 [] ++ [x] ∧ x.cell.ty = tyMgmt ∧ x.cell.dest = c.src
          ∧ wf_ x.cell.body 0 0 2 = 3 ∧ wf_ x.cell.body 0 4 4 = 1))
  ∧ (∀ (c : Cell) (s : State), s.devLevel ≠ 4 → mgmtRefused s c = false → 16 ≤ s.mgmt.queue.length →
    isMgmt 0 c = true → Does (.mgmtReadArrival (some c)) s [.hall] []
      fun t => ∃ x : HCell, Tab.get t.hall.inj 79 [] = Tab.get s.hall.inj 79 [] ++ [x] ∧ x.cell.dest = c.src ∧ wf_ x.cell.body 0 4 4 = 2)
  ∧ (∀ (c : Cell) (w : Word) (s s1 : State), s.devLevel ≠ 4 → mgmtRefused s c = false → s.mgmt.queue.length < 16 → isMgmt 0 c = true →
    spaceRead (.mgmt (fromManager s c)) (mgmtAccess c) s = (some w, s1) →
    ∃ t, exec (.mgmtReadArrival (some c)) s = .next t ∧ OnlyRegs countRegs s1 t ∧ Keeps [.hall, .count, .out, .porch] s1 t
      ∧ ∃ x : HCell, Tab.get t.hall.inj 79 [] = Tab.get s1.hall.inj 79 [] ++ [x] ∧ x.cell.ty = tyMgmt ∧ x.cell.dest = c.src
        ∧ wf_ x.cell.body 0 0 2 = 2 ∧ wf_ x.cell.body 0 16 16 = wf_ c.body 0 16 16 ∧ wn x.cell.body 2 = w.toNat)
  ∧ (∀ (c : Cell) (s : State), s.devLevel ≠ 4 → mgmtRefused s c = false → s.mgmt.queue.length < 16 → isMgmt 1 c = true →
    ∃ t, exec (.mgmtWriteArrival (some c)) s = .next t ∧
      let s1 := spaceWrite (.mgmt (fromManager s c)) (mgmtAccess c) (wd (wn c.body 2)) s
      OnlyRegs countRegs s1 t ∧ Keeps [.hall, .count, .out, .porch] s1 t
      ∧ ∃ x : HCell, Tab.get t.hall.inj 79 [] = Tab.get s1.hall.inj 79 [] ++ [x] ∧ x.cell.ty = tyMgmt ∧ x.cell.dest = c.src
        ∧ wf_ x.cell.body 0 0 2 = 3 ∧ wf_ x.cell.body 0 16 16 = wf_ c.body 0 16 16)

/-! ## The Hall (R95 to R118) -/

/-- A cell enters the Hall with the instant of its entry as stamp (R115); an arbitration attempt of an output moves a lone waiting cell as its
request says: to the port on its channel with HOP one higher, as a copy to the port's peer, or into the ejection queue; a cell without
a route is discarded with NO_ROUTE (R98, R103, R105, R120); the expiry of a pinned cell's hold gives it its escape port (R118). -/
def Obligations.HallMovesCells : Prop :=
  (∀ (i : Nat) (c : Cell) (s : State),
    Does (.cellHallEntry i (some c)) s [.hall, .count, .out, .porch]
      (([.COUNT_EVENTS_TRACE_LOST, .HALL_EVENTS_DIM_DONE_SEEN, .TRACE_STAT_LOST, .TRACE_STAT_TRACE_SEQ] : List Fld) ++ countRegs)
      fun t => t.hall = { s.hall with waiting := s.hall.waiting ++ [{ cell := c, input := i, stamp := s.now, vcIn := c.vc }] })
  ∧ (∀ (p : Nat) (x : LCell) (r : List LCell) (s : State), p < 72 → (s.port p).landing = x :: r → x.held = false →
    Does (.cellHallEntry p none) s [.hall, .ports, .count, .out, .porch]
      (([.COUNT_EVENTS_TRACE_LOST, .HALL_EVENTS_DIM_DONE_SEEN, .TRACE_STAT_LOST, .TRACE_STAT_TRACE_SEQ] : List Fld) ++ countRegs)
      fun t => (t.port p).landing = r ∧ t.hall = { s.hall with
        waiting := s.hall.waiting ++ [{ cell := x.cell, input := p, stamp := s.now, vcIn := x.vcIn, inLanding := true }] })
  ∧ (∀ (p vc : Nat) (q : Option Nat) (h : HCell) (s : State), p < 72 → s.hall.waiting = [h] → h.multicast = false → h.wantPin = false →
    expired s h.stamp = false → request s h = .port p vc q → 1 ≤ s.get .HALL_ARB_W_TREE → 1 ≤ s.get .HALL_ARB_W_REQ →
    1 ≤ s.get .HALL_ARB_W_RESP →
    Does (.arbitrationAttempt p) s hallParts hallRegs
      fun t => t.hall.waiting = []
        ∧ ∃ x : TxCell, (t.port p).htq = (s.port p).htq ++ [x] ∧ x.cell = routed s p vc h.cell ∧ x.cell.vc = vc
          ∧ x.cell.hop = (h.cell.hop + 1) % 8 ∧ x.before = h.cell ∧ x.stamp = h.stamp ∧ x.queuedAt = s.now)
  ∧ (∀ (p : Nat) (h : HCell) (s : State), p < 72 → s.hall.waiting = [h] → h.multicast = true → h.copies = [p] → expired s h.stamp = false →
    s.avail p = true → credit s p 1 = true → 1 ≤ s.get .HALL_ARB_W_TREE →
    Does (.arbitrationAttempt p) s hallParts hallRegs
      fun t => t.hall.waiting = []
        ∧ ∃ x : TxCell, (t.port p).htq = (s.port p).htq ++ [x] ∧ x.cell.dest = s.peerNode p ∧ x.cell.vc = 1 ∧ x.cell.body = h.cell.body)
  ∧ (∀ (h : HCell) (s : State), s.hall.waiting = [h] → h.multicast = false → h.wantPin = false → expired s h.stamp = false →
    h.cell.dest = s.own → h.cell.vc ≠ 0 → h.cell.vc ≠ 1 → h.cell.ty ≠ tyFault → h.cell.ty ≠ tySuspect → ejectRoom s 78 h = true → s.devLevel < 3 → 1 ≤ s.get .HALL_ARB_W_REQ →
    1 ≤ s.get .HALL_ARB_W_RESP →
    Does (.arbitrationAttempt 78) s hallParts hallRegs
      fun t => t.hall.waiting = [] ∧ Tab.get t.hall.eject 78 [] = Tab.get s.hall.eject 78 [] ++ [(h.input, h.cell)])
  ∧ (∀ (out : Nat) (h : HCell) (s : State), s.hall.waiting = [h] → h.multicast = false → expired s h.stamp = false → request s h = .noRoute →
    Does (.arbitrationAttempt out) s hallParts hallRegs
      fun t => t.hall.waiting = [] ∧ t.flag .HALL_EVENTS_NO_ROUTE_SEEN = true)
  ∧ (∀ (i p vc : Nat) (q : Option Nat) (h : HCell) (s : State), p < 72 → s.hall.waiting = [h] → h.input = i → h.multicast = false →
    isPinned h = true → h.pinWait.isSome = true → expired s h.stamp = false → request s h = .port p vc q →
    1 ≤ s.get .HALL_ARB_W_TREE → 1 ≤ s.get .HALL_ARB_W_REQ → 1 ≤ s.get .HALL_ARB_W_RESP →
    Does (.pinHoldExpiry i) s hallParts hallRegs
      fun t => t.hall.waiting = [] ∧ ∃ x : TxCell, (t.port p).htq = (s.port p).htq ++ [x] ∧ x.cell.pin = true ∧ x.cell.vc = vc
        ∧ x.cell.body = h.cell.body ∧ (h.wantPin = false → x.cell = routed s p vc h.cell))

/-- Cells that leave the Hall otherwise: those that have waited longer than LIFE_US (R115), and those whose header parity fails, with their
fault (R73); a port's detour ends after 10 µs without a cell through it (R110); a tile held for checking goes on unchecked when its hold
runs out (R54). -/
def Obligations.HallDiscardsAndEnds : Prop :=
  (∀ (i : Nat) (s : State),
    Does (.lifetimeDiscard i) s hallParts hallRegs
      fun t => t.hall.waiting = s.hall.waiting.filter (fun h => !(h.input == i && expired s h.stamp))
        ∧ ((∃ h ∈ s.hall.waiting, h.input = i ∧ expired s h.stamp = true) → t.flag .HALL_EVENTS_LIFETIME_SEEN = true))
  ∧ (∀ (i k j : Nat) (h : HCell) (s : State), (s.hall.waiting.zipIdx.filter (fun e => e.1.input == i))[k]? = some (h, j) →
    Does (.headerParityFail (.hallInput i k)) s faultParts (.HALL_EVENTS_HDR_PARITY_SEEN :: faultRegs)
      fun t => t.hall.waiting = s.hall.waiting.eraseIdx j ∧ Raised 4 4 s t ∧ t.flag .HALL_EVENTS_HDR_PARITY_SEEN = true)
  ∧ (∀ (p k : Nat) (x : LCell) (s : State), (s.port p).landing[k]? = some x →
    Does (.headerParityFail (.landing p k)) s faultParts (.HALL_EVENTS_HDR_PARITY_SEEN :: faultRegs)
      fun t => (t.port p).landing = (s.port p).landing.eraseIdx k ∧ Raised (16 + p) 4 s t ∧ t.flag .HALL_EVENTS_HDR_PARITY_SEEN = true)
  ∧ (∀ (q : Nat) (s : State), RegsOk s → q < 72 → detourBit s q = true → Due s (Tab.get s.hall.detourAt q 0 + 10000) →
    Does (.detourEnd q) s [.out, .porch] (([.HALL_DETOUR_LO_DETOUR, .HALL_DETOUR_HI_DETOUR, .HALL_EVENTS_DETOUR_END] : List Fld) ++ intRegs)
      fun t => detourBit t q = false ∧ (∀ r, r < 72 → r ≠ q → detourBit t r = detourBit s r) ∧ t.flag .HALL_EVENTS_DETOUR_END = true)
  ∧ (∀ (p src seq tile : Nat) (h : TileHold) (s : State),
    (s.port p).holds.find? (fun g => g.src == src && g.seq == seq && g.tile == tile && !g.released) = some h →
    Due s (h.first + s.get .HALL_MODE_PIN_HOLD_NS) →
    Does (.tileHoldExpiry p src seq tile) s [.ports, .count, .out, .porch] countRegs
      fun t => (t.port p).landing = (s.port p).landing.map (fun l => if inHold h l then { l with held := false } else l)
        ∧ (∀ q, q ≠ p → t.port q = s.port q))

/-! ## The link layer (R128 to R157) -/

/-- A DATA frame carries the port's new cells under the next sequence numbers and keeps them for replay (R128 to R135); a PARAM frame carries
this end's block (R132), and the one that completes the exchange brings the port UP with its sequences at zero (R152); while its lanes train, a
port sends idle frames (R168); a frame leaves as the levels of its lanes (R133, R159), and after 1,024 of them a marker is due (R160). -/
def Obligations.FramesCarryCells : Prop :=
  (∀ (p : Nat) (c : TxCell) (s : State), pst s p = 3 → (s.port p).htq = [c] → (s.port p).replayNext = [] → (s.port p).replay.length < 1638 →
    expired s c.stamp = false → c.cell.ty ≠ tyTime → (s.lineOf p).frames < 1024 →
    Does (.linkFrameTransmit p) s [.ports, .line, .sluice, .count, .out, .porch] (.PORT_SEQ_TX_NEXT :: countRegs)
      fun t => t.get .PORT_SEQ_TX_NEXT p = (s.get .PORT_SEQ_TX_NEXT p + 1) % 65536 ∧ (t.port p).htq = []
        ∧ (∃ x : TxCell, (t.port p).replay = (s.port p).replay ++ [x] ∧ x.cell = c.cell ∧ x.seq = s.get .PORT_SEQ_TX_NEXT p ∧ x.sentAt = s.now)
        ∧ (∃ h : FrameHdr, .frame p h [{ void := false, cell := c.cell }] ∈ t.out ∧ h.ftype = 0
            ∧ h.seqBase = s.get .PORT_SEQ_TX_NEXT p ∧ h.ackNext = s.get .PORT_SEQ_RX_EXPECTED p ∧ h.creditCum = (s.port p).creditTx)
        ∧ (∀ k ∈ txLanes s p (onOneLane s p), ∃ levels, Output.lane p k levels ∈ t.out)
        ∧ (t.lineOf p).frames = (s.lineOf p).frames + 1 ∧ (∀ q, q ≠ p → t.port q = s.port q ∧ t.lineOf q = s.lineOf q))
  ∧ (∀ (p : Nat) (s : State), framesFlow s p = false → lineFrames s p = true → (s.lineOf p).frames < 1024 →
    Does (.linkFrameTransmit p) s [.line, .count, .out, .porch] countRegs
      fun t => (∃ h : FrameHdr, .frame p h [] ∈ t.out ∧ h.ftype = 0 ∧ h.slotCount = 0 ∧ h.event = 0 ∧ h.nackCode = 0)
        ∧ (t.lineOf p).frames = (s.lineOf p).frames + 1)
  ∧ (∀ (p : Nat) (s : State), (s.lineOf p).frames = 1024 → Nothing (.linkFrameTransmit p) s)
  ∧ (∀ (p : Nat) (s : State), pst s p = 2 → (s.port p).blockGot = false → (s.lineOf p).frames < 1024 →
    Does (.linkFrameTransmit p) s [.ports, .line, .count, .out, .porch] countRegs
      fun t => (∃ h : FrameHdr, .param p h (ownBlock s p) ∈ t.out ∧ h.ftype = 1 ∧ h.event = 0) ∧ pst t p = 2)
  ∧ (∀ (p : Nat) (s : State), pst s p = 2 → (s.port p).blockGot = true → (s.port p).paramAck = true → (s.lineOf p).frames < 1024 →
    (s.port p).again = [] → max (s.get .PORT_CFG_RATE_MAX p) (bits (s.get .PORT_PARTNER_BLOCK_W0 p) 37 2) ≤ (s.port p).rate →
    Does (.linkFrameTransmit p) s [.ports, .line, .fault, .count, .out, .porch]
      (([.PORT_STAT_STATE, .PORT_EVENTS_UP_SEEN, .PORT_EVENTS_PARAM_MISMATCH, .PORT_EVENTS_WIDTH_DEGRADED, .PORT_CFG_FEC, .PORT_STAT_FEC_ACTIVE,
        .PORT_STAT_RATE_ACTIVE, .PORT_STAT_ONE_LANE_ACTIVE, .LANE_STAT_RX_CARRY, .LANE_STAT_TX_CARRY, .PORT_SEQ_TX_NEXT,
        .PORT_SEQ_TX_OLDEST, .PORT_SEQ_RX_EXPECTED, .PORT_STAT_REPLAY_COUNT] : List Fld) ++ countRegs)
      fun t => pst t p = 3 ∧ t.flag .PORT_EVENTS_UP_SEEN p = true ∧ t.get .PORT_SEQ_TX_NEXT p = 0 ∧ t.get .PORT_SEQ_RX_EXPECTED p = 0
        ∧ (t.port p).replay = [] ∧ (∃ h : FrameHdr, .param p h (ownBlock s p) ∈ t.out ∧ h.event = 1))

/-- A received frame (R134, R136 to R140, R153): one that does not decode only counts; a malformed header is a violation answered with a NACK; a cell in
order is accepted into the Landing and the expected number advances; a void slot returns its credit; a cell seen before is only counted. A
parameter block is stored, but for one that names this port itself (R132, R174). -/
def Obligations.FramesAreReceived : Prop :=
  (∀ (p : Nat) (f : RxFrame) (s : State), framesFlow s p = true → f.uncorrectable = true →
    Does (.linkFrameReceive p f) s [.count, .out, .porch] countRegs
      fun t => Tab.get t.count.ctr (ckey (16 + p) 67) 0 = (Tab.get s.count.ctr (ckey (16 + p) 67) 0 + 1) % 2 ^ 48)
  ∧ (∀ (p : Nat) (f : RxFrame) (s : State), framesFlow s p = true → f.uncorrectable = false → f.crcOk = false →
    Does (.linkFrameReceive p f) s [.ports, .count, .out, .porch] countRegs
      fun t => (t.port p).crcFailCum = ((s.port p).crcFailCum + 1) % 65536 ∧ (t.port p).landing = (s.port p).landing)
  ∧ (∀ (p : Nat) (f : RxFrame) (s : State), framesFlow s p = true → f.uncorrectable = false → f.corrected = false → f.crcOk = true →
    headerMalformed s p f.hdr = true →
    Does (.linkFrameReceive p f) s faultParts violRegs
      fun t => t.get .PORT_VIOL_LAST_CODE p = 3 ∧ t.flag .PORT_EVENTS_VIOLATION_SEEN p = true ∧ Raised (16 + p) 9 s t
        ∧ ((s.port p).nackOut = none → (t.port p).nackOut = some (3, f.hdr.seqBase))
        ∧ (t.port p).landing = (s.port p).landing)
  ∧ (∀ (p : Nat) (c : Cell) (f : RxFrame) (s : State), pst s p = 3 ∨ pst s p = 4 ∨ pst s p = 6 → PlainFrame s p f → f.hdr.event = 0 →
    f.hdr.ftype = 0 → f.hdr.slotCount = 1 → f.slots = [{ void := false, cell := c }] → f.hdr.seqBase = s.get .PORT_SEQ_RX_EXPECTED p →
    s.get .PORT_SEQ_RX_EXPECTED p < 65536 → headerFault s c = none → landingAdmits s p c.vc = true → c.ty ≠ tyTime → c.dest = s.own →
    Does (.linkFrameReceive p f) s [.ports] [.PORT_SEQ_RX_EXPECTED, .PORT_PARTNER_DIAG_WORD4, .LANE_STAT_PARTNER_FOM]
      fun t => t.get .PORT_SEQ_RX_EXPECTED p = (s.get .PORT_SEQ_RX_EXPECTED p + 1) % 65536
        ∧ (t.port p).landing = (s.port p).landing ++ [{ cell := marked s p c, vcIn := c.vc, at_ := s.now, held := false }]
        ∧ (t.port p).creditRx = f.hdr.creditCum ∧ ∀ q, q ≠ p → t.port q = s.port q)
  ∧ (∀ (p : Nat) (c : Cell) (f : RxFrame) (s : State), pst s p = 3 ∨ pst s p = 4 ∨ pst s p = 6 → PlainFrame s p f → f.hdr.event = 0 →
    f.hdr.ftype = 0 → f.hdr.slotCount = 1 → f.slots = [{ void := true, cell := c }] → f.hdr.seqBase = s.get .PORT_SEQ_RX_EXPECTED p →
    s.get .PORT_SEQ_RX_EXPECTED p < 65536 →
    Does (.linkFrameReceive p f) s [.ports, .count, .out, .porch]
      (([.PORT_SEQ_RX_EXPECTED, .PORT_PARTNER_DIAG_WORD4, .LANE_STAT_PARTNER_FOM] : List Fld) ++ countRegs)
      fun t => t.get .PORT_SEQ_RX_EXPECTED p = (s.get .PORT_SEQ_RX_EXPECTED p + 1) % 65536 ∧ (t.port p).landing = (s.port p).landing
        ∧ (t.port p).creditTx = (s.port p).creditTx.set c.vc (((s.port p).creditTx.getD c.vc 0 + 1) % 65536))
  ∧ (∀ (p : Nat) (sl : Slot) (f : RxFrame) (s : State), pst s p = 3 ∨ pst s p = 4 ∨ pst s p = 6 → PlainFrame s p f → f.hdr.event = 0 →
    f.hdr.ftype = 0 → f.hdr.slotCount = 1 → f.slots = [sl] → 63489 ≤ subMod f.hdr.seqBase (s.get .PORT_SEQ_RX_EXPECTED p) 65536 →
    Does (.linkFrameReceive p f) s [.ports, .count, .out, .porch] (([.PORT_PARTNER_DIAG_WORD4, .LANE_STAT_PARTNER_FOM] : List Fld) ++ countRegs)
      fun t => (t.port p).landing = (s.port p).landing ∧ (t.port p).creditTx = (s.port p).creditTx
        ∧ Tab.get t.count.ctr (ckey (16 + p) 69) 0 = (Tab.get s.count.ctr (ckey (16 + p) 69) 0 + 1) % 2 ^ 48)
  ∧ (∀ (p : Nat) (f : RxFrame) (b : ParamBlock) (s : State), framesFlow s p = true → PlainFrame s p f → f.hdr.event = 0 ∨ f.hdr.event = 1 →
    ¬ (b.node = s.own ∧ b.port = p) → (s.port p).phase = .param → (s.port p).paramSent = false →
    Does (.paramFrameReceive p f b) s [.ports]
      [.PORT_PARTNER_BLOCK_W0, .PARTNER_VC_P_RESERVED, .PARTNER_VC_P_SHARED_CAP, .PORT_PARTNER_DIAG_WORD4, .LANE_STAT_PARTNER_FOM]
      fun t => (t.port p).blockGot = true ∧ (f.hdr.event = 1 → (t.port p).paramAck = true)
        ∧ t.get .PORT_PARTNER_BLOCK_W0 p = blockW0 b % 2 ^ Fld.PORT_PARTNER_BLOCK_W0.info.width ∧ pst t p = pst s p)
  ∧ (∀ (p : Nat) (f : RxFrame) (b : ParamBlock) (s : State), framesFlow s p = true → PlainFrame s p f → b.node = s.own → b.port = p →
    Does (.paramFrameReceive p f b) s [.ports, .out, .porch]
      (([.LANE_EVENTS_SELF_LOOP, .PORT_PARTNER_DIAG_WORD4, .LANE_STAT_PARTNER_FOM] : List Fld) ++ intRegs)
      fun t => t.flag .LANE_EVENTS_SELF_LOOP p = true ∧ t.get .PORT_PARTNER_BLOCK_W0 p = s.get .PORT_PARTNER_BLOCK_W0 p
        ∧ (t.port p).blockGot = (s.port p).blockGot)

/-- The replay timer replays every unacknowledged cell, after four replays retrains, and after seven takes the port down (R142, R144, R145); a retrain
that lasts 400 µs takes the port down (R145), one whose pause is not answered goes on (R147), and trains its lanes once the port has drained. The port
is below the Safe state where that is said. -/
def Obligations.ReplayAndRetrain : Prop :=
  (∀ (p at1 : Nat) (s : State), (s.port p).replayAt = some at1 → Due s at1 → pst s p = 3 → (s.port p).replay ≠ [] →
    s.get .PORT_STAT_REPLAY_COUNT p < 4 →
    Does (.replayTimerExpiry p) s faultParts (([.PORT_STAT_REPLAY_COUNT, .PORT_EVENTS_REPLAY_SEEN] : List Fld) ++ faultRegs)
      fun t => t.get .PORT_STAT_REPLAY_COUNT p = s.get .PORT_STAT_REPLAY_COUNT p + 1 ∧ t.flag .PORT_EVENTS_REPLAY_SEEN p = true
        ∧ (t.port p).replayNext = (s.port p).replay.map (·.seq) ∧ (t.port p).replay = (s.port p).replay ∧ (t.port p).replayAt = none
        ∧ Raised (16 + p) 6 s t)
  ∧ (∀ (p at1 : Nat) (s : State), levelNow s < 3 → (s.port p).replayAt = some at1 → Due s at1 → pst s p = 3 → (s.port p).replay ≠ [] →
    4 ≤ s.get .PORT_STAT_REPLAY_COUNT p → s.get .PORT_STAT_REPLAY_COUNT p < 7 → (s.port p).resumeReplay5 = false → RegsOk s →
    Does (.replayTimerExpiry p) s (.rake :: faultParts) (blockFaultRegs ++ retrainRegs)
      fun t => pst t p = 4 ∧ t.get .PORT_STAT_RETRAIN_CAUSE p = 1 ∧ t.flag .PORT_EVENTS_RETRAIN_SEEN p = true ∧ Raised (16 + p) 7 s t)
  ∧ (∀ (p at1 : Nat) (s : State), (s.port p).replayAt = some at1 → Due s at1 → pst s p = 3 → (s.port p).replay ≠ [] →
    7 ≤ s.get .PORT_STAT_REPLAY_COUNT p →
    Does (.replayTimerExpiry p) s portParts portRegs
      fun t => pst t p = 0 ∧ t.get .PORT_STAT_DOWN_CAUSE p = 2 ∧ t.flag .PORT_EVENTS_DOWN_SEEN p = true ∧ (t.port p).htq = []
        ∧ t.get .PORT_SEQ_TX_NEXT p = 0 ∧ t.flag .SLUICE_MODE_SERVICE = false)
  ∧ (∀ (p at1 : Nat) (s : State), (s.port p).retrainAt = some at1 → pst s p = 4 ∨ pst s p = 5 → Due s (at1 + 400000) →
    Does (.retrainTimeout p) s portParts portRegs fun t => pst t p = 0 ∧ t.get .PORT_STAT_DOWN_CAUSE p = 3)
  ∧ (∀ (p : Nat) (s : State), pst s p = 4 → (s.port p).phase = .pauseReq → Due s ((s.port p).phaseAt + 10000) →
    Does (.pauseAckTimeout p) s [.ports] []
      fun t => t.port p = { s.port p with phase := .drain, phaseAt := s.now, eventOut := none } ∧ ∀ q, q ≠ p → t.port q = s.port q)
  ∧ (∀ (p : Nat) (s : State), pst s p = 4 → (s.port p).phase = .drain → (s.port p).replay = [] ∨ Due s ((s.port p).phaseAt + 4000) →
    eventNow s p = (0, 0) → (s.port p).bothLanes = false → usable s p ≠ [] →
    Does (.retrainDrained p) s [.ports, .line, .out] bringUpRegs
      fun t => pst t p = 5 ∧ (t.port p).phase = .train ∧ (t.port p).rate = targetRate s p ∧ (t.port p).attempt = 1 ∧ (t.port p).attemptAt = some s.now
        ∧ (t.port p).replay = (s.port p).replay)
  ∧ (∀ (m : Master) (p fec one rate : Nat) (s : State), May s m .PORT_CFG_FEC → pst s p = 3 → fec < 2 → one < 2 → rate < 4 →
    fec ≠ s.get .PORT_CFG_FEC p →
    Does (.portSettingWrite m p fec one rate) s retrainParts
      (([.PORT_CFG_FEC, .PORT_CFG_ONE_LANE, .PORT_CFG_RATE_MAX] : List Fld) ++ retrainRegs ++ mendRegs)
      fun t => pst t p = 4 ∧ t.get .PORT_STAT_RETRAIN_CAUSE p = 3 ∧ t.get .PORT_CFG_FEC p = fec ∧ t.get .PORT_CFG_ONE_LANE p = one
        ∧ t.get .PORT_CFG_RATE_MAX p = rate ∧ t.flag .SLUICE_MODE_SERVICE = false)
  ∧ (∀ (m : Master) (p : Nat) (s : State), May s m .PORT_CTRL_RETRAIN → pst s p = 3 →
    Does (.portCtrlRetrain m p) s retrainParts (retrainRegs ++ mendRegs)
      fun t => pst t p = 4 ∧ t.get .PORT_STAT_RETRAIN_CAUSE p = 5 ∧ t.flag .PORT_EVENTS_RETRAIN_SEEN p = true)
  ∧ (∀ (m : Master) (p : Nat) (s : State), May s m .PORT_CTRL_RETRAIN → pst s p ≠ 3 →
    Does (.portCtrlRetrain m p) s [.fault] mendRegs fun t => t.fault.hist = s.fault.hist)

/-- A port goes down and comes up by software's word and its own timers: ADMIN_DOWN drains an UP port for 100 µs, tells the partner for 2 µs and takes it
down (R151); bring-up starts by BRING_UP, by ADMIN_DOWN's end, by AUTO_UP, waits for an empty Landing, and begins again when the exchange takes
too long (R152); the violation window begins anew each millisecond and retrains a port over its limit (R155). -/
def Obligations.PortsGoDownAndComeUp : Prop :=
  (∀ (m : Master) (p : Nat) (s : State), May s m .PORT_CTRL_BRING_UP → mayBringUp s p = true →
    Does (.portCtrlBringUp m p) s [.ports, .line, .out, .fault] (bringUpRegs ++ mendRegs)
      fun t => (landingEmptyNow s p = true → pst t p = 1)
        ∧ (landingEmptyNow s p = false → pst t p = 0 ∧ (t.port p).phase = .waitEmpty))
  ∧ (∀ (m : Master) (p : Nat) (s : State), May s m .PORT_CFG_ADMIN_DOWN → s.flag .PORT_CFG_ADMIN_DOWN p = false → pst s p = 3 →
    Does (.adminDownSet m p) s blockFaultParts (([.PORT_CFG_ADMIN_DOWN, .PORT_STAT_STATE, .SLUICE_MODE_SERVICE, .SLUICE_MODE_FALLBACK_CAUSE,
        .SLUICE_MODE_FALLBACK_PORT, .SLUICE_EVENTS_FALLBACK] : List Fld) ++ treeRegs ++ timeRegs ++ mendRegs)
      fun t => t.flag .PORT_CFG_ADMIN_DOWN p = true ∧ pst t p = 6 ∧ (t.port p).adminAt = some (s.now + 100000)
        ∧ (t.port p).downAsked = 1 ∧ (t.port p).htq = (s.port p).htq)
  ∧ (∀ (m : Master) (p : Nat) (s : State), May s m .PORT_CFG_ADMIN_DOWN → s.flag .PORT_CFG_ADMIN_DOWN p = true → pst s p = 0 → s.role p ≠ 0 →
    s.domainOn p = true → s.devLevel < 4 → landingEmptyNow s p = true →
    Does (.adminDownClear m p) s [.ports, .line, .out, .fault] (.PORT_CFG_ADMIN_DOWN :: (bringUpRegs ++ mendRegs))
      fun t => t.flag .PORT_CFG_ADMIN_DOWN p = false ∧ pst t p = 1)
  ∧ (∀ (p at1 : Nat) (s : State), (s.port p).adminAt = some at1 → pst s p = 6 → (s.port p).goingDownAt = none →
    Due s at1 ∨ ((s.port p).htq = [] ∧ (s.port p).replay = []) →
    Does (.adminDrainEnd p) s [.ports] []
      fun t => t.port p = { s.port p with goingDownAt := some (s.now + 2000), eventOut := some (5, (s.port p).downAsked, s.now + 2000) }
        ∧ ∀ q, q ≠ p → t.port q = s.port q)
  ∧ (∀ (p at1 : Nat) (s : State), (s.port p).goingDownAt = some at1 → pst s p = 6 → Due s at1 → (s.port p).downAsked < 8 →
    Does (.goingDownEnd p) s portParts portRegs
      fun t => pst t p = 0 ∧ t.get .PORT_STAT_DOWN_CAUSE p = (s.port p).downAsked ∧ t.flag .PORT_EVENTS_DOWN_SEEN p = true)
  ∧ (∀ (p : Nat) (s : State), s.flag .PORT_CFG_AUTO_UP p = true → (s.port p).phase = .idle →
    Due s ((s.port p).downAt + s.get .PORT_CFG_AUTO_UP_MS p * 1000000) → mayBringUp s p = true → landingEmptyNow s p = true →
    Does (.autoUpTimer p) s [.ports, .line, .out] bringUpRegs fun t => pst t p = 1)
  ∧ (∀ (p : Nat) (s : State), (s.port p).phase = .waitEmpty → landingEmptyNow s p = true → mayBringUp s p = true →
    Does (.landingEmpty p) s [.ports, .line, .out] bringUpRegs fun t => pst t p = 1)
  ∧ (∀ (p : Nat) (s : State), pst s p = 2 → Due s ((s.port p).phaseAt + 10000) →
    Does (.paramTimeout p) s [.ports, .line, .count, .out, .porch] (.LANE_EVENTS_BRINGUP_RETRY :: (bringUpRegs ++ countRegs))
      fun t => pst t p = 1 ∧ t.flag .LANE_EVENTS_BRINGUP_RETRY p = true)
  ∧ (∀ (p : Nat) (s : State), Due s ((s.port p).violWindowAt + 1000000) → (s.port p).violCount ≤ (s.port p).violLimit →
    Does (.violationWindowEnd p) s [.ports] [.PORT_VIOL_WINDOW_COUNT]
      fun t => t.get .PORT_VIOL_WINDOW_COUNT p = 0
        ∧ t.port p = { s.port p with violWindowAt := s.now, violCount := 0, violLimit := s.get .PORT_CFG_VIOL_LIMIT p })
  ∧ (∀ (p : Nat) (s : State), levelNow s < 3 → RegsOk s → Due s ((s.port p).violWindowAt + 1000000) →
    (s.port p).violLimit < (s.port p).violCount → (s.port p).violRetrainEnd = none → pst s p = 3 →
    Does (.violationWindowEnd p) s (.rake :: faultParts) (.PORT_VIOL_WINDOW_COUNT :: (blockFaultRegs ++ retrainRegs))
      fun t => pst t p = 4 ∧ t.get .PORT_STAT_RETRAIN_CAUSE p = 2 ∧ Raised (16 + p) 7 s t)

/-! ## The serial lanes (R158 to R174) -/

/-- Markers: after 1,024 line frames a port sends one on each lane and counts it (R160); a good marker on a locked lane counts its BIP errors
(R162), one on a lane in alignment locks it, and too much skew, judged once both lanes are locked, fails it (R161, R162); a bad marker counts on the
lane that its land is known to receive, and the third in a row fails the lane (R163). -/
def Obligations.MarkersAlignLanes : Prop :=
  (∀ (p bip0 bip1 : Nat) (s : State), lineFrames s p = true → s.flag .PORT_STAT_ONE_LANE_ACTIVE p = false → (s.port p).lanes.length = 2 →
    (s.lineOf p).frames = 1024 →
    Does (.alignmentMarkerSend p bip0 bip1) s [.ports, .line, .out] []
      fun t => (∀ k, k < 2 → (laneOf t p k).amSent = ((laneOf s p k).amSent + 1) % 65536) ∧ (t.lineOf p).frames = 0
        ∧ ∃ m0 m1, t.out = .marker p 1 m1 :: .marker p 0 m0 :: s.out ∧ m0 / 2 ^ 68 % 2 = 0 ∧ m1 / 2 ^ 68 % 2 = 1
            ∧ m0 / 2 ^ 80 % 65536 = (laneOf s p 0).amSent % 65536 ∧ m0 / 2 ^ 128 = crc32c (leBytes 16 (m0 % 2 ^ 128)))
  ∧ (∀ (p lane : Nat) (mk : Marker) (s : State), mk.missing = false → mk.patternOk = true → mk.crcOk = true → lst s p mk.lane = 4 →
    (laneOf s p mk.lane).deskewed = true ∨ mk.skewPs ≤ s.get .LANE_CFG_SKEW_MAX_NS p * 1000 →
    Does (.alignmentMarkerReceive p lane mk) s [.ports, .count, .out, .porch] (.LANE_STAT_SKEW_PS :: countRegs)
      fun t => lst t p mk.lane = 4 ∧ Tab.get t.count.ctr (ckey (16 + p) (85 + mk.lane)) 0
          = (Tab.get s.count.ctr (ckey (16 + p) (85 + mk.lane)) 0 + mk.bipDiff) % 2 ^ 48)
  ∧ (∀ (p lane : Nat) (mk : Marker) (s : State), mk.missing = false → mk.patternOk = true → mk.crcOk = true → lst s p mk.lane = 3 →
    (s.port p).phase = .blindLock → mk.lane < 2 → lst s p (1 - mk.lane) = 3 →
    Does (.alignmentMarkerReceive p lane mk) s [.ports, .out, .porch] (([.LANE_STAT_STATE, .LANE_EVENTS_LOCK_SEEN] : List Fld) ++ intRegs)
      fun t => lst t p mk.lane = 4 ∧ lst t p (1 - mk.lane) = 3 ∧ t.flag .LANE_EVENTS_LOCK_SEEN p = true ∧ (t.port p).phase = .blindLock)
  ∧ (∀ (p lane : Nat) (mk : Marker) (s : State), mk.missing = false → mk.patternOk = true → mk.crcOk = true → lst s p mk.lane = 3 →
    mk.skewPs ≤ s.get .LANE_CFG_SKEW_MAX_NS p * 1000 → (s.port p).phase = .blindLock → pst s p = 1 → mk.lane < 2 → lst s p (1 - mk.lane) = 4 →
    Does (.alignmentMarkerReceive p lane mk) s [.ports, .out, .porch]
      (([.LANE_STAT_STATE, .LANE_STAT_SKEW_PS, .LANE_EVENTS_LOCK_SEEN, .PORT_STAT_STATE, .PORT_STAT_FEC_ACTIVE, .PORT_STAT_RATE_ACTIVE,
        .PORT_STAT_ONE_LANE_ACTIVE, .LANE_STAT_TX_CARRY, .LANE_STAT_RX_CARRY] : List Fld) ++ intRegs)
      fun t => lst t p mk.lane = 4 ∧ pst t p = 2 ∧ (t.port p).phase = .param ∧ (t.port p).phaseAt = s.now)
  ∧ (∀ (p lane : Nat) (mk : Marker) (s : State), mk.missing = false → mk.patternOk = true → mk.crcOk = true → lst s p mk.lane = 3 →
    s.get .LANE_CFG_SKEW_MAX_NS p * 1000 < mk.skewPs → pst s p = 1 → (s.port p).phase = .blindLock → mk.lane < 2 → lst s p (1 - mk.lane) = 4 →
    (laneOf s p mk.lane).deskewed = false →
    Does (.alignmentMarkerReceive p lane mk) s [.ports, .fault, .count, .out, .porch]
      (([.LANE_STAT_STATE, .LANE_STAT_SKEW_PS, .LANE_STAT_FAIL_CAUSE, .LANE_EVENTS_LOCK_SEEN, .LANE_EVENTS_LANE_FAIL, .PORT_STAT_STATE,
        .PORT_STAT_FEC_ACTIVE, .PORT_STAT_RATE_ACTIVE, .PORT_STAT_ONE_LANE_ACTIVE, .PORT_EVENTS_WIDTH_DEGRADED, .LANE_STAT_TX_CARRY,
        .LANE_STAT_RX_CARRY] : List Fld) ++ countRegs)
      fun t => lst t p mk.lane = 5 ∧ t.get .LANE_STAT_FAIL_CAUSE (2 * p + mk.lane) = 4 ∧ pst t p = 2 ∧ t.flag .PORT_STAT_ONE_LANE_ACTIVE p = true)
  ∧ (∀ (p land k : Nat) (mk : Marker) (s : State), k = (s.port p).lands.getD land land → mk.missing = false →
    mk.patternOk = false ∨ mk.crcOk = false → lst s p k = 4 → (laneOf s p k).badRun + 1 < 3 →
    Does (.alignmentMarkerReceive p land mk) s [.ports, .count, .out, .porch] countRegs
      fun t => lst t p k = 4 ∧ Tab.get t.count.ctr (ckey (16 + p) (83 + k)) 0 = (Tab.get s.count.ctr (ckey (16 + p) (83 + k)) 0 + 1) % 2 ^ 48
        ∧ ((s.port p).lanes.length = 2 → k < 2 → (laneOf t p k).badRun = (laneOf s p k).badRun + 1))
  ∧ (∀ (p land k : Nat) (mk : Marker) (s : State), k = (s.port p).lands.getD land land → mk.missing = true → lst s p k = 4 →
    3 ≤ (laneOf s p k).badRun + 1 → pst s p = 2 →
    Does (.alignmentMarkerReceive p land mk) s [.ports, .count, .out, .porch]
      (([.LANE_STAT_STATE, .LANE_STAT_FAIL_CAUSE, .LANE_EVENTS_LANE_FAIL] : List Fld) ++ countRegs)
      fun t => lst t p k = 5 ∧ t.get .LANE_STAT_FAIL_CAUSE (2 * p + k) = 3 ∧ t.flag .LANE_EVENTS_LANE_FAIL p = true)

/-- Figures of merit and lane failures (R164 to R166): a block's figure, eight for each dB above 8 dB, shows with its minimum and warns below the
threshold; a lane below FAIL for its window, without clock recovery or without signal fails; a failure at an UP port retrains it on the other lane. -/
def Obligations.LanesFailByRule : Prop :=
  (∀ (p k fom : Nat) (b : EyeBlock) (s : State), fom = fomOf (min b.e0 (min b.e1 b.e2) ^ 2) (4 * b.var) → lst s p k ≠ 4 →
    Does (.fomBlockEnd p k b) s [.ports] [.LANE_STAT_FOM, .LANE_STAT_FOM_MIN]
      fun t => t.get .LANE_STAT_FOM (2 * p + k) = fom
        ∧ t.get .LANE_STAT_FOM_MIN (2 * p + k) = min fom (s.get .LANE_STAT_FOM_MIN (2 * p + k))
        ∧ (fom < passThr s p → (laneOf t p k).fomGood = false))
  ∧ (∀ num den n : Nat, 0 < den → n < 256 → (n ≤ fomOf num den ↔ n = 0 ∨ den ^ 80 * 10 ^ (n + 64) ≤ num ^ 80))
  ∧ (∀ (p k fom : Nat) (b : EyeBlock) (s : State), fom = fomOf (min b.e0 (min b.e1 b.e2) ^ 2) (4 * b.var) → lst s p k = 4 → framesFlow s p = true →
    s.get .LANE_FOM_CFG_FAIL p ≤ fom → fom < passThr s p →
    Does (.fomBlockEnd p k b) s [.ports, .out, .porch]
      (([.LANE_STAT_FOM, .LANE_STAT_FOM_MIN, .LANE_EVENTS_FOM_WARN] : List Fld) ++ intRegs)
      fun t => t.flag .LANE_EVENTS_FOM_WARN p = true ∧ t.get .LANE_STAT_FOM (2 * p + k) = fom)
  ∧ (∀ (p k fom : Nat) (b : EyeBlock) (s : State), fom = fomOf (min b.e0 (min b.e1 b.e2) ^ 2) (4 * b.var) → lst s p k = 4 → framesFlow s p = true →
    fom < s.get .LANE_FOM_CFG_FAIL p → k < 2 → (s.port p).lanes.length = 2 →
    Does (.fomBlockEnd p k b) s [.ports] [.LANE_STAT_FOM, .LANE_STAT_FOM_MIN]
      fun t => (laneOf t p k).fomLowSince = some ((laneOf s p k).fomLowSince.getD s.now))
  ∧ (∀ (p k at1 : Nat) (s : State), (laneOf s p k).fomLowSince = some at1 → lst s p k = 4 → k < 2 → lst s p (1 - k) ≠ 5 →
    s.get .LANE_STAT_FOM (2 * p + k) < s.get .LANE_FOM_CFG_FAIL p → Due s (at1 + s.get .LANE_CFG_FAIL_WINDOW_US p * 1000) → pst s p = 3 →
    Does (.fomFailWindowExpiry p k) s retrainParts (([.LANE_STAT_STATE, .LANE_STAT_FAIL_CAUSE, .LANE_EVENTS_LANE_FAIL] : List Fld) ++ retrainRegs)
      fun t => lst t p k = 5 ∧ t.get .LANE_STAT_FAIL_CAUSE (2 * p + k) = 2 ∧ pst t p = 4 ∧ t.get .PORT_STAT_RETRAIN_CAUSE p = 4)
  ∧ (∀ (p k : Nat) (s : State), lst s p k = 4 → k < 2 → lst s p (1 - k) = 5 → pst s p = 3 →
    Does (.cdrLockLoss p k) s portParts (([.LANE_STAT_FAIL_CAUSE, .LANE_EVENTS_LANE_FAIL] : List Fld) ++ portRegs)
      fun t => lst t p k = 5 ∧ t.get .LANE_STAT_FAIL_CAUSE (2 * p + k) = 1 ∧ pst t p = 0 ∧ t.get .PORT_STAT_DOWN_CAUSE p = 6)
  ∧ (∀ (p k : Nat) (s : State), lst s p k = 2 ∨ lst s p k = 3 ∨ (lst s p k = 4 ∧ pst s p < 3) →
    pst s p ≠ 1 ∨ (laneOf s p 0).signal = true ∨ (laneOf s p 1).signal = true →
    Does (.cdrLockLoss p k) s [.ports, .count, .out, .porch] (.LANE_STAT_STATE :: countRegs) fun t => lst t p k = 2)
  ∧ (∀ (p k : Nat) (s : State), lst s p k = 4 → k < 2 → lst s p (1 - k) ≠ 5 → pst s p = 3 →
    Does (.signalLoss p k) s retrainParts (([.LANE_STAT_STATE, .LANE_STAT_FAIL_CAUSE, .LANE_EVENTS_LANE_FAIL] : List Fld) ++ retrainRegs)
      fun t => lst t p k = 5 ∧ t.get .LANE_STAT_FAIL_CAUSE (2 * p + k) = 6 ∧ pst t p = 4)
  ∧ (∀ (p k : Nat) (s : State), k < 2 → lst s p k = 2 ∨ lst s p k = 3 ∨ (lst s p k = 4 ∧ pst s p < 3) →
    pst s p ≠ 1 ∨ (laneOf s p (1 - k)).signal = true →
    Does (.signalLoss p k) s [.ports] [.LANE_STAT_STATE] fun t => lst t p k = 1)
  ∧ (∀ (p k : Nat) (s : State), k < 2 → pst s p = 1 → (s.port p).attemptAt.isSome = true → (s.port p).lanes.length = 2 →
    (laneOf s p (1 - k)).signal = false →
    Does (.signalLoss p k) s [.ports, .line, .out] bringUpRegs
      fun t => pst t p = 1 ∧ lst t p k = 1 ∧ lst t p (1 - k) = 1 ∧ (t.port p).attemptAt = none)

/-- The course of a training (R167 to R173): a lane with signal trains, and the first begins the attempt; a lane whose figure passes ends its step; a
training frame at an UP port begins a retrain; an acknowledged step switches both ends after 1 µs; a step that does not pass in its window goes back; an
attempt over its bound begins again. -/
def Obligations.TrainingRunsItsCourse : Prop :=
  (∀ (p k : Nat) (s : State), pst s p = 1 → lst s p k = 1 → (s.port p).attemptAt = none → (s.port p).phase = .caps →
    Does (.laneSignalDetect p k) s [.ports] [.LANE_STAT_STATE]
      fun t => lst t p k = 2 ∧ (t.port p).attemptAt = some s.now ∧ (t.port p).phase = .caps)
  ∧ (∀ (p k : Nat) (s : State), lst s p k = 2 → passThr s p ≤ s.get .LANE_STAT_FOM (2 * p + k) → stepped s p = false →
    (s.port p).phase = .train →
    Does (.laneFomPass p k) s [.ports, .line] [.LANE_STAT_STATE] fun t => lst t p k = 3)
  ∧ (∀ (p k : Nat) (s : State), lst s p k = 2 → passThr s p ≤ s.get .LANE_STAT_FOM (2 * p + k) → stepped s p = false →
    (s.port p).phase = .blindAdapt → k < 2 → (s.port p).lanes.length = 2 → (laneOf s p (1 - k)).fomGood = true → lst s p (1 - k) = 2 →
    Does (.laneFomPass p k) s [.ports] [.LANE_STAT_STATE]
      fun t => lst t p k = 3 ∧ lst t p (1 - k) = 3 ∧ (t.port p).phase = .blindLock ∧ (t.port p).phaseAt = s.now)
  ∧ (∀ (p k : Nat) (w : TCW) (s : State), s.domainOn p = true → pst s p = 3 → w.crcOk = true → ¬ (w.node = s.own ∧ w.port = p) →
    Does (.trainingFrameReceive p k w) s retrainParts
      (([.LANE_NEG_PARTNER_CAPS, .LANE_NEG_PARTNER_NODE, .LANE_NEG_PARTNER_PORT, .LANE_STAT_PARTNER_FOM] : List Fld) ++ retrainRegs)
      fun t => pst t p = 4 ∧ t.get .PORT_STAT_RETRAIN_CAUSE p = 6)
  ∧ (∀ (p k : Nat) (w : TCW) (s : State), s.domainOn p = true → pst s p ≠ 0 → w.crcOk = true → w.node = s.own → w.port = p →
    Does (.trainingFrameReceive p k w) s [.out, .porch] (.LANE_EVENTS_SELF_LOOP :: intRegs) fun t => t.flag .LANE_EVENTS_SELF_LOOP p = true)
  ∧ (∀ (p at1 : Nat) (s : State), (s.port p).stepAcked = some at1 → (s.port p).phase = .stepReq → Due s (at1 + 1000) →
    Does (.rateStepSwitch p) s [.ports, .out] [.LANE_STAT_STATE]
      fun t => (t.port p).rate = (s.port p).rateWant ∧ (t.port p).steps = (s.port p).steps + 1 ∧ (t.port p).stepAcked = none
        ∧ ((t.port p).phase = .backStep ↔ (s.port p).rate < (s.port p).rateWant))
  ∧ (∀ (p : Nat) (s : State), (s.port p).phase = .tuneRate → (s.port p).leader = true →
    Due s ((s.port p).phaseAt + (s.port p).stepWindow * 10000) →
    Does (.stepWindowExpiry p) s [.ports, .out] []
      fun t => (t.port p).phase = .stepReq ∧ (t.port p).rateWant = (s.port p).rateLast ∧ (t.port p).stepsLeft = false)
  ∧ (∀ (p at1 : Nat) (s : State), (s.port p).attemptAt = some at1 → pst s p = 1 → Due s (at1 + attemptBound s p) →
    Does (.bringupAttemptTimeout p) s [.ports, .line, .count, .out, .porch]
      (([.LANE_EVENTS_BRINGUP_RETRY, .LANE_EVENTS_NEG_FAIL, .LANE_NEG_LAST_RESULT, .LANE_NEG_LEADER, .LANE_NEG_RATE_REACHED, .LANE_NEG_STEPS] : List Fld)
        ++ bringUpRegs ++ countRegs)
      fun t => pst t p = 1 ∧ t.flag .LANE_EVENTS_BRINGUP_RETRY p = true
        ∧ (stepped s p = true → (s.port p).phase ≠ .idle → t.get .LANE_NEG_LAST_RESULT p = 4))
  ∧ (∀ (p at1 : Nat) (s : State), (s.port p).attemptAt = some at1 → pst s p = 5 → (s.port p).phase = .train → Due s (at1 + 180000) →
    (∃ k ∈ usable s p, lst s p k = 4) →
    Does (.retrainAttemptTimeout p) s [.ports, .fault, .count, .out, .porch]
      (([.LANE_STAT_STATE, .LANE_STAT_FAIL_CAUSE, .LANE_EVENTS_LANE_FAIL, .PORT_STAT_FEC_ACTIVE, .PORT_STAT_RATE_ACTIVE,
        .PORT_STAT_ONE_LANE_ACTIVE, .PORT_EVENTS_WIDTH_DEGRADED, .LANE_STAT_TX_CARRY, .LANE_STAT_RX_CARRY] : List Fld) ++ countRegs)
      fun t => (t.port p).phase = .paramRetrain ∧ (∀ k, k < 2 → lst s p k = 4 → lst t p k = 4) ∧ (∀ k, k < 2 → lst s p k ≠ 4 → lst t p k = 5))
  ∧ (∀ (p : Nat) (s : State), (s.port p).phase = .tune → pst s p = 1 → Due s ((s.port p).phaseAt + 600000) →
    (s.port p).attemptAt.isSome = true → (∀ k, k < 2 → (laneOf s p k).fomGood = false) →
    Does (.trainingStepBoundExpiry p) s [.ports, .out, .porch]
      (([.LANE_EVENTS_NEG_FAIL, .LANE_NEG_LAST_RESULT, .LANE_NEG_LEADER, .LANE_NEG_RATE_REACHED, .LANE_NEG_STEPS] : List Fld) ++ intRegs)
      fun t => (t.port p).phase = .idle ∧ t.get .LANE_NEG_LAST_RESULT p = 3 ∧ t.flag .LANE_EVENTS_NEG_FAIL p = true)

/-! ## The Porch's rooms (R178 to R217) -/

/-- Room commands (R185, R210, Tables 8.4 and 8.5): while one runs another is ignored; ACTIVATE of a resident room ends with the
first cause of Table 8.5 or makes the room ACTIVE; a parked room's context is read first; DEACTIVATE, FETCH and EVICT end as their
conditions say, and a dirty context parks as the words of log 14; a CMD without a meaning ends with RESULT 6. -/
def Obligations.RoomCommandsEnd : Prop :=
  (∀ (m : Master) (r : Nat) (s : State), May s m .ROOM_CMD_CMD → s.flag .ROOM_CMD_STAT_BUSY = false → r < 65536 →
    (s.room r).resident = true → NoneWaits s →
    Does (.roomActivate m r) s [.porch, .fault, .out] roomCmdRegs
      fun t => CmdEnded r (activateResult s (s.room r)) t ∧ OtherRooms r s t
        ∧ (activateResult s (s.room r) ≠ 0 → t.room r = s.room r)
        ∧ (activateResult s (s.room r) = 0 → (t.room r).st = 1 ∧ (t.room r).job = (s.room r).ctxJob ∧ (t.room r).hport = (s.room r).ctxHport
            ∧ (t.room r).knocks = 0 ∧ (t.room r).consumed = 0 ∧ (t.room r).written = 0 ∧ (t.room r).outstanding = 0 ∧ (t.room r).events = 0
            ∧ (t.room r).ctx = (s.room r).ctx))
  ∧ (∀ (m : Master) (r : Nat) (s : State), May s m .ROOM_CMD_CMD → s.flag .ROOM_CMD_STAT_BUSY = false → r < 65536 →
    (s.room r).resident = false → (s.room r).fetching = false → (s.room r).st = 0 → s.plan.installed = true →
    (slotRooms s).length < 4096 →
    Does (.roomActivate m r) s [.porch, .fault, .count, .out] (roomCmdRegs ++ countRegs)
      fun t => FetchBegun r s t ∧ t.flag .ROOM_CMD_STAT_BUSY = true ∧ t.porch.cmdRoom = some (r, 1) ∧ OtherRooms r s t)
  ∧ (∀ (c : Instr) (m : Master) (r k : Nat) (s : State), May s m .ROOM_CMD_CMD → s.flag .ROOM_CMD_STAT_BUSY = true →
    c ∈ [Instr.roomActivate m r, .roomDeactivate m r, .roomReset m r, .roomFetch r .command, .roomEvict m r, .roomCmdInvalid m r k] →
    Does c s [.porch, .fault, .out] (.PORCH_EVENTS_CMD_IGNORED :: (intRegs ++ mendRegs))
      fun t => t.flag .PORCH_EVENTS_CMD_IGNORED = true ∧ t.porch.rooms = s.porch.rooms ∧ t.porch.cmdRoom = s.porch.cmdRoom)
  ∧ (∀ (m : Master) (r : Nat) (s : State), May s m .ROOM_CMD_CMD → s.flag .ROOM_CMD_STAT_BUSY = false → r < 65536 →
    (∀ u ∈ s.crystal.unexp, u.room ≠ r) → (∀ x ∈ s.crystal.msgs, x.room ≠ r) → NoneWaits s →
    Does (.roomDeactivate m r) s [.porch, .crystal, .fault, .out] roomCmdRegs
      fun t => t.crystal.posted = s.crystal.posted ∧ CmdEnded r (if (s.room r).st = 0 ∨ ((s.room r).st = 1 ∧ roomIdle s r = true) then 0 else 1) t ∧ OtherRooms r s t
        ∧ t.room r = if (s.room r).st = 1 ∧ roomIdle s r = true then { s.room r with st := 0, armed := false } else s.room r)
  ∧ (∀ (m : Master) (r : Nat) (s : State), May s m .ROOM_CMD_CMD → s.flag .ROOM_CMD_STAT_BUSY = false → r < 65536 →
    (∀ u ∈ s.crystal.unexp, u.room ≠ r) → (∀ x ∈ s.crystal.msgs, x.room ≠ r) → NoParked s → NoneWaits s →
    (∀ o ∈ s.crystal.input, opRoom s o ≠ some r) → (∀ x ∈ s.crystal.holding, x.1 ≠ r) →
    Does (.roomReset m r) s [.porch, .crystal, .fault] roomCmdRegs
      fun t => (t.room r).st = 3 ∧ (t.room r).err = 0 ∧ (t.room r).knocks = 0 ∧ (t.room r).grant = 0 ∧ (t.room r).heldLb = 0
        ∧ (t.room r).openPkt = [] ∧ (t.room r).closed = [] ∧ (t.room r).pickups = [] ∧ (t.room r).pickUsed = 0 ∧ OtherRooms r s t
        ∧ t.crystal.posted = s.crystal.posted.filter (fun p => p.room != r)
        ∧ t.porch.lbUsed = s.porch.lbUsed - (s.room r).grant - (s.room r).heldLb ∧ t.porch.pickUsed = s.porch.pickUsed - (s.room r).pickUsed
        ∧ t.flag .ROOM_CMD_STAT_BUSY = true ∧ t.porch.cmdRoom = some (r, 3))
  ∧ (∀ (r : Nat) (s : State), (s.room r).st = 3 → roomBusy s r = false → s.porch.cmdRoom = some (r, 3) → NoneWaits s →
    Does (.roomResetComplete r) s [.porch, .out] (([.ROOM_CMD_STAT_BUSY, .ROOM_CMD_STAT_RESULT, .PORCH_EVENTS_CMD_DONE] : List Fld) ++ intRegs)
      fun t => (t.room r).st = 0 ∧ (t.room r).consumed = 0 ∧ (t.room r).written = 0 ∧ (t.room r).events = 0 ∧ (t.room r).outstanding = 0
        ∧ (t.room r).ctx = (s.room r).ctx ∧ OtherRooms r s t ∧ t.flag .ROOM_CMD_STAT_BUSY = false ∧ t.get .ROOM_CMD_STAT_RESULT = 0)
  ∧ (∀ (r : Nat) (s : State), s.flag .ROOM_CMD_STAT_BUSY = false → r < 65536 → (s.room r).resident = true → NoneWaits s →
    Does (.roomFetch r .command) s [.porch, .out] roomCmdRegs fun t => CmdEnded r 0 t ∧ t.porch.rooms = s.porch.rooms)
  ∧ (∀ (r : Nat) (by_ : FetchBy) (s : State), (s.room r).resident = false → (s.room r).fetching = false → (slotRooms s).length < 4096 →
    (by_ = .knock ∧ (s.room r).knocks ≠ 0) ∨ (by_ = .pageRead ∧ (s.room r).stalled ≠ []) ∨ (by_ = .lead ∧ parkedOf s r ≠ []) →
    Does (.roomFetch r by_) s [.porch, .count, .out] countRegs fun t => FetchBegun r s t ∧ OtherRooms r s t)
  ∧ (∀ (r v : Nat) (s : State), (s.room r).resident = false → (s.room r).fetching = false → 4096 ≤ (slotRooms s).length →
    (s.room r).knocks ≠ 0 → victim s = some v →
    Does (.roomFetch r .knock) s [.porch, .count, .out] countRegs fun t => FetchBegun r s t ∧ (v ≠ r → (t.room v).resident = false))
  ∧ (∀ (r : Nat) (s : State), (s.room r).resident = false → (s.room r).fetching = false → 4096 ≤ (slotRooms s).length →
    (s.room r).knocks ≠ 0 → victim s = none →
    Does (.roomFetch r .knock) s [.porch, .out] (.PORCH_EVENTS_RESIDENCY_FULL :: intRegs)
      fun t => t.flag .PORCH_EVENTS_RESIDENCY_FULL = true ∧ r ∈ t.porch.waitSlot ∧ t.porch.rooms = s.porch.rooms)
  ∧ (∀ (m : Master) (r : Nat) (s : State), May s m .ROOM_CMD_CMD → s.flag .ROOM_CMD_STAT_BUSY = false → r < 65536 →
    NoneWaits s →
    Does (.roomEvict m r) s [.porch, .fault, .out] roomCmdRegs
      fun t => OtherRooms r s t ∧ (evictable { s with porch := { s.porch with cmdRoom := none } } r = false → CmdEnded r 1 t ∧ t.room r = s.room r)
        ∧ (evictable { s with porch := { s.porch with cmdRoom := none } } r = true →
            CmdEnded r 0 t ∧ t.room r = { s.room r with resident := false, dirty := false }
            ∧ ((s.room r).dirty = true →
                .hostWrite (s.get .PORCH_CFG_BOX_HPORT) (boxAddr s r) (ctxFull (s.room r)) ∈ t.out)))
  ∧ (∀ (m : Master) (r k : Nat) (s : State), May s m .ROOM_CMD_CMD → s.flag .ROOM_CMD_STAT_BUSY = false → r < 65536 → NoneWaits s →
    Does (.roomCmdInvalid m r k) s [.porch, .fault, .out] roomCmdRegs fun t => CmdEnded r 6 t ∧ t.porch.rooms = s.porch.rooms)

/-- Contexts and residency (R184, R211, R213): a fetched context whose CRC holds makes its room resident and a waiting ACTIVATE or FETCH
ends; a context that cannot be used ends the command with RESULT 4 and puts an INACTIVE or ACTIVE room into ERROR, cause 1 for its CRC and 2 for a
failed read; ROOM_CTX writes and reads the selected word, of a parked room in the Box room, with CTX_CRC in word 31. A context that is as the device
wrote it brings back the counts it held; how words 5 to 30 hold them is open: log 14. -/
def Obligations.ContextsComeAndGo : Prop :=
  (∀ (r : Nat) (ws : List Word) (s : State), (s.room r).fetching = true → ctxCrcOk ws = true → s.porch.cmdRoom = some (r, 4) →
    NoneWaits s → (s.room r).stalled = [] → NoParked s →
    Does (.contextFetchDone r (.data ws)) s [.porch, .out]
      (([.ROOM_CMD_STAT_BUSY, .ROOM_CMD_STAT_RESULT, .PORCH_EVENTS_CMD_DONE] : List Fld) ++ intRegs)
      fun t => (t.room r).resident = true ∧ (t.room r).fetching = false ∧ (t.room r).ctx = padWords 5 ws
        ∧ ((ws.take 31).drop 5 = (ctxWords (s.room r)).drop 5 → (t.room r).consumed = (s.room r).consumed
            ∧ (t.room r).written = (s.room r).written ∧ (t.room r).events = (s.room r).events) ∧ OtherRooms r s t
        ∧ t.flag .ROOM_CMD_STAT_BUSY = false ∧ t.get .ROOM_CMD_STAT_RESULT = 0)
  ∧ (∀ (r : Nat) (ws : List Word) (s : State), (s.room r).fetching = true → ctxCrcOk ws = true → s.porch.cmdRoom = some (r, 1) →
    NoneWaits s → (s.room r).stalled = [] → NoParked s →
    Does (.contextFetchDone r (.data ws)) s [.porch, .out]
      (([.ROOM_CMD_STAT_BUSY, .ROOM_CMD_STAT_RESULT, .PORCH_EVENTS_CMD_DONE] : List Fld) ++ intRegs)
      fun t => (t.room r).resident = true ∧ t.get .ROOM_CMD_STAT_RESULT = activateResult s (loadCtx (s.room r) ws)
        ∧ (activateResult s (loadCtx (s.room r) ws) = 0 → (t.room r).st = 1) ∧ OtherRooms r s t)
  ∧ (∀ (r : Nat) (res : HostRead) (s : State), (s.room r).fetching = true → (∀ ws, res = .data ws → ctxCrcOk ws = false) →
    NoneWaits s → (s.room r).stalled = [] → NoParked s →
    Does (.contextFetchDone r res) s [.porch, .out]
      (([.ROOM_CMD_STAT_BUSY, .ROOM_CMD_STAT_RESULT, .PORCH_EVENTS_CMD_DONE, .PORCH_EVENTS_ROOM_ERROR] : List Fld) ++ intRegs)
      fun t => (t.room r).fetching = false ∧ OtherRooms r s t
        ∧ (∀ c, s.porch.cmdRoom = some (r, c) → t.get .ROOM_CMD_STAT_RESULT = 4 ∧ t.flag .ROOM_CMD_STAT_BUSY = false)
        ∧ ((s.room r).st = 0 ∨ (s.room r).st = 1 → (t.room r).st = 2 ∧ t.flag .PORCH_EVENTS_ROOM_ERROR = true
            ∧ (t.room r).err = match res with | .data _ => 1 | _ => 2)
        ∧ ((s.room r).st ≠ 0 → (s.room r).st ≠ 1 → (t.room r).st = (s.room r).st))
  ∧ (∀ (m : Master) (w : Word) (s : State), May s m .ROOM_CTX_DATA_DATA → s.get .ROOM_CTX_SEL_WORD < 5 →
    (s.room (s.get .ROOM_CTX_SEL_ROOM)).st ≠ 1 → NoneWaits s →
    Does (.roomCtxWrite m w) s [.porch, .fault, .out] mendRegs
      fun t => (t.room (s.get .ROOM_CTX_SEL_ROOM)).ctx = (padWords 5 (s.room (s.get .ROOM_CTX_SEL_ROOM)).ctx).set (s.get .ROOM_CTX_SEL_WORD)
            (ctxFields (s.get .ROOM_CTX_SEL_WORD) w)
        ∧ OtherRooms (s.get .ROOM_CTX_SEL_ROOM) s t
        ∧ ((s.room (s.get .ROOM_CTX_SEL_ROOM)).resident = false → t.out.head? = some (.hostWrite (s.get .PORCH_CFG_BOX_HPORT)
            (boxAddr s (s.get .ROOM_CTX_SEL_ROOM)) (ctxFull (t.room (s.get .ROOM_CTX_SEL_ROOM))))))
  ∧ (∀ (m : Master) (w : Word) (s : State), May s m .ROOM_CTX_DATA_DATA → 5 ≤ s.get .ROOM_CTX_SEL_WORD →
    Does (.roomCtxWrite m w) s [.fault] mendRegs fun t => t.porch = s.porch)
  ∧ (∀ (m : Master) (res : HostRead) (s : State), MaySee s m .ROOM_CTX_DATA_DATA →
    (s.room (s.get .ROOM_CTX_SEL_ROOM)).resident = true →
    s.get .ROOM_CTX_SEL_WORD < 5 →
    Does (.roomCtxRead m res) s [.out] []
      fun t => t.out = .reg m ((padWords 5 (s.room (s.get .ROOM_CTX_SEL_ROOM)).ctx).getD (s.get .ROOM_CTX_SEL_WORD) 0) :: s.out)
  ∧ (∀ (m : Master) (res : HostRead) (s : State), MaySee s m .ROOM_CTX_DATA_DATA →
    (s.room (s.get .ROOM_CTX_SEL_ROOM)).resident = true → 5 ≤ s.get .ROOM_CTX_SEL_WORD →
    Does (.roomCtxRead m res) s [.out] []
      fun t => ∃ w, t.out = .reg m w :: s.out
        ∧ (s.get .ROOM_CTX_SEL_WORD = 31 → w = wd (crc32c (wordsBytes (ctxWords (s.room (s.get .ROOM_CTX_SEL_ROOM)))))))
  ∧ (∀ (m : Master) (ws : List Word) (s : State), MaySee s m .ROOM_CTX_DATA_DATA →
    (s.room (s.get .ROOM_CTX_SEL_ROOM)).resident = false →
    Does (.roomCtxRead m (.data ws)) s [.out] []
      fun t => t.out = .reg m (ws.getD (s.get .ROOM_CTX_SEL_WORD) 0)
        :: .hostRead (s.get .PORCH_CFG_BOX_HPORT) (boxAddr s (s.get .ROOM_CTX_SEL_ROOM)) 256 (s.get .ROOM_CTX_SEL_ROOM) :: s.out)

/-- Knocks and work fetch (R191 to R194, R205): a knock adds to the pending knocks, those beyond the ring's size are dropped with their event; a
fetch reads as many entries as knocks, burst and ring allow; an entry of the device's phase is consumed, one of the other phase stops the fetch
until RESCAN_US; a Pickup receive reserves its space; the rescan ends the stop. -/
def Obligations.WorkEntriesAreFetched : Prop :=
  (∀ (h r k : Nat) (s : State), PageActs s h r → k ≤ (s.room r).workSize - (s.room r).knocks →
    Does (.knock h r k) s [.porch] []
      fun t => t.room r = { s.room r with knocks := (s.room r).knocks + k, stopped := false, rescanAt := none, lastUse := s.now } ∧ OtherRooms r s t)
  ∧ (∀ (h r k : Nat) (s : State), PageActs s h r → (s.room r).workSize - (s.room r).knocks < k →
    (s.room r).knocks ≤ (s.room r).workSize →
    Does (.knock h r k) s [.porch, .count, .out] countRegs
      fun t => (t.room r).knocks = (s.room r).workSize ∧ (t.room r).events.testBit 4 = true ∧ OtherRooms r s t)
  ∧ (∀ (h r k : Nat) (s : State), hostReaches s h = true → bound s h r = false ∨ (s.room r).st ≠ 1 →
    Does (.knock h r k) s [.count, .out, .porch] countRegs fun t => t.porch.rooms = s.porch.rooms)
  ∧ (∀ (r n : Nat) (s : State), (s.room r).st = 1 → (s.room r).resident = true → s.hostStopped = false →
    s.flag .HPORT_STAT_LINK_UP (s.room r).hport = true → 0 < (s.room r).knocks → (s.room r).reading = none → (s.room r).stopped = false →
    (s.room r).outstanding < (s.room r).outMax → 0 < (s.room r).free →
    n = min (min (s.room r).knocks (s.get .PORCH_CFG_FETCH_BURST)) ((s.room r).workSize - (s.room r).consumed % (s.room r).workSize) →
    fetchTakes s (s.room r).hport n = true →
    Does (.workFetchStart r) s [.porch, .out] []
      fun t => t.room r = { s.room r with reading := some ((s.room r).consumed, n), lastUse := s.now } ∧ OtherRooms r s t
        ∧ t.out = .hostRead (s.room r).hport ((s.room r).workBase + 64 * ((s.room r).consumed % (s.room r).workSize)) (64 * n) r :: s.out)
  ∧ (∀ (r : Nat) (s : State), (s.room r).st ≠ 1 ∨ (s.room r).resident = false ∨ (s.room r).knocks = 0 ∨ (s.room r).reading.isSome = true
      ∨ (s.room r).stopped = true ∨ (s.room r).outMax ≤ (s.room r).outstanding ∨ (s.room r).free = 0 → Nothing (.workFetchStart r) s)
  ∧ (∀ (r a : Nat) (e : List Word) (es : List (List Word)) (s : State), (s.room r).reading = some (a, 1) → (s.room r).st = 1 →
    (s.room r).resident = true → s.hostStopped = false → mayConsume (s.room r) = true → wePhase (padWords 8 e) = phaseOf (s.room r).consumed (s.room r).workSize →
    ¬ (weOp (padWords 8 e) = 2 ∧ wePickup (padWords 8 e) = true) →
    Does (.workFetchDone r (e :: es)) s [.porch] []
      fun t => t.porch.fetchQ = s.porch.fetchQ ++ [{ room := r, entry := padWords 8 e, lb := none, at_ := s.now }]
        ∧ (t.room r).consumed = ((s.room r).consumed + 1) % 2 ^ 32 ∧ (t.room r).knocks = (s.room r).knocks - 1
        ∧ (t.room r).reserved = (s.room r).reserved + 1 ∧ (t.room r).outstanding = (s.room r).outstanding + 1 ∧ OtherRooms r s t)
  ∧ (∀ (r a : Nat) (e : List Word) (es : List (List Word)) (s : State), (s.room r).reading = some (a, 1) → (s.room r).st = 1 →
    (s.room r).resident = true → s.hostStopped = false → mayConsume (s.room r) = true → wePhase (padWords 8 e) = phaseOf (s.room r).consumed (s.room r).workSize →
    weOp (padWords 8 e) = 2 → wePickup (padWords 8 e) = true → weLen (padWords 8 e) ≤ 4096 →
    (s.room r).pickUsed + pickSpace (weLen (padWords 8 e)) ≤ (s.room r).pickMax * 1024 → pickSpace (weLen (padWords 8 e)) ≤ pickFree s →
    Does (.workFetchDone r (e :: es)) s [.porch] []
      fun t => t.porch.fetchQ = s.porch.fetchQ ++ [{ room := r, entry := padWords 8 e, lb := none, at_ := s.now }]
        ∧ (t.room r).pickUsed = (s.room r).pickUsed + (32 + 64 * ((weLen (padWords 8 e) + 63) / 64))
        ∧ t.porch.pickUsed = s.porch.pickUsed + (32 + 64 * ((weLen (padWords 8 e) + 63) / 64)))
  ∧ (∀ (r a n : Nat) (e : List Word) (es : List (List Word)) (s : State), (s.room r).reading = some (a, n) → 0 < n → (s.room r).st = 1 →
    (s.room r).resident = true → s.hostStopped = false → wePhase (padWords 8 e) ≠ phaseOf (s.room r).consumed (s.room r).workSize →
    Does (.workFetchDone r (e :: es)) s [.porch] []
      fun t => t.room r = { s.room r with
          reading := none, stopped := true, rescanAt := some (s.now + s.get .PORCH_CFG_RESCAN_US * 1000) } ∧ OtherRooms r s t
        ∧ t.porch.fetchQ = s.porch.fetchQ)
  ∧ (∀ (r a n : Nat) (es : List (List Word)) (s : State), (s.room r).reading = some (a, n) →
    (s.room r).st ≠ 1 ∨ (s.room r).resident = false ∨ s.hostStopped = true →
    Does (.workFetchDone r es) s [.porch] []
      fun t => t.room r = { s.room r with reading := none } ∧ OtherRooms r s t ∧ t.porch.fetchQ = s.porch.fetchQ)
  ∧ (∀ (r at1 : Nat) (s : State), (s.room r).rescanAt = some at1 → (s.room r).stopped = true → 0 < (s.room r).knocks → Due s at1 →
    Does (.rescanTimer r) s [.porch] []
      fun t => t.room r = { s.room r with stopped := false, rescanAt := none } ∧ OtherRooms r s t)

/-- The room page (R182, R186, R198, R200 to R209, R214): an access to a page of another port's room counts and acts on nothing; the completion head, ARM,
the Letterbox's grant, words, end mark and discards, the Pickup window and its SKIP act as their rules say, and a narrow access to a
window is refused with its event; a mismatch in a room's queues empties the queue with its fault. -/
def Obligations.RoomPagesAct : Prop :=
  (∀ (h r v : Nat) (w : Word) (c : Instr) (s : State), hostReaches s h = true → bound s h r = false →
    c ∈ [Instr.cmplHeadWrite h r v, .armWrite h r v, .lbRelease h r v, .letterboxWord h r w false, .letterboxWord h r w true,
      .lbEndWord h r w false, .lbEndWord h r w true, .pickupSkip h r] →
    Does c s [.count, .out, .porch] countRegs fun t => t.porch.rooms = s.porch.rooms)
  ∧ (∀ (h r v : Nat) (w : Word) (b : Bool) (c : Instr) (s : State), hostReaches s h = false →
    c ∈ [Instr.cmplHeadWrite h r v, .armWrite h r v, .lbRelease h r v, .letterboxWord h r w b, .lbEndWord h r w b, .pickupSkip h r,
      .lbGrantRead h r, .pickupRead h r b, .knock h r v] → Nothing c s)
  ∧ (∀ (h r : Nat) (c : Instr) (s : State), hostReaches s h = true → bound s h r = false → c ∈ [Instr.lbGrantRead h r, .pickupRead h r false] →
    Does c s [.count, .out, .porch] countRegs fun t => t.porch.rooms = s.porch.rooms ∧ t.out.head? = some (.page h 0))
  ∧ (∀ (h r v : Nat) (s : State), PageActs s h r →
    Does (.cmplHeadWrite h r v) s [.porch] []
      fun t => t.room r = { s.room r with head := v % 2 ^ 32, lastUse := s.now } ∧ OtherRooms r s t)
  ∧ (∀ (h r v : Nat) (s : State), PageActs s h r → v.testBit 0 = true →
    Does (.armWrite h r v) s [.porch, .out] []
      fun t => OtherRooms r s t ∧ (t.room r).armed = decide ((s.room r).written = (s.room r).head)
        ∧ ((s.room r).written ≠ (s.room r).head → (s.room r).cmplNotify = true → s.flag .HPORT_STAT_LINK_UP (s.room r).hport = true →
            (Tab.get s.porch.msix ((s.room r).hport * 2048 + (s.room r).cmplVec) {}).masked = false →
            t.out = .msix (s.room r).hport (s.room r).cmplVec :: s.out))
  ∧ (∀ (h r : Nat) (s : State), PageActs s h r → (s.room r).resident = true → s.porch.lbUsed < 4194304 →
    Does (.lbGrantRead h r) s [.porch, .out] []
      fun t =>
        let n := min (8192 - (s.room r).grant - (s.room r).heldLb) (4194304 - s.porch.lbUsed) / 64 * 64
        (t.room r).grant = (s.room r).grant + n ∧ t.porch.lbUsed = s.porch.lbUsed + n ∧ OtherRooms r s t
          ∧ t.out = .page h (wd ((s.room r).grant + n)) :: s.out)
  ∧ (∀ (h r : Nat) (s : State), PageActs s h r → (s.room r).resident = false →
    Does (.lbGrantRead h r) s [.porch] []
      fun t => t.room r = { s.room r with stalled := (s.room r).stalled ++ [(0x60, s.now + 2000)] } ∧ OtherRooms r s t)
  ∧ (∀ (h r v : Nat) (s : State), PageActs s h r → NoneWaits s → v.testBit 0 = true →
    Does (.lbRelease h r v) s [.porch] []
      fun t => (t.room r).grant = 0 ∧ t.porch.lbUsed = s.porch.lbUsed - (s.room r).grant ∧ OtherRooms r s t)
  ∧ (∀ (h r : Nat) (w : Word) (s : State), PageActs s h r → (s.room r).dropping = false → 8 ≤ (s.room r).grant →
    Does (.letterboxWord h r w false) s [.porch] []
      fun t => t.room r = { s.room r with
          grant := (s.room r).grant - 8, heldLb := (s.room r).heldLb + 8, openPkt := (s.room r).openPkt ++ [w], lastUse := s.now }
        ∧ OtherRooms r s t)
  ∧ (∀ (h r : Nat) (w : Word) (s : State), PageActs s h r → (s.room r).dropping = false → 8 ≤ (s.room r).grant →
    Does (.lbEndWord h r w false) s [.porch] []
      fun t => t.room r = { s.room r with
          grant := (s.room r).grant - 8, heldLb := (s.room r).heldLb + 8, openPkt := [],
          closed := (s.room r).closed ++ [(0, (s.room r).openPkt ++ [w])], lastUse := s.now } ∧ OtherRooms r s t)
  ∧ (∀ (h r : Nat) (w : Word) (s : State), PageActs s h r → (s.room r).dropping = false → (s.room r).grant < 8 →
    NoneWaits s → (s.room r).resident = true → 8 * (s.room r).openPkt.length ≤ (s.room r).heldLb →
    Does (.letterboxWord h r w false) s [.porch, .count, .out] countRegs
      fun t => (t.room r).openPkt = [] ∧ (t.room r).dropping = true ∧ (t.room r).events.testBit 0 = true ∧ OtherRooms r s t
        ∧ (t.room r).heldLb = (s.room r).heldLb - 8 * (s.room r).openPkt.length
        ∧ t.porch.lbUsed = s.porch.lbUsed - 8 * (s.room r).openPkt.length)
  ∧ (∀ (h r : Nat) (w : Word) (s : State), PageActs s h r → (s.room r).dropping = false → (s.room r).grant < 8 → NoneWaits s →
    (s.room r).resident = false → (s.room r).fetching = false → (slotRooms s).length < 4096 →
    Does (.letterboxWord h r w false) s [.porch, .count, .out] countRegs
      fun t => (t.room r).fetching = true ∧ (t.room r).dropping = true ∧ (t.room r).events.testBit 0 = true ∧ OtherRooms r s t)
  ∧ (∀ (h r : Nat) (w : Word) (c : Instr) (s : State), PageActs s h r →
    c ∈ [Instr.letterboxWord h r w true, .lbEndWord h r w true, .pickupRead h r true] →
    Does c s [.porch, .out] [] fun t => (t.room r).events.testBit 7 = true ∧ (t.room r).openPkt = (s.room r).openPkt
      ∧ (t.room r).grant = (s.room r).grant ∧ (t.room r).pickups = (s.room r).pickups ∧ OtherRooms r s t)
  ∧ (∀ (r : Nat) (ws : List Word) (rest : List (Nat × List Word)) (s : State), (s.room r).closed = (0, ws) :: rest → (s.room r).st = 1 →
    (s.room r).resident = true → s.hostStopped = false → mayConsume (s.room r) = true → fetchTakes s (s.room r).hport 1 = true →
    lbLength (padWords 8 ws) = some ws.length → weOp (padWords 8 ws) ≠ 2 →
    Does (.lbPacketEnqueue r) s [.porch] []
      fun t => t.porch.fetchQ = s.porch.fetchQ ++ [{ room := r, entry := padWords 8 ws, lb := some (ws.drop 8), at_ := s.now }]
        ∧ (t.room r).closed = rest ∧ (t.room r).reserved = (s.room r).reserved + 1 ∧ (t.room r).outstanding = (s.room r).outstanding + 1
        ∧ OtherRooms r s t)
  ∧ (∀ (r : Nat) (ws : List Word) (rest : List (Nat × List Word)) (s : State), (s.room r).closed = (0, ws) :: rest → (s.room r).st = 1 →
    (s.room r).resident = true → s.hostStopped = false → mayConsume (s.room r) = true → fetchTakes s (s.room r).hport 1 = true →
    NoneWaits s → (s.room r).risk = false →
    lbLength (padWords 8 ws) ≠ some ws.length →
    Does (.lbPacketEnqueue r) s [.porch, .count, .out] countRegs
      fun t => t.porch.fetchQ = s.porch.fetchQ ∧ (t.room r).closed = rest ∧ (t.room r).events.testBit 1 = true
        ∧ (t.room r).written = ((s.room r).written + 1) % 2 ^ 32 ∧ OtherRooms r s t)
  ∧ (∀ (h r ck sp : Nat) (w : Word) (ws : List Word) (rest : List (List Word × Nat × Nat)) (s : State), PageActs s h r →
    (s.room r).resident = true → NoneWaits s → (s.room r).pickups = (w :: ws, ck, sp) :: rest →
    Does (.pickupRead h r false) s [.porch, .out] []
      fun t => t.out = .page h w :: s.out ∧ OtherRooms r s t
        ∧ (ws ≠ [] → (t.room r).pickups = (ws, ck, sp) :: rest ∧ (t.room r).pickUsed = (s.room r).pickUsed)
        ∧ (ws = [] → (t.room r).pickups = rest ∧ (t.room r).pickUsed = (s.room r).pickUsed - sp))
  ∧ (∀ (h r : Nat) (s : State), PageActs s h r → (s.room r).resident = true → (s.room r).pickups = [] →
    Does (.pickupRead h r false) s [.porch, .count, .out] countRegs
      fun t => t.out.head? = some (.page h 0) ∧ (t.room r).events.testBit 6 = true ∧ OtherRooms r s t)
  ∧ (∀ (h r ck sp : Nat) (ws : List Word) (rest : List (List Word × Nat × Nat)) (s : State), PageActs s h r →
    (s.room r).pickups = (ws, ck, sp) :: rest →
    NoneWaits s → sp ≤ (s.room r).pickUsed →
    Does (.pickupSkip h r) s [.porch] []
      fun t => (t.room r).pickups = rest ∧ (t.room r).pickUsed = (s.room r).pickUsed - sp ∧ t.porch.pickUsed = s.porch.pickUsed - sp
        ∧ OtherRooms r s t)
  ∧ (∀ (r : Nat) (s : State),
    Does (.roomQueueMismatch r true) s faultParts (.PORCH_EVENTS_QUEUE_RESET :: faultRegs)
      fun t => (t.room r).pickups = [] ∧ (t.room r).events.testBit 2 = true ∧ t.flag .PORCH_EVENTS_QUEUE_RESET = true ∧ Raised 9 15 s t)
  ∧ (∀ (r : Nat) (s : State),
    Does (.roomQueueMismatch r false) s faultParts (.PORCH_EVENTS_QUEUE_RESET :: faultRegs)
      fun t => (t.room r).openPkt = [] ∧ (t.room r).events.testBit 3 = true ∧ t.flag .PORCH_EVENTS_QUEUE_RESET = true ∧ Raised 9 15 s t)

/-! ## Segments at the target (R79 to R92, R212, R252 to R269) -/

/-- Cells at the Threshold: dropped at L3 and from a fenced node (R355, R368); a lead whose CRC fails is ignored (R75); a
FRESH receive side answers FLOW_RESET (R272), another epoch is stale and the next epoch resets the receive side; a number too far ahead is only
counted (R252); a payload cell joins its segment (R253); a lead is refused by the first check of R91 that fails, or its SEND, next in
order, goes to matching (R222). -/
def Obligations.CellsAreJudged : Prop :=
  (∀ (c : Cell) (s : State), c.ty = tyLead → s.hostStopped = true ∨ s.fenced (s.idxOf c.src) = true →
    Does (.leadArrival (some c)) s [.count, .out, .porch] countRegs fun t => t.porch.rooms = s.porch.rooms)
  ∧ (∀ (c : Cell) (s : State), c.ty = tyPayload → s.hostStopped = true ∨ s.fenced (s.idxOf c.src) = true →
    Does (.payloadArrival (some c)) s [.count, .out, .porch] countRegs fun t => t.porch.rooms = s.porch.rooms)
  ∧ (∀ (c : Cell) (s : State), c.ty = tyLead → s.hostStopped = false → s.fenced (s.idxOf c.src) = false → c.check ≠ bodyCrc c.body →
    Does (.leadArrival (some c)) s [.thresh] []
      fun t => t.thresh.badBodies = s.thresh.badBodies + 1 ∧ t.thresh.flows = s.thresh.flows)
  ∧ (∀ (x : Nat) (c : Cell) (s : State), c.ty = tyPayload → x = s.idxOf c.src → s.hostStopped = false → s.fenced x = false →
    (s.flow x).recv.st = 0 → ackQueueRoom s = true →
    Does (.payloadArrival (some c)) s [.thresh, .hall] []
      fun t => (t.flow x).recv.st = 2 ∧ (t.flow x).recv.epoch = c.epoch ∧ (t.flow x).recv.fresh = true ∧ OtherFlows x s t
        ∧ CellQueued s t (fun d => d.ty = tyNack ∧ nackCode d = 11 ∧ d.seq = c.seq ∧ d.epoch = c.epoch ∧ d.dest = s.nodeOf x))
  ∧ (∀ (x : Nat) (c : Cell) (s : State), c.ty = tyPayload → x = s.idxOf c.src → s.hostStopped = false → s.fenced x = false →
    (s.flow x).recv.st = 1 → c.epoch ≠ (s.flow x).recv.epoch → c.epoch ≠ ((s.flow x).recv.epoch + 1) % 4 →
    Does (.payloadArrival (some c)) s [.count, .out, .porch] (.THRESH_EVENTS_STALE_EPOCH_SEEN :: countRegs)
      fun t => t.flag .THRESH_EVENTS_STALE_EPOCH_SEEN = true)
  ∧ (∀ (x : Nat) (c : Cell) (s : State), c.ty = tyPayload → x = s.idxOf c.src → s.hostStopped = false → s.fenced x = false →
    (s.flow x).recv.st ≠ 0 → c.epoch = ((s.flow x).recv.epoch + 1) % 4 → (∀ m ∈ s.crystal.msgs, m.src ≠ x) →
    Does (.payloadArrival (some c)) s [.thresh, .crystal, .porch, .count, .out]
      (([.THRESH_EVENTS_FLOW_RESET_SEEN, .THRESH_EVENTS_VEST_FULL] : List Fld) ++ countRegs)
      fun t => (t.flow x).recv.st = 1 ∧ (t.flow x).recv.epoch = c.epoch ∧ (t.flow x).recv.w = 0xFFFF ∧ (t.flow x).recv.n = 0
        ∧ (∀ g ∈ (t.flow x).recv.segs, g.seq = c.seq) ∧ OtherFlows x s t ∧ t.flag .THRESH_EVENTS_FLOW_RESET_SEEN = true)
  ∧ (∀ (x : Nat) (c : Cell) (s : State), c.ty = tyPayload → Proceeds x c s → 1024 < subMod c.seq (s.flow x).recv.w 65536 →
    subMod c.seq (s.flow x).recv.w 65536 ≤ 32768 →
    Does (.payloadArrival (some c)) s [.count, .out, .porch] countRegs fun t => t.porch.rooms = s.porch.rooms)
  ∧ (∀ (x : Nat) (c : Cell) (s : State), c.ty = tyPayload → Proceeds x c s → 1 ≤ subMod c.seq (s.flow x).recv.w 65536 →
    subMod c.seq (s.flow x).recv.w 65536 ≤ 1024 → rsegOf s x c.seq = none → vestUsed s + 80 ≤ 8388608 → Tab.wf s.thresh.flows →
    Does (.payloadArrival (some c)) s [.thresh] []
      fun t => (t.flow x).recv.segs = (s.flow x).recv.segs ++
          [{ seq := c.seq, cells := c.segCells, st := .inProgress, first := s.now, got := [c], ce := c.ce }] ∧ OtherFlows x s t)
  ∧ (∀ (x k : Nat) (c : Cell) (s : State), c.ty = tyLead → c.check = bodyCrc c.body → Proceeds x c s →
    1 ≤ subMod c.seq (s.flow x).recv.w 65536 → subMod c.seq (s.flow x).recv.w 65536 ≤ 1024 → rsegOf s x c.seq = none →
    k = leadRefusal s x c.body c.segCells → k ≠ 0 → ackQueueRoom s = true → ¬ (leadOp c.body = 0x21 ∧ leadRndv c.body = true) →
    Does (.leadArrival (some c)) s [.thresh, .hall] []
      fun t => (∃ g : RSeg, rsegOf t x c.seq = some g ∧ g.st = .nacked k 0) ∧ OtherFlows x s t
        ∧ CellQueued s t (fun d => d.ty = tyNack ∧ nackCode d = k ∧ d.seq = c.seq ∧ d.dest = s.nodeOf x))
  ∧ (∀ (x k : Nat) (c : Cell) (s : State), c.ty = tyLead → c.check = bodyCrc c.body → Proceeds x c s →
    1 ≤ subMod c.seq (s.flow x).recv.w 65536 → subMod c.seq (s.flow x).recv.w 65536 ≤ 1024 → rsegOf s x c.seq = none →
    k = leadRefusal s x c.body c.segCells → k ≠ 0 → leadOp c.body = 0x21 → leadRndv c.body = true →
    ∃ t, exec (.leadArrival (some c)) s = .next t ∧ ∃ g : RSeg, rsegOf t x c.seq = some g ∧ g.st = .nacked k 0)
  ∧ (∀ (x : Nat) (c : Cell) (s : State), c.ty = tyLead → c.check = bodyCrc c.body → Proceeds x c s →
    1 ≤ subMod c.seq (s.flow x).recv.w 65536 → subMod c.seq (s.flow x).recv.w 65536 ≤ 1024 → rsegOf s x c.seq = none →
    leadOp c.body = 1 → leadRefusal s x c.body c.segCells = 0 → stillTakes s x c.body = false → Tab.wf s.thresh.flows →
    vestUsed s + 80 * c.segCells ≤ 8388608 → roomParked s (leadDestRoom c.body) x c.seq < s.get .PORCH_CFG_PARK_MAX_KIB * 1024 →
    (s.room (leadDestRoom c.body)).resident = true → msgOf s x (leadMsg c.body) = none → s.crystalOn = true →
    subMod (leadMsg c.body) (s.flow x).recv.n (2 ^ 32) = 0 →
    Does (.leadArrival (some c)) s [.thresh, .crystal, .porch] []
      fun t => t.crystal = { s.crystal with input := s.crystal.input ++ [.arrive x c.seq] } ∧ OtherFlows x s t
        ∧ OtherRooms (leadDestRoom c.body) s t)

/-- Segments leave reassembly: a delivered PUT writes its bytes and is COMPLETE (R85, R180), a tile that fails leaves it EMPTY, a key that fails
answers it KEY_FAULT (R249); the budget of a parked segment answers it NOT_READY (R269); a segment without a lead is discarded (R253); a Cellar read
fills its cache or fails with its fault (R89, R454); a host read's answer goes on to what asked for it (R180, R251). -/
def Obligations.SegmentsAreDelivered : Prop :=
  (∀ s : State, s.hostStopped = true ∨ s.porch.deliveries = [] → Nothing .porchDelivery s)
  ∧ (∀ (x q h a n : Nat) (g : RSeg) (rest : List Delivery) (s : State), s.hostStopped = false → s.porch.deliveries = .seg x q :: rest →
    rsegOf s x q = some g → g.queued = true → g.st = .inProgress → leadOp g.body = 0x10 → leadInline g.body = true → g.cells = 1 →
    g.access = some (h, [(a, n)]) → s.flag .HPORT_STAT_LINK_UP h = true → s.thresh.keyCache.contains (leadKeyIdx g.body) = true →
    keyCheck (s.keyAt (leadKeyIdx g.body)) (leadKeyIdx g.body) (leadKeyGen g.body) (leadJob g.body) 10 (leadRemote g.body)
      (segBytes (leadLen g.body) (leadOff g.body)) none = 0 →
    tracked s x (leadMsg g.body) = false → 0 < leadLen g.body → min 16 (leadLen g.body) ≤ n →
    atomicHolds s h [(a, n)] = false →
    Does .porchDelivery s faultParts (.THRESH_EVENTS_ACK_SPILL_FULL :: faultRegs)
      fun t => t.porch.deliveries = rest
        ∧ .hostBytes h a ((wordsBytes [g.body.getD 6 0, g.body.getD 7 0]).take (min 16 (leadLen g.body))) ∈ t.out
        ∧ ∀ e ∈ (t.flow x).recv.segs, e.seq = q → e.st = .complete)
  ∧ (∀ (x q h : Nat) (pages : List (Nat × Nat)) (g : RSeg) (rest : List Delivery) (s : State), s.hostStopped = false →
    s.porch.deliveries = .seg x q :: rest → rsegOf s x q = some g → g.queued = true → g.st = .inProgress → leadOp g.body = 0x10 →
    g.access = some (h, pages) → s.flag .HPORT_STAT_LINK_UP h = true → s.thresh.keyCache.contains (leadKeyIdx g.body) = true →
    keyCheck (s.keyAt (leadKeyIdx g.body)) (leadKeyIdx g.body) (leadKeyGen g.body) (leadJob g.body) 10 (leadRemote g.body)
      (segBytes (leadLen g.body) (leadOff g.body)) none = 0 → tilesGood g = false →
    atomicHolds s h pages = false →
    Does .porchDelivery s [.thresh, .porch, .out] []
      fun t => t.porch.deliveries = rest ∧ rsegOf t x q = none ∧ OtherFlows x s t
        ∧ (t.flow x).recv.tileFails = (s.flow x).recv.tileFails + ((tilesOf g).filter (fun k => !tileOk g.sorted k)).length)
  ∧ (∀ (x q sub : Nat) (g : RSeg) (rest : List Delivery) (s : State), s.hostStopped = false → s.porch.deliveries = .seg x q :: rest →
    rsegOf s x q = some g → g.queued = true → g.st = .inProgress → leadOp g.body = 0x10 → g.access.isSome = true →
    s.thresh.keyCache.contains (leadKeyIdx g.body) = true →
    sub = keyCheck (s.keyAt (leadKeyIdx g.body)) (leadKeyIdx g.body) (leadKeyGen g.body) (leadJob g.body) 10 (leadRemote g.body)
      (segBytes (leadLen g.body) (leadOff g.body)) none → sub ≠ 0 → ackQueueRoom s = true →
    Does .porchDelivery s [.thresh, .porch, .hall, .count, .out] (.THRESH_EVENTS_KEY_FAULT_SEEN :: countRegs)
      fun t => t.porch.deliveries = rest ∧ (∃ e : RSeg, rsegOf t x q = some e ∧ e.st = .nacked 8 sub)
        ∧ t.flag .THRESH_EVENTS_KEY_FAULT_SEEN = true ∧ CellQueued s t (fun d => d.ty = tyNack ∧ nackCode d = 8 ∧ d.seq = q))
  ∧ (∀ (x q at1 hint : Nat) (g : RSeg) (s : State), rsegOf s x q = some g → g.parkAt = some at1 → s.hostStopped = false →
    Due s (at1 + s.get .THRESH_CFG_PARK_BUDGET_US * 1000) → (∀ w ∈ s.thresh.respWait, ¬ (w.src = x ∧ w.seq = q)) → ackQueueRoom s = true → NoneWaits s →
    (g.park = some .residency ∧ hint = 10) ∨ (g.park = some .order ∧ hint = s.get .CRYSTAL_CFG_FULL_HINT_US)
      ∨ (g.park = some .xlate ∧ hint = s.get .THRESH_CFG_PAGE_HINT_US) →
    Does (.parkBudgetExpiry x q) s [.thresh, .hall, .count, .out, .porch]
      (([.THRESH_EVENTS_PARK_EXPIRED, .CRYSTAL_EVENTS_HOLD_EXPIRED] : List Fld) ++ countRegs)
      fun t => rsegOf t x q = none ∧ t.flag .THRESH_EVENTS_PARK_EXPIRED = true ∧ OtherFlows x s t
        ∧ (g.park = some .order → t.flag .CRYSTAL_EVENTS_HOLD_EXPIRED = true)
        ∧ CellQueued s t (fun d => d.ty = tyNack ∧ nackCode d = 1 ∧ d.seq = q ∧ wf_ d.body 0 48 16 = hint % 65536))
  ∧ (∀ (x q : Nat) (g : RSeg) (s : State), rsegOf s x q = some g → g.lead = none → g.st = .inProgress →
    Due s (g.first + s.get .THRESH_ACK_CFG_ORPHAN_US * 1000) →
    Does (.orphanTimeout x q) s [.thresh, .count, .out, .porch] (.THRESH_EVENTS_ORPHAN_SEEN :: countRegs)
      fun t => rsegOf t x q = none ∧ t.flag .THRESH_EVENTS_ORPHAN_SEEN = true ∧ OtherFlows x s t)
  ∧ (∀ (i : Nat) (rest : List CellarRead) (s : State), s.thresh.cellarWait = .key i :: rest → s.thresh.keyCache.length < 65536 → NoParked s → NoneWaits s →
    Does (.cellarReadDone false) s [.thresh] []
      fun t => t.thresh.cellarWait = rest ∧ i ∈ t.thresh.keyCache ∧ (∀ j, j ∈ t.thresh.keyCache → j = i ∨ j ∈ s.thresh.keyCache)
        ∧ t.thresh.flows = s.thresh.flows)
  ∧ (∀ (job n slot : Nat) (rest : List CellarRead) (s : State), s.thresh.cellarWait = .rank job n :: rest →
    s.thresh.rankCache.length < 16384 → s.jobSlot job = some slot → NoParked s → NoneWaits s →
    Does (.cellarReadDone false) s [.thresh] []
      fun t => t.thresh.cellarWait = rest ∧ rankCached t job n = some (rankEntry s slot n) ∧ t.thresh.flows = s.thresh.flows)
  ∧ (∀ (r : CellarRead) (rest : List CellarRead) (s : State), s.thresh.cellarWait = r :: rest → NoParked s →
    Does (.cellarReadDone true) s faultParts faultRegs fun t => t.thresh.cellarFailed = some r ∧ Raised 10 11 s t)
  ∧ (∀ (tag : Nat) (res : HostRead) (r : HRead) (s : State), Tab.find? s.thresh.reads tag = some r → s.hostStopped = true →
    Does (.hostReadDone tag res) s [.thresh] [] fun t => t.thresh = { s.thresh with reads := Tab.del s.thresh.reads tag })
  ∧ (∀ (tag x q ep : Nat) (ws : List Word) (g : Seg) (s : State), Tab.find? s.thresh.reads tag = some (.payload x q ep) →
    s.hostStopped = false → outSeg s x q = some g → g.epoch = ep → g.input < 80 →
    Does (.hostReadDone tag (.data ws)) s [.thresh, .hall] []
      fun t => Tab.find? t.thresh.reads tag = none
        ∧ (Tab.get t.hall.inj g.input []).map (·.cell) = (Tab.get s.hall.inj g.input []).map (·.cell) ++ segCellsOf s g ws)
  ∧ (∀ (tag h addr x q ep : Nat) (l : List Word) (old : Word) (s : State),
    Tab.find? s.thresh.reads tag = some (.atomic h addr x q ep l false) → s.hostStopped = false → leadOp l = 0x30 →
    tracked s x (leadMsg l) = false → NoParked s → s.flag .HPORT_STAT_LINK_UP h = true →
    Does (.hostReadDone tag (.data [old])) s faultParts (.THRESH_EVENTS_ACK_SPILL_FULL :: faultRegs)
      fun t => .hostBytes h addr (wordsBytes [old + l.getD 6 0]) ∈ t.out
        ∧ ∃ a ∈ t.thresh.atomics, a.src = x ∧ a.msgId = leadMsg l ∧ a.value = old ∧ a.acked = false)

/-! ## The Crystalliser (R218 to R243) -/

/-- A message and a receive are eligible for each other exactly when R218 says so; a message takes only an eligible receive, the one with the lowest post
stamp, and a receive only a message it is eligible for, the one with the lowest arrival stamp (R218, R219). -/
def Obligations.MatchingTakesTheOldest : Prop :=
  (∀ (room ctx rank tag : Nat) (p : Posted), eligible room ctx rank tag p = true ↔
    p.room = room ∧ p.ctx = ctx ∧ (p.rank = 0xFFFFFF ∨ p.rank = rank) ∧ (p.anyTag = true ∨ p.tag = tag))
  ∧ (∀ (room ctx rank tag : Nat) (p : Posted) (s : State), bestPosted (fun _ => true) room ctx rank tag s = some p →
    p ∈ s.crystal.posted ∧ p.room = room ∧ p.ctx = ctx ∧ (p.rank = 0xFFFFFF ∨ p.rank = rank) ∧ (p.anyTag = true ∨ p.tag = tag)
    ∧ ∀ e ∈ s.crystal.posted, eligible room ctx rank tag e = true → p.stamp ≤ e.stamp)
  ∧ (∀ (room ctx rank tag : Nat) (s : State), bestPosted (fun _ => true) room ctx rank tag s = none →
    ∀ e ∈ s.crystal.posted, eligible room ctx rank tag e = false)
  ∧ (∀ (p : Posted) (u : Unexp) (s : State), bestUnexp (fun _ => true) p s = some u →
    u ∈ s.crystal.unexp ∧ eligible u.room u.ctx u.rank u.tag p = true
    ∧ ∀ e ∈ s.crystal.unexp, eligible e.room e.ctx e.rank e.tag p = true → u.stamp ≤ e.stamp)
  ∧ (∀ (p : Posted) (s : State), bestUnexp (fun _ => true) p s = none →
    ∀ e ∈ s.crystal.unexp, eligible e.room e.ctx e.rank e.tag p = false)

/-- Messages and receives meet (R219, R222, R225, R231 to R238): an arriving message takes its receive or is kept with the next arrival stamp, and N
advances; a posted receive takes its message or is kept with the next post stamp, and one that finds post side and spill full completes
NOT_READY with its fault; a room with spilled entries waits for the spill's read; an entry refills when its side has room; a CANCEL removes its receive and both complete;
a tile that does not verify back is dropped with its fault; a queued get is issued; a discarding entry expires. -/
def Obligations.MessagesMeetReceives : Prop :=
  (∀ (r x q : Nat) (g : RSeg) (p : Posted) (s : State), s.crystal.input = [.arrive x q] → s.crystal.holding = [] → deliveryTakes s = true →
    rsegOf s x q = some g → leadDestRoom g.body = r → msgOf s x (leadMsg g.body) = none → (s.room r).st = 1 →
    subMod (leadMsg g.body) (s.flow x).recv.n (2 ^ 32) = 0 → s.crystal.msgs.length < 32768 → leadRndv g.body = false →
    bestPosted (fun p => !p.spilled) r (leadCtx g.body) (leadRank g.body) (leadTag g.body) s = some p →
    Does (.matchArrival r) s targetParts targetRegs
      fun t => t.crystal.posted = s.crystal.posted.filter (fun e => e != p) ∧ (t.flow x).recv.n = ((s.flow x).recv.n + 1) % 2 ^ 32
        ∧ t.crystal.unexp = s.crystal.unexp)
  ∧ (∀ (r x q : Nat) (g : RSeg) (s : State), s.crystal.input = [.arrive x q] → s.crystal.holding = [] → deliveryTakes s = true →
    rsegOf s x q = some g → leadDestRoom g.body = r → msgOf s x (leadMsg g.body) = none → (s.room r).st = 1 →
    subMod (leadMsg g.body) (s.flow x).recv.n (2 ^ 32) = 0 → s.crystal.msgs.length < 32768 → leadRndv g.body = true ∧ rndvFull s = true →
    Does (.matchArrival r) s targetParts (.CRYSTAL_EVENTS_RNDV_REFUSED :: targetRegs)
      fun t => t.flag .CRYSTAL_EVENTS_RNDV_REFUSED = true ∧ rsegOf t x q = none ∧ t.crystal.gets = s.crystal.gets ∧ Raised 6 12 s t)
  ∧ (∀ (r x q : Nat) (g : RSeg) (s : State), s.crystal.input = [.arrive x q] → s.crystal.holding = [] → deliveryTakes s = true →
    rsegOf s x q = some g → leadDestRoom g.body = r → msgOf s x (leadMsg g.body) = none → (s.room r).st = 1 →
    subMod (leadMsg g.body) (s.flow x).recv.n (2 ^ 32) = 0 → s.crystal.msgs.length < 32768 → leadRndv g.body = false →
    (∀ e ∈ s.crystal.posted, e.room ≠ r) → 
    tilesNeeded g.body = 0 ∨ tilesUsed s (s.room r).part + tilesNeeded g.body ≤ partTiles s (s.room r).part →
    unexpSpills s (s.room r).part = false ∨ spillFull s (s.room r).part = false →
    Does (.matchArrival r) s targetParts targetRegs
      fun t => (t.flow x).recv.n = ((s.flow x).recv.n + 1) % 2 ^ 32 ∧ t.crystal.posted = s.crystal.posted
        ∧ ∃ u : Unexp, t.crystal.unexp = s.crystal.unexp ++ [u] ∧ u.room = r ∧ u.ctx = leadCtx g.body ∧ u.rank = leadRank g.body
            ∧ u.tag = leadTag g.body ∧ u.src = x ∧ u.stamp = Tab.get s.crystal.arrStamp (s.room r).part 0 + 1
            ∧ u.spilled = unexpSpills s (s.room r).part)
  ∧ (∀ (r x q : Nat) (g : RSeg) (s : State), s.crystal.input = [.arrive x q] → s.crystal.holding = [] → deliveryTakes s = true →
    rsegOf s x q = some g → leadDestRoom g.body = r → msgOf s x (leadMsg g.body) = none → (s.room r).st = 1 →
    subMod (leadMsg g.body) (s.flow x).recv.n (2 ^ 32) = 0 → s.crystal.msgs.length < 32768 → leadRndv g.body = false →
    bestPosted (fun p => !p.spilled) r (leadCtx g.body) (leadRank g.body) (leadTag g.body) s = none → roomSpilledPosted s r = true →
    Does (.matchArrival r) s [.crystal, .count, .out, .porch] countRegs
      fun t => t.crystal = { s.crystal with input := [], holding := [(r, .arrive x q)] })
  ∧ (∀ (p : Posted) (u : Unexp) (s : State), s.crystal.input = [.post p] → s.crystal.holding = [] → deliveryTakes s = true →
    (s.room p.room).st = 1 →
    bestUnexp (fun u => !u.spilled) p s = some u → u.rndv = true → rndvFull s = false →
    Does (.matchPost p.room) s [.crystal, .count, .out, .porch] countRegs
      fun t => t.crystal.unexp = s.crystal.unexp.filter (fun e => e.id != u.id) ∧ t.crystal.posted = s.crystal.posted
        ∧ ∃ g : RndvGet, t.crystal.gets = s.crystal.gets ++ [g] ∧ g.recv = some p ∧ g.len = min (leadLen u.lead) p.len ∧ g.dest = s.nodeOf u.src)
  ∧ (∀ (p : Posted) (u : Unexp) (s : State), s.crystal.input = [.post p] → s.crystal.holding = [] → deliveryTakes s = true →
    (s.room p.room).st = 1 →
    bestUnexp (fun u => !u.spilled) p s = some u → u.rndv = false →
    Does (.matchPost p.room) s targetParts targetRegs
      fun t => t.crystal.unexp = s.crystal.unexp.filter (fun e => e.id != u.id) ∧ t.crystal.posted = s.crystal.posted)
  ∧ (∀ (p : Posted) (s : State), s.crystal.input = [.post p] → s.crystal.holding = [] → deliveryTakes s = true →
    (s.room p.room).st = 1 →
    (∀ e ∈ s.crystal.unexp, e.room ≠ p.room) → postSpills s p.part = false ∨ spillFull s p.part = false →
    Does (.matchPost p.room) s [.crystal, .count, .out, .porch] countRegs
      fun t => t.crystal.posted = s.crystal.posted ++
          [{ p with stamp := Tab.get s.crystal.postStamp p.part 0 + 1, spilled := postSpills s p.part }] ∧ t.crystal.unexp = s.crystal.unexp)
  ∧ (∀ (p : Posted) (s : State), s.crystal.input = [.post p] → s.crystal.holding = [] → deliveryTakes s = true →
    (s.room p.room).st = 1 →
    (∀ e ∈ s.crystal.unexp, e.room ≠ p.room) → postSpills s p.part = true → spillFull s p.part = true →
    Does (.matchPost p.room) s (.crystal :: faultParts) (.CRYSTAL_EVENTS_POST_FULL :: faultRegs)
      fun t => t.crystal.posted = s.crystal.posted ∧ t.flag .CRYSTAL_EVENTS_POST_FULL = true ∧ Raised 6 14 s t)
  ∧ (∀ (p : Posted) (s : State), s.crystal.holding = [(p.room, .post p)] → (s.room p.room).st = 1 → s.crystal.ueNext = false →
    (∀ e ∈ s.crystal.unexp, e.room ≠ p.room) → postSpills s p.part = false ∨ spillFull s p.part = false →
    Does (.spillReadDone p.room) s [.crystal, .count, .out, .porch] countRegs
      fun t => t.crystal.holding = [] ∧ t.crystal.posted = s.crystal.posted ++
          [{ p with stamp := Tab.get s.crystal.postStamp p.part 0 + 1, spilled := postSpills s p.part }])
  ∧ (∀ (part : Nat) (p : Posted) (s : State), s.crystal.posted.filter (fun e => e.part == part && e.spilled) = [p] →
    postedOn s part < partPosted s part → s.crystal.ueNext = false →
    Does (.refill part 0) s [.crystal, .count, .out, .porch] countRegs
      fun t => t.crystal.posted = s.crystal.posted.map (fun e => if e = p then { e with spilled := false } else e)
        ∧ t.crystal.unexp = s.crystal.unexp)
  ∧ (∀ (part : Nat) (u : Unexp) (s : State), s.crystal.unexp.filter (fun e => e.part == part && e.spilled) = [u] →
    unexpOn s part < partUnexp s part → s.crystal.ueNext = false →
    Does (.refill part 1) s [.crystal, .count, .out, .porch] countRegs
      fun t => t.crystal.unexp = s.crystal.unexp.map (fun e => if e.id = u.id then { e with spilled := false } else e)
        ∧ t.crystal.posted = s.crystal.posted)
  ∧ (∀ (r : Nat) (e : List Word) (p : Posted) (s : State), s.crystal.input = [.cancel r e] → s.crystal.holding = [] →
    cancelTarget s r (wf_ e 6 0 32) (fun p => !p.spilled) = some p → (s.room r).st = 1 → s.hostStopped = false → p.silent = false →
    weSilent e = false → Certain r s →
    Does (.recvCancel r) s [.crystal, .count, .out, .porch] countRegs
      fun t => t.crystal.posted = s.crystal.posted.filter (fun q => q != p) ∧ (t.room r).written = ((s.room r).written + 2) % 2 ^ 32
        ∧ (t.room r).outstanding = (s.room r).outstanding - 2 ∧ OtherRooms r s t)
  ∧ (∀ (r : Nat) (e : List Word) (s : State), s.crystal.input = [.cancel r e] → s.crystal.holding = [] →
    (∀ p ∈ s.crystal.posted, p.room = r → p.cookie ≠ wf_ e 6 0 32) → roomSpilledPosted s r = false → (s.room r).st = 1 →
    s.hostStopped = false → weSilent e = false → Certain r s →
    Does (.recvCancel r) s [.crystal, .count, .out, .porch] countRegs
      fun t => t.crystal.posted = s.crystal.posted ∧ (t.room r).written = ((s.room r).written + 1) % 2 ^ 32
        ∧ (t.room r).outstanding = (s.room r).outstanding - 1 ∧ OtherRooms r s t)
  ∧ (∀ (x q : Nat) (bad : List Nat) (g : RSeg) (m : MsgEntry) (s : State), rsegOf s x q = some g → msgOf s x (leadMsg g.body) = some m →
    g.queued = true → leadOp g.body = 1 → m.recv = none → m.discarding = false → g.st = .inProgress →
    tilesGood g = false ∨ (∃ k ∈ bad, k ∈ tilesOf g) →
    Does (.storeReadbackDone x q bad) s targetParts (.CRYSTAL_EVENTS_VERIFY_BACK_FAIL :: faultRegs)
      fun t => rsegOf t x q = none ∧ t.flag .CRYSTAL_EVENTS_VERIFY_BACK_FAIL = true ∧ Raised 10 11 s t
        ∧ t.crystal.unexp = s.crystal.unexp.map (fun u => if u.id = m.id then freeTiles g u else u))
  ∧ (∀ (x q : Nat) (g : RSeg) (m : MsgEntry) (s : State), rsegOf s x q = some g → msgOf s x (leadMsg g.body) = some m →
    g.queued = true → leadOp g.body = 1 → m.recv = none → m.discarding = false → g.st = .inProgress → tilesGood g = true →
    Does (.storeReadbackDone x q []) s targetParts targetRegs
      fun t => t.crystal.unexp = s.crystal.unexp.map (fun u =>
          if u.id = m.id then storeTiles g u else u)
        ∧ ∀ e ∈ (t.flow x).recv.segs, e.seq = q → e.st = .complete)
  ∧ (∀ (r : Nat) (h : Nat × CrOp) (s : State), s.crystal.holding.find? (fun e => e.1 == r) = some h → s.crystal.ueNext = true →
    Does (.spillReadDone r) s targetParts faultRegs fun t => t.crystal = { s.crystal with ueNext := false } ∧ Raised 10 11 s t)
  ∧ (∀ (g : RndvGet) (rest : List RndvGet) (s : State), s.crystal.gets = g :: rest → s.hostStopped = false → segWaits (s.idxOf g.dest) false s = false →
    s.fenced (s.idxOf g.dest) = false →
    Does .rendezvousGetIssue s targetParts targetRegs
      fun t => t.crystal.gets = rest ++ s.crystal.owed.take 1 ∧ t.thresh.nextOp = s.thresh.nextOp + 1
        ∧ ∃ o : OpSt, t.op s.thresh.nextOp = some o ∧ o.code = 0x20 ∧ o.peer = s.idxOf g.dest ∧ o.len = g.len ∧ o.msgId = g.msgId
            ∧ o.recv = g.recv ∧ o.room = g.room)
  ∧ (∀ (g : RndvGet) (rest : List RndvGet) (s : State), s.crystal.gets = g :: rest → s.hostStopped = false → segWaits (s.idxOf g.dest) false s = false →
    s.fenced (s.idxOf g.dest) = true →
    Does .rendezvousGetIssue s [.crystal, .thresh, .porch, .out] [] fun t => t.crystal.gets = rest ++ s.crystal.owed.take 1 ∧ t.op s.thresh.nextOp = none)
  ∧ (∀ (src msg : Nat) (s : State),
    Does (.discardingEntryExpiry src msg) s [.crystal] []
      fun t => ∀ m, m ∈ t.crystal.msgs ↔ m ∈ s.crystal.msgs ∧ ¬ (m.src = src ∧ m.msgId = msg ∧ m.discarding = true
        ∧ Due s (m.lastNs + 2 * s.get .THRESH_CFG_OP_TIMEOUT_MS * 1000000)))

/-! ## The source: injection and the Sluice (R61 to R63, R88, R188, R224, R244, R245, R270, R332 to R344) -/

/-- Work entries (R188, R194, R238, R244, R270): one that names no job or rank, has no meaning, or stands on a fenced device completes with its
status; a receive goes to the Crystalliser, or ends NOT_READY or WILDCARD (R240); a CANCEL and a COLL go on; an inline SEND or PUT becomes a
segment with the flow's next number, or waits while the flow synchronises (R272); a rank that is not cached waits for the Cellar; a
stall ends with TIMEOUT. -/
def Obligations.WorkEntriesAreInjected : Prop :=
  (∀ s : State, s.hostStopped = true ∨ (s.porch.fetchQ = [] ∧ s.porch.stalled = []) → Nothing .injectionTranslate s)
  ∧ (∀ (it : WorkItem) (rest : List WorkItem) (st aux : Nat) (s : State), Judging it rest s → Certain it.room s →
    (s.room it.room).st = 1 → weSilent it.entry = false →
    (s.fenced s.ownIdx = true ∧ st = 2 ∧ aux = 1)
      ∨ (s.fenced s.ownIdx = false ∧ (s.room it.room).job = 0 ∧ st = 3 ∧ aux = 0)
      ∨ (s.fenced s.ownIdx = false ∧ (s.room it.room).job ≠ 0
          ∧ ((weOp it.entry = 0 ∧ st = 0 ∧ aux = 0)
            ∨ (weOp it.entry ∉ [0, 1, 2, 0x10, 0x20, 0x40, 0x50] ∧ isAtomic (weOp it.entry) = false ∧ st = 6 ∧ aux = 0)
            ∨ ((weOp it.entry ∈ [1, 0x10, 0x20] ∨ isAtomic (weOp it.entry) = true)
              ∧ ((s.jobSlot (s.room it.room).job = none ∧ st = 3 ∧ aux = 0)
                ∨ (∃ slot, s.jobSlot (s.room it.room).job = some slot ∧ s.get .JOB_SLOT_LAST_RANK slot < weRank it.entry ∧ st = 4 ∧ aux = 0))))) →
    Does .injectionTranslate s [.porch, .out] []
      fun t => t.porch.fetchQ = rest ∧ EntryEnds it.room (statusOf it.entry st aux) s t)
  ∧ (∀ (it : WorkItem) (rest : List WorkItem) (st : Nat) (s : State), Judging it rest s → Certain it.room s →
    (s.room it.room).st = 1 → (s.room it.room).job ≠ 0 → weSilent it.entry = false → s.fenced s.ownIdx = false → weOp it.entry = 2 →
    wePickup it.entry = true →
    (s.crystalOn = false ∧ st = 25) ∨ (s.crystalOn = true ∧ (s.room it.room).order = 1 ∧ weRank it.entry = 0xFFFFFF ∧ st = 19) →
    Does .injectionTranslate s [.porch, .out] []
      fun t => t.porch.fetchQ = rest ∧ EntryEnds it.room (statusOf it.entry st 0) s t
        ∧ t.porch.pickUsed = s.porch.pickUsed - min (pickSpace (weLen it.entry)) (s.room it.room).pickUsed)
  ∧ (∀ (it : WorkItem) (rest : List WorkItem) (s : State), Judging it rest s → (s.room it.room).job ≠ 0 →
    s.fenced s.ownIdx = false → weOp it.entry = 2 → wePickup it.entry = true → s.crystalOn = true → ¬ ((s.room it.room).order = 1 ∧ weRank it.entry = 0xFFFFFF) →
    Does .injectionTranslate s [.porch, .crystal] []
      fun t => t.porch.fetchQ = rest ∧ t.porch.rooms = s.porch.rooms
        ∧ t.crystal = { s.crystal with input := s.crystal.input ++ [.post
            { room := it.room, part := (s.room it.room).part, ctx := weCtx it.entry, rank := weRank it.entry, tag := weTag it.entry,
              anyTag := weAnyTag it.entry, addr := weAddr it.entry, len := weLen it.entry, lkey := weLkey it.entry,
              cookie := weCookie it.entry, pickup := true, silent := weSilent it.entry }] })
  ∧ (∀ (it : WorkItem) (rest : List WorkItem) (s : State), Judging it rest s → (s.room it.room).job ≠ 0 →
    s.fenced s.ownIdx = false → weOp it.entry = 0x50 → s.crystalOn = true →
    Does .injectionTranslate s [.porch, .crystal] []
      fun t => t.porch.fetchQ = rest ∧ t.crystal = { s.crystal with input := s.crystal.input ++ [.cancel it.room it.entry] })
  ∧ (∀ (it : WorkItem) (rest : List WorkItem) (s : State), Judging it rest s → (s.room it.room).job ≠ 0 →
    s.fenced s.ownIdx = false → weOp it.entry = 0x40 →
    Does .injectionTranslate s [.porch, .rake] []
      fun t => t.porch.fetchQ = rest ∧ t.rake = { s.rake with colls := s.rake.colls ++ [{ it with at_ := s.now }] })
  ∧ (∀ (it : WorkItem) (rest : List WorkItem) (slot : Nat) (s : State), Judging it rest s → s.fenced s.ownIdx = false →
    weOp it.entry ∈ [1, 0x10, 0x20] → (s.room it.room).job ≠ 0 → s.jobSlot (s.room it.room).job = some slot →
    weRank it.entry ≤ s.get .JOB_SLOT_LAST_RANK slot → rankCached s (s.room it.room).job (weRank it.entry) = none → s.cellarOn = true →
    s.thresh.cellarFailed = none → cellarTakes s = true →
    Does .injectionTranslate s [.thresh] []
      fun t => .rank (s.room it.room).job (weRank it.entry) ∈ t.thresh.cellarWait ∧ t.thresh.ops = s.thresh.ops)
  ∧ (∀ (it : WorkItem) (rest : List WorkItem) (node dr x : Nat) (s : State), Judging it rest s → RankKnown it node dr s →
    x = s.idxOf node → weOp it.entry = 1 ∨ weOp it.entry = 0x10 → weInline it.entry = true → (s.flow x).send.st = 2 →
    (s.flow x).send.deferred = none → sluiceTakes s false = true →
    Does .injectionTranslate s [.porch, .thresh] []
      fun t => t.porch.fetchQ = rest ∧ OtherFlows x s t ∧ (t.flow x).send.next = ((s.flow x).send.next + 1) % 65536
        ∧ (weOp it.entry = 1 → (t.flow x).send.sendCtr = ((s.flow x).send.sendCtr + 1) % 2 ^ 32)
        ∧ (weOp it.entry = 0x10 → (t.flow x).send.opCtr = ((s.flow x).send.opCtr + 1) % 2 ^ 32)
        ∧ ∃ g : Seg, t.thresh.admitQ = s.thresh.admitQ ++ [g] ∧ g.peer = x ∧ g.seq = (s.flow x).send.next ∧ g.epoch = (s.flow x).send.epoch
            ∧ g.cells = 1 ∧ leadOp g.lead = weOp it.entry ∧ leadDestRoom g.lead = dr ∧ leadLen g.lead = min 16 (weLen it.entry)
            ∧ leadMsg g.lead = (if weOp it.entry = 1 then (s.flow x).send.sendCtr else (s.flow x).send.opCtr) % 2 ^ 32
            ∧ g.lead.getD 6 0 = it.entry.getD 6 0 ∧ g.lead.getD 7 0 = it.entry.getD 7 0)
  ∧ (∀ (it : WorkItem) (rest : List WorkItem) (node dr x : Nat) (s : State), Judging it rest s → RankKnown it node dr s →
    x = s.idxOf node → weOp it.entry = 1 ∨ weOp it.entry = 0x10 → weInline it.entry = true → (s.flow x).send.st = 0 →
    ackQueueRoom s = true →
    Does .injectionTranslate s [.porch, .thresh, .hall] []
      fun t => t.porch.fetchQ = rest ∧ OtherFlows x s t ∧ (t.flow x).send.st = 1 ∧ (t.flow x).send.syncStart = s.now
        ∧ (∃ g : Seg, (t.flow x).send.pend = (s.flow x).send.pend ++ [g] ∧ g.peer = x ∧ leadOp g.lead = weOp it.entry)
        ∧ CellQueued s t (fun d => d.ty = tyAck ∧ ackKind d = 1 ∧ d.dest = s.nodeOf x))
  ∧ (∀ (it : WorkItem) (s : State), s.hostStopped = false → s.porch.fetchQ = [] → s.porch.stalled = [it] → it.cont = none → it.lb = none →
    Certain it.room s → (s.room it.room).st = 1 → weSilent it.entry = false → Due s (it.at_ + s.get .THRESH_CFG_OP_TIMEOUT_MS * 1000000) →
    Does .injectionTranslate s [.porch, .out] []
      fun t => t.porch.stalled = [] ∧ EntryEnds it.room (statusOf it.entry 15 0) s t)

/-- The Sluice (R332 to R335): segments pass to the shaper queue of their job; while it may not admit nothing moves; the head of a queue
waits in its flow's wait list when the window, ticket or pace test fails, stays when shaper or budget is short, and else is admitted: one segment of
budget and its shaped length are spent, it is outstanding with its timer running, and its cells are sent. -/
def Obligations.SegmentsAreAdmitted : Prop :=
  (∀ (q : Nat) (g : Seg) (s : State), s.thresh.admitQ = [g] → sluiceRuns s = false →
    Does (.segmentAdmit q) s [.sluice, .thresh] []
      fun t => t.thresh = { s.thresh with admitQ := [] }
        ∧ ∃ k, (k = match s.jobSlot (leadJob g.lead) with | some j => s.get .JOB_SHAPE_QUEUE j | none => 0)
          ∧ Tab.get t.sluice.queues k [] = Tab.get s.sluice.queues k [] ++ [{ g with q := k, enq := s.now }])
  ∧ (∀ (q : Nat) (g : Seg) (rest : List Seg) (s : State), s.thresh.admitQ = [] → Tab.get s.sluice.queues q [] = g :: rest → g.q = q →
    sluiceRuns s = true → (s.flow g.peer).send.wait = [] → flowTests s g = true → deviceTests s g = true →
    Does (.segmentAdmit q) s [.sluice, .thresh, .hall, .count, .out, .porch] countRegs
      fun t => Tab.get t.sluice.queues q [] = rest ∧ t.sluice.budget = s.sluice.budget - 327680
        ∧ (s.flag .SHAPE_CFG_ENABLE q = true → tokensOf t q = tokensOf s q - g.cells * (80 + s.get .SHAPE_CFG_OVERHEAD q) * 327680)
        ∧ (∃ h : Seg, (t.flow g.peer).send.out = (s.flow g.peer).send.out ++ [h] ∧ h.seq = g.seq ∧ h.lead = g.lead
            ∧ h.firstNs = some (g.firstNs.getD s.now) ∧ h.timerAt = some (s.now + rtoOf s g.peer))
        ∧ (g.data = .none_ → (Tab.get t.hall.inj g.input []).map (·.cell) = (Tab.get s.hall.inj g.input []).map (·.cell) ++ segCellsOf s g [])
        ∧ OtherFlows g.peer s t)
  ∧ (∀ (q : Nat) (g : Seg) (rest : List Seg) (s : State), s.thresh.admitQ = [] → Tab.get s.sluice.queues q [] = g :: rest → g.q = q →
    sluiceRuns s = true → (s.flow g.peer).send.wait ≠ [] ∨ flowTests s g = false → s.sluice.waitCount < 8192 →
    Does (.segmentAdmit q) s [.sluice, .thresh, .hall, .count, .out, .porch] countRegs
      fun t => Tab.get t.sluice.queues q [] = rest ∧ t.sluice.waitCount = s.sluice.waitCount + 1
        ∧ (∃ h : Seg, (t.flow g.peer).send.wait = (s.flow g.peer).send.wait ++ [h] ∧ h.seq = g.seq ∧ h.lead = g.lead)
        ∧ (t.flow g.peer).send.out = (s.flow g.peer).send.out ∧ t.sluice.budget = s.sluice.budget ∧ OtherFlows g.peer s t)
  ∧ (∀ (q : Nat) (g : Seg) (rest : List Seg) (s : State), s.thresh.admitQ = [] → Tab.get s.sluice.queues q [] = g :: rest →
    sluiceRuns s = true → (s.flow g.peer).send.wait ≠ [] ∨ flowTests s g = false → 8192 ≤ s.sluice.waitCount →
    Does (.segmentAdmit q) s [.count, .out, .porch] (.SLUICE_EVENTS_WAITLIST_FULL :: countRegs)
      fun t => t.flag .SLUICE_EVENTS_WAITLIST_FULL = true)
  ∧ (∀ (q : Nat) (g : Seg) (rest : List Seg) (s : State), s.thresh.admitQ = [] → Tab.get s.sluice.queues q [] = g :: rest →
    sluiceRuns s = false ∨ ((s.flow g.peer).send.wait = [] ∧ flowTests s g = true ∧ deviceTests s g = false) →
    Nothing (.segmentAdmit q) s)
  ∧ (∀ (x : Nat) (g : Seg) (rest : List Seg) (c : Instr) (s : State), (s.flow x).send.wait = g :: rest → g.peer = x → sluiceRuns s = true →
    flowTests s g = true → deviceTests s g = true →
    c = .waitlistRetest x ∨ (c = .paceRelease x ∧ scheduled s = false ∧ Due s (s.flow x).send.nextOk) →
    Does c s [.sluice, .thresh, .hall, .count, .out, .porch] countRegs
      fun t => (t.flow x).send.wait = rest ∧ t.sluice.waitCount = s.sluice.waitCount - 1 ∧ t.sluice.budget = s.sluice.budget - 327680
        ∧ (∃ h : Seg, (t.flow x).send.out = (s.flow x).send.out ++ [h] ∧ h.seq = g.seq ∧ h.timerAt = some (s.now + rtoOf s x))
        ∧ OtherFlows x s t)
  ∧ (∀ (x : Nat) (g : Seg) (rest : List Seg) (s : State), (s.flow x).send.wait = g :: rest →
    sluiceRuns s = false ∨ flowTests s g = false ∨ deviceTests s g = false → Nothing (.waitlistRetest x) s ∧ Nothing (.paceRelease x) s)

/-- Budgets, tickets, rates, histograms and service (R333, R334, R336 to R344, R61, R62): each refill adds its allowance up to its bound; a REQUEST, a GRANT, the
turn of a flow that is owed, a retry and an expiry act as their rules say; the rate of a flow in Marked service rises; the histograms count and
clear; SCHEDULE is taken unless a cause of fall-back stands, and FORCE_MARKED ends Scheduled service. -/
def Obligations.TheSluiceKeepsItsAccounts : Prop :=
  (∀ (s : State) (n : Nat), Due s s.sluice.budgetAt →
    n = (s.plan.budgets.getD (s.get .OP_CTRL_OP_POINT) (0, 0, 0)).2.1 * s.get .VPOL_STAT_SCALE →
    Does .budgetRefill s [.sluice] []
      fun t => t.sluice = { s.sluice with
        opPoint := s.get .OP_CTRL_OP_POINT, budget := min (10 * n) (s.sluice.budget + n), budgetAt := s.sluice.budgetAt + 100 })
  ∧ (∀ (q : Nat) (s : State), Due s (Tab.get s.sluice.shapeAt q 0) →
    Does (.shaperRefill q) s [.sluice] []
      fun t => tokensOf t q = min (burstOf s q) (tokensOf s q + shapeRefill s q) ∧ (∀ k, k ≠ q → tokensOf t k = tokensOf s k)
        ∧ Tab.get t.sluice.shapeAt q 0 = Tab.get s.sluice.shapeAt q 0 + 100 ∧ t.sluice.budget = s.sluice.budget)
  ∧ (∀ s : State, Due s s.sluice.issueAt →
    Does .ticketBudgetRefill s [.sluice] []
      fun t => t.sluice = { s.sluice with
        issue := min (2 * s.get .TICKET_CFG_BATCH * 327680) (s.sluice.issue + issueAdd s), issueAt := s.sluice.issueAt + 100 })
  ∧ (∀ (x : Nat) (c : Cell) (s : State), c.ty = tyTicket → wf_ c.body 0 0 1 = 0 → c.check = bodyCrc c.body → s.hostStopped = false →
    x = s.idxOf c.src → (s.flow x).recv.st = 1 → (s.flow x).recv.epoch = c.epoch →
    Does (.ticketRequestArrival (some c)) s [.thresh] []
      fun t => (t.flow x).recv.pending = wf_ c.body 0 16 16 - subMod (s.flow x).recv.cum (wf_ c.body 0 32 16) 65536
        ∧ (t.flow x).send = (s.flow x).send ∧ OtherFlows x s t)
  ∧ (∀ (x : Nat) (c : Cell) (s : State), c.ty = tyTicket → wf_ c.body 0 0 1 = 1 → c.check = bodyCrc c.body → s.hostStopped = false →
    x = s.idxOf c.src → (s.flow x).send.st = 2 → (s.flow x).send.epoch = c.epoch → (s.flow x).send.wait = [] →
    Does (.ticketGrantArrival (some c)) s [.thresh] []
      fun t => (t.flow x).send.seen = ((s.flow x).send.seen + wf_ c.body 1 0 4) % 65536 ∧ (t.flow x).send.lastGrant = s.now
        ∧ (t.flow x).send.held = (if scheduled s then (s.flow x).send.held ++ List.replicate (wf_ c.body 1 0 4) (s.now + s.get .TICKET_CFG_LIFE_US * 1000) else (s.flow x).send.held)
        ∧ OtherFlows x s t)
  ∧ (∀ (k owed n : Nat) (s : State), nextClaim s = some (k, owed) → k < 131072 → n = min owed (s.get .TICKET_CFG_BATCH) →
    s.hostStopped = false → n * 327680 ≤ s.sluice.issue →
    Does .ticketGrantIssue s [.sluice, .thresh, .hall, .count, .out, .porch] countRegs
      fun t => t.sluice = { s.sluice with issue := s.sluice.issue - n * 327680, rrFlow := k }
        ∧ (t.flow k).recv.cum = ((s.flow k).recv.cum + n) % 65536 ∧ (t.flow k).recv.pending = (s.flow k).recv.pending - n ∧ OtherFlows k s t
        ∧ CellQueued s t (fun d => d.ty = tyTicket ∧ wf_ d.body 0 0 1 = 1 ∧ wf_ d.body 0 48 16 = ((s.flow k).recv.cum + n) % 65536
            ∧ wf_ d.body 1 0 4 = n % 16 ∧ d.dest = s.nodeOf k))
  ∧ (∀ (x : Nat) (s : State), scheduled s = true → 0 < needOf s x →
    (∀ u, (s.flow x).send.lastReq = some u → Due s (max u (s.flow x).send.lastGrant + s.get .TICKET_CFG_RETRY_US * 1000)) →
    Does (.ticketRequestRetry x) s [.thresh, .hall, .count, .out, .porch] countRegs
      fun t => (t.flow x).send.lastReq = some s.now ∧ OtherFlows x s t
        ∧ CellQueued s t (fun d => d.ty = tyTicket ∧ wf_ d.body 0 0 1 = 0 ∧ wf_ d.body 0 16 16 = min (needOf s x) 65535))
  ∧ (∀ (x : Nat) (s : State), (∃ u ∈ (s.flow x).send.held.drop (ticketWaiters s x), Due s u) →
    Does (.ticketExpiry x) s [.thresh, .count, .out, .porch] (.SLUICE_EVENTS_TICKET_EXPIRED :: countRegs)
      fun t => (t.flow x).send.held = (s.flow x).send.held.take (ticketWaiters s x)
            ++ ((s.flow x).send.held.drop (ticketWaiters s x)).filter (fun u => decide (s.now < u))
        ∧ t.flag .SLUICE_EVENTS_TICKET_EXPIRED = true ∧ OtherFlows x s t)
  ∧ (∀ (x r : Nat) (s : State), (s.flow x).send.rate = some r → scheduled s = false →
    Due s ((s.flow x).send.lastAi + s.get .MARK_CFG_AI_US * 1000) →
    Does (.rateIncreaseTick x) s [.thresh] []
      fun t => (t.flow x).send.lastAi = (s.flow x).send.lastAi + s.get .MARK_CFG_AI_US * 1000 ∧ OtherFlows x s t
        ∧ (Due s ((s.flow x).send.lastCut + s.get .MARK_CFG_AI_US * 1000) →
            (t.flow x).send.rate = some (min (r + s.get .MARK_RATE_AI_STEP) 1000000))
        ∧ (¬ Due s ((s.flow x).send.lastCut + s.get .MARK_CFG_AI_US * 1000) → (t.flow x).send.rate = some r))
  ∧ (∀ s : State, Due s s.sluice.histAt →
    Does .histSample s [.sluice] []
      fun t => t.sluice.histAt = s.sluice.histAt + s.get .HIST_CTRL_SAMPLE_NS ∧ t.sluice.queues = s.sluice.queues
        ∧ (∀ q, q < 256 → Tab.get t.sluice.hist (histKey q 0 (histBin (Tab.get s.sluice.queues q []).length)) 0
            = min (Tab.get s.sluice.hist (histKey q 0 (histBin (Tab.get s.sluice.queues q []).length)) 0 + 1) (2 ^ 48 - 1)))
  ∧ (∀ (m : Master) (s : State), May s m .HIST_CTRL_CLEAR →
    Does (.histClear m) s [.sluice, .fault] mendRegs
      fun t => (∀ k b, k < 2 → b < 16 → Tab.get t.sluice.hist (histKey (s.get .HIST_SEL_QUEUE) k b) 0 = 0)
        ∧ (∀ q k b, k < 2 → b < 16 → q ≠ s.get .HIST_SEL_QUEUE →
            Tab.get t.sluice.hist (histKey q k b) 0 = Tab.get s.sluice.hist (histKey q k b) 0))
  ∧ (∀ (m : Master) (s : State), May s m .SLUICE_MODE_SCHEDULE → causeStands s = false → scheduled s = false →
    Does (.scheduleRequest m) s [.thresh, .fault, .out, .porch] (([.SLUICE_MODE_SERVICE, .SLUICE_EVENTS_SCHEDULED] : List Fld) ++ intRegs ++ mendRegs)
      fun t => scheduled t = true ∧ t.flag .SLUICE_EVENTS_SCHEDULED = true ∧ (Tab.wf s.thresh.flows → ∀ x, (t.flow x).send.rate = none))
  ∧ (∀ (m : Master) (s : State), May s m .SLUICE_MODE_SCHEDULE → causeStands s = true →
    Does (.scheduleRequest m) s [.fault, .out, .porch] (([.SLUICE_EVENTS_SCHEDULE_REFUSED] : List Fld) ++ intRegs ++ mendRegs)
      fun t => scheduled t = scheduled s ∧ t.flag .SLUICE_EVENTS_SCHEDULE_REFUSED = true)
  ∧ (∀ (m : Master) (v : Nat) (s : State), May s m .SLUICE_MODE_FORCE_MARKED →
    Does (.forceMarkedWrite m v) s [.thresh, .fault, .count, .out, .porch]
      (([.SLUICE_MODE_FORCE_MARKED, .SLUICE_MODE_SERVICE, .SLUICE_MODE_FALLBACK_CAUSE, .SLUICE_MODE_FALLBACK_PORT, .SLUICE_EVENTS_FALLBACK] : List Fld)
        ++ countRegs ++ mendRegs)
      fun t => t.get .SLUICE_MODE_FORCE_MARKED = v % 2
        ∧ (v % 2 = 1 → scheduled t = false ∧ (scheduled s = true → t.get .SLUICE_MODE_FALLBACK_CAUSE = 5 ∧ t.flag .SLUICE_EVENTS_FALLBACK = true))
        ∧ (v % 2 = 0 → scheduled t = scheduled s))

/-! ## Peer flows: acknowledgements, NACKs and timers (R246, R251 to R274) -/

/-- ACK cells (R255 to R258, R261, R272): an acknowledgement of the send epoch releases what it covers, completes an operation whose last segment it
covers, and nothing of another epoch; a SYNC_REQ is answered with the receive epoch, a SYNC_RESP opens the send side in the next epoch; a
confirmation turns a NACKED segment COMPLETE; a held acknowledgement goes when its time has come. -/
def Obligations.AcknowledgementsAreUsed : Prop :=
  (∀ (x : Nat) (c : Cell) (s : State), Used tyAck x c s → ackKind c = 0 → wf_ c.body 2 16 1 = 0 → (s.flow x).send.st = 2 →
    (s.flow x).send.epoch = c.epoch → wf_ c.body 0 32 16 = 0 → s.get .THRESH_ACK_CFG_FAST_RETX = 0 → NoneWaits s →
    (∀ g ∈ (s.flow x).send.out, ∀ o, s.op g.opId = some o → o.hung = false) →
    Does (.ackArrival (some c)) s [.thresh, .porch, .out] []
      fun t => (t.flow x).send.out = (s.flow x).send.out.filter (fun g => !covered (wf_ c.body 0 0 16) (wn c.body 1) g.seq)
        ∧ (t.flow x).send.acked = (if subMod (wf_ c.body 0 0 16) (s.flow x).send.acked 65536 < 32768 then wf_ c.body 0 0 16
            else (s.flow x).send.acked)
        ∧ (t.flow x).send.next = (s.flow x).send.next ∧ (t.flow x).recv = (s.flow x).recv ∧ OtherFlows x s t)
  ∧ (∀ (x : Nat) (c : Cell) (g : Seg) (o : OpSt) (s : State), Used tyAck x c s → ackKind c = 0 → wf_ c.body 2 16 1 = 0 →
    (s.flow x).send.st = 2 → (s.flow x).send.epoch = c.epoch → wf_ c.body 0 32 16 = 0 → s.get .THRESH_ACK_CFG_FAST_RETX = 0 →
    (s.flow x).send.out = [g] → covered (wf_ c.body 0 0 16) (wn c.body 1) g.seq = true → s.op g.opId = some o →
    o.kind = .send ∨ o.kind = .put → o.done = [] → o.fails = [] → o.len ≤ 4096 → leadOff g.lead = 0 → o.lb = none →
    o.hung = false → Certain o.room s → (s.room o.room).st = 1 → weSilent o.entry = false →
    Does (.ackArrival (some c)) s [.thresh, .porch, .out] []
      fun t => t.op g.opId = none ∧ EntryEnds o.room { statusOf o.entry 0 0 with len := o.len } s t)
  ∧ (∀ (x : Nat) (c : Cell) (s : State), Used tyAck x c s → ackKind c = 0 → wf_ c.body 2 16 1 = 0 →
    (s.flow x).send.st ≠ 2 ∨ (s.flow x).send.epoch ≠ c.epoch → Nothing (.ackArrival (some c)) s)
  ∧ (∀ (x : Nat) (c : Cell) (s : State), Used tyAck x c s → ackKind c = 1 → wf_ c.body 2 16 1 = 0 → ackQueueRoom s = true →
    Does (.syncReqArrival (some c)) s [.thresh, .hall] []
      fun t => ((s.flow x).recv.st = 0 → (t.flow x).recv.st = 2 ∧ (t.flow x).recv.epoch = 3 ∧ (t.flow x).recv.fresh = true)
        ∧ ((s.flow x).recv.st ≠ 0 → (t.flow x).recv = (s.flow x).recv) ∧ OtherFlows x s t
        ∧ CellQueued s t (fun d => d.ty = tyAck ∧ ackKind d = 2 ∧ wf_ d.body 0 18 2 = (t.flow x).recv.epoch % 4 ∧ d.dest = s.nodeOf x))
  ∧ (∀ (x : Nat) (c : Cell) (s : State), Used tyAck x c s → ackKind c = 2 → wf_ c.body 2 16 1 = 0 → (s.flow x).send.st = 1 →
    (s.flow x).send.pend = [] →
    Does (.syncRespArrival (some c)) s [.thresh] []
      fun t => (t.flow x).send.st = 2 ∧ (t.flow x).send.epoch = (wf_ c.body 0 18 2 + 1) % 4 ∧ (t.flow x).send.next = 0
        ∧ (t.flow x).send.acked = 0xFFFF ∧ (t.flow x).send.sendCtr = 0 ∧ (t.flow x).send.opCtr = 0 ∧ OtherFlows x s t)
  ∧ (∀ (x k sub : Nat) (c : Cell) (g : RSeg) (s : State), Used tyAck x c s → ackKind c = 3 → wf_ c.body 2 16 1 = 1 →
    wf_ c.body 2 18 2 = (s.flow x).recv.epoch → (wf_ c.body 2 32 32).testBit 0 = true → rsegOf s x (wf_ c.body 2 0 16) = some g →
    g.st = .nacked k sub →
    Does (.confArrival (some c)) s faultParts (.THRESH_EVENTS_ACK_SPILL_FULL :: faultRegs)
      fun t => ∀ e ∈ (t.flow x).recv.segs, e.seq = wf_ c.body 2 0 16 → e.st = .complete)
  ∧ (∀ (x at1 : Nat) (s : State), (s.flow x).recv.coalAt = some at1 → Due s at1 → s.hostStopped = false → (s.flow x).recv.st = 1 →
    ackQueueRoom s = true →
    Does (.ackCoalTimer x) s [.thresh, .hall] []
      fun t => (t.flow x).recv.sinceAck = 0 ∧ (t.flow x).recv.ce = 0
        ∧ ((s.flow x).send.conf = [] → (t.flow x).recv.coalAt = none) ∧ (t.flow x).recv.w = (s.flow x).recv.w ∧ OtherFlows x s t
        ∧ CellQueued s t (fun d => d.ty = tyAck ∧ ackKind d = 0 ∧ wf_ d.body 0 0 16 = (s.flow x).recv.w % 65536
            ∧ d.epoch = (s.flow x).recv.epoch ∧ d.dest = s.nodeOf x))

/-- NACK cells and the timers of segments (R258, R259, R261, R262): NOT_READY stops a segment's timer and starts its hint; a final NACK ends the
segment's operation with the status of Table 10.7 and is confirmed; a retransmission doubles the time-out and takes one segment of budget; a
re-send starts at rto; a segment past its operation time-out is gone, with its event. -/
def Obligations.SegmentsFailOrGoAgain : Prop :=
  (∀ (x : Nat) (c : Cell) (g : Seg) (s : State), Used tyNack x c s → nackCode c = 1 → nackMine s x c = true → wf_ c.body 0 17 1 = 0 →
    outSeg s x c.seq = some g →
    Does (.nackNotReadyArrival (some c)) s [.thresh, .count, .out, .porch] countRegs
      fun t => ∃ h : Seg, outSeg t x c.seq = some h ∧ h.timerAt = none ∧ h.hint = some (wf_ c.body 0 48 16)
        ∧ h.resendAt = some (s.now + wf_ c.body 0 48 16 * 1000) ∧ h.lead = g.lead)
  ∧ (∀ (x : Nat) (c : Cell) (g : Seg) (o : OpSt) (s : State), Used tyNack x c s → 2 ≤ nackCode c → nackCode c ≤ 10 →
    nackMine s x c = true → wf_ c.body 0 17 1 = 0 → c.seq ∉ (s.flow x).send.conf → inSendWindow (s.flow x).send c.seq = true →
    outSeg s x c.seq = some g → s.op g.opId = some o → o.kind = .send ∨ o.kind = .put → o.done = [] → o.fails = [] → o.len ≤ 4096 →
    leadOff g.lead = 0 → o.lb = none → Certain o.room s → (s.room o.room).st = 1 → weSilent o.entry = false →
    Does (.nackFinalArrival (some c)) s [.thresh, .porch, .out] []
      fun t => (t.flow x).send.conf = (s.flow x).send.conf ++ [c.seq] ∧ outSeg t x c.seq = none ∧ t.op g.opId = none
        ∧ EntryEnds o.room (statusOf o.entry (nackStatus (nackCode c)) (wf_ c.body 0 8 8)) s t ∧ (t.flow x).recv.coalAt.isSome = true)
  ∧ (∀ (x : Nat) (c : Cell) (s : State), Used tyNack x c s → nackMine s x c = false → 2 ≤ nackCode c → nackCode c ≤ 10 →
    Nothing (.nackFinalArrival (some c)) s)
  ∧ (∀ (x : Nat) (c : Cell) (s : State), Used tyNack x c s → nackCode c = 0 ∨ 11 < nackCode c →
    Does (.nackFinalArrival (some c)) s [.thresh] []
      fun t => t.thresh = { s.thresh with reservedNacks := s.thresh.reservedNacks + 1 })
  ∧ (∀ (x q at1 : Nat) (g : Seg) (s : State), outSeg s x q = some g → g.timerAt = some at1 → Due s at1 → s.hostStopped = false →
    327680 ≤ s.sluice.budget → hallTakes s g.input (segVc s g.resp) = true →
    Does (.retransmitTimeout x q) s [.sluice, .thresh, .hall, .count, .out, .porch] countRegs
      fun t => t.sluice = { s.sluice with budget := s.sluice.budget - 327680 } ∧ OtherFlows x s t
        ∧ ∃ h : Seg, outSeg t x q = some h ∧ h.retx = g.retx + 1 ∧ h.rto = min (2 * g.rto) (s.get .THRESH_CFG_RTO_MAX_US * 1000)
            ∧ h.timerAt = some (s.now + h.rto) ∧ h.lead = g.lead ∧ h.seq = g.seq)
  ∧ (∀ (x q at1 : Nat) (g : Seg) (s : State), outSeg s x q = some g → g.timerAt = some at1 →
    s.hostStopped = true ∨ s.sluice.budget < 327680 ∨ hallTakes s g.input (segVc s g.resp) = false →
    Nothing (.retransmitTimeout x q) s)
  ∧ (∀ (x q at1 : Nat) (g : Seg) (s : State), outSeg s x q = some g → g.resendAt = some at1 → Due s at1 → s.hostStopped = false →
    327680 ≤ s.sluice.budget → hallTakes s g.input (segVc s g.resp) = true → (∀ e ∈ (s.flow x).send.respHints, e.1 ≠ q) →
    Does (.notReadyResend x q) s [.sluice, .thresh, .hall, .out] []
      fun t => t.sluice = { s.sluice with budget := s.sluice.budget - 327680 } ∧ OtherFlows x s t
        ∧ ∃ h : Seg, outSeg t x q = some h ∧ h.resendAt = none ∧ h.rto = rtoOf s x ∧ h.timerAt = some (s.now + rtoOf s x) ∧ h.retx = g.retx)
  ∧ (∀ (x q first : Nat) (g : Seg) (s : State), outSeg s x q = some g → g.firstNs = some first → g.hint = none →
    Due s (first + g.toMs * 1000000) →
    Does (.opTimeout x q) s [.fault, .hall, .thresh, .porch, .count, .out]
      (([.THRESH_EVENTS_TIMEOUT_SEEN, .SUSPECT_EVENTS_SENT, .SUSPECT_EVENTS_DROPPED] : List Fld) ++ countRegs)
      fun t => outSeg t x q = none ∧ t.flag .THRESH_EVENTS_TIMEOUT_SEEN = true)
  ∧ (∀ (x q first h : Nat) (g : Seg) (o : OpSt) (s : State), outSeg s x q = some g → g.firstNs = some first → g.hint = some h →
    Due s (first + g.toMs * 1000000) → s.op g.opId = some o → o.kind = .send ∨ o.kind = .put → o.done = [] → o.fails = [] → o.len ≤ 4096 →
    leadOff g.lead = 0 → o.lb = none → s.hostStopped = false → Certain o.room s → (s.room o.room).st = 1 → weSilent o.entry = false →
    Does (.opTimeout x q) s [.thresh, .porch, .out] []
      fun t => outSeg t x q = none ∧ t.op g.opId = none ∧ EntryEnds o.room (statusOf o.entry 25 h) s t)

/-- Flow resets, synchronisation, responses and tracking (R246, R264 to R266, R272 to R274): FLOW_RESET of the send epoch and FLOW_CMD advance the
epoch, at most once in 200 µs; the deferred advance follows; a SYNC_REQ is repeated until its time-out makes the flow FRESH; the response timer
asks again, or ends the operation at its time-out; cache and tracker entries are released. -/
def Obligations.FlowsResetAndExpire : Prop :=
  (∀ (x : Nat) (c : Cell) (s : State), Used tyNack x c s → nackCode c = 11 → nackMine s x c = true → mayAdvance s x = true →
    Does (.nackFlowResetArrival (some c)) s flowParts flowRegs
      fun t => (t.flow x).send.epoch = ((s.flow x).send.epoch + 1) % 4 ∧ (t.flow x).send.lastAdvance = some s.now
        ∧ (t.flow x).send.deferred = none ∧ (t.flow x).send.out = [] ∧ t.flag .THRESH_EVENTS_FLOW_RESET_SEEN = true)
  ∧ (∀ (x : Nat) (c : Cell) (s : State), Used tyNack x c s → nackCode c = 11 → nackMine s x c = true → mayAdvance s x = false →
    Does (.nackFlowResetArrival (some c)) s [.thresh] []
      fun t => (t.flow x).send = { (s.flow x).send with deferred := some ((s.flow x).send.deferred.getD (wf_ c.body 0 16 1 == 1)) }
        ∧ OtherFlows x s t)
  ∧ (∀ (x : Nat) (fresh : Bool) (s : State), (s.flow x).send.deferred = some fresh → mayAdvance s x = true →
    Does (.epochAdvanceDeferred x) s flowParts flowRegs
      fun t => (t.flow x).send.epoch = ((s.flow x).send.epoch + 1) % 4 ∧ (t.flow x).send.deferred = none ∧ (t.flow x).send.out = []
        ∧ t.flag .THRESH_EVENTS_FLOW_RESET_SEEN = true)
  ∧ (∀ (m : Master) (x : Nat) (s : State), May s m .FLOW_CMD_RESET → x = s.get .FLOW_SEL_NODE_INDEX →
    Does (.flowCmdReset m) s flowParts (flowRegs ++ mendRegs)
      fun t => ((s.flow x).send.st = 2 → mayAdvance s x = true → (t.flow x).send.epoch = ((s.flow x).send.epoch + 1) % 4)
        ∧ ((s.flow x).recv.st ≠ 0 → (t.flow x).recv.st = 2 ∧ (t.flow x).recv.fresh = false ∧ t.flag .THRESH_EVENTS_FLOW_RESET_SEEN = true)
        ∧ ((s.flow x).recv.st = 0 → (t.flow x).recv = (s.flow x).recv))
  ∧ (∀ (x : Nat) (s : State), (s.flow x).send.st = 1 → Due s (s.flow x).send.syncAt → ackQueueRoom s = true →
    Does (.syncReqRetry x) s [.thresh, .hall] []
      fun t => (t.flow x).send = { (s.flow x).send with syncAt := s.now + 4 * (s.get .THRESH_CFG_RTO_MIN_US * 1000) } ∧ OtherFlows x s t
        ∧ CellQueued s t (fun d => d.ty = tyAck ∧ ackKind d = 1 ∧ d.dest = s.nodeOf x))
  ∧ (∀ (x : Nat) (s : State), (s.flow x).send.st = 1 → Due s ((s.flow x).send.syncStart + s.get .THRESH_CFG_OP_TIMEOUT_MS * 1000000) →
    Does (.syncTimeout x) s [.fault, .hall, .thresh, .porch, .count, .out]
      (([.THRESH_EVENTS_TIMEOUT_SEEN, .SUSPECT_EVENTS_SENT, .SUSPECT_EVENTS_DROPPED] : List Fld) ++ countRegs)
      fun t => (t.flow x).send.st = 0 ∧ (t.flow x).send.pend = []
        ∧ ((s.flow x).send.pend ≠ [] → t.flag .THRESH_EVENTS_TIMEOUT_SEEN = true))
  ∧ (∀ (i first : Nat) (o : OpSt) (s : State), s.op i = some o → o.kind = .get ∨ o.kind = .atomic → o.reqAcked = true →
    o.firstNs = some first → Due s (first + o.toMs * 1000000) → o.done = [] → o.fails = [] → o.lb = none → s.hostStopped = false →
    Certain o.room s → (s.room o.room).st = 1 → weSilent o.entry = false →
    Does (.responseTimerExpiry i) s [.thresh, .porch, .out] []
      fun t => t.op i = none ∧ EntryEnds o.room (statusOf o.entry 15 0) s t)
  ∧ (∀ (i at1 : Nat) (o : OpSt) (g : Seg) (s : State), s.op i = some o → o.kind = .atomic → o.respAt = some at1 → Due s at1 →
    (∀ f, o.firstNs = some f → ¬ Due s (f + o.toMs * 1000000)) → o.req = some g → g.opId = i → (s.flow g.peer).send.st = 2 →
    (s.flow g.peer).send.deferred = none → isAtomic (leadOp g.lead) = true → g.lead.length = 8 → o.msgSet = true →
    Does (.responseTimerExpiry i) s [.thresh] []
      fun t => (∃ h : Seg, t.thresh.admitQ = s.thresh.admitQ ++ [h] ∧ h.opId = i ∧ h.seq = (s.flow g.peer).send.next
          ∧ leadMsg h.lead = o.msgId % 2 ^ 32 ∧ leadOp h.lead = leadOp g.lead)
        ∧ ∃ p : OpSt, t.op i = some p ∧ p.respAt = none ∧ p.reqAcked = false)
  ∧ (∀ (src msg : Nat) (s : State),
    Does (.atomicCacheRelease src msg) s [.thresh] []
      fun t => t.thresh.flows = s.thresh.flows ∧ ∀ a, a ∈ t.thresh.atomics ↔ a ∈ s.thresh.atomics ∧ ¬ (a.src = src ∧ a.msgId = msg
        ∧ ((a.acked = true ∧ Due s (a.at_ + a.hold)) ∨ Due s (a.at_ + 2 * s.get .THRESH_CFG_OP_TIMEOUT_MS * 1000000))))
  ∧ (∀ (src msg : Nat) (e : TrackEntry) (s : State), s.thresh.tracker.find? (fun t => t.src == src && t.msgId == msg) = some e →
    Due s (e.lastNs + 2 * s.get .THRESH_CFG_OP_TIMEOUT_MS * 1000000) → s.hostStopped = false → Certain e.room s →
    (s.room e.room).st = 1 →
    Does (.trackerTimeout src msg) s [.thresh, .porch, .out] []
      fun t => tracked t src msg = false ∧ (t.room e.room).written = ((s.room e.room).written + 1) % 2 ^ 32
        ∧ (t.room e.room).reserved = (s.room e.room).reserved - 1 ∧ OtherRooms e.room s t)

/-! ## Keys, ranks and translation (R88, R89, R247 to R250, R278 to R293) -/

/-- The key and rank windows (R247 to R250, R293): a check passes exactly as Table 10.2 says; a command while one runs, on key 0, without a
Cellar or with reserved bits ends with its RESULT; a WRITE stores the four words, a READ shows them, an INVALIDATE clears V; a rank command
ends with RESULT 2, 3 or 4, or stores, shows or drops what it names. -/
def Obligations.KeyAndRankWindowsAct : Prop :=
  (∀ (k : KeyEntry) (idx gen job rights a n : Nat) (ctx : Option Nat), keyCheck k idx gen job rights a n ctx = 0 ↔
    idx ≠ 0 ∧ k.valid = true ∧ k.gen = gen ∧ k.job = job ∧ k.rights &&& rights = rights ∧ k.base ≤ a ∧ a + n ≤ k.base + k.length
      ∧ a + n ≤ 2 ^ 64 ∧ (∀ c, ctx = some c → k.xctx = c))
  ∧ (∀ (m : Master) (c : Instr) (s : State), May s m .KEY_CMD_CMD → s.flag .KEY_CMD_STAT_BUSY = true →
    c ∈ [Instr.keyCmdWrite m, .keyCmdRead m, .keyCmdInvalidate m] →
    Does c s [.fault] (.KEY_CMD_STAT_RESULT :: mendRegs) fun t => t.get .KEY_CMD_STAT_RESULT = 1)
  ∧ (∀ (m : Master) (cmd r : Nat) (c : Instr) (s : State), May s m .KEY_CMD_CMD → s.flag .KEY_CMD_STAT_BUSY = false →
    (c = .keyCmdWrite m ∧ cmd = 1) ∨ (c = .keyCmdRead m ∧ cmd = 2) ∨ (c = .keyCmdInvalidate m ∧ cmd = 3) →
    r = keyRefusal s cmd (s.get .KEY_SEL_INDEX) → r ≠ 0 →
    Does c s [.fault] (([.KEY_CMD_STAT_RESULT, .KEY_CMD_STAT_INDEX] : List Fld) ++ mendRegs)
      fun t => t.get .KEY_CMD_STAT_RESULT = r ∧ t.flag .KEY_CMD_STAT_BUSY = false ∧ (s.get .KEY_SEL_INDEX = 0 → r = 2)
        ∧ (s.get .KEY_SEL_INDEX ≠ 0 → s.plan.installed = false ∨ s.cellarOn = false → r = 3))
  ∧ (∀ (m : Master) (i : Nat) (s : State), May s m .KEY_CMD_CMD → s.flag .KEY_CMD_STAT_BUSY = false → i = s.get .KEY_SEL_INDEX →
    keyRefusal s 1 i = 0 →
    Does (.keyCmdWrite m) s [.thresh, .fault] (([.KEY_CMD_STAT_BUSY, .KEY_CMD_STAT_INDEX] : List Fld) ++ mendRegs)
      fun t => t.keyAt i = ⟨wd (s.get .KEY_DATA_WORD 0), wd (s.get .KEY_DATA_WORD 1), wd (s.get .KEY_DATA_WORD 2), wd (s.get .KEY_DATA_WORD 3)⟩
        ∧ (∀ j, j ≠ i → t.keyAt j = s.keyAt j) ∧ t.flag .KEY_CMD_STAT_BUSY = true ∧ t.thresh.keyBusy = some (1, i))
  ∧ (∀ (m : Master) (i : Nat) (s : State), May s m .KEY_CMD_CMD → s.flag .KEY_CMD_STAT_BUSY = false → i = s.get .KEY_SEL_INDEX →
    keyRefusal s 2 i = 0 →
    Does (.keyCmdRead m) s [.thresh, .fault] (([.KEY_CMD_STAT_BUSY, .KEY_CMD_STAT_INDEX, .KEY_DATA_WORD] : List Fld) ++ mendRegs)
      fun t => t.get .KEY_DATA_WORD 0 = (s.keyAt i).w0.toNat ∧ t.get .KEY_DATA_WORD 1 = (s.keyAt i).w1.toNat
        ∧ t.get .KEY_DATA_WORD 2 = (s.keyAt i).w2.toNat ∧ t.get .KEY_DATA_WORD 3 = (s.keyAt i).w3.toNat
        ∧ t.thresh = { s.thresh with keyBusy := some (2, i) } ∧ t.flag .KEY_CMD_STAT_BUSY = true)
  ∧ (∀ (m : Master) (i : Nat) (s : State), May s m .KEY_CMD_CMD → s.flag .KEY_CMD_STAT_BUSY = false → i = s.get .KEY_SEL_INDEX →
    keyRefusal s 3 i = 0 →
    Does (.keyCmdInvalidate m) s [.thresh, .fault] (([.KEY_CMD_STAT_BUSY, .KEY_CMD_STAT_INDEX] : List Fld) ++ mendRegs)
      fun t => (t.keyAt i).valid = false ∧ (t.keyAt i).gen = (s.keyAt i).gen ∧ (t.keyAt i).base = (s.keyAt i).base
        ∧ (∀ j, j ≠ i → t.keyAt j = s.keyAt j))
  ∧ (∀ (p : Nat × Nat) (s : State), s.thresh.keyBusy = some p → p.1 = 2 ∨ keyUnissued s p.2 = false →
    Does .keyCmdComplete s [.thresh] [.KEY_CMD_STAT_BUSY, .KEY_CMD_STAT_RESULT]
      fun t => t.thresh = { s.thresh with keyBusy := none } ∧ t.flag .KEY_CMD_STAT_BUSY = false ∧ t.get .KEY_CMD_STAT_RESULT = 0)
  ∧ (∀ (p : Nat × Nat) (s : State), s.thresh.keyBusy = some p → p.1 ≠ 2 → keyUnissued s p.2 = true → Nothing .keyCmdComplete s)
  ∧ (∀ (m : Master) (r : Nat) (c : Instr) (s : State), May s m .RANK_CMD_CMD →
    (c ∈ [Instr.rankCmdWrite m, .rankCmdRead m, .rankCmdFlushJob m] ∧ s.flag .JOB_SLOT_VALID (s.get .RANK_SEL_SLOT) = false ∧ r = 2)
      ∨ (c ∈ [Instr.rankCmdWrite m, .rankCmdRead m] ∧ s.flag .JOB_SLOT_VALID (s.get .RANK_SEL_SLOT) = true
          ∧ s.get .JOB_SLOT_LAST_RANK (s.get .RANK_SEL_SLOT) < s.get .RANK_SEL_RANK ∧ r = 3)
      ∨ (c ∈ [Instr.rankCmdWrite m, .rankCmdRead m] ∧ s.flag .JOB_SLOT_VALID (s.get .RANK_SEL_SLOT) = true
          ∧ s.get .RANK_SEL_RANK ≤ s.get .JOB_SLOT_LAST_RANK (s.get .RANK_SEL_SLOT)
          ∧ (s.plan.installed = false ∨ s.cellarOn = false) ∧ r = 4) →
    Does c s [.fault] (.RANK_STAT_RESULT :: mendRegs) fun t => t.get .RANK_STAT_RESULT = r)
  ∧ (∀ (m : Master) (slot r : Nat) (s : State), May s m .RANK_CMD_CMD → slot = s.get .RANK_SEL_SLOT → r = s.get .RANK_SEL_RANK →
    s.flag .JOB_SLOT_VALID slot = true → r ≤ s.get .JOB_SLOT_LAST_RANK slot → s.plan.installed = true → s.cellarOn = true →
    Does (.rankCmdWrite m) s [.thresh, .fault] (.RANK_STAT_RESULT :: mendRegs)
        (fun t => rankEntry t slot r = wd (s.get .RANK_DATA_ENTRY) ∧ t.get .RANK_STAT_RESULT = 0 ∧ t.thresh.rankCache = s.thresh.rankCache
          ∧ ∀ j q, rankPlace s j q ≠ rankPlace s slot r → rankEntry t j q = rankEntry s j q)
      ∧ Does (.rankCmdRead m) s [.fault] (([.RANK_STAT_RESULT, .RANK_DATA_ENTRY] : List Fld) ++ mendRegs)
        (fun t => t.get .RANK_DATA_ENTRY = (rankEntry s slot r).toNat ∧ t.get .RANK_STAT_RESULT = 0))
  ∧ (∀ (m : Master) (slot : Nat) (s : State), May s m .RANK_CMD_CMD → slot = s.get .RANK_SEL_SLOT → s.flag .JOB_SLOT_VALID slot = true →
    Does (.rankCmdFlushJob m) s [.thresh, .fault] (.RANK_STAT_RESULT :: mendRegs)
      fun t => t.get .RANK_STAT_RESULT = 0 ∧ t.thresh.ranks = s.thresh.ranks
        ∧ ∀ e, e ∈ t.thresh.rankCache ↔ e ∈ s.thresh.rankCache ∧ e.1 ≠ s.get .JOB_SLOT_JOB slot)

/-- Misses and walks (R284 to R287): a pop answers the oldest queued miss; WALK_FAULT and WALK_DEVICE end what waits on it with their status, RETRY has it
look up again, NOT_PRESENT asks the driver for the page, or holds the request while the ring is full; a walk read is issued inside a walkable
window only, and its answer or failure shows. -/
def Obligations.MissesAreServed : Prop :=
  (∀ (m : Master) (hk h id : Nat) (e : Miss) (rest : List (Nat × Nat)) (s : State), MaySee s m .MISS_POP_VALID →
    s.thresh.missOrder = (h, id) :: rest → Tab.find? (s.missOf h) id = some e → h < 4 → id < 64 → e.ctx < 2 ^ 20 →
    Does (.missPop m hk) s [.thresh, .out]
      [.MISS_POP_VALID, .MISS_POP_ID, .MISS_POP_HPORT, .MISS_POP_WRITE, .MISS_POP_TARGET, .MISS_POP_CTX, .MISS_VA_VPAGE]
      fun t => t.thresh.missOrder = rest ∧ t.flag .MISS_POP_VALID hk = true ∧ t.get .MISS_POP_ID hk = id ∧ t.get .MISS_POP_HPORT hk = h
        ∧ t.get .MISS_POP_CTX hk = e.ctx ∧ t.get .MISS_VA_VPAGE hk = e.page % 2 ^ 52
        ∧ Tab.find? (t.missOf h) id = some { e with queued := false }
        ∧ (∃ w ∈ t.thresh.walking, w.hk = hk ∧ w.h = h ∧ w.id = id ∧ w.ctx = e.ctx ∧ w.page = e.page ∧ w.write = e.write)
        ∧ t.out = .reg m (wd (1 + id * 2 + h * 128 + b2n e.write * 512 + b2n e.target * 1024 + e.ctx * 4096)) :: s.out)
  ∧ (∀ (m : Master) (hk : Nat) (s : State), MaySee s m .MISS_POP_VALID → s.thresh.missOrder = [] →
    Does (.missPop m hk) s [.out] [.MISS_POP_VALID] fun t => t.flag .MISS_POP_VALID hk = false ∧ t.out = .reg m 0 :: s.out)
  ∧ (∀ (m : Master) (h id : Nat) (dev : Bool) (e : Miss) (s : State), May s m .MISS_DONE_ID → Tab.find? (s.missOf h) id = some e →
    NoWaiters s →
    Does (if dev then .missDoneWalkDevice m h id else .missDoneWalkFault m h id) s [.thresh, .count, .fault, .out, .porch]
      (.XLATE_EVENTS_WALK_FAULT_SEEN :: missDoneRegs)
      fun t => Tab.find? (t.missOf h) id = none ∧ (dev = false → t.flag .XLATE_EVENTS_WALK_FAULT_SEEN = true)
        ∧ t.get .MISS_DONE_STATUS = (if dev then 2 else 1))
  ∧ (∀ (m : Master) (h id : Nat) (dev : Bool) (e : Miss) (it : WorkItem) (s : State), May s m .MISS_DONE_ID →
    Tab.find? (s.missOf h) id = some e → s.porch.stalled = [it] → it.misses = [(h, e.ctx, e.page)] → it.cont = none → it.lb = none →
    NoWaiters { s with porch := { s.porch with stalled := [] } } → s.hostStopped = false → Certain it.room s →
    (s.room it.room).st = 1 → weSilent it.entry = false →
    Does (if dev then .missDoneWalkDevice m h id else .missDoneWalkFault m h id) s [.thresh, .count, .fault, .out, .porch]
      (.XLATE_EVENTS_WALK_FAULT_SEEN :: missDoneRegs)
      fun t => t.porch.stalled = [] ∧ EntryEnds it.room (statusOf it.entry (if dev then 14 else 13) 0) s t)
  ∧ (∀ (m : Master) (h id : Nat) (e : Miss) (it : WorkItem) (s : State), May s m .MISS_DONE_ID →
    Tab.find? (s.missOf h) id = some e → (∀ x ∈ s.missOf h, x.2.ctx = e.ctx → x.2.page = e.page → x.1 = id) →
    s.porch.stalled = [it] → it.misses = [(h, e.ctx, e.page)] → NoWaiters { s with porch := { s.porch with stalled := [] } } →
    Does (.missDoneRetry m h id) s [.thresh, .fault, .porch] (([.MISS_DONE_ID, .MISS_DONE_HPORT, .MISS_DONE_STATUS] : List Fld) ++ mendRegs)
      fun t => t.porch.stalled = [] ∧ t.porch.fetchQ = { it with misses := [] } :: s.porch.fetchQ ∧ Tab.find? (t.missOf h) id = none
        ∧ t.get .MISS_DONE_STATUS = 4)
  ∧ (∀ (m : Master) (h id n : Nat) (e : Miss) (s : State), May s m .MISS_DONE_ID → Tab.find? (s.missOf h) id = some e →
    s.flag .PRQ_CTRL_ENABLE h = true → prqFull s h = false → n = Tab.get s.thresh.prqTail h 0 →
    Does (.missDoneNotPresent m h id) s [.thresh, .count, .fault, .out, .porch] missDoneRegs
      fun t => Tab.get t.thresh.prqTail h 0 = (n + 1) % 2 ^ 32
        ∧ (∃ x : Miss, Tab.find? (t.missOf h) id = some x ∧ x.lastReq = some s.now ∧ x.page = e.page ∧ x.stale = false)
        ∧ .hostWrite h (s.get .PRQ_BASE_BASE h * 4096 + 32 * (n % 2 ^ s.get .PRQ_BASE_LOG2 h))
            [wd (b2n e.write + at_ e.page 12 36), wd (at_ e.ctx 0 20 + at_ (phaseOf n (2 ^ s.get .PRQ_BASE_LOG2 h)) 63 1), 0, 0] ∈ t.out)
  ∧ (∀ (m : Master) (h id : Nat) (e : Miss) (s : State), May s m .MISS_DONE_ID → Tab.find? (s.missOf h) id = some e →
    s.flag .PRQ_CTRL_ENABLE h = true → prqFull s h = true →
    Does (.missDoneNotPresent m h id) s [.thresh, .fault, .out, .porch] (.XLATE_EVENTS_PRQ_FULL :: missDoneRegs)
      fun t => t.thresh.prqHeld = s.thresh.prqHeld ++ [(h, e.ctx, e.page, e.write)] ∧ t.flag .XLATE_EVENTS_PRQ_FULL = true
        ∧ t.thresh.prqTail = s.thresh.prqTail)
  ∧ (∀ (m : Master) (hk h addr : Nat) (s : State), May s m .WALK_REQ_ADDR → inWindow s h (addr / 8 * 8) = true →
    Does (.walkReq m hk h addr) s [.thresh, .count, .fault, .out, .porch]
      (([.WALK_REQ_HPORT, .WALK_REQ_ADDR, .WALK_STAT_STATUS] : List Fld) ++ countRegs ++ mendRegs)
      fun t => t.get .WALK_STAT_STATUS hk = 3 ∧ Tab.find? t.thresh.walks hk = some h
        ∧ t.out.head? = some (.hostRead h (addr / 8 * 8) 8 (walkTag hk)))
  ∧ (∀ (m : Master) (hk h addr : Nat) (s : State), May s m .WALK_REQ_ADDR → inWindow s h (addr / 8 * 8) = false →
    (∀ x ∈ s.thresh.walkStall, x.hk ≠ hk) →
    Does (.walkReq m hk h addr) s [.thresh, .fault, .out, .porch]
      (([.WALK_REQ_HPORT, .WALK_REQ_ADDR, .WALK_STAT_STATUS, .XLATE_EVENTS_WALK_DEVICE_SEEN] : List Fld) ++ intRegs ++ mendRegs)
      fun t => t.get .WALK_STAT_STATUS hk = 2 ∧ t.flag .XLATE_EVENTS_WALK_DEVICE_SEEN = true ∧ Tab.find? t.thresh.walks hk = none)
  ∧ (∀ (hk : Nat) (res : HostRead) (s : State), (Tab.find? s.thresh.walks hk).isSome = true →
    (∀ x ∈ s.thresh.walkStall, x.hk ≠ hk) →
    Does (.walkReadDone hk res) s [.thresh] [.WALK_DATA_DATA, .WALK_STAT_STATUS]
      fun t => Tab.find? t.thresh.walks hk = none
        ∧ (∀ ws, res = .data ws → t.get .WALK_DATA_DATA hk = wn ws 0 ∧ t.get .WALK_STAT_STATUS hk = 0)
        ∧ ((∀ ws, res ≠ .data ws) → t.get .WALK_STAT_STATUS hk = 1 ∧ t.get .WALK_DATA_DATA hk = s.get .WALK_DATA_DATA hk))
  ∧ (∀ (hk h : Nat) (w : Word) (ws : List Word) (x : WalkStall) (s : State), (Tab.find? s.thresh.walks hk).isSome = true →
    s.thresh.walkStall = [x] → x.hk = hk → x.m = .host h →
    Does (.walkReadDone hk (.data (w :: ws))) s [.thresh, .out] [.WALK_DATA_DATA, .WALK_STAT_STATUS]
      fun t => t.thresh.walkStall = [] ∧ t.get .WALK_STAT_STATUS hk = 0
        ∧ t.out = .reg (.host h) (if x.low = true ∧ x.high = true then w else halfOf x.high w) :: s.out)

/-- The translation buffer and the invalidate mailbox (R280, R281, R288 to R290): an INSTALL is refused with RESULT 3 or 1 or puts its
entry and removes those it overlaps; INVALIDATE and the mailbox's requests remove every entry they cover and mark its misses stale; READ shows an entry; a
ring while one runs is refused; a request completes once what it must drain has drained. -/
def Obligations.TranslationsChange : Prop :=
  (∀ (m : Master) (h k : Nat) (b : Bool) (s : State), May s m .ATB_CMD_CMD →
    (atbNew s).size = 3 ∨ (atbNew s).bpage % 2 ^ (9 * (atbNew s).size) ≠ 0 →
    Does (.atbInstall m h b k) s [.fault] (([.ATB_CMD_HAS_MISS, .ATB_CMD_MISS_ID] : List Fld) ++ atbRegs)
      fun t => t.get .ATB_CMD_STAT_RESULT = 3 ∧ t.get .ATB_CMD_STAT_REMOVED = 0)
  ∧ (∀ (m : Master) (h k : Nat) (e : Miss) (s : State), May s m .ATB_CMD_CMD → (atbNew s).size ≠ 3 →
    (atbNew s).bpage % 2 ^ (9 * (atbNew s).size) = 0 → Tab.find? (s.missOf h) k = some e → e.stale = true →
    Does (.atbInstall m h true k) s [.thresh, .count, .fault, .out, .porch]
      (([.ATB_CMD_HAS_MISS, .ATB_CMD_MISS_ID, .XLATE_EVENTS_STALE_INSTALL] : List Fld) ++ countRegs ++ atbRegs)
      fun t => t.get .ATB_CMD_STAT_RESULT = 1 ∧ t.flag .XLATE_EVENTS_STALE_INSTALL = true ∧ t.thresh.atb = s.thresh.atb
        ∧ Tab.find? (t.missOf h) k = some { e with stale := false })
  ∧ (∀ (m : Master) (h i : Nat) (s : State), May s m .ATB_CMD_CMD → (atbNew s).size ≠ 3 →
    (atbNew s).bpage % 2 ^ (9 * (atbNew s).size) = 0 → NoWaiters s → i < 1024 → Tab.find? (s.atbOf h) i = none →
    (∀ j, j < i → ∃ e : AtbEntry, Tab.find? (s.atbOf h) j = some e ∧ ¬ (e.ctx = (atbNew s).ctx ∧ runsMeet (atbPages e) (atbPages (atbNew s)) = true)) →
    Does (.atbInstall m h false 0) s [.thresh, .fault, .porch] (([.ATB_CMD_HAS_MISS, .ATB_CMD_MISS_ID, .ATB_CMD_STAT_SLOT] : List Fld) ++ atbRegs)
      fun t => t.get .ATB_CMD_STAT_RESULT = 0 ∧ t.get .ATB_CMD_STAT_SLOT = i ∧ Tab.find? (t.atbOf h) i = some (atbNew s)
        ∧ (∀ j e, j ≠ i → Tab.find? (t.atbOf h) j = some e →
            ¬ (e.ctx = (atbNew s).ctx ∧ runsMeet (atbPages e) (atbPages (atbNew s)) = true))
        ∧ (∀ g, g ≠ h → t.atbOf g = s.atbOf g)
        ∧ (∀ x ∈ t.missOf h, ¬ (x.2.ctx = (atbNew s).ctx ∧ runsMeet (x.2.page, 1) (atbPages (atbNew s)) = true)))
  ∧ (∀ (m : Master) (h : Nat) (s : State), May s m .ATB_CMD_CMD →
    Does (.atbInvalidate m h) s [.thresh, .fault] atbRegs
      fun t => t.get .ATB_CMD_STAT_RESULT = 0 ∧ (∀ g, g ≠ h → t.atbOf g = s.atbOf g)
        ∧ ∀ x, x ∈ t.atbOf h ↔ x ∈ s.atbOf h ∧ ¬ ((s.flag .ATB_DATA2_ALL_CTX = true ∨ x.2.ctx = s.get .ATB_DATA2_CTX)
            ∧ runsMeet (atbPages x.2) (s.get .ATB_DATA0_VPAGE, max 1 (s.get .ATB_DATA2_PAGES)) = true))
  ∧ (∀ (m : Master) (h i : Nat) (e : AtbEntry) (s : State), May s m .ATB_CMD_CMD → Tab.find? (s.atbOf h) i = some e → e.size < 4 →
    e.vpage < 2 ^ 36 → e.bpage < 2 ^ 40 → e.ctx < 2 ^ 20 →
    Does (.atbRead m h i) s [.fault] (([.ATB_CMD_INDEX, .ATB_DATA0_SIZE, .ATB_DATA0_WRITE, .ATB_DATA0_VALID, .ATB_DATA0_VPAGE, .ATB_DATA1_BPAGE,
        .ATB_DATA2_CTX] : List Fld) ++ atbRegs)
      fun t => atbNew t = e ∧ t.flag .ATB_DATA0_VALID = true ∧ t.get .ATB_CMD_STAT_RESULT = 0)
  ∧ (∀ (m : Master) (h : Nat) (ctx : Option Nat) (run : Nat × Nat) (c : Instr) (s : State), May s m .INV_RING_RING →
    s.flag .INV_STAT_BUSY h = false →
    (c = .invRange m h ∧ ctx = some (s.get .INV_MBOX1_CTX h) ∧ run = (s.get .INV_MBOX0_VPAGE h, max 1 (s.get .INV_MBOX1_PAGES h)))
      ∨ (c = .invContext m h ∧ ctx = some (s.get .INV_MBOX1_CTX h) ∧ run = (0, 2 ^ 36))
      ∨ (c = .invPortAll m h ∧ ctx = none ∧ run = (0, 2 ^ 36)) →
    Does c s [.thresh, .count, .fault, .out, .porch] (.INV_STAT_BUSY :: (countRegs ++ mendRegs))
      fun t => t.flag .INV_STAT_BUSY h = true ∧ (∀ g, g ≠ h → t.atbOf g = s.atbOf g) ∧ t.out.head? = some (.hkIrq 1 h)
        ∧ (∃ d : InvSt, Tab.find? t.thresh.invBusy h = some d ∧ d.result = 0 ∧ d.drain = s.flag .INV_MBOX0_DRAIN h)
        ∧ (∀ x, x ∈ t.atbOf h ↔ x ∈ s.atbOf h ∧ ¬ ((∀ k, ctx = some k → x.2.ctx = k) ∧ runsMeet (atbPages x.2) run = true))
        ∧ (∀ x ∈ t.missOf h, (∀ k, ctx = some k → x.2.ctx = k) → runsMeet (x.2.page, 1) run = true → x.2.stale = true))
  ∧ (∀ (m : Master) (h : Nat) (c : Instr) (s : State), May s m .INV_RING_RING → s.flag .INV_STAT_BUSY h = true →
    c ∈ [Instr.invRange m h, .invContext m h, .invPortAll m h, .pageDone m h] →
    Does c s [.fault, .out, .porch] (([.INV_STAT_LAST_RESULT, .XLATE_EVENTS_INV_REFUSED] : List Fld) ++ intRegs ++ mendRegs)
      fun t => t.get .INV_STAT_LAST_RESULT h = 1 ∧ t.flag .XLATE_EVENTS_INV_REFUSED = true)
  ∧ (∀ (m : Master) (h id : Nat) (e : Miss) (s : State), May s m .INV_RING_RING → s.flag .INV_STAT_BUSY h = false →
    s.flag .INV_MBOX0_FAIL h = false → s.missOf h = [(id, e)] → e.ctx = s.get .INV_MBOX1_CTX h → e.page = s.get .INV_MBOX0_VPAGE h →
    e.lastReq.isSome = true → e.queued = false →
    Does (.pageDone m h) s [.thresh, .count, .fault, .out, .porch] (.INV_STAT_BUSY :: (countRegs ++ mendRegs))
      fun t => t.flag .INV_STAT_BUSY h = true ∧ t.missOf h = [(id, { e with queued := true, lastReq := none })]
        ∧ t.thresh.missOrder = s.thresh.missOrder ++ [(h, id)] ∧ t.out.head? = some (.hkIrq 0 (h * 64 + id)))
  ∧ (∀ (h : Nat) (d : InvSt) (s : State), Tab.find? s.thresh.invBusy h = some d → d.drain = false ∨ undrained s h d.ranges = false →
    Does (.invRequestComplete h) s [.thresh, .out, .porch]
      (([.INV_STAT_BUSY, .INV_STAT_DONE_SEQ, .INV_STAT_LAST_RESULT, .XLATE_EVENTS_INV_DONE] : List Fld) ++ intRegs)
      fun t => t.flag .INV_STAT_BUSY h = false ∧ t.get .INV_STAT_DONE_SEQ h = (s.get .INV_STAT_DONE_SEQ h + 1) % 65536
        ∧ t.get .INV_STAT_LAST_RESULT h = d.result % 16 ∧ t.flag .XLATE_EVENTS_INV_DONE = true ∧ Tab.find? t.thresh.invBusy h = none)
  ∧ (∀ (h : Nat) (d : InvSt) (s : State), Tab.find? s.thresh.invBusy h = some d → d.drain = true → undrained s h d.ranges = true →
    Nothing (.invRequestComplete h) s)

/-! ## The Rake (R295 to R314) -/

/-- Collectives (R296, R299, R307, R312, R313): a COLL that fails a gate check completes with its status alone; one whose form is wrong uses up the tree's
next number, completes, and its operation is aborted; a barrier at a leaf begins and its head goes up; a result chunk is written into the result
range and the last one completes the COLL. -/
def Obligations.CollectivesAreServed : Prop :=
  (∀ s : State, s.hostStopped = true ∨ s.rake.colls = [] ∨ (∀ it ∈ s.rake.colls, treeBusy s it = true) → Nothing .collAdmit s)
  ∧ (∀ (it : WorkItem) (rest : List WorkItem) (i st : Nat) (s : State), CollNext it rest s → Certain it.room s → (s.room it.room).st = 1 → weSilent it.entry = false →
    i = weTree it.entry →
    ((10 < weCop it.entry ∨ 6 < weCtype it.entry) ∧ st = 6)
      ∨ (weCop it.entry ≤ 10 ∧ weCtype it.entry ≤ 6
          ∧ (s.flag .TREE_ENTRY_VALID i = false ∨ s.flag .TREE_ENTRY_HOST i = false ∨ s.hasVc 1 = false) ∧ st = 5)
      ∨ (weCop it.entry ≤ 10 ∧ weCtype it.entry ≤ 6 ∧ s.flag .TREE_ENTRY_VALID i = true ∧ s.flag .TREE_ENTRY_HOST i = true ∧ s.hasVc 1 = true
          ∧ s.get .TREE_JOB_JOB i ≠ (s.room it.room).job ∧ st = 3)
      ∨ (weCop it.entry ≤ 10 ∧ weCtype it.entry ≤ 6 ∧ s.flag .TREE_ENTRY_VALID i = true ∧ s.flag .TREE_ENTRY_HOST i = true ∧ s.hasVc 1 = true
          ∧ s.get .TREE_JOB_JOB i = (s.room it.room).job ∧ s.rakeOn = false ∧ st = 25) →
    Does .collAdmit s [.porch, .rake, .out] []
      fun t => t.rake = { s.rake with colls := rest } ∧ EntryEnds it.room (statusOf it.entry st 0) s t)
  ∧ (∀ (it : WorkItem) (rest : List WorkItem) (i n st : Nat) (s : State), CollNext it rest s → CollGatePasses it s → Certain it.room s →
    (s.room it.room).st = 1 → recordedFor s (weTree it.entry) (s.get .TREE_ENTRY_NEXT_SEQ (weTree it.entry)) = none →
    weSilent it.entry = false → i = weTree it.entry → n = weLen it.entry → s.get .TREE_ENTRY_STATE i ≠ 2 → (∀ d ∈ s.rake.dels, d.tree ≠ i) →
    (weCop it.entry = 0 ∧ (weCtype it.entry = 3 ∨ weCtype it.entry = 4) ∧ weFast it.entry = false ∧ st = 20)
      ∨ (¬ (weCop it.entry = 0 ∧ (weCtype it.entry = 3 ∨ weCtype it.entry = 4))
          ∧ (n % memBytes (weCop it.entry) (weCtype it.entry) ≠ 0 ∨ 65536 < n ∨ (n = 0 ∧ weCop it.entry ≠ 8)) ∧ st = 8)
      ∨ (¬ (weCop it.entry = 0 ∧ (weCtype it.entry = 3 ∨ weCtype it.entry = 4))
          ∧ n % memBytes (weCop it.entry) (weCtype it.entry) = 0 ∧ n ≤ 65536 ∧ n ≠ 0 ∧ weCop it.entry < 8
          ∧ (weAddr it.entry % (if isLoc (weCop it.entry) then 8 else ctypeBytes (weCtype it.entry)) ≠ 0
              ∨ weRemote it.entry % (if isLoc (weCop it.entry) then 8 else ctypeBytes (weCtype it.entry)) ≠ 0) ∧ st = 7) →
    Does .collAdmit s treeParts treeRegs
      fun t => t.rake.colls = rest ∧ EntryEnds it.room (statusOf it.entry st 0) s t ∧ OtherTrees i s t ∧ t.tree i = none
        ∧ t.get .TREE_ENTRY_NEXT_SEQ i = (s.get .TREE_ENTRY_NEXT_SEQ i + 1) % 256
        ∧ t.get .TREE_ENTRY_ABORTED_SEQ i = s.get .TREE_ENTRY_NEXT_SEQ i % 256 ∧ t.flag .TREE_ENTRY_ABORTED_VALID i = true
        ∧ t.flag .RAKE_EVENTS_ABORT_SEEN = true ∧ (st = 20 → t.flag .RAKE_EVENTS_MISMATCH_SEEN = true))
  ∧ (∀ (it : WorkItem) (rest : List WorkItem) (i : Nat) (s : State), CollNext it rest s → CollGatePasses it s → i = weTree it.entry →
    weCop it.entry = 8 → weLen it.entry = 0 → s.get .TREE_ENTRY_STATE i ≠ 2 → (∀ e ∈ s.rake.recorded, e.1 ≠ i) → treeKids s i = [] →
    s.get .TREE_ENTRY_ROLE i ≠ 3 →
    Does .collAdmit s treeParts (.RAKE_EVENTS_CTX_WAIT :: treeRegs)
      fun t => t.rake.colls = rest ∧ OtherTrees i s t ∧ t.get .TREE_ENTRY_STATE i = 1 ∧ t.get .TREE_ENTRY_NEXT_SEQ i = s.get .TREE_ENTRY_NEXT_SEQ i
        ∧ (∃ x : TreeSt, t.tree i = some x ∧ x.begun = true ∧ x.headSent = true ∧ x.opSeq = s.get .TREE_ENTRY_NEXT_SEQ i ∧ x.cop = 8
            ∧ x.host = some (it.room, it.entry) ∧ x.members = 1
            ∧ (s.get .RAKE_STAT_CTX_FREE ≠ 0 → s.rake.waiters = [] → x.ctxLog2 = some (s.get .RAKE_STAT_WINDOW_LOG2))
            ∧ (s.get .RAKE_STAT_CTX_FREE = 0 → x.ctxLog2 = none ∧ t.rake.waiters = s.rake.waiters ++ [i]))
        ∧ (∃ d : CollDel, t.rake.dels = s.rake.dels ++ [d] ∧ d.tree = i ∧ d.seq = s.get .TREE_ENTRY_NEXT_SEQ i ∧ d.room = it.room ∧ d.entry = it.entry
            ∧ d.pages = none)
        ∧ TreeCellQueued [treeParent s i] s t (fun c => c.ty = tyTreeUp ∧ cellKind c = 0 ∧ cellTree c = i
            ∧ hSeq c.body = s.get .TREE_ENTRY_NEXT_SEQ i % 256 ∧ hCop c.body = 8 ∧ hMembers c.body = 1))
  ∧ (∀ (i : Nat) (s : State), s.hostStopped = true ∨ (∀ d ∈ s.rake.dels, d.tree ≠ i) → Nothing (.collResultWrite i) s)
  ∧ (∀ (i k st members fenced : Nat) (body : List Word) (d : CollDel) (s : State), s.hostStopped = false → s.rake.dels = [d] → d.tree = i →
    d.chunks = [(k, body)] ∧ d.done + 1 = d.total ∨ d.chunks = [] ∧ d.done = d.total → d.pages = none → d.head = some (st, members, fenced) →
    d.keyFail = false → Certain d.room s → (s.room d.room).st = 1 → weSilent d.entry = false →
    Does (.collResultWrite i) s [.rake, .porch, .out] []
      fun t => t.rake = { s.rake with dels := [] }
        ∧ EntryEnds d.room { op := 0x40, status := st, rank := weRank d.entry, cookie := weCookie d.entry, imm := members, len := d.written,
                             tag := weTag d.entry, aux := if st = 2 then fenced else 0 } s t)
  ∧ (∀ (i k h pa pn off n : Nat) (body : List Word) (rest : List (Nat × List Word)) (key : KeyEntry) (d : CollDel) (s : State),
    s.hostStopped = false → s.rake.dels = [d] → d.tree = i → d.chunks = (k, body) :: rest → d.pages = some (h, [(pa, pn)]) →
    d.done + 1 < d.total → off = chunkOff (weCop d.entry) (weCtype d.entry) (weFast d.entry) k →
    n = chunkBytes (weCop d.entry) (weCtype d.entry) (weFast d.entry) (weLen d.entry) k → 0 < n → n ≤ 64 → body.length = 8 → off + n ≤ pn →
    lookLocal d.room (weRkey d.entry) rWrite (weRemote d.entry + off) n s = (.found (key, 0), s) → s.flag .HPORT_STAT_LINK_UP h = true →
    atomicHolds s h [(pa, pn)] = false →
    Does (.collResultWrite i) s [.rake, .out] []
      fun t => t.rake = { s.rake with dels := [{ d with chunks := rest, done := d.done + 1, written := d.written + n, waitAt := none }] }
        ∧ t.out = .hostBytes h (pa + off) ((wordsBytes body).take n) :: s.out)
  ∧ (∀ (i k h pa pn off n since : Nat) (body : List Word) (rest : List (Nat × List Word)) (key : KeyEntry) (d : CollDel) (s : State),
    s.hostStopped = false → s.rake.dels = [d] → d.tree = i → d.chunks = (k, body) :: rest → d.pages = some (h, [(pa, pn)]) →
    off = chunkOff (weCop d.entry) (weCtype d.entry) (weFast d.entry) k →
    n = chunkBytes (weCop d.entry) (weCtype d.entry) (weFast d.entry) (weLen d.entry) k →
    lookLocal d.room (weRkey d.entry) rWrite (weRemote d.entry + off) n s = (.found (key, 0), s) → s.flag .HPORT_STAT_LINK_UP h = false →
    since = d.waitAt.getD s.now →
    (¬ Due s (since + s.get .THRESH_CFG_OP_TIMEOUT_MS * 1000000) →
      Does (.collResultWrite i) s [.rake] [] fun t => t.rake = { s.rake with dels := [{ d with waitAt := some since }] })
    ∧ (Due s (since + s.get .THRESH_CFG_OP_TIMEOUT_MS * 1000000) → Certain d.room s → (s.room d.room).st = 1 → weSilent d.entry = false →
      Does (.collResultWrite i) s [.rake, .porch, .out] []
        fun t => t.rake = { s.rake with dels := [] } ∧ (t.room d.room).written = ((s.room d.room).written + 1) % 2 ^ 32
          ∧ (t.room d.room).outstanding = (s.room d.room).outstanding - 1 ∧ OtherRooms d.room s t))

/-- Trees (R305 to R312, R314): a Rake that does not serve answers a HEAD with an ABORT and discards other cells; a cell that fails its checks, or breaks the
window, is a fault and aborts its operation; a HEAD ahead of the host is registered, one with a number out of order puts the tree in DESYNC; chunks pass
up once complete; a grant, a context, an abort, a stall and the software commands act as their rules say. -/
def Obligations.TreesRunTheirOperations : Prop :=
  (∀ (port : Nat) (c : Cell) (s : State), c.ty = tyTreeUp ∨ c.ty = tyTreeDown → s.rakeOn = false ∨ s.hostStopped = true →
    (cellKind c = 0 → Does (.treeHeadArrival port (some c)) s [.hall] []
      fun t => TreeCellQueued [port] s t (fun d => cellKind d = 3 ∧ cellTree d = cellTree c ∧ hSeq d.body = hSeq c.body ∧ hStatus d.body = 15))
    ∧ (cellKind c = 1 → Nothing (.treeDataArrival port (some c)) s)
    ∧ (cellKind c = 2 → Nothing (.treeGrantArrival port (some c)) s)
    ∧ (cellKind c = 3 → Nothing (.treeAbortArrival port (some c)) s))
  ∧ (∀ (cmd : Instr) (port : Nat) (c : Cell) (s : State), c.ty = tyTreeUp ∨ c.ty = tyTreeDown → s.rakeOn = true → s.hostStopped = false →
    (cmd, cellKind c) ∈ [(.treeHeadArrival port (some c), 0), (.treeDataArrival port (some c), 1), (.treeGrantArrival port (some c), 2),
      (.treeAbortArrival port (some c), 3)] →
    c.check ≠ bodyCrc c.body ∨ s.flag .TREE_ENTRY_VALID (cellTree c) = false
      ∨ (port ≠ treeParent s (cellTree c) ∧ port ∉ treeKids s (cellTree c))
      ∨ (cellKind c = 1 ∧ s.tree (cellTree c) = none ∧ port ≠ treeParent s (cellTree c) ∧ (cellTree c, port) ∉ s.rake.dropping) →
    Does cmd s blockFaultParts (.RAKE_EVENTS_CELL_FAIL :: blockFaultRegs)
      fun t => Raised 7 26 s t ∧ t.flag .RAKE_EVENTS_CELL_FAIL = true ∧ t.tree (cellTree c) = none)
  ∧ (∀ (port i : Nat) (c : Cell) (s : State), TreeCellUsed port c s → i = cellTree c → cellKind c = 0 → port ≠ treeParent s i → s.tree i = none →
    s.flag .TREE_ENTRY_HOST i = true → (∀ e ∈ s.rake.recorded, e.1 ≠ i) →
    ¬ (s.flag .TREE_ENTRY_ABORTED_VALID i = true ∧ s.get .TREE_ENTRY_ABORTED_SEQ i = hSeq c.body) → s.get .TREE_ENTRY_NEXT_SEQ i < 256 →
    (s.get .TREE_ENTRY_STATE i ≠ 2 → hSeq c.body = s.get .TREE_ENTRY_NEXT_SEQ i →
      Does (.treeHeadArrival port (some c)) s [.rake] []
        fun t => OtherTrees i s t ∧ ∃ x : TreeSt, t.tree i = some x ∧ x.begun = false ∧ x.opSeq = hSeq c.body ∧ x.heads = [port] ∧ x.cop = hCop c.body
          ∧ x.ctype = hCtype c.body ∧ x.fast = hFast c.body ∧ x.len = hLen c.body ∧ x.members = hMembers c.body ∧ x.fenced = hFenced c.body)
    ∧ (s.get .TREE_ENTRY_STATE i ≠ 2 → hSeq c.body ≠ s.get .TREE_ENTRY_NEXT_SEQ i →
      Does (.treeHeadArrival port (some c)) s [.out, .porch] (([.TREE_ENTRY_STATE, .RAKE_EVENTS_DESYNC_SEEN] : List Fld) ++ intRegs)
        fun t => t.get .TREE_ENTRY_STATE i = 2 ∧ t.flag .RAKE_EVENTS_DESYNC_SEEN = true ∧ ∀ j, j ≠ i → t.get .TREE_ENTRY_STATE j = s.get .TREE_ENTRY_STATE j)
    ∧ (s.get .TREE_ENTRY_STATE i = 2 → Nothing (.treeHeadArrival port (some c)) s))
  ∧ (∀ (port i k : Nat) (c : Cell) (x : TreeSt) (s : State), TreeCellUsed port c s → i = cellTree c → cellKind c = 1 → port ≠ treeParent s i →
    s.tree i = some x → (i, port) ∉ s.rake.dropping → port ∈ x.heads → k = Tab.get x.got port 0 → cellLo c = k % 64 → k < x.total →
    k < x.downGot + x.window → x.contrib = none →
    (x.begun = false → x.headSent = false →
      Does (.treeDataArrival port (some c)) s [.rake, .count, .out, .porch] countRegs
        fun t => OtherTrees i s t ∧ ∃ y : TreeSt, t.tree i = some y ∧ y.ins = x.ins ++ [(k, port, c.body)] ∧ Tab.get y.got port 0 = k + 1 ∧ y.upSent = x.upSent)
    ∧ (x.headSent = true → x.downHead = false → x.ins = [] → x.upSent = k → x.total = k + 1 → s.flag .TREE_ENTRY_HOST i = false →
      expectedKids s i x = [port] → s.get .TREE_ENTRY_ROLE i ≠ 3 →
      Does (.treeDataArrival port (some c)) s [.rake, .hall, .count, .out, .porch] countRegs
        fun t => OtherTrees i s t
          ∧ (∃ y : TreeSt, t.tree i = some y ∧ y.ins = [] ∧ Tab.get y.got port 0 = k + 1 ∧ y.upSent = k + 1)
          ∧ TreeCellQueued [treeParent s i] s t (fun d => d.ty = tyTreeUp ∧ cellKind d = 1 ∧ cellTree d = i ∧ cellLo d = k % 64
              ∧ (c.body.length = 8 → d.body = c.body))))
  ∧ (∀ (port : Nat) (c : Cell) (s : State), TreeCellUsed port c s → cellKind c = 1 → port ≠ treeParent s (cellTree c) →
    (cellTree c, port) ∈ s.rake.dropping → Nothing (.treeDataArrival port (some c)) s)
  ∧ (∀ (port i : Nat) (c : Cell) (x : TreeSt) (s : State), TreeCellUsed port c s → i = cellTree c → cellKind c = 2 → s.tree i = some x →
    (port = treeParent s i → x.opSeq = hSeq c.body → x.begun = false →
      Does (.treeGrantArrival port (some c)) s [.rake] []
        fun t => OtherTrees i s t ∧ t.tree i = some { x with granted := 2 ^ hGrant c.body })
    ∧ (port ≠ treeParent s i ∨ x.opSeq ≠ hSeq c.body → Nothing (.treeGrantArrival port (some c)) s))
  ∧ (∀ (port i : Nat) (c : Cell) (s : State), TreeCellUsed port c s → i = cellTree c → cellKind c = 3 →
    (∀ x, s.tree i = some x → x.opSeq = hSeq c.body →
      Does (.treeAbortArrival port (some c)) s treeParts treeRegs fun t => Aborted i x s t)
    ∧ (s.tree i = none → recordedFor s i (hSeq c.body) = none →
      ¬ (s.flag .TREE_ENTRY_ABORTED_VALID i = true ∧ s.get .TREE_ENTRY_ABORTED_SEQ i = hSeq c.body) →
      (hSeq c.body + 256 - s.get .TREE_ENTRY_NEXT_SEQ i % 256) % 256 < 128 →
      Does (.treeAbortArrival port (some c)) s [.rake, .hall] [.TREE_ENTRY_ABORTED_SEQ, .TREE_ENTRY_ABORTED_VALID]
        fun t => t.get .TREE_ENTRY_ABORTED_SEQ i = hSeq c.body ∧ t.flag .TREE_ENTRY_ABORTED_VALID i = true ∧ t.rake.trees = s.rake.trees
          ∧ (s.flag .TREE_ENTRY_HOST i = true → recordedFor t i (hSeq c.body) = some (hStatus c.body)))
    ∧ (s.tree i = none → s.flag .TREE_ENTRY_ABORTED_VALID i = true → s.get .TREE_ENTRY_ABORTED_SEQ i = hSeq c.body →
      Nothing (.treeAbortArrival port (some c)) s))
  ∧ (∀ (i : Nat) (x : TreeSt) (rest : List Nat) (s : State), s.rake.waiters = i :: rest → s.tree i = some x → s.get .RAKE_STAT_CTX_FREE ≠ 0 →
    s.get .RAKE_STAT_CTX_FREE < 256 → x.headSent = true → x.downHead = false →
    Does (.treeContextTake i) s treeParts (.RAKE_EVENTS_CTX_WAIT :: treeRegs)
      fun t => t.rake.waiters = rest ∧ t.get .RAKE_STAT_CTX_FREE = s.get .RAKE_STAT_CTX_FREE - 1 ∧ OtherTrees i s t
        ∧ ∃ y : TreeSt, t.tree i = some y ∧ y.ctxLog2 = some (s.get .RAKE_STAT_WINDOW_LOG2) ∧ y.opSeq = x.opSeq ∧ y.begun = x.begun)
  ∧ (∀ (i : Nat) (s : State), s.rake.waiters.head? ≠ some i ∨ s.tree i = none ∨ s.get .RAKE_STAT_CTX_FREE = 0 → Nothing (.treeContextTake i) s)
  ∧ (∀ (i : Nat) (x : TreeSt) (s : State), s.tree i = some x → x.begun = true →
    (∃ e ∈ x.firstAt, e.2 ≤ s.now ∧ (∃ p ∈ neededFor s i x, ∀ a ∈ x.ins, ¬ (a.1 = e.1 ∧ a.2.1 = p))
      ∧ ∀ p ∈ neededFor s i x, (∀ a ∈ x.ins, ¬ (a.1 = e.1 ∧ a.2.1 = p)) → p ∈ x.heads) →
    Does (.treeStallTimeout i) s treeParts (.RAKE_EVENTS_STALL_SEEN :: treeRegs)
      fun t => Aborted i x s t ∧ t.flag .RAKE_EVENTS_STALL_SEEN = true)
  ∧ (∀ (i : Nat) (s : State), (∀ x, s.tree i = some x → x.begun = false ∨ ∀ e ∈ x.firstAt, s.now < e.2) → Nothing (.treeStallTimeout i) s)
  ∧ (∀ (m : Master) (i : Nat) (s : State), May s m .RAKE_CTRL_CMD → s.domainOn 77 = true →
    (∀ x, s.tree i = some x → x.begun = true →
      Does (.rakeAbortCmd m i) s (.fault :: treeParts) (.RAKE_CTRL_TREE :: (treeRegs ++ mendRegs)) fun t => Aborted i x s t)
    ∧ ((∀ x, s.tree i = some x → x.begun = false) →
      Does (.rakeAbortCmd m i) s [.fault] (.RAKE_CTRL_TREE :: mendRegs) fun t => t.get .RAKE_CTRL_TREE = i % 1024)
    ∧ Does (.rakeResyncCmd m i) s [.rake, .fault]
        (([.RAKE_CTRL_TREE, .TREE_ENTRY_NEXT_SEQ, .TREE_ENTRY_ABORTED_SEQ, .TREE_ENTRY_ABORTED_VALID, .TREE_ENTRY_STATE] : List Fld) ++ mendRegs)
        fun t => t.get .TREE_ENTRY_NEXT_SEQ i = 0 ∧ t.get .TREE_ENTRY_ABORTED_SEQ i = 0 ∧ t.flag .TREE_ENTRY_ABORTED_VALID i = false
          ∧ t.get .TREE_ENTRY_STATE i = (if s.get .TREE_ENTRY_STATE i = 2 then 0 else s.get .TREE_ENTRY_STATE i)
          ∧ OtherTrees i s t ∧ (∀ x, s.tree i = some x → x.begun = true → t.tree i = some x)
          ∧ (∀ j, j ≠ i → t.get .TREE_ENTRY_NEXT_SEQ j = s.get .TREE_ENTRY_NEXT_SEQ j))
  ∧ (∀ (m : Master) (i : Nat) (s : State), May s m .RAKE_CTRL_CMD → s.domainOn 77 = false →
    Does (.rakeAbortCmd m i) s [.fault] mendRegs (fun _ => True) ∧ Does (.rakeResyncCmd m i) s [.fault] mendRegs (fun _ => True))

/-! ## Privilege (R402, R403) -/

/-- A command that writes a register field its master may not write (R402, R403) is refused: the access is recorded and its event shows, and nothing the
command does happens. A refused write of the value 0 leaves no trace. -/
def Obligations.UnprivilegedWritesAreRefused : Prop :=
  (∀ (m : Master) (n k j i : Nat) (b : Bool) (w : Word) (c : Instr) (f : Fld) (s : State), MayNot s m f →
    (c, f, i) ∈ [(.heartbeat m, .VPOL_CFG_HEARTBEAT, 0), (.fplanOpen m n, .FPLAN_CTRL_OPEN, 0), (.fplanDataWrite m w, .FPLAN_DATA_WORD, 0),
        (.fplanCommit m, .FPLAN_CTRL_COMMIT, 0), (.fplanAbort m, .FPLAN_CTRL_ABORT, 0), (.scheduleRequest m, .SLUICE_MODE_SCHEDULE, 0),
        (.portCtrlRetrain m n, .PORT_CTRL_RETRAIN, n), (.portCtrlBringUp m n, .PORT_CTRL_BRING_UP, n), (.adminDownSet m n, .PORT_CFG_ADMIN_DOWN, n),
        (.roomActivate m n, .ROOM_CMD_CMD, 0), (.roomDeactivate m n, .ROOM_CMD_CMD, 0), (.roomReset m n, .ROOM_CMD_CMD, 0),
        (.roomEvict m n, .ROOM_CMD_CMD, 0), (.roomCmdInvalid m n k, .ROOM_CMD_CMD, 0)]
      ++ [(.flowCmdReset m, .FLOW_CMD_RESET, 0), (.keyCmdWrite m, .KEY_CMD_CMD, 0), (.keyCmdRead m, .KEY_CMD_CMD, 0),
        (.keyCmdInvalidate m, .KEY_CMD_CMD, 0), (.missDoneWalkFault m n k, .MISS_DONE_ID, 0), (.missDoneWalkDevice m n k, .MISS_DONE_ID, 0),
        (.missDoneNotPresent m n k, .MISS_DONE_ID, 0), (.missDoneRetry m n k, .MISS_DONE_ID, 0), (.walkReq m n k j, .WALK_REQ_ADDR, n),
        (.atbInstall m n b k, .ATB_CMD_CMD, 0), (.atbInvalidate m n, .ATB_CMD_CMD, 0), (.atbRead m n k, .ATB_CMD_CMD, 0),
        (.invRange m n, .INV_RING_RING, n), (.invContext m n, .INV_RING_RING, n), (.invPortAll m n, .INV_RING_RING, n),
        (.pageDone m n, .INV_RING_RING, n), (.rankCmdWrite m, .RANK_CMD_CMD, 0), (.rankCmdRead m, .RANK_CMD_CMD, 0),
        (.rankCmdFlushJob m, .RANK_CMD_CMD, 0)]
      ++ [(.rakeAbortCmd m n, .RAKE_CTRL_CMD, 0), (.rakeResyncCmd m n, .RAKE_CTRL_CMD, 0), (.timeSet m n k, .TIME_ADJ_SET, 0),
        (.histClear m, .HIST_CTRL_CLEAR, 0), (.hostReset m, .DEV_FAULT_CTRL_HOST_RESET, 0), (.fenceSet m n, .FENCE_CMD_CMD, 0),
        (.fenceLift m n, .FENCE_CMD_CMD, 0), (.fenceLiftAll m, .FENCE_CMD_CMD, 0), (.deviceResetWrite m n, .RESET_CTRL_DEVICE_RESET, 0),
        (.blockResetCrystal m, .RESET_CTRL_CRYSTAL, 0), (.blockResetRake m, .RESET_CTRL_RAKE, 0), (.blockResetCount m, .RESET_CTRL_COUNT, 0),
        (.watchdogKick m, .WDOG_CFG_KICK, 0), (.atticRead m, .ATTIC_CMD_CMD, 0), (.atticWrite m b, .ATTIC_CMD_CMD, 0),
        (.optCommit m, .ATTIC_CMD_CMD, 0), (.bistShutdown m, .BIST_CTRL_SHUTDOWN, 0), (.bistStart m, .BIST_CTRL_START, 0),
        (.bistOverride m, .BOOT_CTRL_OVERRIDE, 0), (.latchRelease m n, .LATCH_RELEASE_ANY, n % 512), (.latchForce m n, .LATCH_FORCE_GO, n % 512),
        (.snapArm m, .SNAP_CTRL_ARM, 0), (.snapDisarm m, .SNAP_CTRL_DISARM, 0)] →
    Does c s [.count, .out, .porch] refuseRegs (RefusalShown m f i))
  ∧ (∀ (m : Master) (b cls : Nat) (s : State), MayNot s m .FAULT_INJECT_GO → b ∈ blockIds →
    Does (.faultInject m b cls) s [.count, .out, .porch] refuseRegs (RefusalShown m .FAULT_INJECT_GO b))
  ∧ (∀ (m : Master) (n k j i l v : Nat) (w : Word) (c : Instr) (f : Fld) (s : State), MayNot s m f →
    (c, f, i, v) ∈ [(.forceMarkedWrite m n, .SLUICE_MODE_FORCE_MARKED, 0, n), (.portSettingWrite m n k j l, .PORT_CFG_FEC, n, k + j + l),
        (.adminDownClear m n, .PORT_CFG_ADMIN_DOWN, n, 0), (.roomCtxWrite m w, .ROOM_CTX_DATA_DATA, 0, w.toNat),
        (.opPointWrite m n, .OP_CTRL_OP_POINT, 0, n % 4), (.l4HoldWrite m n, .DEV_FAULT_CTRL_L4_HOLD, 0, n % 2),
        (.fenceDataWrite m w, .FENCE_DATA_BITS, 0, w.toNat), (.resetCauseClear m n, .RESET_CAUSE_CLR_CLEAR, 0, n % 4096),
        (.domainTargetWrite m true w, .DOMAIN_TARGET_HI_TARGET, 0, w.toNat % 65536),
        (.domainTargetWrite m false w, .DOMAIN_TARGET_LO_TARGET, 0, w.toNat)]
      ∨ (i ∈ blockIds ∧ c = .faultAckWrite m i n ∧ f = .FAULT_ACK_ACK ∧ v = n % 2 ^ 64 / 2) →
    (v ≠ 0 → Does c s [.count, .out, .porch] refuseRegs (RefusalShown m f i)) ∧ (v = 0 → Nothing c s))
end

