-- ==== Sys2Proof/Laws/Tab.lean ====
section
/-! SUPPORT. Laws of tables: what a read sees after a write, and that every operation keeps the canonical form. -/
namespace Sys2Proof.Machine

variable {α : Type}

theorem Tab.find?_put (t : Tab α) (k j : Nat) (v : α) :
    Tab.find? (Tab.put t k v) j = if k = j then some v else Tab.find? t j := by
  induction t with
  | nil => simp [Tab.put, Tab.find?]
  | cons e r ih =>
    obtain ⟨a, w⟩ := e
    simp only [Tab.put]
    by_cases h1 : k < a
    · simp [h1, Tab.find?]
    · by_cases h2 : k = a
      · subst h2
        by_cases h3 : k = j <;> simp [Tab.find?, h3]
      · simp only [if_neg h1, if_neg h2, Tab.find?]
        by_cases h3 : a = j
        · subst h3; simp [h2]
        · simp [h3, ih]

theorem Tab.find?_del (t : Tab α) (k j : Nat) :
    Tab.find? (Tab.del t k) j = if k = j then none else Tab.find? t j := by
  induction t with
  | nil => simp [Tab.del, Tab.find?]
  | cons e r ih =>
    obtain ⟨a, w⟩ := e
    simp only [Tab.del] at ih
    by_cases h : a = k
    · subst h
      by_cases h3 : a = j
      · subst h3; simpa [Tab.del] using ih
      · simpa [Tab.del, Tab.find?, h3] using ih
    · have : (a != k) = true := by simp [h]
      by_cases h3 : a = j
      · subst h3; simp [Tab.del, this, Tab.find?, Ne.symm h]
      · simp [Tab.del, this, Tab.find?, h3, ih]

/-- A read of a table with defaults after a write (the write of a default unlists the key). -/
theorem Tab.get_set [DecidableEq α] (t : Tab α) (k j : Nat) (v d : α) :
    Tab.get (Tab.set t k v d) j d = if k = j then v else Tab.get t j d := by
  unfold Tab.set Tab.get
  by_cases h : v = d
  · subst h
    by_cases h3 : k = j <;> simp [Tab.find?_del, h3]
  · by_cases h3 : k = j <;> simp [h, Tab.find?_put, h3]

theorem Tab.get_set_other [DecidableEq α] (t : Tab α) (k j : Nat) (v d e : α) (h : k ≠ j) :
    Tab.get (Tab.set t k v d) j e = Tab.get t j e := by
  unfold Tab.set Tab.get
  by_cases h2 : v = d <;> simp [h2, Tab.find?_del, Tab.find?_put, h]

theorem Tab.get_put (t : Tab α) (k j : Nat) (v d : α) :
    Tab.get (Tab.put t k v) j d = if k = j then v else Tab.get t j d := by
  unfold Tab.get
  by_cases h3 : k = j <;> simp [Tab.find?_put, h3]

/-- Every key a table lists after a put was listed before, or is the one put. -/
theorem Tab.mem_put {t : Tab α} {k : Nat} {v : α} {e : Nat × α} (h : e ∈ Tab.put t k v) : e = (k, v) ∨ e ∈ t := by
  induction t with
  | nil => simp [Tab.put] at h; exact Or.inl h
  | cons a r ih =>
    obtain ⟨j, w⟩ := a
    simp only [Tab.put] at h
    by_cases h1 : k < j
    · simp only [if_pos h1, List.mem_cons] at h
      rcases h with h | h | h <;> simp [h]
    · by_cases h2 : k = j
      · simp only [if_neg h1, if_pos h2, List.mem_cons] at h
        rcases h with h | h <;> simp [h]
      · simp only [if_neg h1, if_neg h2, List.mem_cons] at h
        rcases h with h | h
        · simp [h]
        · rcases ih h with h | h <;> simp [h]

theorem Tab.wf_put {t : Tab α} (h : Tab.wf t) (k : Nat) (v : α) : Tab.wf (Tab.put t k v) := by
  induction t with
  | nil => simp [Tab.put, Tab.wf]
  | cons a r ih =>
    obtain ⟨j, w⟩ := a
    simp only [Tab.wf, List.pairwise_cons] at h
    obtain ⟨hj, hr⟩ := h
    simp only [Tab.put]
    by_cases h1 : k < j
    · simp only [if_pos h1, Tab.wf, List.pairwise_cons]
      refine ⟨?_, hj, hr⟩
      intro e he
      simp only [List.mem_cons] at he
      rcases he with rfl | he
      · exact h1
      · exact Nat.lt_trans h1 (hj e he)
    · by_cases h2 : k = j
      · subst h2
        simp only [if_neg h1, if_pos, Tab.wf, List.pairwise_cons]
        exact ⟨hj, hr⟩
      · simp only [if_neg h1, if_neg h2, Tab.wf, List.pairwise_cons]
        refine ⟨?_, ih hr⟩
        intro e he
        rcases Tab.mem_put he with rfl | he
        · show j < k
          omega
        · exact hj e he

theorem Tab.wf_del {t : Tab α} (h : Tab.wf t) (k : Nat) : Tab.wf (Tab.del t k) := List.Pairwise.filter _ h

/-- A filter of a table keeps the canonical form with defaults. -/
theorem Tab.wfD_filter {t : Tab α} {d : Nat → α} (h : Tab.wfD t d) (p : Nat × α → Bool) : Tab.wfD (t.filter p) d :=
  ⟨List.Pairwise.filter _ h.1, fun e he => h.2 e (List.mem_filter.mp he).1⟩

/-- A write keeps the canonical form with defaults. -/
theorem Tab.wfD_set [DecidableEq α] {t : Tab α} {d : Nat → α} (h : Tab.wfD t d) (k : Nat) (v : α) :
    Tab.wfD (Tab.set t k v (d k)) d := by
  unfold Tab.set
  by_cases hv : v = d k
  · simp only [if_pos hv]
    exact Tab.wfD_filter h _
  · simp only [if_neg hv]
    refine ⟨Tab.wf_put h.1 k v, fun e he => ?_⟩
    rcases Tab.mem_put he with rfl | he
    · exact hv
    · exact h.2 e he

theorem Tab.wfD_nil (d : Nat → α) : Tab.wfD ([] : Tab α) d := ⟨List.Pairwise.nil, fun _ h => nomatch h⟩

end Sys2Proof.Machine
end

