-- ==== Sys2Proof/Laws/State.lean ====
section
/-! SUPPORT. Laws of the state: what each elementary update changes and what it leaves, one lemma per field, so that no
later proof unfolds a record update; reads of registers, ports, rooms and flows after writes of them; and the canonical
form of the register store, kept by every register write. -/
namespace Sys2Proof.Machine

/-! Register fields. -/

theorem fkey_inj {f g : Fld} {i j : Nat} (h : fkey f i = fkey g j) : f = g ∧ i = j := by
  have hf : f.ctorIdx < 1024 := by cases f <;> decide
  have hg : g.ctorIdx < 1024 := by cases g <;> decide
  unfold fkey at h
  have h1 : f.ctorIdx = g.ctorIdx := by omega
  have h2 : i = j := by omega
  exact ⟨by rw [← Fld.ofNat_ctorIdx f, h1, Fld.ofNat_ctorIdx], h2⟩

/-- A field reads what was written, cut to its width. -/
@[simp] theorem State.get_set_self (s : State) (f : Fld) (v i : Nat) : (s.set f v i).get f i = v % 2 ^ f.info.width := by
  simp [State.get, State.set, Tab.get_set]

/-- Another field, or another instance, reads as before. -/
theorem State.get_set_other (s : State) {f g : Fld} {i j : Nat} (v : Nat) (h : f ≠ g ∨ i ≠ j) :
    (s.set f v i).get g j = s.get g j := by
  have hk : fkey f i ≠ fkey g j := fun e => by
    obtain ⟨e1, e2⟩ := fkey_inj e
    rcases h with h | h
    · exact h e1
    · exact h e2
  simp [State.get, State.set, Tab.get_set_other _ _ _ _ _ _ hk]

@[simp] theorem State.get_set_ne (s : State) {f g : Fld} (v i j : Nat) (h : f ≠ g) : (s.set f v i).get g j = s.get g j :=
  s.get_set_other v (Or.inl h)

@[simp] theorem State.get_set_inst (s : State) (f : Fld) (v : Nat) {i j : Nat} (h : i ≠ j) : (s.set f v i).get f j = s.get f j :=
  s.get_set_other v (Or.inr h)

/-- A register read sees only the register store. -/
theorem State.get_of_fld {s t : State} (h : t.fld = s.fld) (f : Fld) (i : Nat) : t.get f i = s.get f i := by
  simp [State.get, h]

@[simp] theorem State.set_clk (s : State) (f : Fld) (v i : Nat) : (s.set f v i).clk = s.clk := rfl
@[simp] theorem State.set_plan (s : State) (f : Fld) (v i : Nat) : (s.set f v i).plan = s.plan := rfl
@[simp] theorem State.set_session (s : State) (f : Fld) (v i : Nat) : (s.set f v i).session = s.session := rfl
@[simp] theorem State.set_hall (s : State) (f : Fld) (v i : Nat) : (s.set f v i).hall = s.hall := rfl
@[simp] theorem State.set_ports (s : State) (f : Fld) (v i : Nat) : (s.set f v i).ports = s.ports := rfl
@[simp] theorem State.set_line (s : State) (f : Fld) (v i : Nat) : (s.set f v i).line = s.line := rfl
@[simp] theorem State.set_porch (s : State) (f : Fld) (v i : Nat) : (s.set f v i).porch = s.porch := rfl
@[simp] theorem State.set_thresh (s : State) (f : Fld) (v i : Nat) : (s.set f v i).thresh = s.thresh := rfl
@[simp] theorem State.set_crystal (s : State) (f : Fld) (v i : Nat) : (s.set f v i).crystal = s.crystal := rfl
@[simp] theorem State.set_rake (s : State) (f : Fld) (v i : Nat) : (s.set f v i).rake = s.rake := rfl
@[simp] theorem State.set_sluice (s : State) (f : Fld) (v i : Nat) : (s.set f v i).sluice = s.sluice := rfl
@[simp] theorem State.set_fault (s : State) (f : Fld) (v i : Nat) : (s.set f v i).fault = s.fault := rfl
@[simp] theorem State.set_power (s : State) (f : Fld) (v i : Nat) : (s.set f v i).power = s.power := rfl
@[simp] theorem State.set_stair (s : State) (f : Fld) (v i : Nat) : (s.set f v i).stair = s.stair := rfl
@[simp] theorem State.set_latch (s : State) (f : Fld) (v i : Nat) : (s.set f v i).latch = s.latch := rfl
@[simp] theorem State.set_count (s : State) (f : Fld) (v i : Nat) : (s.set f v i).count = s.count := rfl
@[simp] theorem State.set_mgmt (s : State) (f : Fld) (v i : Nat) : (s.set f v i).mgmt = s.mgmt := rfl
@[simp] theorem State.set_free (s : State) (f : Fld) (v i : Nat) : (s.set f v i).free = s.free := rfl
@[simp] theorem State.set_out (s : State) (f : Fld) (v i : Nat) : (s.set f v i).out = s.out := rfl
@[simp] theorem State.set_pending (s : State) (f : Fld) (v i : Nat) : (s.set f v i).pending = s.pending := rfl

/-! The log of what leaves, free values, ports, rooms, flows, injection. -/

@[simp] theorem emit_fld (o : Output) (s : State) : (emit o s).fld = s.fld := rfl
@[simp] theorem emit_clk (o : Output) (s : State) : (emit o s).clk = s.clk := rfl
@[simp] theorem emit_plan (o : Output) (s : State) : (emit o s).plan = s.plan := rfl
@[simp] theorem emit_session (o : Output) (s : State) : (emit o s).session = s.session := rfl
@[simp] theorem emit_hall (o : Output) (s : State) : (emit o s).hall = s.hall := rfl
@[simp] theorem emit_ports (o : Output) (s : State) : (emit o s).ports = s.ports := rfl
@[simp] theorem emit_line (o : Output) (s : State) : (emit o s).line = s.line := rfl
@[simp] theorem emit_porch (o : Output) (s : State) : (emit o s).porch = s.porch := rfl
@[simp] theorem emit_thresh (o : Output) (s : State) : (emit o s).thresh = s.thresh := rfl
@[simp] theorem emit_crystal (o : Output) (s : State) : (emit o s).crystal = s.crystal := rfl
@[simp] theorem emit_rake (o : Output) (s : State) : (emit o s).rake = s.rake := rfl
@[simp] theorem emit_sluice (o : Output) (s : State) : (emit o s).sluice = s.sluice := rfl
@[simp] theorem emit_fault (o : Output) (s : State) : (emit o s).fault = s.fault := rfl
@[simp] theorem emit_power (o : Output) (s : State) : (emit o s).power = s.power := rfl
@[simp] theorem emit_stair (o : Output) (s : State) : (emit o s).stair = s.stair := rfl
@[simp] theorem emit_latch (o : Output) (s : State) : (emit o s).latch = s.latch := rfl
@[simp] theorem emit_count (o : Output) (s : State) : (emit o s).count = s.count := rfl
@[simp] theorem emit_mgmt (o : Output) (s : State) : (emit o s).mgmt = s.mgmt := rfl
@[simp] theorem emit_free (o : Output) (s : State) : (emit o s).free = s.free := rfl
@[simp] theorem emit_pending (o : Output) (s : State) : (emit o s).pending = s.pending := rfl
@[simp] theorem emit_out (o : Output) (s : State) : (emit o s).out = o :: s.out := rfl
@[simp] theorem emit_get (o : Output) (s : State) (f : Fld) (i : Nat) : (emit o s).get f i = s.get f i := rfl

@[simp] theorem State.setPort_fld (s : State) (p : Nat) (x : PortSt) : (s.setPort p x).fld = s.fld := rfl
@[simp] theorem State.setPort_clk (s : State) (p : Nat) (x : PortSt) : (s.setPort p x).clk = s.clk := rfl
@[simp] theorem State.setPort_plan (s : State) (p : Nat) (x : PortSt) : (s.setPort p x).plan = s.plan := rfl
@[simp] theorem State.setPort_session (s : State) (p : Nat) (x : PortSt) : (s.setPort p x).session = s.session := rfl
@[simp] theorem State.setPort_hall (s : State) (p : Nat) (x : PortSt) : (s.setPort p x).hall = s.hall := rfl
@[simp] theorem State.setPort_line (s : State) (p : Nat) (x : PortSt) : (s.setPort p x).line = s.line := rfl
@[simp] theorem State.setPort_porch (s : State) (p : Nat) (x : PortSt) : (s.setPort p x).porch = s.porch := rfl
@[simp] theorem State.setPort_thresh (s : State) (p : Nat) (x : PortSt) : (s.setPort p x).thresh = s.thresh := rfl
@[simp] theorem State.setPort_crystal (s : State) (p : Nat) (x : PortSt) : (s.setPort p x).crystal = s.crystal := rfl
@[simp] theorem State.setPort_rake (s : State) (p : Nat) (x : PortSt) : (s.setPort p x).rake = s.rake := rfl
@[simp] theorem State.setPort_sluice (s : State) (p : Nat) (x : PortSt) : (s.setPort p x).sluice = s.sluice := rfl
@[simp] theorem State.setPort_fault (s : State) (p : Nat) (x : PortSt) : (s.setPort p x).fault = s.fault := rfl
@[simp] theorem State.setPort_power (s : State) (p : Nat) (x : PortSt) : (s.setPort p x).power = s.power := rfl
@[simp] theorem State.setPort_stair (s : State) (p : Nat) (x : PortSt) : (s.setPort p x).stair = s.stair := rfl
@[simp] theorem State.setPort_latch (s : State) (p : Nat) (x : PortSt) : (s.setPort p x).latch = s.latch := rfl
@[simp] theorem State.setPort_count (s : State) (p : Nat) (x : PortSt) : (s.setPort p x).count = s.count := rfl
@[simp] theorem State.setPort_mgmt (s : State) (p : Nat) (x : PortSt) : (s.setPort p x).mgmt = s.mgmt := rfl
@[simp] theorem State.setPort_free (s : State) (p : Nat) (x : PortSt) : (s.setPort p x).free = s.free := rfl
@[simp] theorem State.setPort_out (s : State) (p : Nat) (x : PortSt) : (s.setPort p x).out = s.out := rfl
@[simp] theorem State.setPort_pending (s : State) (p : Nat) (x : PortSt) : (s.setPort p x).pending = s.pending := rfl
@[simp] theorem State.setPort_get (s : State) (p : Nat) (x : PortSt) (f : Fld) (i : Nat) : (s.setPort p x).get f i = s.get f i := rfl
theorem State.port_setPort (s : State) (p q : Nat) (x : PortSt) : (s.setPort p x).port q = if p = q then x else s.port q := by
  simp [State.port, State.setPort, Tab.get_set]
@[simp] theorem State.port_setPort_self (s : State) (p : Nat) (x : PortSt) : (s.setPort p x).port p = x := by
  simp [State.port_setPort]
@[simp] theorem State.port_set (s : State) (f : Fld) (v i p : Nat) : (s.set f v i).port p = s.port p := rfl
@[simp] theorem State.port_emit (o : Output) (s : State) (p : Nat) : (emit o s).port p = s.port p := rfl

@[simp] theorem State.setRoom_fld (s : State) (r : Nat) (x : Room) : (s.setRoom r x).fld = s.fld := rfl
@[simp] theorem State.setRoom_clk (s : State) (r : Nat) (x : Room) : (s.setRoom r x).clk = s.clk := rfl
@[simp] theorem State.setRoom_plan (s : State) (r : Nat) (x : Room) : (s.setRoom r x).plan = s.plan := rfl
@[simp] theorem State.setRoom_session (s : State) (r : Nat) (x : Room) : (s.setRoom r x).session = s.session := rfl
@[simp] theorem State.setRoom_hall (s : State) (r : Nat) (x : Room) : (s.setRoom r x).hall = s.hall := rfl
@[simp] theorem State.setRoom_ports (s : State) (r : Nat) (x : Room) : (s.setRoom r x).ports = s.ports := rfl
@[simp] theorem State.setRoom_line (s : State) (r : Nat) (x : Room) : (s.setRoom r x).line = s.line := rfl
@[simp] theorem State.setRoom_thresh (s : State) (r : Nat) (x : Room) : (s.setRoom r x).thresh = s.thresh := rfl
@[simp] theorem State.setRoom_crystal (s : State) (r : Nat) (x : Room) : (s.setRoom r x).crystal = s.crystal := rfl
@[simp] theorem State.setRoom_rake (s : State) (r : Nat) (x : Room) : (s.setRoom r x).rake = s.rake := rfl
@[simp] theorem State.setRoom_sluice (s : State) (r : Nat) (x : Room) : (s.setRoom r x).sluice = s.sluice := rfl
@[simp] theorem State.setRoom_fault (s : State) (r : Nat) (x : Room) : (s.setRoom r x).fault = s.fault := rfl
@[simp] theorem State.setRoom_power (s : State) (r : Nat) (x : Room) : (s.setRoom r x).power = s.power := rfl
@[simp] theorem State.setRoom_stair (s : State) (r : Nat) (x : Room) : (s.setRoom r x).stair = s.stair := rfl
@[simp] theorem State.setRoom_latch (s : State) (r : Nat) (x : Room) : (s.setRoom r x).latch = s.latch := rfl
@[simp] theorem State.setRoom_count (s : State) (r : Nat) (x : Room) : (s.setRoom r x).count = s.count := rfl
@[simp] theorem State.setRoom_mgmt (s : State) (r : Nat) (x : Room) : (s.setRoom r x).mgmt = s.mgmt := rfl
@[simp] theorem State.setRoom_free (s : State) (r : Nat) (x : Room) : (s.setRoom r x).free = s.free := rfl
@[simp] theorem State.setRoom_out (s : State) (r : Nat) (x : Room) : (s.setRoom r x).out = s.out := rfl
@[simp] theorem State.setRoom_pending (s : State) (r : Nat) (x : Room) : (s.setRoom r x).pending = s.pending := rfl
@[simp] theorem State.setRoom_get (s : State) (r : Nat) (x : Room) (f : Fld) (i : Nat) : (s.setRoom r x).get f i = s.get f i := rfl
theorem State.room_setRoom (s : State) (r q : Nat) (x : Room) : (s.setRoom r x).room q = if r = q then x else s.room q := by
  simp [State.room, State.setRoom, Tab.get_set]
@[simp] theorem State.room_setRoom_self (s : State) (r : Nat) (x : Room) : (s.setRoom r x).room r = x := by
  simp [State.room_setRoom]
@[simp] theorem State.room_set (s : State) (f : Fld) (v i r : Nat) : (s.set f v i).room r = s.room r := rfl
@[simp] theorem State.room_emit (o : Output) (s : State) (r : Nat) : (emit o s).room r = s.room r := rfl

@[simp] theorem State.setFlow_fld (s : State) (x : Nat) (f : Flow) : (s.setFlow x f).fld = s.fld := rfl
@[simp] theorem State.setFlow_clk (s : State) (x : Nat) (f : Flow) : (s.setFlow x f).clk = s.clk := rfl
@[simp] theorem State.setFlow_plan (s : State) (x : Nat) (f : Flow) : (s.setFlow x f).plan = s.plan := rfl
@[simp] theorem State.setFlow_session (s : State) (x : Nat) (f : Flow) : (s.setFlow x f).session = s.session := rfl
@[simp] theorem State.setFlow_hall (s : State) (x : Nat) (f : Flow) : (s.setFlow x f).hall = s.hall := rfl
@[simp] theorem State.setFlow_ports (s : State) (x : Nat) (f : Flow) : (s.setFlow x f).ports = s.ports := rfl
@[simp] theorem State.setFlow_line (s : State) (x : Nat) (f : Flow) : (s.setFlow x f).line = s.line := rfl
@[simp] theorem State.setFlow_porch (s : State) (x : Nat) (f : Flow) : (s.setFlow x f).porch = s.porch := rfl
@[simp] theorem State.setFlow_crystal (s : State) (x : Nat) (f : Flow) : (s.setFlow x f).crystal = s.crystal := rfl
@[simp] theorem State.setFlow_rake (s : State) (x : Nat) (f : Flow) : (s.setFlow x f).rake = s.rake := rfl
@[simp] theorem State.setFlow_sluice (s : State) (x : Nat) (f : Flow) : (s.setFlow x f).sluice = s.sluice := rfl
@[simp] theorem State.setFlow_fault (s : State) (x : Nat) (f : Flow) : (s.setFlow x f).fault = s.fault := rfl
@[simp] theorem State.setFlow_power (s : State) (x : Nat) (f : Flow) : (s.setFlow x f).power = s.power := rfl
@[simp] theorem State.setFlow_stair (s : State) (x : Nat) (f : Flow) : (s.setFlow x f).stair = s.stair := rfl
@[simp] theorem State.setFlow_latch (s : State) (x : Nat) (f : Flow) : (s.setFlow x f).latch = s.latch := rfl
@[simp] theorem State.setFlow_count (s : State) (x : Nat) (f : Flow) : (s.setFlow x f).count = s.count := rfl
@[simp] theorem State.setFlow_mgmt (s : State) (x : Nat) (f : Flow) : (s.setFlow x f).mgmt = s.mgmt := rfl
@[simp] theorem State.setFlow_free (s : State) (x : Nat) (f : Flow) : (s.setFlow x f).free = s.free := rfl
@[simp] theorem State.setFlow_out (s : State) (x : Nat) (f : Flow) : (s.setFlow x f).out = s.out := rfl
@[simp] theorem State.setFlow_pending (s : State) (x : Nat) (f : Flow) : (s.setFlow x f).pending = s.pending := rfl
@[simp] theorem State.setFlow_get (s : State) (x : Nat) (w : Flow) (f : Fld) (i : Nat) : (s.setFlow x w).get f i = s.get f i := rfl
theorem State.flow_setFlow (s : State) (x y : Nat) (f : Flow) : (s.setFlow x f).flow y = if x = y then f else s.flow y := by
  simp [State.flow, State.setFlow, Tab.get_set]
@[simp] theorem State.flow_setFlow_self (s : State) (x : Nat) (f : Flow) : (s.setFlow x f).flow x = f := by
  simp [State.flow_setFlow]
@[simp] theorem State.flow_set (s : State) (f : Fld) (v i x : Nat) : (s.set f v i).flow x = s.flow x := rfl

@[simp] theorem inject_get (n : Nat) (cs : List Cell) (s : State) (pin : Bool) (lb : Option Nat) (f : Fld) (i : Nat) :
    (inject n cs s pin lb).get f i = s.get f i := rfl
@[simp] theorem inject_fld (n : Nat) (cs : List Cell) (s : State) (pin : Bool) (lb : Option Nat) : (inject n cs s pin lb).fld = s.fld := rfl
@[simp] theorem inject_clk (n : Nat) (cs : List Cell) (s : State) (pin : Bool) (lb : Option Nat) : (inject n cs s pin lb).clk = s.clk := rfl
@[simp] theorem inject_plan (n : Nat) (cs : List Cell) (s : State) (pin : Bool) (lb : Option Nat) : (inject n cs s pin lb).plan = s.plan := rfl
@[simp] theorem inject_session (n : Nat) (cs : List Cell) (s : State) (pin : Bool) (lb : Option Nat) : (inject n cs s pin lb).session = s.session := rfl
@[simp] theorem inject_ports (n : Nat) (cs : List Cell) (s : State) (pin : Bool) (lb : Option Nat) : (inject n cs s pin lb).ports = s.ports := rfl
@[simp] theorem inject_line (n : Nat) (cs : List Cell) (s : State) (pin : Bool) (lb : Option Nat) : (inject n cs s pin lb).line = s.line := rfl
@[simp] theorem inject_porch (n : Nat) (cs : List Cell) (s : State) (pin : Bool) (lb : Option Nat) : (inject n cs s pin lb).porch = s.porch := rfl
@[simp] theorem inject_thresh (n : Nat) (cs : List Cell) (s : State) (pin : Bool) (lb : Option Nat) : (inject n cs s pin lb).thresh = s.thresh := rfl
@[simp] theorem inject_crystal (n : Nat) (cs : List Cell) (s : State) (pin : Bool) (lb : Option Nat) : (inject n cs s pin lb).crystal = s.crystal := rfl
@[simp] theorem inject_rake (n : Nat) (cs : List Cell) (s : State) (pin : Bool) (lb : Option Nat) : (inject n cs s pin lb).rake = s.rake := rfl
@[simp] theorem inject_sluice (n : Nat) (cs : List Cell) (s : State) (pin : Bool) (lb : Option Nat) : (inject n cs s pin lb).sluice = s.sluice := rfl
@[simp] theorem inject_fault (n : Nat) (cs : List Cell) (s : State) (pin : Bool) (lb : Option Nat) : (inject n cs s pin lb).fault = s.fault := rfl
@[simp] theorem inject_power (n : Nat) (cs : List Cell) (s : State) (pin : Bool) (lb : Option Nat) : (inject n cs s pin lb).power = s.power := rfl
@[simp] theorem inject_stair (n : Nat) (cs : List Cell) (s : State) (pin : Bool) (lb : Option Nat) : (inject n cs s pin lb).stair = s.stair := rfl
@[simp] theorem inject_latch (n : Nat) (cs : List Cell) (s : State) (pin : Bool) (lb : Option Nat) : (inject n cs s pin lb).latch = s.latch := rfl
@[simp] theorem inject_count (n : Nat) (cs : List Cell) (s : State) (pin : Bool) (lb : Option Nat) : (inject n cs s pin lb).count = s.count := rfl
@[simp] theorem inject_mgmt (n : Nat) (cs : List Cell) (s : State) (pin : Bool) (lb : Option Nat) : (inject n cs s pin lb).mgmt = s.mgmt := rfl
@[simp] theorem inject_free (n : Nat) (cs : List Cell) (s : State) (pin : Bool) (lb : Option Nat) : (inject n cs s pin lb).free = s.free := rfl
@[simp] theorem inject_out (n : Nat) (cs : List Cell) (s : State) (pin : Bool) (lb : Option Nat) : (inject n cs s pin lb).out = s.out := rfl
@[simp] theorem inject_pending (n : Nat) (cs : List Cell) (s : State) (pin : Bool) (lb : Option Nat) : (inject n cs s pin lb).pending = s.pending := rfl

/-- What an injection adds to its queue. -/
theorem inject_queue (n : Nat) (cs : List Cell) (s : State) (pin : Bool) (lb : Option Nat) :
    Tab.get (inject n cs s pin lb).hall.inj n [] = Tab.get s.hall.inj n [] ++
      cs.map (fun c => { cell := c, input := n, stamp := 0, vcIn := c.vc, wantPin := pin, lbOp := if c.last then lb else none }) := by
  simp [inject, Tab.get_set]

/-! Induction over lists of updates. -/

/-- A property that each update of a list keeps is kept by all of them. -/
theorem forEach_keeps {α : Type} {P : State → Prop} (f : α → State → State) (h : ∀ a s, P s → P (f a s)) (l : List α) (s : State)
    (hs : P s) : P (forEach l f s) := by
  unfold forEach
  induction l generalizing s with
  | nil => exact hs
  | cons a r ih => exact ih (f a s) (h a s hs)

/-- A quantity that each update of a list leaves is left by all of them. -/
theorem forEach_same {α β : Type} (g : State → β) (f : α → State → State) (h : ∀ a s, g (f a s) = g s) (l : List α) (s : State) :
    g (forEach l f s) = g s := by
  unfold forEach
  induction l generalizing s with
  | nil => rfl
  | cons a r ih => exact (ih (f a s)).trans (h a s)

end Sys2Proof.Machine
end

