-- ==== Sys2Proof/Laws/Ops.lean ====
section
/-! SUPPORT. What each shared operation may change: for every operation one lemma about the parts of the state outside the
register store, and one about the register fields. They compose through `Keeps.trans` and `OnlyRegs.trans`. -/
namespace Sys2Proof.Machine

/-! The two relations. -/

theorem Keeps.refl (L : List Part) (s : State) : Keeps L s s := fun p _ => by cases p <;> rfl

theorem Part.same_trans {s t u : State} {p : Part} (h1 : p.same s t) (h2 : p.same t u) : p.same s u := by
  cases p <;> exact Eq.trans h2 h1

theorem Keeps.trans {L : List Part} {s t u : State} (h1 : Keeps L s t) (h2 : Keeps L t u) : Keeps L s u :=
  fun p hp => Part.same_trans (h1 p hp) (h2 p hp)

theorem Keeps.mono {L M : List Part} {s t : State} (h : Keeps L s t) (hs : ∀ p ∈ L, p ∈ M) : Keeps M s t :=
  fun p hp => h p (fun hl => hp (hs p hl))

theorem OnlyRegs.refl (L : List Fld) (s : State) : OnlyRegs L s s := fun _ _ _ => rfl

theorem OnlyRegs.trans {L : List Fld} {s t u : State} (h1 : OnlyRegs L s t) (h2 : OnlyRegs L t u) : OnlyRegs L s u :=
  fun f hf i => (h2 f hf i).trans (h1 f hf i)

theorem OnlyRegs.mono {L M : List Fld} {s t : State} (h : OnlyRegs L s t) (hs : ∀ f ∈ L, f ∈ M) : OnlyRegs M s t :=
  fun f hf i => h f (fun hl => hf (hs f hl)) i

theorem OnlyRegs.of_fld {L : List Fld} {s t : State} (h : t.fld = s.fld) : OnlyRegs L s t := fun f _ i => State.get_of_fld h f i

/-- A state that differs from another in two places only by what two relations allow. -/
theorem Keeps.after {L M N : List Part} {s t u : State} (h1 : Keeps L s t) (h2 : Keeps M t u) (hl : ∀ p ∈ L, p ∈ N) (hm : ∀ p ∈ M, p ∈ N) :
    Keeps N s u := (h1.mono hl).trans (h2.mono hm)

theorem OnlyRegs.after {L M N : List Fld} {s t u : State} (h1 : OnlyRegs L s t) (h2 : OnlyRegs M t u) (hl : ∀ p ∈ L, p ∈ N)
    (hm : ∀ p ∈ M, p ∈ N) : OnlyRegs N s u := (h1.mono hl).trans (h2.mono hm)

theorem Keeps.ite {L : List Part} {s a b : State} {c : Prop} [Decidable c] (ha : Keeps L s a) (hb : Keeps L s b) :
    Keeps L s (if c then a else b) := by split <;> assumption

theorem OnlyRegs.ite {L : List Fld} {s a b : State} {c : Prop} [Decidable c] (ha : OnlyRegs L s a) (hb : OnlyRegs L s b) :
    OnlyRegs L s (if c then a else b) := by split <;> assumption

/-- A further update that happens only in some states. -/
theorem Keeps.ite2 {L : List Part} {s a : State} {c : Prop} [Decidable c] (ha : Keeps L s a) (g : State → State)
    (hg : ∀ x, Keeps L x (g x)) : Keeps L s (if c then g a else a) := by
  split
  · exact ha.trans (hg a)
  · exact ha

theorem OnlyRegs.ite2 {L : List Fld} {s a : State} {c : Prop} [Decidable c] (ha : OnlyRegs L s a) (g : State → State)
    (hg : ∀ x, OnlyRegs L x (g x)) : OnlyRegs L s (if c then g a else a) := by
  split
  · exact ha.trans (hg a)
  · exact ha

theorem Keeps.foldl {α : Type} {L : List Part} (f : State → α → State) (h : ∀ a s, Keeps L s (f s a)) (l : List α) (s : State) :
    Keeps L s (l.foldl f s) := by
  induction l generalizing s with
  | nil => exact Keeps.refl L s
  | cons a r ih => exact (h a s).trans (ih (f s a))

theorem OnlyRegs.foldl {α : Type} {L : List Fld} (f : State → α → State) (h : ∀ a s, OnlyRegs L s (f s a)) (l : List α) (s : State) :
    OnlyRegs L s (l.foldl f s) := by
  induction l generalizing s with
  | nil => exact OnlyRegs.refl L s
  | cons a r ih => exact (h a s).trans (ih (f s a))

theorem Keeps.forEach {α : Type} {L : List Part} (f : α → State → State) (h : ∀ a s, Keeps L s (f a s)) (l : List α) (s : State) :
    Keeps L s (forEach l f s) := Keeps.foldl (fun a x => f x a) h l s

theorem OnlyRegs.forEach {α : Type} {L : List Fld} (f : α → State → State) (h : ∀ a s, OnlyRegs L s (f a s)) (l : List α) (s : State) :
    OnlyRegs L s (forEach l f s) := OnlyRegs.foldl (fun a x => f x a) h l s

/-! Elementary updates. -/

theorem set_keeps (L : List Part) (s : State) (f : Fld) (v i : Nat) : Keeps L s (s.set f v i) := fun p _ => by cases p <;> rfl

theorem set_regs {L : List Fld} (s : State) {f : Fld} (v i : Nat) (hf : f ∈ L) : OnlyRegs L s (s.set f v i) :=
  fun _ hg _ => s.get_set_other v (Or.inl (fun e => hg (e ▸ hf)))

theorem emit_keeps (o : Output) (s : State) : Keeps [.out] s (emit o s) := fun p hp => by
  cases p <;> first | rfl | exact absurd (by decide) hp

theorem emit_regs (L : List Fld) (o : Output) (s : State) : OnlyRegs L s (emit o s) := OnlyRegs.of_fld rfl

theorem setPort_keeps (s : State) (p : Nat) (x : PortSt) : Keeps [.ports] s (s.setPort p x) := fun q hq => by
  cases q <;> first | rfl | exact absurd (by decide) hq

theorem setPort_regs (L : List Fld) (s : State) (p : Nat) (x : PortSt) : OnlyRegs L s (s.setPort p x) := OnlyRegs.of_fld rfl

theorem setRoom_keeps (s : State) (r : Nat) (x : Room) : Keeps [.porch] s (s.setRoom r x) := fun q hq => by
  cases q <;> first | rfl | exact absurd (by decide) hq

theorem setRoom_regs (L : List Fld) (s : State) (r : Nat) (x : Room) : OnlyRegs L s (s.setRoom r x) := OnlyRegs.of_fld rfl

theorem modRoom_keeps (s : State) (r : Nat) (f : Room → Room) : Keeps [.porch] s (s.modRoom r f) := setRoom_keeps _ _ _

theorem modRoom_regs (L : List Fld) (s : State) (r : Nat) (f : Room → Room) : OnlyRegs L s (s.modRoom r f) := setRoom_regs _ _ _ _

/-- Rooms that wait for a slot stand in the Porch. -/
theorem waitSlot_keeps (s : State) (l : List Nat) : Keeps [.porch] s { s with porch := { s.porch with waitSlot := l } } := fun q hq => by
  cases q <;> first | rfl | exact absurd (by decide) hq

theorem setFlow_keeps (s : State) (r : Nat) (x : Flow) : Keeps [.thresh] s (s.setFlow r x) := fun q hq => by
  cases q <;> first | rfl | exact absurd (by decide) hq

theorem setFlow_regs (L : List Fld) (s : State) (r : Nat) (x : Flow) : OnlyRegs L s (s.setFlow r x) := OnlyRegs.of_fld rfl

theorem inject_keeps (n : Nat) (cs : List Cell) (s : State) (pin : Bool) (lb : Option Nat) :
    Keeps [.hall] s (inject n cs s pin lb) := fun q hq => by
  cases q <;> first | rfl | exact absurd (by decide) hq

theorem inject_regs (L : List Fld) (n : Nat) (cs : List Cell) (s : State) (pin : Bool) (lb : Option Nat) :
    OnlyRegs L s (inject n cs s pin lb) := OnlyRegs.of_fld rfl

theorem draw_keeps (L : List Part) (s : State) : Keeps L s (draw s).2 := fun p _ => by cases p <;> rfl

theorem draw_fld (s : State) : (draw s).2.fld = s.fld := rfl

/-! Messages, interrupts, events and counters. -/

theorem sendMsix_keeps (h v : Nat) (s : State) : Keeps [.out, .porch] s (sendMsix h v s) := by
  unfold sendMsix
  dsimp only
  split
  · split
    · intro p hp
      cases p <;> first | rfl | exact absurd (by decide) hp
    · exact (emit_keeps _ _).mono (by decide)
  · exact Keeps.refl _ _

theorem sendMsix_fld (h v : Nat) (s : State) : (sendMsix h v s).fld = s.fld := by
  unfold sendMsix
  dsimp only
  split
  · split <;> rfl
  · rfl

theorem sendMsix_regs (L : List Fld) (h v : Nat) (s : State) : OnlyRegs L s (sendMsix h v s) := OnlyRegs.of_fld (sendMsix_fld h v s)

theorem pendOne_keeps (b m : Nat) (s : State) : Keeps [.out, .porch] s (pendOne b m s) := by
  unfold pendOne
  extract_lets f was s1
  exact Keeps.ite (Keeps.refl _ _) (Keeps.ite2 (set_keeps _ _ _ _ _) _ (fun x => sendMsix_keeps _ _ x))

theorem pendOne_regs (b m : Nat) (s : State) : OnlyRegs intRegs s (pendOne b m s) := by
  unfold pendOne
  extract_lets f was s1
  have hf : f ∈ intRegs := by
    show (if b < 64 then Fld.INT_PEND_LO_PEND else Fld.INT_PEND_HI_PEND) ∈ intRegs
    split <;> decide
  exact OnlyRegs.ite (OnlyRegs.refl _ _) (OnlyRegs.ite2 (set_regs _ _ _ hf) _ (fun x => sendMsix_regs _ _ _ x))

/-- Raising a block's interrupt: pending bits, and messages. -/
theorem interrupt_keeps (b : Nat) (s : State) : Keeps [.out, .porch] s (interrupt b s) :=
  Keeps.foldl _ (fun m a => pendOne_keeps b m a) _ _

theorem interrupt_regs (b : Nat) (s : State) : OnlyRegs intRegs s (interrupt b s) :=
  OnlyRegs.foldl _ (fun m a => pendOne_regs b m a) _ _

/-- Setting a sticky event bit: the bit, and its block's interrupt. -/
theorem event_keeps (b : Nat) (f : Fld) (s : State) (i : Nat) : Keeps [.out, .porch] s (event b f s i) := by
  unfold event
  split
  · exact Keeps.refl _ _
  · exact (set_keeps _ _ _ _ _).trans (interrupt_keeps _ _)

theorem event_regs (b : Nat) (f : Fld) (s : State) (i : Nat) : OnlyRegs (f :: intRegs) s (event b f s i) := by
  unfold event
  split
  · exact OnlyRegs.refl _ _
  · exact (set_regs _ _ _ (by simp)).trans ((interrupt_regs b _).mono (fun g hg => by simp [hg]))

/-- The bit reads 1 afterwards, whatever it read before, if it is one bit wide and not an interrupt's own field. -/
theorem event_sets (b : Nat) (f : Fld) (s : State) (i : Nat) (hw : f.info.width = 1) (hf : f ∉ intRegs) (h01 : s.get f i < 2) :
    (event b f s i).get f i = 1 := by
  unfold event State.flag
  split
  · rename_i h
    have : s.get f i ≠ 0 := by simpa using h
    omega
  · rw [interrupt_regs b _ f hf i]
    simp [hw]

theorem bankWrap_keeps (b slot : Nat) (s : State) : Keeps [] s (bankWrap b slot s) := by
  unfold bankWrap
  apply Keeps.foldl
  intro i a
  split
  · exact set_keeps _ _ _ _ _
  · exact Keeps.refl _ _

theorem bankWrap_regs (b slot : Nat) (s : State) : OnlyRegs [.BANK_VAL_WRAP40] s (bankWrap b slot s) := by
  unfold bankWrap
  apply OnlyRegs.foldl
  intro i a
  split
  · exact set_regs _ _ _ (by decide)
  · exact OnlyRegs.refl _ _

theorem count_keeps (b slot n : Nat) (s : State) : Keeps [.count, .out, .porch] s (count b slot n s) := by
  unfold count
  extract_lets v c0 s1 s2 w m
  have h1 : Keeps [.count, .out, .porch] s s1 := fun p hp => by
    cases p <;> first | rfl | exact absurd (by decide) hp
  have h2 : Keeps [.count, .out, .porch] s s2 := Keeps.ite h1 (h1.trans ((bankWrap_keeps _ _ _).mono (by simp)))
  exact Keeps.ite h2 (Keeps.trans (Keeps.ite h2 (h2.trans (set_keeps _ _ _ _ _))) ((event_keeps _ _ _ _).mono (by decide)))

theorem count_regs (b slot n : Nat) (s : State) : OnlyRegs countRegs s (count b slot n s) := by
  unfold count
  extract_lets v c0 s1 s2 w m
  have h1 : OnlyRegs countRegs s s1 := OnlyRegs.of_fld rfl
  have h2 : OnlyRegs countRegs s s2 := OnlyRegs.ite h1 (h1.trans ((bankWrap_regs _ _ _).mono (by decide)))
  exact OnlyRegs.ite h2 (OnlyRegs.trans (OnlyRegs.ite h2 (h2.trans (set_regs _ _ _ (by decide)))) ((event_regs _ _ _ _).mono (by decide)))

/-- Counting an event: its counter, and the wrap marks. -/
theorem tally_keeps (c : Ctr) (s : State) (i : Nat) : Keeps [.count, .out, .porch] s (tally c s i) := count_keeps _ _ _ _

theorem tally_regs (c : Ctr) (s : State) (i : Nat) : OnlyRegs countRegs s (tally c s i) := count_regs _ _ _ _

/-! Refused accesses. -/

theorem logAccess_keeps (L : List Part) (m : Master) (a c : Nat) (w : Bool) (s : State) : Keeps L s (logAccess m a c w s) :=
  (((set_keeps L _ _ _ _).trans (set_keeps L _ _ _ _)).trans (set_keeps L _ _ _ _)).trans (set_keeps L _ _ _ _)

theorem logAccess_regs (m : Master) (a c : Nat) (w : Bool) (s : State) : OnlyRegs refuseRegs s (logAccess m a c w s) :=
  (((set_regs _ _ _ (by decide)).trans (set_regs _ _ _ (by decide))).trans (set_regs _ _ _ (by decide))).trans
    (set_regs _ _ _ (by decide))

/-- A refused access is logged, counted and shown, and changes nothing else. -/
theorem refusePriv_keeps (m : Master) (a : Nat) (w : Bool) (s : State) : Keeps [.count, .out, .porch] s (refusePriv m a w s) :=
  ((logAccess_keeps _ _ _ _ _ _).trans (tally_keeps _ _ _)).trans ((event_keeps _ _ _ _).mono (by decide))

theorem refusePriv_regs (m : Master) (a : Nat) (w : Bool) (s : State) : OnlyRegs refuseRegs s (refusePriv m a w s) :=
  ((logAccess_regs _ _ _ _ _).trans ((tally_regs _ _ _).mono (by decide))).trans ((event_regs _ _ _ _).mono (by decide))

theorem mendReg_keeps (r : Reg) (i : Nat) (lo hi : Bool) (s : State) : Keeps [.fault] s (mendReg r i lo hi s) := by
  unfold mendReg mendSites notePar
  split
  · intro p hp
    cases p <;> first | rfl | exact absurd (by decide) hp
  · exact Keeps.refl _ _

theorem mendReg_regs (r : Reg) (i : Nat) (lo hi : Bool) (s : State) :
    OnlyRegs [.FAULT_STAT_PARITY_STANDING] s (mendReg r i lo hi s) := by
  unfold mendReg mendSites notePar
  split
  · exact OnlyRegs.trans (t := { s with fault := _ }) (OnlyRegs.of_fld rfl) (set_regs _ _ _ (by decide))
  · exact OnlyRegs.refl _ _

/-- Parity that a write mends: only the list of standing mismatches changes in the fault state. -/
theorem mendReg_fault (r : Reg) (i : Nat) (lo hi : Bool) (s : State) :
    (mendReg r i lo hi s).fault = { s.fault with standing := (mendReg r i lo hi s).fault.standing } := by
  unfold mendReg mendSites notePar
  split <;> rfl

/-! Rooms and completions. -/

theorem roomEvent_keeps (r b : Nat) (s : State) : Keeps [.porch] s (roomEvent r b s) := setRoom_keeps _ _ _

theorem writeEntry_keeps (r : Nat) (c : Cmpl) (s : State) : Keeps [.out, .porch] s (writeEntry r c s) := by
  unfold writeEntry
  dsimp only
  have h1 : ∀ x : Room, Keeps [.out, .porch] s (s.setRoom r x) := fun x => (setRoom_keeps _ _ _).mono (by decide)
  have he : ∀ (o : Output) (a : State), Keeps [.out, .porch] a (emit o a) := fun o a => (emit_keeps _ _).mono (by decide)
  repeat' split
  all_goals first
    | exact ((h1 _).trans (he _ _)).trans (sendMsix_keeps _ _ _)
    | exact (((h1 _).trans (he _ _)).trans (he _ _)).trans (sendMsix_keeps _ _ _)
    | exact (h1 _).trans (he _ _)
    | exact ((h1 _).trans (he _ _)).trans (he _ _)

theorem writeEntry_fld (r : Nat) (c : Cmpl) (s : State) : (writeEntry r c s).fld = s.fld := by
  unfold writeEntry
  dsimp only
  repeat' split
  all_goals simp [sendMsix_fld]

/-- A completion under an unpredictable outcome changes no more than a completion does. -/
theorem riskyEntry_keeps (r : Nat) (c : Cmpl) (b : Bool) (s : State) : Keeps [.out, .porch] s (riskyEntry r c b s) := by
  unfold riskyEntry
  dsimp only
  have hd : Keeps [.out, .porch] s (draw s).2 := draw_keeps _ _
  refine Keeps.ite hd (Keeps.ite ?_ (hd.trans (writeEntry_keeps _ _ _)))
  exact (hd.trans (writeEntry_keeps _ _ _)).trans (writeEntry_keeps _ _ _)

theorem riskyEntry_fld (r : Nat) (c : Cmpl) (b : Bool) (s : State) : (riskyEntry r c b s).fld = s.fld := by
  unfold riskyEntry
  dsimp only
  repeat' split
  all_goals simp only [writeEntry_fld, draw_fld]

/-- Reading a context from the Box room: the room, what leaves, and the count of fetches. -/
theorem issueFetch_keeps (r : Nat) (s : State) : Keeps [.out, .porch, .count] s (issueFetch r s) := by
  unfold issueFetch readBox
  refine Keeps.trans (Keeps.trans ?_ ((tally_keeps _ _ _).mono (by decide))) ((emit_keeps _ _).mono (by decide))
  exact Keeps.mono (L := [.porch]) ((waitSlot_keeps s _).trans (modRoom_keeps _ _ _)) (by decide)

theorem issueFetch_regs (r : Nat) (s : State) : OnlyRegs countRegs s (issueFetch r s) := by
  unfold issueFetch readBox
  refine OnlyRegs.trans (OnlyRegs.trans ?_ (tally_regs _ _ _)) (emit_regs _ _ _)
  exact OnlyRegs.trans (t := { s with porch := { s.porch with waitSlot := s.porch.waitSlot.filter (· != r) } }) (OnlyRegs.of_fld rfl)
    (modRoom_regs _ _ _ _)

theorem parkRoom_keeps (r : Nat) (s : State) : Keeps [.out, .porch] s (parkRoom r s) := by
  unfold parkRoom writeBox State.modRoom
  dsimp only
  refine Keeps.trans ?_ ((setRoom_keeps _ _ _).mono (by decide))
  exact Keeps.ite ((emit_keeps _ _).mono (by decide)) (Keeps.refl _ _)

theorem parkRoom_fld (r : Nat) (s : State) : (parkRoom r s).fld = s.fld := by
  unfold parkRoom writeBox State.modRoom
  dsimp only
  split <;> rfl

/-- Taking a slot changes what a fetch does, and the room that is parked for it. -/
theorem takeSlot_keeps (r : Nat) (s : State) : Keeps [.out, .porch, .count] s (takeSlot r s) := by
  unfold takeSlot
  refine Keeps.trans (Keeps.ite (Keeps.refl _ _) ?_) (issueFetch_keeps _ _)
  exact Keeps.forEach _ (fun v a => (parkRoom_keeps v a).mono (by decide)) _ _

theorem takeSlot_regs (r : Nat) (s : State) : OnlyRegs countRegs s (takeSlot r s) := by
  unfold takeSlot
  refine OnlyRegs.trans (OnlyRegs.ite (OnlyRegs.refl _ _) ?_) (issueFetch_regs _ _)
  exact OnlyRegs.forEach _ (fun v a => OnlyRegs.of_fld (parkRoom_fld v a)) _ _

theorem serveSlots_keeps (s : State) : Keeps [.out, .porch, .count] s (serveSlots s) := by
  unfold serveSlots
  split
  · exact Keeps.refl _ _
  · exact Keeps.ite (takeSlot_keeps _ _) (Keeps.refl _ _)

theorem serveSlots_regs (s : State) : OnlyRegs countRegs s (serveSlots s) := by
  unfold serveSlots
  split
  · exact OnlyRegs.refl _ _
  · exact OnlyRegs.ite (takeSlot_regs _ _) (OnlyRegs.refl _ _)

/-- A completion changes the room, its ring in host memory and its message vector; a room that waits for a slot may take one. -/
theorem complete_keeps (r : Nat) (c : Cmpl) (b1 b2 : Bool) (s : State) : Keeps [.out, .porch, .count] s (complete r c b1 b2 s) := by
  unfold complete State.modRoom
  dsimp only
  refine Keeps.trans ?_ (serveSlots_keeps _)
  have h1 : ∀ x : Room, Keeps [.out, .porch, .count] s (s.setRoom r x) := fun x => (setRoom_keeps _ _ _).mono (by decide)
  refine Keeps.ite (h1 _) (Keeps.ite ?_ (Keeps.ite (h1 _) ?_))
  · exact (h1 _).trans ((riskyEntry_keeps _ _ _ _).mono (by decide))
  · exact (h1 _).trans ((writeEntry_keeps _ _ _).mono (by decide))

theorem complete_regs (r : Nat) (c : Cmpl) (b1 b2 : Bool) (s : State) : OnlyRegs countRegs s (complete r c b1 b2 s) := by
  unfold complete State.modRoom
  dsimp only
  refine OnlyRegs.trans (OnlyRegs.of_fld ?_) (serveSlots_regs _)
  repeat' split
  all_goals simp only [riskyEntry_fld, writeEntry_fld, State.setRoom_fld]

theorem completeWork_keeps (r : Nat) (e : List Word) (c : Cmpl) (s : State) :
    Keeps [.out, .porch, .count] s (completeWork r e c s) :=
  ((setRoom_keeps _ _ _).mono (by decide)).trans (complete_keeps _ _ _ _ _)

theorem completeWork_regs (r : Nat) (e : List Word) (c : Cmpl) (s : State) : OnlyRegs countRegs s (completeWork r e c s) :=
  (modRoom_regs _ _ _ _).trans (complete_regs _ _ _ _ _)

theorem failWork_keeps (r : Nat) (e : List Word) (st : Nat) (s : State) (aux : Nat) :
    Keeps [.out, .porch, .count] s (failWork r e st s aux) := completeWork_keeps _ _ _ _

/-- A room error changes the room, its event bits, interrupts and messages. -/
theorem roomError_keeps (r c : Nat) (s : State) : Keeps [.out, .porch] s (roomError r c s) := by
  unfold roomError
  dsimp only
  have h1 : ∀ x : Room, Keeps [.out, .porch] s (s.setRoom r x) := fun x => (setRoom_keeps _ _ _).mono (by decide)
  have h2 : ∀ a : State, Keeps [.out, .porch] a (roomEvent r 5 a) := fun a => (roomEvent_keeps _ _ _).mono (by decide)
  split
  · exact Keeps.refl _ _
  · split
    · exact ((((h1 _).trans (h2 _)).trans (event_keeps _ _ _ _)).trans (draw_keeps _ _)).trans (sendMsix_keeps _ _ _)
    · exact (((h1 _).trans (h2 _)).trans (event_keeps _ _ _ _)).trans (sendMsix_keeps _ _ _)

/-- A fall-back to Marked service. -/
theorem serviceFallback_keeps (c p : Nat) (s : State) : Keeps [.thresh, .count, .out, .porch] s (serviceFallback c p s) := by
  unfold serviceFallback
  dsimp only
  split
  · have hm : ∀ a : State, Keeps [.thresh, .count, .out, .porch] a (marksBegin a) := fun a p hp => by
      cases p <;> first | rfl | exact absurd (by decide) hp
    exact (((((set_keeps _ _ _ _ _).trans (set_keeps _ _ _ _ _)).trans (set_keeps _ _ _ _ _)).trans (hm _)).trans
      ((tally_keeps _ _ _).mono (by decide))).trans ((event_keeps _ _ _ _).mono (by decide))
  · exact Keeps.refl _ _

/-! Faults. -/

theorem addHist_keeps (b hi : Nat) (s : State) : Keeps faultParts s (addHist b hi s) := fun p hp => by
  cases p <;> first | rfl | exact absurd (by decide) hp

theorem sendVc0_keeps (ty d : Nat) (b : List Word) (s : State) : Keeps [.hall] s (sendVc0 ty d b s) := inject_keeps _ _ _ _ _

theorem fault_upd (s : State) (x : FaultSt) : Keeps faultParts s { s with fault := x } := fun p hp => by
  cases p <;> first | rfl | exact absurd (by decide) hp

theorem sendNotice_keeps (b cls l : Nat) (e : Bool) (u d : Nat) (s : State) : Keeps faultParts s (sendNotice b cls l e u d s) := by
  unfold sendNotice
  exact Keeps.ite (Keeps.refl _ _) (Keeps.ite (Keeps.mono (L := [.out, .porch]) (event_keeps _ _ _ _) (by decide))
    ((fault_upd _ _).trans (Keeps.mono (L := [.hall]) (sendVc0_keeps _ _ _ _) (by decide))))

theorem lanesDown_keeps (L : List Part) (p : Nat) (s : State) : Keeps L s (lanesDown p s) := by
  unfold lanesDown
  refine Keeps.forEach _ (fun i a => ?_) _ _
  exact (Keeps.ite (Keeps.refl L a) (set_keeps _ _ _ _ _)).trans ((set_keeps _ _ _ _ _).trans (set_keeps _ _ _ _ _))

theorem lanesDown_regs (p : Nat) (s : State) : OnlyRegs [.LANE_STAT_STATE, .LANE_STAT_TX_CARRY, .LANE_STAT_RX_CARRY] s (lanesDown p s) := by
  unfold lanesDown
  refine OnlyRegs.forEach _ (fun i a => ?_) _ _
  exact (OnlyRegs.ite (OnlyRegs.refl _ a) (set_regs _ _ _ (by decide))).trans
    ((set_regs _ _ _ (by decide)).trans (set_regs _ _ _ (by decide)))

theorem drainPort_keeps (c p : Nat) (s : State) : Keeps faultParts s (drainPort c p s) := by
  unfold drainPort State.modPort portHist
  dsimp only
  have hp : ∀ (a : State) (x : PortSt), Keeps faultParts a (a.setPort p x) := fun a x => (setPort_keeps _ _ _).mono (by decide)
  split
  · exact Keeps.refl _ _
  · split
    · exact ((((set_keeps _ _ _ _ _).trans (set_keeps _ _ _ _ _)).trans (hp _ _)).trans (lanesDown_keeps _ _ _)).trans
        ((addHist_keeps _ _ _).trans ((event_keeps _ _ _ _).mono (by decide)))
    · exact (set_keeps _ _ _ _ _).trans (hp _ _)

theorem stopRooms_keeps (s : State) : Keeps faultParts s (stopRooms s) :=
  Keeps.forEach _ (fun r a => Keeps.mono (L := [.out, .porch]) (roomError_keeps r 4 a) (by decide)) _ _

theorem enterSafe_keeps (s : State) : Keeps faultParts s (enterSafe s) :=
  Keeps.trans (Keeps.mono (L := [.thresh, .count, .out, .porch]) (serviceFallback_keeps 3 0 s) (by decide)) (stopRooms_keeps _)

theorem enterOff_keeps (s : State) : Keeps faultParts s (enterOff s) := by
  unfold enterOff
  extract_lets s1 hold s2 at1
  have h1 : Keeps faultParts s s1 := Keeps.forEach _ (fun p a => drainPort_keeps 7 p a) _ s
  have h2 : Keeps faultParts s s2 := h1.trans (set_keeps _ _ _ _ _)
  exact h2.trans (fault_upd _ _)

theorem setDevFault_keeps (L : List Part) (l b c : Nat) (s : State) : Keeps L s (setDevFault l b c s) :=
  ((set_keeps L _ _ _ _).trans (set_keeps L _ _ _ _)).trans (set_keeps L _ _ _ _)

theorem updateDevice_keeps (b c : Nat) (s : State) : Keeps faultParts s (updateDevice b c s) := by
  unfold updateDevice
  extract_lets old new s1 s2
  have h1 : Keeps faultParts s s1 := Keeps.ite (enterSafe_keeps _) (Keeps.refl _ _)
  have h2 : Keeps faultParts s s2 := Keeps.ite2 h1 _ enterOff_keeps
  exact Keeps.ite (Keeps.refl _ _) (h2.trans (setDevFault_keeps _ _ _ _ _))

theorem faultMarks_keeps (b c l : Nat) (e : Bool) (s : State) : Keeps faultParts s (faultMarks b c l e s) := by
  unfold faultMarks
  dsimp only
  apply Keeps.ite
  · refine Keeps.trans (t := _) ?_ (fault_upd _ _)
    repeat' (first | apply Keeps.refl | apply set_keeps | apply Keeps.ite)
  · repeat' (first | apply Keeps.refl | apply set_keeps | apply Keeps.ite)

theorem faultRecord_keeps (b c l u d : Nat) (e i r : Bool) (s : State) : Keeps faultParts s (faultRecord b c l u d e i r s) := by
  have hev : ∀ (x : Fld) (a : State), Keeps faultParts a (event b x a b) := fun x a => (event_keeps _ _ _ _).mono (by decide)
  have hct : ∀ (k : Nat) (a : State), Keeps faultParts a (count b k 1 a) := fun k a => (count_keeps _ _ _ _).mono (by decide)
  have hsf : ∀ a : State, Keeps faultParts a (serviceFallback 3 0 a) := fun a => (serviceFallback_keeps _ _ _).mono (by decide)
  unfold faultRecord
  extract_lets s1 s2 s3 s4
  have h1 : Keeps faultParts s s1 := Keeps.ite (addHist_keeps _ _ _) (Keeps.ite (addHist_keeps _ _ _) (Keeps.refl _ _))
  have h2 : Keeps faultParts s s2 := (h1.trans (hct _ _)).trans (hct _ _)
  have h3 : Keeps faultParts s s3 := Keeps.ite2 h2 _ (hev _)
  have h4 : Keeps faultParts s s4 := Keeps.ite2 h3 _ (hev _)
  exact Keeps.ite2 h4 _ hsf

theorem faultDevice_keeps (b c l u d : Nat) (e : Bool) (s : State) : Keeps faultParts s (faultDevice b c l u d e s) := by
  unfold faultDevice
  extract_lets dev s1 s2
  have h1 : Keeps faultParts s s1 := updateDevice_keeps _ _ _
  have h2 : Keeps faultParts s s2 := Keeps.ite2 h1 _ (fun x => sendNotice_keeps _ _ _ _ _ _ x)
  exact h2.trans (fault_upd _ _)

/-- A detected fault changes the parts of `faultParts`, and no other. -/
theorem raiseCore_keeps (b c l u d : Nat) (s : State) (i : Bool) : Keeps faultParts s (raiseCore b c l u d s i) :=
  ((faultMarks_keeps _ _ _ _ _).trans (faultRecord_keeps _ _ _ _ _ _ _ _ _)).trans (faultDevice_keeps _ _ _ _ _ _ _)

theorem raise_keeps (b c u d : Nat) (s : State) : Keeps faultParts s (raise b c u d s) := raiseCore_keeps _ _ _ _ _ _ _

/-! The register fields a fault may write. -/

theorem addHist_regs (L : List Fld) (b hi : Nat) (s : State) : OnlyRegs L s (addHist b hi s) := OnlyRegs.of_fld rfl

theorem portHist_regs (L : List Fld) (p e d q v : Nat) (s : State) : OnlyRegs L s (portHist p e d q v s) := OnlyRegs.of_fld rfl

theorem modPort_regs (L : List Fld) (s : State) (p : Nat) (f : PortSt → PortSt) : OnlyRegs L s (s.modPort p f) := OnlyRegs.of_fld rfl

theorem modPort_keeps (s : State) (p : Nat) (f : PortSt → PortSt) : Keeps [.ports] s (s.modPort p f) := setPort_keeps _ _ _

theorem writeEntry_regs (L : List Fld) (r : Nat) (c : Cmpl) (s : State) : OnlyRegs L s (writeEntry r c s) :=
  OnlyRegs.of_fld (writeEntry_fld r c s)

theorem roomError_regs (r c : Nat) (s : State) : OnlyRegs (.PORCH_EVENTS_ROOM_ERROR :: intRegs) s (roomError r c s) := by
  unfold roomError
  extract_lets q bad s1
  have h1 : OnlyRegs (.PORCH_EVENTS_ROOM_ERROR :: intRegs) s s1 :=
    OnlyRegs.trans (t := roomEvent r 5 (s.setRoom r { q with st := 2, err := c, armed := false })) (OnlyRegs.of_fld rfl) (event_regs _ _ _ _)
  exact OnlyRegs.ite (OnlyRegs.refl _ _) (OnlyRegs.ite (h1.trans ((OnlyRegs.of_fld rfl).trans (sendMsix_regs _ _ _ (draw s1).2)))
    (h1.trans (sendMsix_regs _ _ _ _)))

theorem serviceFallback_regs (c p : Nat) (s : State) : OnlyRegs faultRegs s (serviceFallback c p s) := by
  unfold serviceFallback
  extract_lets s1
  have h1 : OnlyRegs faultRegs s s1 :=
    ((set_regs _ _ _ (by decide)).trans (set_regs _ _ _ (by decide))).trans (set_regs _ _ _ (by decide))
  have h2 : OnlyRegs faultRegs s1 (tally .FALLBACK (marksBegin s1)) :=
    OnlyRegs.trans (t := marksBegin s1) (OnlyRegs.of_fld rfl) ((tally_regs _ _ _).mono (by decide))
  exact OnlyRegs.ite ((h1.trans h2).trans ((event_regs _ _ _ _).mono (by decide))) (OnlyRegs.refl _ _)

theorem sendNotice_regs (b cls l : Nat) (e : Bool) (u d : Nat) (s : State) : OnlyRegs faultRegs s (sendNotice b cls l e u d s) := by
  unfold sendNotice
  exact OnlyRegs.ite (OnlyRegs.refl _ _) (OnlyRegs.ite (OnlyRegs.mono (L := .FAULT_EVENTS_NOTICE_SUPPRESSED :: intRegs)
    (event_regs _ _ _ _) (by decide)) (OnlyRegs.of_fld rfl))

theorem drainPort_regs (c p : Nat) (s : State) : OnlyRegs faultRegs s (drainPort c p s) := by
  unfold drainPort
  extract_lets st s1
  have h1 : OnlyRegs faultRegs s s1 := (set_regs _ _ _ (by decide)).trans (set_regs _ _ _ (by decide))
  refine OnlyRegs.ite (OnlyRegs.refl _ _) (OnlyRegs.ite ?_ (OnlyRegs.trans (t := s.set .PORT_STAT_STATE 6 p) (set_regs _ _ _ (by decide))
    (modPort_regs _ _ _ _)))
  refine OnlyRegs.trans ?_ (OnlyRegs.mono (L := .PORT_EVENTS_DOWN_SEEN :: intRegs) (event_regs _ _ _ _) (by decide))
  refine OnlyRegs.trans ?_ (portHist_regs _ _ _ _ _ _ _)
  exact (h1.trans (modPort_regs _ _ _ _)).trans ((lanesDown_regs _ _).mono (by decide))

theorem enterSafe_regs (s : State) : OnlyRegs faultRegs s (enterSafe s) :=
  (serviceFallback_regs 3 0 s).trans (OnlyRegs.forEach _ (fun r a =>
    OnlyRegs.mono (L := .PORCH_EVENTS_ROOM_ERROR :: intRegs) (roomError_regs r 4 a) (by decide)) _ _)

theorem enterOff_regs (s : State) : OnlyRegs faultRegs s (enterOff s) := by
  unfold enterOff
  extract_lets s1 hold s2 at1
  have h1 : OnlyRegs faultRegs s s1 := OnlyRegs.forEach _ (fun p a => drainPort_regs 7 p a) _ s
  have h2 : OnlyRegs faultRegs s s2 := h1.trans (set_regs _ _ _ (by decide))
  exact h2.trans (OnlyRegs.of_fld rfl)

theorem setDevFault_regs (l b c : Nat) (s : State) : OnlyRegs faultRegs s (setDevFault l b c s) :=
  ((set_regs _ _ _ (by decide)).trans (set_regs _ _ _ (by decide))).trans (set_regs _ _ _ (by decide))

theorem updateDevice_regs (b c : Nat) (s : State) : OnlyRegs faultRegs s (updateDevice b c s) := by
  unfold updateDevice
  extract_lets old new s1 s2
  have h1 : OnlyRegs faultRegs s s1 := OnlyRegs.ite (enterSafe_regs _) (OnlyRegs.refl _ _)
  have h2 : OnlyRegs faultRegs s s2 := OnlyRegs.ite2 h1 _ enterOff_regs
  exact OnlyRegs.ite (OnlyRegs.refl _ _) (h2.trans (setDevFault_regs _ _ _ _))

theorem faultMarks_regs (b c l : Nat) (e : Bool) (s : State) : OnlyRegs faultRegs s (faultMarks b c l e s) := by
  unfold faultMarks
  extract_lets un s1 s2 s3 s4
  have h1 : OnlyRegs faultRegs s s1 := OnlyRegs.ite (OnlyRegs.refl _ _) (set_regs _ _ _ (by decide))
  have h2 : OnlyRegs faultRegs s s2 := (h1.trans (set_regs _ _ _ (by decide))).trans (set_regs _ _ _ (by decide))
  have h3 : OnlyRegs faultRegs s s3 := OnlyRegs.ite2 h2 (fun x => x.set .FAULT_STAT_FIRST_CLASS c b) (fun x => set_regs _ _ _ (by decide))
  have h4 : OnlyRegs faultRegs s s4 := OnlyRegs.ite2 h3 (fun x => x.set .FAULT_STAT_STICKY 1 b) (fun x => set_regs _ _ _ (by decide))
  exact OnlyRegs.ite (h4.trans (OnlyRegs.of_fld rfl)) h4

theorem faultRecord_regs (b c l u d : Nat) (e i r : Bool) (s : State) : OnlyRegs faultRegs s (faultRecord b c l u d e i r s) := by
  have hct : ∀ (k : Nat) (a : State), OnlyRegs faultRegs a (count b k 1 a) := fun k a => (count_regs _ _ _ _).mono (by decide)
  unfold faultRecord
  extract_lets s1 s2 s3 s4
  have h1 : OnlyRegs faultRegs s s1 := OnlyRegs.ite (addHist_regs _ _ _ _) (OnlyRegs.ite (portHist_regs _ _ _ _ _ _ _) (OnlyRegs.refl _ _))
  have h2 : OnlyRegs faultRegs s s2 := (h1.trans (hct _ _)).trans (hct _ _)
  have h3 : OnlyRegs faultRegs s s3 := OnlyRegs.ite2 h2 (fun a => event b .FAULT_EVENTS_LEVEL_RAISED a b) (fun a =>
    OnlyRegs.mono (L := .FAULT_EVENTS_LEVEL_RAISED :: intRegs) (event_regs b _ a b) (by decide))
  have h4 : OnlyRegs faultRegs s s4 := OnlyRegs.ite2 h3 (fun a => event b .FAULT_EVENTS_ESCALATED a b) (fun a =>
    OnlyRegs.mono (L := .FAULT_EVENTS_ESCALATED :: intRegs) (event_regs b _ a b) (by decide))
  exact OnlyRegs.ite2 h4 (fun a => serviceFallback 3 0 a) (fun a => serviceFallback_regs 3 0 a)

theorem faultDevice_regs (b c l u d : Nat) (e : Bool) (s : State) : OnlyRegs faultRegs s (faultDevice b c l u d e s) := by
  unfold faultDevice
  extract_lets dev s1 s2
  have h1 : OnlyRegs faultRegs s s1 := updateDevice_regs _ _ _
  have h2 : OnlyRegs faultRegs s s2 := OnlyRegs.ite2 h1 _ (fun x => sendNotice_regs _ _ _ _ _ _ x)
  exact h2.trans (OnlyRegs.of_fld rfl)

/-- A detected fault writes the fields of `faultRegs`, and no other. -/
theorem raiseCore_regs (b c l u d : Nat) (s : State) (i : Bool) : OnlyRegs faultRegs s (raiseCore b c l u d s i) :=
  ((faultMarks_regs _ _ _ _ _).trans (faultRecord_regs _ _ _ _ _ _ _ _ _)).trans (faultDevice_regs _ _ _ _ _ _ _)

theorem raise_regs (b c u d : Nat) (s : State) : OnlyRegs faultRegs s (raise b c u d s) := raiseCore_regs _ _ _ _ _ _ _

/-! The line coding of a port. -/

@[simp] theorem State.setLine_fld (s : State) (p : Nat) (x : LineSt) : (s.setLine p x).fld = s.fld := rfl
@[simp] theorem State.setLine_clk (s : State) (p : Nat) (x : LineSt) : (s.setLine p x).clk = s.clk := rfl
@[simp] theorem State.setLine_plan (s : State) (p : Nat) (x : LineSt) : (s.setLine p x).plan = s.plan := rfl
@[simp] theorem State.setLine_session (s : State) (p : Nat) (x : LineSt) : (s.setLine p x).session = s.session := rfl
@[simp] theorem State.setLine_hall (s : State) (p : Nat) (x : LineSt) : (s.setLine p x).hall = s.hall := rfl
@[simp] theorem State.setLine_ports (s : State) (p : Nat) (x : LineSt) : (s.setLine p x).ports = s.ports := rfl
@[simp] theorem State.setLine_porch (s : State) (p : Nat) (x : LineSt) : (s.setLine p x).porch = s.porch := rfl
@[simp] theorem State.setLine_thresh (s : State) (p : Nat) (x : LineSt) : (s.setLine p x).thresh = s.thresh := rfl
@[simp] theorem State.setLine_crystal (s : State) (p : Nat) (x : LineSt) : (s.setLine p x).crystal = s.crystal := rfl
@[simp] theorem State.setLine_rake (s : State) (p : Nat) (x : LineSt) : (s.setLine p x).rake = s.rake := rfl
@[simp] theorem State.setLine_sluice (s : State) (p : Nat) (x : LineSt) : (s.setLine p x).sluice = s.sluice := rfl
@[simp] theorem State.setLine_fault (s : State) (p : Nat) (x : LineSt) : (s.setLine p x).fault = s.fault := rfl
@[simp] theorem State.setLine_power (s : State) (p : Nat) (x : LineSt) : (s.setLine p x).power = s.power := rfl
@[simp] theorem State.setLine_stair (s : State) (p : Nat) (x : LineSt) : (s.setLine p x).stair = s.stair := rfl
@[simp] theorem State.setLine_latch (s : State) (p : Nat) (x : LineSt) : (s.setLine p x).latch = s.latch := rfl
@[simp] theorem State.setLine_count (s : State) (p : Nat) (x : LineSt) : (s.setLine p x).count = s.count := rfl
@[simp] theorem State.setLine_mgmt (s : State) (p : Nat) (x : LineSt) : (s.setLine p x).mgmt = s.mgmt := rfl
@[simp] theorem State.setLine_free (s : State) (p : Nat) (x : LineSt) : (s.setLine p x).free = s.free := rfl
@[simp] theorem State.setLine_out (s : State) (p : Nat) (x : LineSt) : (s.setLine p x).out = s.out := rfl
@[simp] theorem State.setLine_pending (s : State) (p : Nat) (x : LineSt) : (s.setLine p x).pending = s.pending := rfl
@[simp] theorem State.setLine_get (s : State) (p : Nat) (x : LineSt) (f : Fld) (i : Nat) : (s.setLine p x).get f i = s.get f i := rfl
theorem State.lineOf_setLine (s : State) (p q : Nat) (x : LineSt) : (s.setLine p x).lineOf q = if p = q then x else s.lineOf q := by
  simp [State.lineOf, State.setLine, Tab.get_set]
@[simp] theorem State.lineOf_setLine_self (s : State) (p : Nat) (x : LineSt) : (s.setLine p x).lineOf p = x := by
  rw [State.lineOf_setLine, if_pos rfl]

end Sys2Proof.Machine
end

