-- ==== Sys2Proof/WellFormed.lean ====
section
/-! DEFINITION. Which commands are well formed: every operand names something the block has (a port below 72, a host
port below 4, a room below 65,536, a field within its width). -/
namespace Sys2Proof

/-- A master of Table 16.1. -/
def Master.wf : Master → Bool
  | .host h => decide (h < 4)
  | .stair => true
  | .mgmt _ => true
  | .hk i _ => decide (i < 8)

/-- A cell whose header fields fit their widths (Tables 4.1 and 4.2) and whose body has 64 bytes. -/
def Cell.wf (c : Cell) : Bool :=
  decide (c.ty < 16) && decide (c.vc < 8) && decide (c.hop < 8) && decide (c.dimDone < 16) && decide (c.order < 32)
    && decide (c.dest < 2 ^ 20) && decide (c.src < 2 ^ 20) && decide (c.seq < 2 ^ 16) && decide (c.epoch < 4)
    && decide (c.idx < 128) && decide (c.segCells < 128) && decide (c.check < 2 ^ 32) && c.body.length == 8

/-- A frame with at most 15 slots and in-range header fields (Table 6.2). -/
def RxFrame.wf (f : RxFrame) : Bool :=
  decide (f.slots.length ≤ 15) && decide (f.hdr.ftype < 16) && decide (f.hdr.version < 16)
    && f.hdr.creditCum.length == 8 && f.slots.all (fun s => s.cell.wf)

/-- A parameter block (Table 6.4). -/
def ParamBlock.wf (b : ParamBlock) : Bool :=
  decide (b.node < 2 ^ 20) && decide (b.port < 128) && decide (b.vcMask < 256) && decide (b.fecSel < 2)
    && decide (b.rateMax < 4) && b.reserved.length == 8 && b.sharedCap.length == 8

/-- A training control word (Table 7.5). -/
def TCW.wf (t : TCW) : Bool :=
  decide (t.state < 16) && decide (t.caps < 16) && decide (t.rateNow < 4) && decide (t.rateReq < 4) && decide (t.fom < 256)
    && decide (t.eqReq < 16) && decide (t.eqTap < 8) && decide (t.seq < 256) && decide (t.eqSeq < 256)
    && decide (t.node < 2 ^ 20) && decide (t.port < 128)

/-- An access of at most the largest request of a host link, at a byte address of the register space, the room pages or the vector tables. -/
def Access.wf (a : Access) : Bool := decide (a.bytes ≤ 4096) && decide (a.addr < 2 ^ 30)

/-- A block's measurements in the range of the receiver's figures. -/
def EyeBlock.wf (b : EyeBlock) : Bool := decide (max b.e0 (max b.e1 b.e2) < 2 ^ 32) && decide (b.var < 2 ^ 64)

/-- A Stair chain frame with its header fields in range (R390). -/
def StairFrame.wf (f : StairFrame) : Bool := decide (f.tag < 16) && decide (f.step < 128) && decide (f.crcErr < 65536)

/-- A queue of Tables 1.3 and 1.4. -/
def QueueId.wf : QueueId → Bool
  | .rxCrossing p | .txCrossing p | .landing p => decide (p < 72)
  | .porchHallCrossing i | .returnCrossing i | .crystalCrossing i | .rakeCrossing i | .vestCrossing i => decide (i < 8)
  | .hkCrossing i => decide (i < 8)
  | .fetch h | .porchThresh h | .sluiceHall h | .completion h => decide (h < 4)
  | .hallTx p v => decide (p < 72) && decide (v < 8)
  | .cellarClient i => decide (i < 8)
  | .threshSluice | .ejection | .threshCrystal | .delivery | .rendezvous | .rakeToHall | .hallToRake
  | .threshPorch | .hkPath | .ackNack => true

/-- The check of every command. -/
def Instr.wf : Instr → Bool
  | .queuePtrMismatch q => q.wf
  | .cycleMeterWindowEnd periods => periods.length == 24
  | .vpolInterval => true
  | .policyStaleTimeout => true
  | .heartbeat m => m.wf
  | .opPointWrite m op => m.wf && decide (op < 4)
  | .regulatorSeedReached => true
  | .avsWriteRetry _ => true
  | .fplanOpen m kind => m.wf && decide (kind < 2)
  | .fplanDataWrite m _ => m.wf
  | .fplanCommit m => m.wf
  | .fplanAbort m => m.wf
  | .fplanSessionTimeout => true
  | .planVerifyDone => true
  | .fullPlanApplyDone => true
  | .planActivate => true
  | .scheduleRequest m => m.wf
  | .forceMarkedWrite m v => m.wf && decide (v < 18446744073709551616)
  | .headerParityFail _ => true
  | .leadArrival c => c.all Cell.wf
  | .payloadArrival c => c.all Cell.wf
  | .cellHallEntry input c => decide (input < 80) && c.all Cell.wf
  | .arbitrationAttempt out => decide (out < 80)
  | .detourEnd q => decide (q < 72)
  | .lifetimeDiscard input => decide (input < 80)
  | .pinHoldExpiry input => decide (input < 80)
  | .tileHoldExpiry p src seq tile => decide (p < 72) && decide (src < 131072) && decide (seq < 65536) && decide (tile < 16)
  | .linkFrameTransmit p => decide (p < 72)
  | .linkFrameReceive p f => decide (p < 72) && f.wf
  | .paramFrameReceive p f blk => decide (p < 72) && f.wf && blk.wf
  | .replayTimerExpiry p => decide (p < 72)
  | .retrainTimeout p => decide (p < 72)
  | .pauseAckTimeout p => decide (p < 72)
  | .retrainDrained p => decide (p < 72)
  | .portSettingWrite m p fec oneLane rate => m.wf && decide (p < 72) && decide (fec < 2) && decide (oneLane < 2) && decide (rate < 4)
  | .portCtrlRetrain m p => m.wf && decide (p < 72)
  | .portCtrlBringUp m p => m.wf && decide (p < 72)
  | .adminDownSet m p => m.wf && decide (p < 72)
  | .adminDownClear m p => m.wf && decide (p < 72)
  | .adminDrainEnd p => decide (p < 72)
  | .goingDownEnd p => decide (p < 72)
  | .autoUpTimer p => decide (p < 72)
  | .landingEmpty p => decide (p < 72)
  | .paramTimeout p => decide (p < 72)
  | .violationWindowEnd p => decide (p < 72)
  | .alignmentMarkerSend p bip0 bip1 => decide (p < 72) && decide (bip0 < 256) && decide (bip1 < 256)
  | .alignmentMarkerReceive p lane _ => decide (p < 72) && decide (lane < 2)
  | .fomBlockEnd p k b => decide (p < 72) && decide (k < 2) && b.wf
  | .fomFailWindowExpiry p k => decide (p < 72) && decide (k < 2)
  | .cdrLockLoss p k => decide (p < 72) && decide (k < 2)
  | .signalLoss p k => decide (p < 72) && decide (k < 2)
  | .laneSignalDetect p k => decide (p < 72) && decide (k < 2)
  | .laneFomPass p k => decide (p < 72) && decide (k < 2)
  | .trainingFrameReceive p k t => decide (p < 72) && decide (k < 2) && t.wf
  | .rateStepSwitch p => decide (p < 72)
  | .stepWindowExpiry p => decide (p < 72)
  | .bringupAttemptTimeout p => decide (p < 72)
  | .retrainAttemptTimeout p => decide (p < 72)
  | .hostLinkDown h => decide (h < 4)
  | .hostLinkUp h width speed _ => decide (h < 4) && decide (width < 32) && decide (speed < 8)
  | .roomActivate m r => m.wf && decide (r < 65536)
  | .roomDeactivate m r => m.wf && decide (r < 65536)
  | .roomReset m r => m.wf && decide (r < 65536)
  | .roomResetComplete r => decide (r < 65536)
  | .roomFetch r _ => decide (r < 65536)
  | .roomEvict m r => m.wf && decide (r < 65536)
  | .roomCmdInvalid m r cmd => m.wf && decide (r < 65536) && decide (cmd < 16)
  | .contextFetchDone r _ => decide (r < 65536)
  | .roomCtxWrite m _ => m.wf
  | .roomCtxRead m _ => m.wf
  | .knock h r k => decide (h < 4) && decide (r < 65536) && decide (k < 18446744073709551616)
  | .workFetchStart r => decide (r < 65536)
  | .workFetchDone r entries => decide (r < 65536) && entries.all (fun e => e.length == 8 || e.length == 16)
  | .rescanTimer r => decide (r < 65536)
  | .cmplHeadWrite h r v => decide (h < 4) && decide (r < 65536) && decide (v < 18446744073709551616)
  | .armWrite h r v => decide (h < 4) && decide (r < 65536) && decide (v < 18446744073709551616)
  | .lbGrantRead h r => decide (h < 4) && decide (r < 65536)
  | .lbRelease h r v => decide (h < 4) && decide (r < 65536) && decide (v < 18446744073709551616)
  | .letterboxWord h r _ _ => decide (h < 4) && decide (r < 65536)
  | .lbEndWord h r _ _ => decide (h < 4) && decide (r < 65536)
  | .lbPacketEnqueue r => decide (r < 65536)
  | .pickupRead h r _ => decide (h < 4) && decide (r < 65536)
  | .pickupSkip h r => decide (h < 4) && decide (r < 65536)
  | .roomQueueMismatch r _ => decide (r < 65536)
  | .porchDelivery => true
  | .matchArrival r => decide (r < 65536)
  | .matchPost r => decide (r < 65536)
  | .spillReadDone r => decide (r < 65536)
  | .refill part side => decide (part < 64) && decide (side < 2)
  | .recvCancel r => decide (r < 65536)
  | .storeReadbackDone src seq _ => decide (src < 131072) && decide (seq < 65536)
  | .rendezvousGetIssue => true
  | .discardingEntryExpiry src msg => decide (src < 131072) && decide (msg < 4294967296)
  | .parkBudgetExpiry src seq => decide (src < 131072) && decide (seq < 65536)
  | .orphanTimeout src seq => decide (src < 131072) && decide (seq < 65536)
  | .injectionTranslate => true
  | .segmentAdmit q => decide (q < 256)
  | .waitlistRetest peer => decide (peer < 131072)
  | .paceRelease peer => decide (peer < 131072)
  | .hostReadDone _ _ => true
  | .ackArrival c => c.all Cell.wf
  | .syncReqArrival c => c.all Cell.wf
  | .syncRespArrival c => c.all Cell.wf
  | .confArrival c => c.all Cell.wf
  | .ackCoalTimer peer => decide (peer < 131072)
  | .retransmitTimeout peer seq => decide (peer < 131072) && decide (seq < 65536)
  | .opTimeout peer seq => decide (peer < 131072) && decide (seq < 65536)
  | .nackNotReadyArrival c => c.all Cell.wf
  | .nackFinalArrival c => c.all Cell.wf
  | .nackFlowResetArrival c => c.all Cell.wf
  | .notReadyResend peer seq => decide (peer < 131072) && decide (seq < 65536)
  | .responseTimerExpiry _ => true
  | .atomicCacheRelease src msg => decide (src < 131072) && decide (msg < 4294967296)
  | .trackerTimeout src msg => decide (src < 131072) && decide (msg < 4294967296)
  | .syncReqRetry peer => decide (peer < 131072)
  | .syncTimeout peer => decide (peer < 131072)
  | .epochAdvanceDeferred peer => decide (peer < 131072)
  | .flowCmdReset m => m.wf
  | .keyCmdWrite m => m.wf
  | .keyCmdRead m => m.wf
  | .keyCmdInvalidate m => m.wf
  | .keyCmdComplete => true
  | .missPop m hk => m.wf && decide (hk < 8)
  | .missDoneWalkFault m h id => m.wf && decide (h < 4) && decide (id < 64)
  | .missDoneWalkDevice m h id => m.wf && decide (h < 4) && decide (id < 64)
  | .missDoneNotPresent m h id => m.wf && decide (h < 4) && decide (id < 64)
  | .missDoneRetry m h id => m.wf && decide (h < 4) && decide (id < 64)
  | .walkReq m hk h addr => m.wf && decide (hk < 8) && decide (h < 4) && decide (addr < 18446744073709551616)
  | .walkReadDone hk _ => decide (hk < 8)
  | .atbInstall m h _ miss => m.wf && decide (h < 4) && decide (miss < 64)
  | .atbInvalidate m h => m.wf && decide (h < 4)
  | .atbRead m h index => m.wf && decide (h < 4) && decide (index < 1024)
  | .invRange m h => m.wf && decide (h < 4)
  | .invContext m h => m.wf && decide (h < 4)
  | .invPortAll m h => m.wf && decide (h < 4)
  | .pageDone m h => m.wf && decide (h < 4)
  | .invRequestComplete h => decide (h < 4)
  | .rankCmdWrite m => m.wf
  | .rankCmdRead m => m.wf
  | .rankCmdFlushJob m => m.wf
  | .collAdmit => true
  | .treeHeadArrival port c => decide (port < 72) && c.all Cell.wf
  | .treeDataArrival port c => decide (port < 72) && c.all Cell.wf
  | .treeGrantArrival port c => decide (port < 72) && c.all Cell.wf
  | .treeAbortArrival port c => decide (port < 72) && c.all Cell.wf
  | .treeContextTake t => decide (t < 1024)
  | .treeStallTimeout t => decide (t < 1024)
  | .rakeAbortCmd m t => m.wf && decide (t < 1024)
  | .rakeResyncCmd m t => m.wf && decide (t < 1024)
  | .collResultWrite t => decide (t < 1024)
  | .timeCellSend p => decide (p < 72)
  | .timeCellArrival p c => decide (p < 72) && c.wf
  | .timeHoldoverTimeout => true
  | .timeSet m ns frac => m.wf && decide (ns < 18446744073709551616) && decide (frac < 65536)
  | .gateEntryChange p => decide (p < 72)
  | .budgetRefill => true
  | .shaperRefill q => decide (q < 256)
  | .ticketBudgetRefill => true
  | .ticketRequestArrival c => c.all Cell.wf
  | .ticketGrantArrival c => c.all Cell.wf
  | .ticketGrantIssue => true
  | .ticketRequestRetry peer => decide (peer < 131072)
  | .ticketExpiry peer => decide (peer < 131072)
  | .rateIncreaseTick peer => decide (peer < 131072)
  | .histSample => true
  | .histClear m => m.wf
  | .quietTimerExpiry b => decide (b < 88)
  | .faultAckWrite m b mask => m.wf && decide (b < 88) && decide (mask < 18446744073709551616)
  | .faultInject m b cls => m.wf && decide (b < 88) && decide (cls < 64)
  | .cfgParityMismatch _ => true
  | .faultRegParityMismatch b => decide (b < 88)
  | .hostReset m => m.wf
  | .hostResetComplete => true
  | .l4ResetTimer => true
  | .l4HoldWrite m v => m.wf && decide (v < 18446744073709551616)
  | .suspectJitterExpiry e => decide (e < 64)
  | .suspectHoldExpiry e => decide (e < 64)
  | .fenceDataWrite m _ => m.wf
  | .fenceSet m node => m.wf && decide (node < 131072)
  | .fenceLift m node => m.wf && decide (node < 131072)
  | .fenceLiftAll m => m.wf
  | .ddrEccError _ => true
  | .ddrLinkFail => true
  | .sramEccError _ _ => true
  | .powerOnReset => true
  | .supplyFault => true
  | .resetRelease => true
  | .perstPrimary => true
  | .perstSecondary h => decide (h < 4)
  | .deviceResetWrite m confirm => m.wf && decide (confirm < 256)
  | .blockResetCrystal m => m.wf
  | .blockResetRake m => m.wf
  | .blockResetCount m => m.wf
  | .resetCauseClear m mask => m.wf && decide (mask < 18446744073709551616)
  | .watchdogExpiry => true
  | .watchdogKick m => m.wf
  | .thermalWarning sensor temp => decide (sensor < 16) && decide (temp < 256)
  | .thermalTrip sensor temp => decide (sensor < 16) && decide (temp < 256)
  | .thermalTripRelease => true
  | .domainTargetWrite m _ _ => m.wf
  | .domainTransitionDone d => decide (d < 80)
  | .atticRead m => m.wf
  | .atticWrite m _ => m.wf
  | .optCommit m => m.wf
  | .stairEnum f => f.wf
  | .stairRead f addr => f.wf && decide (addr < 67108864)
  | .stairWrite f addr _ => f.wf && decide (addr < 67108864)
  | .stairReset f scope confirm => f.wf && decide (scope < 256) && decide (confirm < 256)
  | .stairBadType f ty _ => f.wf && decide (ty < 256)
  | .stairUpstreamFrame _ => true
  | .chainEndDetect => true
  | .stairLockLoss => true
  | .bistShutdown m => m.wf
  | .bistStart m => m.wf
  | .bistGroupDone g _ => decide (g < 16)
  | .bistOverride m => m.wf
  | .bootDecision => true
  | .registerWrite m a _ => m.wf && a.wf
  | .rcRegisterRead m a => m.wf && a.wf
  | .intPendRead m _ => m.wf
  | .wideSelWrite m kind block index => m.wf && decide (kind < 16) && decide (block < 256) && decide (index < 256)
  | .mgmtReadArrival c => c.all Cell.wf
  | .mgmtWriteArrival c => c.all Cell.wf
  | .latchTake m k => m.wf && decide (k < 512)
  | .latchWait m k => m.wf && decide (k < 512)
  | .latchWaitTimeout k => decide (k < 512)
  | .latchRelease m k => m.wf && decide (k < 512)
  | .latchForce m k => m.wf && decide (k < 512)
  | .dumpPeriod => true
  | .dumpRecordDone => true
  | .snapArm m => m.wf
  | .snapDisarm m => m.wf
  | .snapshotFire => true
  | .snapRecordWrite => true
  | .trainingStepBoundExpiry p => decide (p < 72)
  | .cellarReadDone _ => true
  | .stairCommaLock _ => true

end Sys2Proof
end

