-- ==== Sys2Proof/Tests/Slice0.lean ====
section
/-! SUPPORT. Tests: for every obligation, states and operands that meet the hypotheses of its clauses; what an ill-formed command is
refused for; and small checks of single commands against numbers of the spec. -/
namespace Sys2Proof.Machine.Tests

set_option Elab.async false

/-- The reset state with some fields of registers set: field, instance, value. -/
def st (l : List (Fld × Nat × Nat)) : State := l.foldl (fun s e => s.set e.1 e.2.2 e.2.1) State.reset
def planSec (ws : List Word) : List Word := ws ++ [wd (crc32c (wordsBytes ws))]
def planHdr (kind n len : Nat) : List Word := [wd (0x4F4C5046 + 2 ^ 32 + kind * 2 ^ 40 + n * 2 ^ 48), wd (len + 0x4200 * 2 ^ 32), 5, 0, 6, 0, 0, 0]
def planFull : List Word := planHdr 0 1 39 ++ planSec [wd (1 + 256 + 5 * 2 ^ 32), wd (2 ^ 32), wd (7 + 2 * 2 ^ 20), wd 0x01010808] ++ List.replicate 26 0
def planRole : List Word := planHdr 1 1 38 ++ planSec [wd (2 + 256 + 4 * 2 ^ 32), wd (2 ^ 32), 0] ++ List.replicate 26 0
def cl (ty vc : Nat) (body : List Word := []) (src dest : Nat := 0) : Cell :=
  { ty := ty, vc := vc, dest := dest, src := src, check := bodyCrc body, body := body }
def tx (c : Cell) : TxCell := { cell := c, before := c, input := 3, vcIn := c.vc, stamp := 1 }
def ctxW : List Word := [wd (5 + 2 ^ 27 + 16 * 2 ^ 32 + 16 * 2 ^ 43), wd (4 + 4096 * 7), wd (4 + 4096 * 9), wd (8 + 2 * 2 ^ 16), 3]
def ctxAll : List Word := let l := ctxW ++ [wd (7 + 9 * 2 ^ 32), 3] ++ List.replicate 24 0; l ++ [wd (crc32c (wordsBytes l))]
def led (op flags room msg len off : Nat) (tag : Nat := 4) (keyIdx : Nat := 3) (rem : Nat := 4096) : List Word :=
  mkLead op flags room 9 5 keyIdx 2 msg rem len off 1 6 tag 0 11 12
def cel (ty : Nat) (body : List Word) (seq : Nat := 0) (cells : Nat := 1) (idx : Nat := 0) (epoch : Nat := 1) : Cell :=
  { ty := ty, vc := 2, dest := 0, src := 1, seq := seq, epoch := epoch, idx := idx, segCells := cells, check := bodyCrc body, body := body }
def sg (seq : Nat) (l : List Word) (cells : Nat := 1) : RSeg := { seq := seq, cells := cells, st := .inProgress, lead := some (cel tyLead l seq cells) }
def flw (segs : List RSeg) (st : Nat := 1) : Flow := { node := 1, recv := { st := st, epoch := 1, w := 65535, segs := segs } }
def keyE : KeyEntry := ⟨wd 4096, wd 8192, wd (5 + 10 * 2 ^ 40 + 2 * 2 ^ 48 + 2 ^ 63), 0⟩
def pstd (room part ctx rank tag cookie stamp : Nat) (spilled : Bool := false) (pickup : Bool := true) : Posted :=
  { room := room, part := part, ctx := ctx, rank := rank, tag := tag, anyTag := false, addr := 64, len := 100, lkey := 0, cookie := cookie, pickup := pickup, silent := false, stamp := stamp, spilled := spilled }
def uxp (id room part ctx rank tag src : Nat) (lead : List Word) (rndv : Bool := false) (spilled : Bool := false) : Unexp :=
  { id := id, room := room, part := part, ctx := ctx, rank := rank, tag := tag, src := src, msgId := 0, lead := lead, rndv := rndv, spilled := spilled }
def signedKey : List Word := [0xC751C2A224DE1104, 0xE425A05EAC3C5777, 0x8FF9BF1DE508F267, 0x8365E5CB61664FC5, 0x97A21C4A2F8837B0, 0x846D83C3DBBC0AE6, 0xF94074C796A68FBC, 0xE7000AE937580F2D, 0xDED55477444B28C5, 0x1A90B63365988CE8, 0xFBE80A6D687731EB, 0x71C1E6AB14441833, 0x3A]
def signedTrailer : List Word := 0x1A000001FF :: signedKey ++ [0x8847CE65731D3C28, 0xFEDF4E23BF8E9FF2, 0xFA5FEAFB97E96FAD, 0x501C7BFA9DCC582D, 0xB2EBB9556F52058B, 0xE1D0B68FB4050F04, 0x247F95B0D7508BE9, 0xB71E343B68832287, 0x67DAECB6DB5CE86C, 0xF0686180C884B570, 0x4F23F51D70B682CE, 0xD0A71AB3866F9EE7]
def signedShadow : List Word := [0x0, 0x0, 0xAC19FB8C851AADB6, 0x6499B7EBCFD4565, 0xE51891898AF399, 0x81A946DE223DD226, 0x59911988A8991B0E, 0x1C8C48D9F31351E0]
def stN (l : List (Fld × Nat × Nat)) : State := st ([(.NODE_ID_NODE, 0, 0), (.NODE_ID_VALID, 0, 1), (.PORT_STAT_STATE, 0, 3),
    (.DOMAIN_STAT_LO_ON, 0, 2 ^ 64 - 1), (.DOMAIN_STAT_HI_ON, 0, 0xFF00), (.HALL_STAT_VC_SET, 0, 255),
    (.PORT_PARTNER_BLOCK_W0, 0, 255 * 2 ^ 27), (.PARTNER_VC_P_RESERVED, 0, 8), (.PARTNER_VC_P_RESERVED, 1, 8),
    (.PARTNER_VC_P_RESERVED, 2, 8), (.PARTNER_VC_P_RESERVED, 3, 8), (.PARTNER_VC_P_RESERVED, 4, 8), (.PARTNER_VC_P_RESERVED,
    5, 8), (.PARTNER_VC_P_RESERVED, 6, 8), (.PARTNER_VC_P_RESERVED, 7, 8)] ++ l)
def stR (l : List (Fld × Nat × Nat)) : State := stN ([(.JOB_SLOT_VALID, 2, 1), (.JOB_SLOT_JOB, 2, 5), (.JOB_SLOT_LAST_RANK,
    2, 100), (.HPORT_STAT_LINK_UP, 0, 1), (.HPORT_STAT_MODE, 0, 1), (.PORCH_CFG_FETCH_BURST, 0, 4)] ++ l)
def stT (l : List (Fld × Nat × Nat)) : State := stR ([(.PORCH_CFG_PARK_MAX_KIB, 0, 64), (.THRESH_CFG_PARK_BUDGET_US, 0, 10),
    (.THRESH_ACK_CFG_ORPHAN_US, 0, 10), (.CRYSTAL_CFG_FULL_HINT_US, 0, 33), (.THRESH_CFG_PAGE_HINT_US, 0, 44),
    (.THRESH_CFG_OP_TIMEOUT_MS, 0, 10)] ++ l)
def stA (l : List (Fld × Nat × Nat)) : State := stT ([(.VPOL_STAT_SCALE, 0, 32768), (.TICKET_CFG_BATCH, 0, 4),
    (.TICKET_CFG_RETRY_US, 0, 5), (.TICKET_CFG_LIFE_US, 0, 5), (.MARK_CFG_AI_US, 0, 55), (.MARK_RATE_AI_STEP, 0, 500),
    (.HIST_CTRL_SAMPLE_NS, 0, 1000), (.THRESH_CFG_RTO_MAX_US, 0, 100), (.THRESH_CFG_RTO_MIN_US, 0, 10)] ++ l)
def planN : PlanSt :=
  { installed := true, dims := 1, sizes := [8, 1, 1, 1], roles := [9], vcs := List.replicate 8 (8 * 16 + 65536 * 64) }
def planT : PlanSt := { planN with crystal := [(10 + 10 * 2 ^ 32, 5 + 2 ^ 16 + 2 ^ 32)] }
def planA : PlanSt := { planT with budgets := [(8, 5000, 3000), (8, 5000, 3000), (8, 5000, 3000)] }

/-- The acknowledgement queue holds a further cell while it holds none. -/
theorem ackRoom (s : State) (h : ((Tab.get s.hall.inj 78 []).filter (fun h => h.cell.ty == tyAck || h.cell.ty == tyNack)).length = 0) :
    ackQueueRoom s = true := by
  unfold ackQueueRoom; rw [h]; exact decide_eq_true (by omega)

/-- A property of the default and of every listed value is one of every value read. -/
theorem get_of_all {α : Type} {P : α → Prop} (t : Tab α) (k : Nat) (d : α) (hd : P d) (h : ∀ e ∈ t, P e.2) : P (Tab.get t k d) := by
  unfold Tab.get
  induction t with
  | nil => exact hd
  | cons e r ih =>
    unfold Tab.find?
    split
    · exact h _ (List.mem_cons_self ..)
    · exact ih (fun x hx => h x (List.mem_cons_of_mem _ hx))

/-- All 4,096 slots of resident rooms are taken by rooms whose contexts are being fetched, but for those in `l`; room 5 has knocks. -/
def slots (n : Nat) : Tab Room := (List.range n).map (fun i => (i + 7, { fetching := true }))
def fullS (l : Tab Room) (n : Nat) : State := { st [] with porch := { rooms := (5, { knocks := 3 }) :: (l ++ slots n) } }

theorem slots_idle (n : Nat) : ∀ e ∈ slots n, e.2.resident = false := by
  intro e h; simp only [slots, List.mem_map] at h; obtain ⟨i, -, rfl⟩ := h; rfl
theorem slots_length (n : Nat) : ((slots n).filter (fun e => e.2.resident || e.2.fetching)).length = n := by
  have h : (slots n).filter (fun e => e.2.resident || e.2.fetching) = slots n := by
    rw [List.filter_eq_self]; intro e h; simp only [slots, List.mem_map] at h; obtain ⟨i, -, rfl⟩ := h; rfl
  rw [h, slots, List.length_map, List.length_range]

theorem evictable_resident (s : State) (r : Nat) (h : (s.room r).resident = false) : evictable s r = false := by
  unfold evictable; simp [h]

theorem full_victim_none (n : Nat) : victim (fullS [] n) = none := by
  have h : (fullS [] n).porch.rooms.filter (fun e => evictable (fullS [] n) e.1) = [] := by
    rw [List.filter_eq_nil_iff]; intro e _
    rw [evictable_resident _ _ (get_of_all (P := fun q : Room => q.resident = false) _ _ _ rfl (fun x hx => by
      rcases List.mem_cons.1 hx with rfl | hx
      · rfl
      · exact slots_idle _ x hx))]; decide
  unfold victim; rw [h]; rfl

def sixS (n : Nat) : State := fullS [(6, { resident := true, dirty := true })] n

theorem six_other (n r : Nat) (hr : r ≠ 6) : evictable (sixS n) r = false := by
  apply evictable_resident
  show (Tab.get ((5, { knocks := 3 }) :: (6, { resident := true, dirty := true }) :: slots n) r ({} : Room)).resident = false
  unfold Tab.get Tab.find?
  split
  · rfl
  · unfold Tab.find?
    rw [if_neg (Ne.symm hr)]
    exact get_of_all (P := fun q : Room => q.resident = false) (slots n) r {} rfl (slots_idle _)

theorem six_victim (n : Nat) (h6 : evictable (sixS n) 6 = true) : victim (sixS n) = some 6 := by
  have h : (sixS n).porch.rooms.filter (fun e => evictable (sixS n) e.1) = [(6, { resident := true, dirty := true })] := by
    show ((5, { knocks := 3 }) :: (6, { resident := true, dirty := true }) :: slots n).filter _ = _
    rw [List.filter_cons_of_neg (by simp [six_other n 5 (by decide)]), List.filter_cons_of_pos (by simp [h6])]
    rw [List.filter_eq_nil_iff.2]
    intro e he
    simp only [slots, List.mem_map] at he; obtain ⟨i, -, rfl⟩ := he
    rw [six_other n _ (by simp only; omega)]; decide
  unfold victim; rw [h]; rfl

theorem full_slots (l : Tab Room) (n : Nat) : (slotRooms (fullS l n)).length = (slotRooms (fullS l 0)).length + n := by
  show (((5, { knocks := 3 }) :: (l ++ slots n)).filter _).length = (((5, { knocks := 3 }) :: (l ++ slots 0)).filter _).length + n
  have h0 : slots 0 = [] := rfl
  rw [List.filter_cons_of_neg (by decide), List.filter_cons_of_neg (by decide), List.filter_append, List.length_append, slots_length, h0,
    List.append_nil]

theorem witness_StepRunsTheFrontCommand :
    ∃ (c : Instr) (rest : List Instr) (s : State), s.pending = c :: rest :=
  ⟨.vpolInterval, [.detourEnd 3], { State.reset with pending := [.vpolInterval, .detourEnd 3] }, by decide +kernel⟩

theorem witness_EmptyQueuePassesOneNanosecond :
    (∃ (s : State), (s.pending = []) ∧ (s.thresh.walking = []) ∧ (s.thresh.walkStall = []))
    ∧ (∃ (s : State), s.pending = []) :=
  ⟨⟨{ State.reset with clk := { ns := 5, slewTicks := 2, slew := 100 } }, by decide +kernel⟩,
  ⟨State.reset, by decide +kernel⟩⟩

theorem witness_ResetStoreIsCanonical :
    ∃ (s : State), RegsOk s :=
  ⟨st [(.OP_CTRL_OP_POINT, 0, 2)], by decide +kernel⟩

theorem witness_WindowEndShowsPeriodAndScale :
    (∃ (s : State), policyHeld s = false)
    ∧ (∃ (ps : List Nat) (s : State) (p : Nat), (RegsOk s) ∧ (s.power.policyRan = true) ∧ (policyHeld s = true) ∧ (s.get
      .VPOL_STAT_VCORE_MV ≠ s.get .VPOL_CFG_VMAX) ∧ (p = (corePeriod s (ps.map (· % 65536))).1) ∧ (110 * targetNow s < 100 * p))
    ∧ (∃ (t : Nat) (p : Nat), t < p)
    ∧ (∃ (t : Nat) (p : Nat), p ≤ t) :=
  ⟨⟨State.reset, by decide +kernel⟩,
  ⟨[700], st [(.VPOL_STAT_POLICY_STALE, 0, 1)] |> modPower (fun p => { p with policyRan := true }), 700, by decide +kernel⟩,
  ⟨550, 700, by decide +kernel⟩,
  ⟨0, 0, by decide +kernel⟩⟩

theorem witness_PolicyIntervalStepsTheSetPoint :
    (∃ (s : State), (RegsOk s) ∧ (hearthUp s = true) ∧ (policyHeld s = false) ∧ (intervalOver s = true) ∧ (s.power.seedOwed = false)
      ∧ (s.power.seedDue = false))
    ∧ (∃ (s : State), (hearthUp s = true) ∧ (policyHeld s = false) ∧ (intervalOver s = true) ∧ (s.power.seedOwed = false) ∧
      (s.power.seedDue = true))
    ∧ (∃ (s : State), (RegsOk s) ∧ (hearthUp s = true) ∧ (policyHeld s = false) ∧ (intervalOver s = true) ∧ (s.power.seedOwed =
      true))
    ∧ (∃ (s : State), hearthUp s = false ∨ policyHeld s = true ∨ intervalOver s = false) :=
  ⟨⟨st [(.BOOT_STAT_PHASE, 0, 5), (.VPOL_STAT_CORE_PERIOD_PS, 0, 600)] |> modPower (fun p => { p with hkHeld := false }),
    by decide +kernel⟩,
  ⟨st [(.BOOT_STAT_PHASE, 0, 5), (.VPOL_STAT_CORE_PERIOD_PS, 0, 600)] |> modPower (fun p =>
    { p with hkHeld := false, seedDue := true }), by decide +kernel⟩,
  ⟨st [(.BOOT_STAT_PHASE, 0, 5), (.VPOL_STAT_CORE_PERIOD_PS, 0, 600)] |> modPower (fun p =>
    { p with hkHeld := false, seedOwed := true }), by decide +kernel⟩,
  ⟨State.reset, by decide +kernel⟩⟩

theorem witness_VoltageCommandsTakeEffect :
    (∃ (s : State), Due s (s.power.heartbeatAt + 1000000))
    ∧ (∃ (m : Master) (s : State), May s m .VPOL_CFG_HEARTBEAT)
    ∧ (∃ (m : Master) (op : Nat) (s : State), (May s m .OP_CTRL_OP_POINT) ∧ (op < 3) ∧ (op ≠ s.get .OP_CTRL_OP_POINT))
    ∧ (∃ (mv : Nat) (s : State), (s.power.avsWant = some mv) ∧ (mv < 4096))
    ∧ (∃ (mv : Nat) (s : State), (s.power.avsWant = some mv) ∧ (s.power.avsPrev < 4096)) :=
  ⟨⟨{ st [(.VPOL_STAT_CORE_PERIOD_PS, 0, 700)] with clk := { ns := 1000000 } }, by decide +kernel⟩,
  ⟨.stair, st [(.VPOL_STAT_POLICY_STALE, 0, 1)], by decide +kernel⟩,
  ⟨.stair, 2, st [(.BOOT_STAT_PHASE, 0, 5)] |> modPower (fun p => { p with hkHeld := false }), by decide +kernel⟩,
  ⟨810, State.reset |> modPower (fun p => { p with avsWant := some 810 }), by decide +kernel⟩,
  ⟨810, State.reset |> modPower (fun p => { p with avsWant := some 810, avsFails := 2 }), by decide +kernel⟩⟩

theorem witness_PowerOnResetsAndReleaseReads :
    (∃ (c : Instr), c = .powerOnReset ∨ c = .supplyFault)
    ∧ (∃ (s : State), (s.power.thermHold = false) ∧ (s.power.hkHeld = true) ∧ (s.power.bistOn = false)) :=
  ⟨⟨.supplyFault, by decide +kernel⟩,
  ⟨st [(.OP_CTRL_OP_POINT, 0, 2)], by decide +kernel⟩⟩

theorem witness_DeviceResetSourcesReset :
    (∃ (h : Nat) (s : State), (h < 4) ∧ (h = optPrimary s))
    ∧ (∃ (s : State), (s.flag .WDOG_CFG_ENABLE = true) ∧ (s.power.hkHeld = false) ∧ (s.power.bistOn = false) ∧ (Due s
      s.power.wdogAt))
    ∧ (∃ (m : Master) (s : State), May s m .RESET_CTRL_DEVICE_RESET)
    ∧ (∃ (m : Master) (k : Nat) (s : State), (May s m .RESET_CTRL_DEVICE_RESET) ∧ (k % 256 ≠ 0x42))
    ∧ (∃ (at1 : Nat) (s : State), (s.fault.l4At = some at1) ∧ (Due s at1) ∧ (s.flag .DEV_FAULT_CTRL_L4_HOLD = false))
    ∧ (∃ (temp : Nat) (s : State), (115 ≤ temp) ∧ (temp < 256) ∧ (s.power.thermHold = false) ∧ ((∀ e ∈ s.power.temps, e.2 < 256))) :=
  ⟨⟨0, State.reset, by decide +kernel⟩,
  ⟨{ st [(.WDOG_CFG_ENABLE, 0, 1)] with power := { hkHeld := false, wdogAt := 7 }, clk := { ns := 7 } }, by decide +kernel⟩,
  ⟨.stair, State.reset, by decide +kernel⟩,
  ⟨.stair, 0, State.reset, by decide +kernel⟩,
  ⟨9, { State.reset with fault := { l4At := some 9 }, clk := { ns := 9 } }, by decide +kernel⟩,
  ⟨115, State.reset, by decide +kernel⟩⟩

theorem witness_HostPortAndBlockResets :
    (∃ (h : Nat) (s : State), (h < 4) ∧ (h ≠ optPrimary s))
    ∧ (∃ (m : Master) (s : State), May s m .RESET_CTRL_CRYSTAL)
    ∧ (∃ (m : Master) (s : State), May s m .RESET_CTRL_RAKE)
    ∧ (∃ (m : Master) (s : State), May s m .RESET_CTRL_COUNT) :=
  ⟨⟨2,
    { st [(.HPORT_STAT_LINK_UP, 2, 1), (.FPLAN_STAT_STATE, 0, 1)] with porch := { rooms := [(5, { st := 1, hport := 2 }), (6, { st := 1, hport := 1 })] }, latch := [(3, { owner := some 2 })], session := { owner := some 2 } },
    by decide +kernel⟩,
  ⟨.stair, { st [(.FAULT_STAT_LEVEL, 6, 2), (.FAULT_STAT_LEVEL, 7, 1)] with crystal := { nextId := 3 } }, by decide +kernel⟩,
  ⟨.stair, { st [(.FAULT_STAT_LEVEL, 7, 2), (.TREE_ENTRY_NEXT_SEQ, 3, 7), (.TREE_JOB_JOB, 3, 9)] with rake := { waiters := [1] } },
    by decide +kernel⟩,
  ⟨.stair, { st [(.FAULT_STAT_LEVEL, 12, 2)] with count := { ctr := [(3, 5)], dumpSeq := 4 } }, by decide +kernel⟩⟩

theorem witness_CausesWatchdogAndTemperature :
    (∃ (m : Master) (mask : Nat) (s : State), (May s m .RESET_CAUSE_CLR_CLEAR) ∧ (mask < 4096))
    ∧ (∃ (m : Master) (s : State), May s m .WDOG_CFG_KICK)
    ∧ (∃ (sensor : Nat) (temp : Nat) (s : State), (sensor < 16) ∧ (temp < 115) ∧ (temp < s.get .THERM_CFG_WARN_C) ∧ ((∀ e ∈
      s.power.temps, e.2 < 256 ∧ e.1 < 16)))
    ∧ (∃ (sensor : Nat) (temp : Nat) (s : State), (RegsOk s) ∧ (sensor < 16) ∧ (temp < 115) ∧ (s.get .THERM_CFG_WARN_C ≤ temp))
    ∧ (∃ (since : Nat) (s : State), (s.power.thermHold = true) ∧ (s.power.thermLowAt = some since) ∧ (Due s (since + 1000000000))) :=
  ⟨⟨.stair, 2048, st [(.RESET_CAUSE_HOST_PORT, 0, 9), (.RESET_CAUSE_L4, 0, 1)], by decide +kernel⟩,
  ⟨.stair, { State.reset with clk := { ns := 9 } }, by decide +kernel⟩,
  ⟨15, 90, State.reset |> modPower (fun p => { p with temps := [(2, 80), (5, 99)] }), by decide +kernel⟩,
  ⟨15, 114, State.reset, by decide +kernel⟩,
  ⟨5, { State.reset with power := { thermHold := true, thermLowAt := some 5 }, clk := { ns := 1000000005 } }, by decide +kernel⟩⟩

theorem witness_BistAndStartUpTakeEffect :
    (∃ (m : Master) (s : State), (May s m .BIST_CTRL_START) ∧ (s.power.bistOn = false))
    ∧ (∃ (g : Nat) (s : State), (g ∈ s.power.bistRun) ∧ (s.power.bistRun.filter (· != g) ≠ []) ∧ (s.get .BOOT_STAT_DONE_MASK + 2 ^ g
      < 65536) ∧ (s.get .BOOT_STAT_FAIL_MASK + 2 ^ g < 65536))
    ∧ (∃ (g : Nat) (s : State), (s.power.bistRun = [g]) ∧ (s.power.bistLeft = []) ∧ (s.get .BOOT_STAT_DONE_MASK + 2 ^ g < 65536) ∧
      (s.get .BOOT_STAT_FAIL_MASK + 2 ^ g < 65536))
    ∧ (∃ (g : Nat) (s : State), (s.power.bistRun = [g]) ∧ (s.power.bistLeft ≠ []) ∧ (s.get .BOOT_STAT_DONE_MASK + 2 ^ g < 65536))
    ∧ (∃ (m : Master) (s : State), (May s m .BIST_CTRL_SHUTDOWN) ∧ (s.power.shutdown = false))
    ∧ (∃ (s : State), (s.power.hkHeld = false) ∧ (s.power.bistOn = false) ∧ (s.get .BOOT_STAT_PHASE = 1))
    ∧ (∃ (m : Master) (s : State), (May s m .BOOT_CTRL_OVERRIDE) ∧ (s.get .BOOT_STAT_PHASE = 7)) :=
  ⟨⟨.stair, { st [(.BIST_CTRL_PARALLEL, 0, 4)] with power := { hkHeld := false } }, by decide +kernel⟩,
  ⟨15, { st [(.BOOT_STAT_PHASE, 0, 3)] with power := { bistOn := true, bistRun := [14, 15] } }, by decide +kernel⟩,
  ⟨15, { st [(.BOOT_STAT_PHASE, 0, 3), (.BOOT_STAT_DONE_MASK, 0, 32767)] with power := { bistOn := true, bistRun := [15] } },
    by decide +kernel⟩,
  ⟨0,
    { st [(.BOOT_STAT_PHASE, 0, 3), (.BIST_CTRL_PARALLEL, 0, 1)] with power := { bistOn := true, bistRun := [0], bistLeft := [15] } },
    by decide +kernel⟩,
  ⟨.stair, { st [] with power := { hkHeld := false }, porch := { fetchQ := [{ room := 3, entry := [] }] } }, by decide +kernel⟩,
  ⟨{ st [(.BOOT_STAT_PHASE, 0, 1)] with power := { hkHeld := false, bistPassed := true } }, by decide +kernel⟩,
  ⟨.stair, st [(.BOOT_STAT_PHASE, 0, 7)], by decide +kernel⟩⟩

theorem witness_HostLinksComeAndGo :
    (∃ (h : Nat) (s : State), (s.flag .HPORT_STAT_LINK_UP h = false) ∧ (mayLink s h = true))
    ∧ (∃ (h : Nat) (s : State), (RegsOk s) ∧ (h < 4) ∧ (s.flag .HPORT_STAT_LINK_UP h = true)) :=
  ⟨⟨3,
    { st [(.BOOT_STAT_PHASE, 0, 6)] with porch := { stalled := [{ room := 3, entry := [] }, { room := 4, entry := [], misses := [(3, 1, 2)] }] } },
    by decide +kernel⟩,
  ⟨3, { st [(.HPORT_STAT_LINK_UP, 3, 1)] with porch := { rooms := [(9, { st := 1, hport := 3 })] } }, by decide +kernel⟩⟩

theorem witness_LatchesAreTakenAndReleased :
    (∃ (m : Master) (k : Nat) (s : State), (k < 512) ∧ (MaySee s m .LATCH_TAKE_VALUE) ∧ (s.level 11 < 2) ∧ ((s.latchOf k).owner =
      none))
    ∧ (∃ (m : Master) (k : Nat) (o : Nat) (s : State), (k < 512) ∧ (MaySee s m .LATCH_TAKE_VALUE) ∧ ((s.latchOf k).owner = some o))
    ∧ (∃ (m : Master) (k : Nat) (s : State), (k < 512) ∧ (MaySee s m .LATCH_WAIT_VALUE) ∧ (s.level 11 < 2) ∧ ((s.latchOf k).owner =
      none))
    ∧ (∃ (m : Master) (k : Nat) (o : Nat) (s : State), (k < 512) ∧ (MaySee s m .LATCH_WAIT_VALUE) ∧ (s.level 11 < 2) ∧ ((s.latchOf
      k).owner = some o) ∧ (stalledReads s < 64))
    ∧ (∃ (m : Master) (k : Nat) (o : Nat) (s : State), (k < 512) ∧ (MaySee s m .LATCH_WAIT_VALUE) ∧ (s.level 11 < 2) ∧ ((s.latchOf
      k).owner = some o) ∧ (64 ≤ stalledReads s))
    ∧ (∃ (k : Nat), k < 512)
    ∧ (∃ (m : Master) (k : Nat) (s : State), (k < 512) ∧ (May s m .LATCH_RELEASE_ANY) ∧ ((s.latchOf k).owner = some (masterId m)))
    ∧ (∃ (m : Master) (k : Nat) (s : State), (k < 512) ∧ (May s m .LATCH_RELEASE_ANY) ∧ ((s.latchOf k).owner ≠ some (masterId m)))
    ∧ (∃ (m : Master) (k : Nat) (o : Nat) (s : State), (k < 512) ∧ (May s m .LATCH_FORCE_GO) ∧ ((s.latchOf k).owner = some o)) :=
  ⟨⟨.hk 0 true, 511, { st [] with latch := [(511, { abandoned := true })] }, by decide +kernel⟩,
  ⟨.hk 0 true, 511, 8,
    { st [] with latch := [(511, { owner := some 8, waiters := [(.host 2, 40), (.stair, 90)] })], clk := { ns := 40 } },
    by decide +kernel⟩,
  ⟨.hk 0 true, 511, { st [] with latch := [(511, { forced := true })] }, by decide +kernel⟩,
  ⟨.hk 0 true, 511, 8,
    { st [] with latch := [(511, { owner := some 8, waiters := [(.host 2, 40), (.stair, 90)] })], clk := { ns := 40 } },
    by decide +kernel⟩,
  ⟨.hk 0 true, 511, 8, { st [] with latch := [(511, { owner := some 8, waiters := List.replicate 64 (.host 2, 40) })] },
    by decide +kernel⟩,
  ⟨511, by decide +kernel⟩,
  ⟨.hk 0 true, 511,
    { st [] with latch := [(511, { owner := some 8, waiters := [(.host 2, 40), (.stair, 90)] })], clk := { ns := 40 } },
    by decide +kernel⟩,
  ⟨.hk 0 true, 511, { st [] with latch := [(511, { owner := some 9 })] }, by decide +kernel⟩,
  ⟨.hk 0 true, 511, 8,
    { st [] with latch := [(511, { owner := some 8, waiters := [(.host 2, 40), (.stair, 90)] })], clk := { ns := 40 } },
    by decide +kernel⟩⟩

theorem witness_TimeCommandsAndServo :
    (∃ (p : Nat) (s : State), (s.get .PORT_STAT_STATE p = 3) ∧ (Due s (s.port p).timeNext) ∧ (credit s p 0 = true))
    ∧ (∃ (c : Cell), (c.ty = tyTime) ∧ (c.check = bodyCrc c.body))
    ∧ (∃ (s : State), (timeMaster s = false) ∧ (Due s (s.sluice.lastSample + 8 * (s.get .TIME_CFG_PERIOD_US * 1000))) ∧ (s.flag
      .TIME_STAT_HOLDOVER = false))
    ∧ (∃ (m : Master) (ns : Nat) (frac : Nat) (s : State), (May s m .TIME_ADJ_SET) ∧ (ns < 2 ^ 64) ∧ (frac < 65536) ∧ (s.flag
      .SLUICE_MODE_SERVICE = false))
    ∧ (∃ (m : Master) (s : State), (May s m .TIME_ADJ_SET) ∧ (s.flag .SLUICE_MODE_SERVICE = true))
    ∧ (∃ (p : Nat) (at1 : Nat) (l : GateList) (s : State), (Tab.find? s.plan.gatesNext p = some (at1, l)) ∧ (at1 ≤ s.netNs))
    ∧ (∃ (theta : Int) (s : State), s.get .TIME_CFG_STEP_NS * 65536 < theta.natAbs)
    ∧ (∃ (theta : Int) (s : State), s.get .TIME_CFG_STEP_NS * 65536 < theta.natAbs)
    ∧ (∃ (theta : Int) (s : State), s.get .TIME_CFG_STEP_NS * 65536 < theta.natAbs)
    ∧ (∃ (theta : Int) (s : State), theta.natAbs ≤ s.get .TIME_CFG_STEP_NS * 65536)
    ∧ (∃ (theta : Int) (s : State), theta.natAbs ≤ s.get .TIME_CFG_STEP_NS * 65536)
    ∧ (∃ (theta : Int) (s : State), theta.natAbs ≤ s.get .TIME_CFG_STEP_NS * 65536)
    ∧ (∃ (theta : Int) (s : State), theta.natAbs ≤ s.get .TIME_CFG_STEP_NS * 65536)
    ∧ (∃ (theta : Int) (s : State), (theta.natAbs ≤ s.get .TIME_CFG_STEP_NS * 65536) ∧ (theta = 0)) :=
  ⟨⟨0, { stN [(.LANDING_VC_RESERVED, 0, 1)] with plan := planN, ports := [(0, { timeNext := 0 })] }, by decide +kernel⟩,
  ⟨{ ty := tyTime, vc := 0, dest := 0, src := 0, check := bodyCrc [7, 3, 0, 0, 0, 0, 0, 0], body := [7, 3, 0, 0, 0, 0, 0, 0] },
    by decide +kernel⟩,
  ⟨{ st [(.TIME_STAT_SYNCED, 0, 1)] with clk := { ns := 100000000 } }, by decide +kernel⟩,
  ⟨.stair, 18446744073709551615, 65535, st [(.TIME_CFG_MASTER, 0, 1), (.NODE_ID_VALID, 0, 1)], by decide +kernel⟩,
  ⟨.stair, st [(.SLUICE_MODE_SERVICE, 0, 1)], by decide +kernel⟩,
  ⟨3, 0, { offset := 0, entries := [] }, { State.reset with plan := { gatesNext := [(3, 0, { offset := 0, entries := [] })] } },
    by decide +kernel⟩,
  ⟨-70000000000, State.reset, by decide +kernel⟩,
  ⟨70000000000, State.reset, by decide +kernel⟩,
  ⟨70000000000, State.reset, by decide +kernel⟩,
  ⟨-700, State.reset, by decide +kernel⟩,
  ⟨700, State.reset, by decide +kernel⟩,
  ⟨700, State.reset, by decide +kernel⟩,
  ⟨700, State.reset, by decide +kernel⟩,
  ⟨0, State.reset, by decide +kernel⟩⟩

theorem witness_AtticCommandsTakeEffect :
    (∃ (m : Master) (s : State), May s m .ATTIC_CMD_CMD)
    ∧ (∃ (m : Master) (s : State), (RegsOk s) ∧ (May s m .ATTIC_CMD_CMD) ∧ (s.level 2 < 2) ∧ (inActive s (s.get .ATTIC_SEL_WORD) =
      false))
    ∧ (∃ (m : Master) (s : State), (May s m .ATTIC_CMD_CMD) ∧ (2 ≤ s.level 2 ∨ inActive s (s.get .ATTIC_SEL_WORD) = true))
    ∧ (∃ (m : Master) (s : State), (May s m .ATTIC_CMD_CMD) ∧ (s.level 2 < 2) ∧ (inActive s (s.get .ATTIC_SEL_WORD) = false))
    ∧ (∃ (m : Master) (s : State), (RegsOk s) ∧ (May s m .ATTIC_CMD_CMD) ∧ (s.level 2 < 2)) :=
  ⟨⟨.stair, { st [(.ATTIC_SEL_WORD, 0, 100), (.ATTIC_DATA_DATA, 0, 77)] with power := { attic := [(100, 5)] } }, by decide +kernel⟩,
  ⟨.stair, { st [(.ATTIC_SEL_WORD, 0, 100), (.ATTIC_DATA_DATA, 0, 77)] with power := { attic := [(100, 5)] } }, by decide +kernel⟩,
  ⟨.stair, st [(.FAULT_STAT_LEVEL, 2, 2)], by decide +kernel⟩,
  ⟨.stair, { st [(.ATTIC_SEL_WORD, 0, 100), (.ATTIC_DATA_DATA, 0, 77)] with power := { attic := [(100, 5)] } }, by decide +kernel⟩,
  ⟨.stair, { st [(.OPT_STAT_GEN, 0, 4294967295)] with power := { attic := [(3, 5), (35, 9)] } }, by decide +kernel⟩⟩

theorem witness_DomainsSwitch :
    (∃ (m : Master) (d : Nat) (w : Word) (s : State), (RegsOk s) ∧ (May s m .DOMAIN_TARGET_LO_TARGET) ∧ (d < 64) ∧ (s.power.trans =
      []) ∧ ((∀ e, e < 80 → domainTarget s e = s.domainOn e)) ∧ (s.domainOn d = false) ∧ (w.toNat = s.get .DOMAIN_TARGET_LO_TARGET +
      2 ^ d))
    ∧ (∃ (m : Master) (w : Word) (s : State), (RegsOk s) ∧ (May s m .DOMAIN_TARGET_HI_TARGET) ∧ (s.power.trans = []) ∧ ((∀ e, e < 80
      → domainTarget s e = s.domainOn e)) ∧ (s.domainOn (72 + optPrimary s) = true) ∧ (w.toNat + 2 ^ (8 + optPrimary s) = s.get
      .DOMAIN_TARGET_HI_TARGET))
    ∧ (∃ (x : Trans) (s : State), (RegsOk s) ∧ (s.power.trans = [x]) ∧ (x.d < 80) ∧ ((∀ e, e < 80 → e ≠ x.d → domainTarget s e =
      s.domainOn e)) ∧ (domainTarget s x.d = x.on) ∧ (x.d = 79))
    ∧ (∃ (s : State), (RegsOk s) ∧ (s.power.trans = [{ d := 78, on := true }]) ∧ ((∀ e, e < 80 → e ≠ 78 → domainTarget s e =
      s.domainOn e)) ∧ (domainTarget s 78 = true)) :=
  ⟨⟨.stair, 63, wd (2 ^ 63), st [], by decide +kernel⟩,
  ⟨.stair, 0x4E00, st [], by decide +kernel⟩,
  ⟨{ d := 79, on := true }, { st [(.DOMAIN_TARGET_HI_TARGET, 0, 0xCF00)] with power := { trans := [{ d := 79, on := true }] } },
    by decide +kernel⟩,
  ⟨{ st [(.DOMAIN_STAT_HI_ON, 0, 0x0F00)] with power := { trans := [{ d := 78, on := true }] } }, by decide +kernel⟩⟩

theorem witness_StairFramesAddressedHereAreAnswered :
    (∃ (f : StairFrame) (s : State) (addr : Nat) (w : Word) (s1 : State), (f.crcErr % 65536 = 0) ∧ (f.step ≠ 0) ∧ (s.flag
      .STAIR_STAT_VALID = true) ∧ (s.get .STAIR_STAT_STEP = f.step) ∧ (s.level 1 < 2) ∧ (s.power.inReset = false) ∧ (spaceRead
      .stair (stairAccess addr) s = (some w, s1)))
    ∧ (∃ (f : StairFrame) (s : State), (f.crcErr % 65536 = 0) ∧ (f.step ≠ 0) ∧ (s.flag .STAIR_STAT_VALID = true) ∧ (s.get
      .STAIR_STAT_STEP = f.step) ∧ (s.level 1 < 2) ∧ (s.power.inReset = false))
    ∧ (∃ (f : StairFrame) (s : State), (f.crcErr % 65536 = 0) ∧ (f.step ≠ 0) ∧ (s.flag .STAIR_STAT_VALID = true) ∧ (s.get
      .STAIR_STAT_STEP = f.step) ∧ (s.level 1 < 2))
    ∧ (∃ (f : StairFrame) (s : State) (k : Nat), (f.crcErr % 65536 = 0) ∧ (f.step ≠ 0) ∧ (s.flag .STAIR_STAT_VALID = true) ∧ (s.get
      .STAIR_STAT_STEP = f.step) ∧ (s.level 1 < 2) ∧ (k % 256 ≠ 0x42))
    ∧ (∃ (f : StairFrame) (s : State), (f.crcErr % 65536 = 0) ∧ (f.step ≠ 0) ∧ (s.flag .STAIR_STAT_VALID = true) ∧ (s.get
      .STAIR_STAT_STEP = f.step) ∧ (s.level 1 < 2) ∧ (s.power.inReset = false))
    ∧ (∃ (f : StairFrame) (s : State), (f.crcErr % 65536 = 0) ∧ (f.step ≠ 0) ∧ (s.flag .STAIR_STAT_VALID = true) ∧ (s.get
      .STAIR_STAT_STEP = f.step) ∧ (s.level 1 < 2) ∧ (s.power.inReset = true))
    ∧ (∃ (f : StairFrame) (s : State), (f.crcErr % 65536 = 0) ∧ (f.step ≠ 0) ∧ (s.flag .STAIR_STAT_VALID = true) ∧ (s.get
      .STAIR_STAT_STEP = f.step) ∧ (s.level 1 < 2) ∧ (s.power.inReset = true)) :=
  ⟨⟨{ tag := 5, step := 63 }, st [(.STAIR_STAT_VALID, 0, 1), (.STAIR_STAT_STEP, 0, 63)], 0x308, ((spaceRead .stair (stairAccess
    (0x308 : Nat)) (st [(.STAIR_STAT_VALID, 0, 1), (.STAIR_STAT_STEP, 0, 63)] : State)).1).getD 0, (spaceRead .stair (stairAccess
    (0x308 : Nat)) (st [(.STAIR_STAT_VALID, 0, 1), (.STAIR_STAT_STEP, 0, 63)] : State)).2, by decide +kernel⟩,
  ⟨{ tag := 5, step := 63 }, st [(.STAIR_STAT_VALID, 0, 1), (.STAIR_STAT_STEP, 0, 63)], by decide +kernel⟩,
  ⟨{ tag := 5, step := 63 }, st [(.STAIR_STAT_VALID, 0, 1), (.STAIR_STAT_STEP, 0, 63), (.OP_CTRL_OP_POINT, 0, 2)],
    by decide +kernel⟩,
  ⟨{ tag := 5, step := 63 }, st [(.STAIR_STAT_VALID, 0, 1), (.STAIR_STAT_STEP, 0, 63)], 0, by decide +kernel⟩,
  ⟨{ tag := 5, step := 63 }, st [(.STAIR_STAT_VALID, 0, 1), (.STAIR_STAT_STEP, 0, 63)], by decide +kernel⟩,
  ⟨{ tag := 5, step := 63 }, { st [(.STAIR_STAT_VALID, 0, 1), (.STAIR_STAT_STEP, 0, 63)] with power := { inReset := true } },
    by decide +kernel⟩,
  ⟨{ tag := 5, step := 63 }, { st [(.STAIR_STAT_VALID, 0, 1), (.STAIR_STAT_STEP, 0, 63)] with power := { inReset := true } },
    by decide +kernel⟩⟩

theorem witness_StairFramesPassAndLocksShow :
    (∃ (f : StairFrame) (s : State), (f.step ≠ 0) ∧ (s.flag .STAIR_STAT_VALID = false ∨ s.get .STAIR_STAT_STEP ≠ f.step) ∧ (s.flag
      .STAIR_STAT_CHAIN_END = false))
    ∧ (∃ (f : StairFrame) (s : State), (f.step ≠ 0) ∧ (s.flag .STAIR_STAT_VALID = false ∨ s.get .STAIR_STAT_STEP ≠ f.step) ∧ (s.flag
      .STAIR_STAT_CHAIN_END = false))
    ∧ (∃ (f : StairFrame) (s : State), (f.step ≠ 0) ∧ (s.flag .STAIR_STAT_VALID = false ∨ s.get .STAIR_STAT_STEP ≠ f.step) ∧ (s.flag
      .STAIR_STAT_CHAIN_END = false))
    ∧ (∃ (f : StairFrame) (s : State), (f.step ≠ 0) ∧ (s.flag .STAIR_STAT_VALID = false ∨ s.get .STAIR_STAT_STEP ≠ f.step) ∧ (s.flag
      .STAIR_STAT_CHAIN_END = false))
    ∧ (∃ (f : StairFrame) (s : State), (f.step ≠ 0) ∧ (s.flag .STAIR_STAT_VALID = false ∨ s.get .STAIR_STAT_STEP ≠ f.step) ∧ (s.flag
      .STAIR_STAT_CHAIN_END = true) ∧ (s.flag .STAIR_STAT_VALID = true) ∧ (f.crcErr % 65536 = 0) ∧ (s.level 1 < 2))
    ∧ (∃ (f : StairFrame) (s : State), (f.step ≠ 0) ∧ (s.flag .STAIR_STAT_VALID = false ∨ s.get .STAIR_STAT_STEP ≠ f.step) ∧ (s.flag
      .STAIR_STAT_CHAIN_END = true) ∧ (s.flag .STAIR_STAT_VALID = true) ∧ (f.crcErr % 65536 = 0) ∧ (s.level 1 < 2))
    ∧ (∃ (f : StairFrame) (s : State), (f.step = 0) ∧ (s.flag .STAIR_STAT_CHAIN_END = false))
    ∧ (∃ (f : StairFrame) (s : State), (f.step = 0) ∧ (s.flag .STAIR_STAT_CHAIN_END = true) ∧ (s.flag .STAIR_STAT_VALID = true) ∧
      (f.crcErr % 65536 = 0) ∧ (s.level 1 < 2))
    ∧ (∃ (f : StairFrame), f.crcErr % 65536 ≠ 0) :=
  ⟨⟨{ tag := 15, step := 64, crcErr := 9 }, st [(.STAIR_STAT_VALID, 0, 1), (.STAIR_STAT_STEP, 0, 63)], by decide +kernel⟩,
  ⟨{ tag := 15, step := 64, crcErr := 9 }, st [(.STAIR_STAT_VALID, 0, 1), (.STAIR_STAT_STEP, 0, 63)], by decide +kernel⟩,
  ⟨{ tag := 15, step := 64, crcErr := 9 }, st [(.STAIR_STAT_VALID, 0, 1), (.STAIR_STAT_STEP, 0, 63)], by decide +kernel⟩,
  ⟨{ tag := 15, step := 64, crcErr := 9 }, st [(.STAIR_STAT_VALID, 0, 1), (.STAIR_STAT_STEP, 0, 63)], by decide +kernel⟩,
  ⟨{ tag := 15, step := 64 }, st [(.STAIR_STAT_VALID, 0, 1), (.STAIR_STAT_STEP, 0, 63), (.STAIR_STAT_CHAIN_END, 0, 1)],
    by decide +kernel⟩,
  ⟨{ tag := 15, step := 64 }, st [(.STAIR_STAT_VALID, 0, 1), (.STAIR_STAT_STEP, 0, 63), (.STAIR_STAT_CHAIN_END, 0, 1)],
    by decide +kernel⟩,
  ⟨{ tag := 15, step := 0 }, st [(.STAIR_STAT_VALID, 0, 1), (.STAIR_STAT_STEP, 0, 63)], by decide +kernel⟩,
  ⟨{ tag := 15, step := 0 }, st [(.STAIR_STAT_VALID, 0, 1), (.STAIR_STAT_STEP, 0, 63), (.STAIR_STAT_CHAIN_END, 0, 1)],
    by decide +kernel⟩,
  ⟨{ tag := 15, step := 64, crcErr := 9 }, by decide +kernel⟩⟩

theorem witness_StairEnumGivesAddresses :
    (∃ (f : StairFrame), (f.crcErr % 65536 = 0) ∧ (1 ≤ f.step) ∧ (f.step < 64))
    ∧ (∃ (f : StairFrame), (f.crcErr % 65536 = 0) ∧ (64 ≤ f.step))
    ∧ (∃ (f : StairFrame), (f.crcErr % 65536 = 0) ∧ (f.step = 0)) :=
  ⟨⟨{ tag := 1, step := 63 }, by decide +kernel⟩,
  ⟨{ tag := 1, step := 64 }, by decide +kernel⟩,
  ⟨{ tag := 1, step := 0 }, by decide +kernel⟩⟩

theorem witness_PlanSessionsLoad :
    (∃ (m : Master) (s : State), (May s m .FPLAN_CTRL_OPEN) ∧ (sessionOpen s = false) ∧ (openAccepted s = true))
    ∧ (∃ (m : Master) (s : State), (May s m .FPLAN_DATA_WORD) ∧ (s.get .FPLAN_STAT_STATE = 1) ∧ (s.session.owner = some (masterId
      m)) ∧ (s.get .FPLAN_STAT_WORDS < 131072) ∧ (s.get .FPLAN_STAT_WORDS < 2 ∨ s.get .FPLAN_STAT_WORDS < hLength s.session.words))
    ∧ (∃ (m : Master) (s : State), (May s m .FPLAN_DATA_WORD) ∧ (s.get .FPLAN_STAT_STATE = 1) ∧ (s.session.owner = some (masterId
      m)) ∧ (131072 ≤ s.get .FPLAN_STAT_WORDS ∨ (2 ≤ s.get .FPLAN_STAT_WORDS ∧ hLength s.session.words ≤ s.get .FPLAN_STAT_WORDS)))
    ∧ (∃ (m : Master) (s : State), (May s m .FPLAN_CTRL_COMMIT) ∧ (s.get .FPLAN_STAT_STATE = 1) ∧ (s.session.owner = some (masterId
      m)))
    ∧ (∃ (m : Master) (s : State), (May s m .FPLAN_CTRL_ABORT) ∧ (abortable s = true) ∧ (s.session.owner = some (masterId m)))
    ∧ (∃ (s : State), (s.get .FPLAN_STAT_STATE = 1) ∧ (Due s (s.session.lastNs + 100000000))) :=
  ⟨⟨.stair, st [(.BOOT_STAT_PHASE, 0, 5)], by decide +kernel⟩,
  ⟨.stair, { st [(.FPLAN_STAT_STATE, 0, 1), (.FPLAN_STAT_WORDS, 0, 2)] with session := { owner := some 4, words := [0, 34] } },
    by decide +kernel⟩,
  ⟨.stair, { st [(.FPLAN_STAT_STATE, 0, 1), (.FPLAN_STAT_WORDS, 0, 2)] with session := { owner := some 4, words := [0, 2] } },
    by decide +kernel⟩,
  ⟨.stair, { st [(.FPLAN_STAT_STATE, 0, 1), (.FPLAN_STAT_WORDS, 0, 2)] with session := { owner := some 4, words := [0, 2] } },
    by decide +kernel⟩,
  ⟨.stair, { st [(.FPLAN_STAT_STATE, 0, 2)] with session := { owner := some 4, words := [0, 2] } }, by decide +kernel⟩,
  ⟨{ st [(.FPLAN_STAT_STATE, 0, 1)] with session := { owner := some 4, words := [0, 2] }, clk := { ns := 100000000 } },
    by decide +kernel⟩⟩

theorem witness_PlansAreVerifiedAndApplied :
    (∃ (b : Bad) (s : State), (s.get .FPLAN_STAT_STATE = 2) ∧ (verifyPlan s = .inl b))
    ∧ (∃ (secs : List PlanSec) (s : State), (s.get .FPLAN_STAT_STATE = 2) ∧ (checkHeader s.session.kind s.session.words = none) ∧
      (checkSections (hKind s.session.words == 0) s.session.words (hSections s.session.words) 0 0 8 (startCtx (hKind s.session.words
      == 0) s) = .inr secs) ∧ (checkInstalled s.session.words secs s = none))
    ∧ (∃ (secs : List PlanSec) (s : State), (s.get .FPLAN_STAT_STATE = 2) ∧ (verifyPlan s = .inr secs))
    ∧ (∃ (s : State), (s.get .FPLAN_STAT_STATE = 4) ∧ (s.session.kind = 0))
    ∧ (∃ (s : State), (s.get .FPLAN_STAT_STATE = 4) ∧ (s.session.kind = 1) ∧ (checkLive s (sessionSections s) = none))
    ∧ (∃ (s : State) (s1 : State), (s.get .FPLAN_STAT_STATE = 3) ∧ (hActivate s.session.words ≤ s.netNs) ∧ (s1 = s.set
      .FPLAN_STAT_STATE 4) ∧ (checkLive s1 (sessionSections s1) = none))
    ∧ (∃ (s : State), (s.get .FPLAN_STAT_STATE = 3) ∧ (s.netNs < hActivate s.session.words))
    ∧ (∃ (b : Bad) (s : State), (s.get .FPLAN_STAT_STATE = 4) ∧ (s.session.kind = 1) ∧ (checkLive s (sessionSections s) = some b)) :=
  ⟨⟨{ cause := 1, ty := 0, word := 0 }, { st [(.FPLAN_STAT_STATE, 0, 2)] with session := { owner := some 4, words := [0, 2] } },
    by decide +kernel⟩,
  ⟨[],
    { st [(.FPLAN_STAT_STATE, 0, 2)] with session := { kind := 1, owner := some 4, words := planHdr 1 0 34 ++ List.replicate 26 0 }, plan := { installed := true } },
    by decide +kernel⟩,
  ⟨[],
    { st [(.FPLAN_STAT_STATE, 0, 2)] with session := { kind := 1, owner := some 4, words := planHdr 1 0 34 ++ signedTrailer, shadow := signedShadow }, plan := { installed := true } },
    by decide +kernel⟩,
  ⟨{ st [(.FPLAN_STAT_STATE, 0, 4), (.SLUICE_MODE_SERVICE, 0, 1)] with session := { words := planFull } }, by decide +kernel⟩,
  ⟨{ st [(.FPLAN_STAT_STATE, 0, 4)] with session := { kind := 1, words := planRole }, plan := { installed := true } },
    by decide +kernel⟩,
  ⟨{ st [(.FPLAN_STAT_STATE, 0, 3)] with session := { kind := 1, words := planRole }, plan := { installed := true } },
    ({ st [(.FPLAN_STAT_STATE, 0, 3)] with session := { kind := 1, words := planRole }, plan := { installed := true } } : State).set
    .FPLAN_STAT_STATE 4, by decide +kernel⟩,
  ⟨{ st [(.FPLAN_STAT_STATE, 0, 3)] with session := { kind := 1, owner := some 4, words := (planHdr 1 0 34).set 6 70000 }, plan := { installed := true } },
    by decide +kernel⟩,
  ⟨{ cause := 14, ty := 2, word := 10 },
    { st [(.FPLAN_STAT_STATE, 0, 4), (.PORT_STAT_STATE, 0, 3), (.DOMAIN_STAT_LO_ON, 0, 1)] with session := { kind := 1, words := planRole }, plan := { installed := true } },
    by decide +kernel⟩⟩

theorem witness_DumpsAndSnapshotsFreeze :
    (∃ (s : State), (Due s s.count.dumpAt) ∧ (dumpsRun s = true) ∧ (recordFree s = true) ∧ (s.count.writing = none))
    ∧ (∃ (s : State), (Due s s.count.dumpAt) ∧ (dumpsRun s = true) ∧ (recordFree s = false ∨ s.count.writing.isSome = true))
    ∧ (∃ (f : FreezeHdr) (s : State), (s.count.writing = some false) ∧ (s.count.hdrD = some f))
    ∧ (∃ (f : FreezeHdr) (s : State), (s.count.writing = some true) ∧ (s.count.hdrS = some f))
    ∧ (∃ (m : Master) (s : State), (May s m .SNAP_CTRL_ARM) ∧ (s.netNs ≤ s.get .SNAP_AT_NS))
    ∧ (∃ (m : Master) (s : State), (May s m .SNAP_CTRL_ARM) ∧ (s.get .SNAP_AT_NS < s.netNs) ∧ (s.flag .COUNT_MODE_METHOD = true) ∧
      (s.domainOn 79 = true) ∧ (s.level 12 < 2) ∧ (s.flag .COUNT_STAT_SNAP_PENDING = false))
    ∧ (∃ (m : Master) (s : State), May s m .SNAP_CTRL_DISARM)
    ∧ (∃ (s : State), (s.count.armed = true) ∧ (s.count.armAt ≤ s.netNs) ∧ (s.flag .COUNT_MODE_METHOD = true) ∧ (s.domainOn 79 =
      true) ∧ (s.level 12 < 2) ∧ (s.flag .COUNT_STAT_SNAP_PENDING = false))
    ∧ (∃ (s : State), (s.count.armed = true) ∧ (s.count.armAt ≤ s.netNs) ∧ (s.flag .COUNT_MODE_METHOD = false))
    ∧ (∃ (s : State), (s.flag .COUNT_STAT_SNAP_PENDING = true) ∧ (s.count.writing = none) ∧ (recordFree s = true) ∧ (engineRuns s =
      true)) :=
  ⟨⟨{ st [(.DOMAIN_STAT_HI_ON, 0, 0xCF00), (.DUMP_CFG_ENABLE, 0, 1)] with count := { ctr := [(3, 7), (100, 2)], dumpSeq := 15 } },
    by decide +kernel⟩,
  ⟨{ st [(.DOMAIN_STAT_HI_ON, 0, 0xCF00), (.DUMP_CFG_ENABLE, 0, 1)] with count := { ctr := [(3, 7), (100, 2)], dumpSeq := 16 } },
    by decide +kernel⟩,
  ⟨{ ns := 1, frac := 2, synced := true, late := false, level := 0, snapAt := 3, seq := 4 },
    { st [(.DUMP_BASE_BASE, 0, 5)] with count := { ctr := [(3, 7), (100, 2)], dumpSeq := 17, writing := some false, hdrD := some { ns := 1, frac := 2, synced := true, late := false, level := 0, snapAt := 3, seq := 4 }, skipped := 3 } },
    by decide +kernel⟩,
  ⟨{ ns := 1, frac := 2, synced := true, late := false, level := 0, snapAt := 3, seq := 4 },
    { st [(.COUNT_STAT_SNAP_PENDING, 0, 1)] with count := { ctr := [(3, 7), (100, 2)], dumpSeq := 4294967295, writing := some true, hdrS := some { ns := 1, frac := 2, synced := true, late := false, level := 0, snapAt := 3, seq := 4 } } },
    by decide +kernel⟩,
  ⟨.stair, st [(.SNAP_AT_NS, 0, 90)], by decide +kernel⟩,
  ⟨.stair,
    { st [(.DOMAIN_STAT_HI_ON, 0, 0xCF00), (.COUNT_MODE_METHOD, 0, 1)] with count := { ctr := [(3, 7), (100, 2)] }, clk := { net := 70000 } },
    by decide +kernel⟩,
  ⟨.stair, { st [(.COUNT_STAT_SNAP_ARMED, 0, 1)] with count := { armed := true, jumped := true } }, by decide +kernel⟩,
  ⟨{ st [(.DOMAIN_STAT_HI_ON, 0, 0xCF00), (.COUNT_MODE_METHOD, 0, 1), (.COUNT_STAT_SNAP_ARMED, 0, 1)] with count := { ctr := [(3, 7), (100, 2)], armed := true, armAt := 1 }, clk := { net := 70000 } },
    by decide +kernel⟩,
  ⟨{ st [(.DOMAIN_STAT_HI_ON, 0, 0xCF00), (.COUNT_STAT_SNAP_ARMED, 0, 1)] with count := { ctr := [(3, 7), (100, 2)], armed := true, armAt := 1 }, clk := { net := 70000 } },
    by decide +kernel⟩,
  ⟨{ st [(.DOMAIN_STAT_HI_ON, 0, 0xCF00), (.COUNT_STAT_SNAP_PENDING, 0, 1)] with count := { ctr := [(3, 7), (100, 2)] } },
    by decide +kernel⟩⟩

theorem witness_DetectedErrorsRaiseFaults :
    (∃ (q : QueueId), (queueExists q = true) ∧ ((∀ i, q ≠ .cellarClient i)))
    ∧ (∃ (a : ArrayAt), classOf a.block 20 = true)
    ∧ (∃ (a : ArrayAt), classOf a.block 20 = true) :=
  ⟨⟨.hallTx 71 7, by refine ⟨?_, (fun _ h => by cases h)⟩ <;> decide +kernel⟩,
  ⟨{ block := 6, unit := 0 }, by decide +kernel⟩,
  ⟨{ block := 9, unit := 0 }, by decide +kernel⟩⟩

theorem witness_FaultGroupsFollowTheirRules :
    (∃ (b : Nat) (at1 : Nat) (s : State), (Tab.find? s.fault.quietAt b = some at1) ∧ (Due s at1) ∧ (s.flag .FAULT_STAT_STICKY b =
      false) ∧ (s.level b = 1 ∨ s.level b = 2) ∧ (s.flag .FAULT_STAT_PARITY_STANDING b = false) ∧ (b ∉ s.fault.l3))
    ∧ (∃ (b : Nat) (at1 : Nat) (s : State), (Tab.find? s.fault.quietAt b = some at1) ∧ (Due s at1) ∧ (s.flag .FAULT_STAT_STICKY b =
      true))
    ∧ (∃ (m : Master) (b : Nat) (mask : Nat) (s : State), (RegsOk s) ∧ (b ∈ blockIds) ∧ (May s m .FAULT_ACK_ACK) ∧ (mask < 2 ^ 64))
    ∧ (∃ (m : Master) (b : Nat) (cls : Nat) (s : State), (b ∈ blockIds) ∧ (May s m .FAULT_INJECT_GO) ∧ (May s m .FAULT_INJECT_CLASS)
      ∧ (cls < 64) ∧ (classOf b cls = true))
    ∧ (∃ (m : Master) (b : Nat) (cls : Nat) (s : State), (b ∈ blockIds) ∧ (May s m .FAULT_INJECT_GO) ∧ (May s m .FAULT_INJECT_CLASS)
      ∧ (cls < 64) ∧ (classOf b cls = false))
    ∧ (∃ (site : ParitySite) (s : State), (siteBlock site ∈ blockIds) ∧ (s.fault.standing.any (sameSite site) = false))
    ∧ (∃ (b : Nat), b ∈ blockIds) :=
  ⟨⟨6, 7,
    { st [(.FAULT_STAT_LEVEL, 6, 2), (.FAULT_STAT_FIRST_CLASS, 6, 3), (.FAULT_UNACK_UNACK, 6, 4), (.DEV_FAULT_LEVEL, 0, 2)] with fault := { quietAt := [(6, 7)] }, clk := { ns := 7 } },
    by decide +kernel⟩,
  ⟨6, 7,
    { st [(.FAULT_STAT_LEVEL, 6, 2), (.FAULT_STAT_STICKY, 6, 1), (.FAULT_UNACK_UNACK, 6, 4)] with fault := { quietAt := [(6, 7)] }, clk := { ns := 7 } },
    by decide +kernel⟩,
  ⟨.stair, 87, 2 ^ 63 + 8, st [(.FAULT_UNACK_UNACK, 87, 2 ^ 62 + 5), (.FAULT_UNACK_UNACK, 86, 1)], by decide +kernel⟩,
  ⟨.stair, 7, 26, State.reset, by decide +kernel⟩,
  ⟨.stair, 7, 10, State.reset, by decide +kernel⟩,
  ⟨.reg 9 16, State.reset, by decide +kernel⟩,
  ⟨0, by decide +kernel⟩⟩

theorem witness_HostSideResetAndHold :
    (∃ (m : Master) (s : State), (May s m .DEV_FAULT_CTRL_HOST_RESET) ∧ (s.flag .DEV_FAULT_HOST_RESET_BUSY = false) ∧ (s.devLevel <
      4))
    ∧ (∃ (s : State), (s.flag .DEV_FAULT_HOST_RESET_BUSY = true) ∧ (s.fault.standing = []) ∧ (untrained s = false))
    ∧ (∃ (m : Master) (v : Nat) (s : State), (May s m .DEV_FAULT_CTRL_L4_HOLD) ∧ (v % 2 = 1))
    ∧ (∃ (m : Master) (v : Nat) (s : State), (May s m .DEV_FAULT_CTRL_L4_HOLD) ∧ (v % 2 = 0)) :=
  ⟨⟨.stair,
    { st [(.PORCH_STAT_ACTIVE, 0, 1)] with porch := { rooms := [(4, { st := 1 })], fetchQ := [{ room := 4, entry := [] }] }, rake := { waiters := [2] }, crystal := { nextId := 3 } },
    by decide +kernel⟩,
  ⟨{ st [(.DEV_FAULT_HOST_RESET_BUSY, 0, 1), (.FAULT_STAT_LEVEL, 9, 3), (.DEV_FAULT_LEVEL, 0, 3), (.FAULT_UNACK_UNACK, 9, 3)] with fault := { l3 := [9] } },
    by decide +kernel⟩,
  ⟨.stair, 3, { st [(.DEV_FAULT_L4_RESET_PENDING, 0, 1)] with fault := { l4At := some 5 } }, by decide +kernel⟩,
  ⟨.stair, 2, st [(.DEV_FAULT_CTRL_L4_HOLD, 0, 1)], by decide +kernel⟩⟩

theorem witness_SuspectsAndFencesFollowTheirRules :
    (∃ (e : Nat) (x : Suspect) (s : State), (Tab.find? s.fault.suspects e = some x) ∧ (x.st = 1) ∧ (Due s x.until_) ∧ (s.fenced
      x.node = true ∨ x.fenceSeen = true))
    ∧ (∃ (e : Nat) (x : Suspect) (s : State), (Tab.find? s.fault.suspects e = some x) ∧ (x.st = 1) ∧ (Due s x.until_) ∧ (s.fenced
      x.node = false) ∧ (x.fenceSeen = false))
    ∧ (∃ (e : Nat) (x : Suspect) (s : State), (Tab.find? s.fault.suspects e = some x) ∧ (x.st = 2) ∧ (Due s x.until_) ∧ (x.rpt =
      false ∨ s.fenced x.node = true))
    ∧ (∃ (e : Nat) (x : Suspect) (s : State), (Tab.find? s.fault.suspects e = some x) ∧ (x.st = 2) ∧ (Due s x.until_) ∧ (x.rpt =
      true) ∧ (s.fenced x.node = false))
    ∧ (∃ (m : Master) (x : Nat) (s : State), (May s m .FENCE_CMD_CMD) ∧ (x < 131072) ∧ (s.fenced x = false))
    ∧ (∃ (m : Master) (x : Nat) (s : State), (May s m .FENCE_CMD_CMD) ∧ (x < 131072) ∧ (s.fenced x = true))
    ∧ (∃ (m : Master) (s : State), May s m .FENCE_CMD_CMD)
    ∧ (∃ (m : Master) (s : State), May s m .FENCE_DATA_BITS)
    ∧ (∃ (m : Master) (x : Nat) (s : State), (May s m .FENCE_CMD_CMD) ∧ (x < 131072) ∧ (s.fenced x = true))
    ∧ (∃ (m : Master) (x : Nat) (s : State), (May s m .FENCE_CMD_CMD) ∧ (x < 131072) ∧ (s.fenced x = false)) :=
  ⟨⟨63, { node := 131071, st := 1, kind := 1, until_ := 7 },
    { st [] with fault := { suspects := [(63, { node := 131071, st := 1, kind := 1, until_ := 7 })], fences := [131071] }, clk := { ns := 7 } },
    by decide +kernel⟩,
  ⟨63, { node := 131071, st := 1, kind := 1, until_ := 7 },
    { st [(.SUSPECT_CFG_FM_VALID, 0, 1), (.SUSPECT_CFG_FM_NODE, 0, 9)] with fault := { suspects := [(63, { node := 131071, st := 1, kind := 1, until_ := 7 })] }, clk := { ns := 7 } },
    by decide +kernel⟩,
  ⟨63, { node := 131071, st := 2, kind := 1, until_ := 7 },
    { st [] with fault := { suspects := [(63, { node := 131071, st := 2, kind := 1, until_ := 7 })] }, clk := { ns := 7 } },
    by decide +kernel⟩,
  ⟨63, { node := 131071, st := 2, kind := 1, until_ := 7, rpt := true },
    { st [] with fault := { suspects := [(63, { node := 131071, st := 2, kind := 1, until_ := 7, rpt := true })] }, clk := { ns := 7 } },
    by decide +kernel⟩,
  ⟨.stair, 131071, { st [(.SLUICE_MODE_SERVICE, 0, 1)] with fault := { fences := [3] } }, by decide +kernel⟩,
  ⟨.stair, 131071, { st [(.SLUICE_MODE_SERVICE, 0, 1)] with fault := { fences := [3, 131071] } }, by decide +kernel⟩,
  ⟨.stair, { st [(.SLUICE_MODE_SERVICE, 0, 1)] with fault := { fences := [3, 131071] } }, by decide +kernel⟩,
  ⟨.stair, { st [(.FENCE_SEL_WORD, 0, 1)] with fault := { fences := [3, 65, 131071] } }, by decide +kernel⟩,
  ⟨.stair, 3, { st [] with fault := { fences := [3] } }, by decide +kernel⟩,
  ⟨.stair, 4, { st [] with fault := { fences := [3] } }, by decide +kernel⟩⟩

theorem witness_StrayAccessesAreRefused :
    (∃ (m : Master) (a : Access) (s : State), (reaches s m = true) ∧ (Plain m a) ∧ (OneAccess m a) ∧ (judge m a = .badWidth))
    ∧ (∃ (m : Master) (a : Access) (s : State), (reaches s m = true) ∧ (Plain m a) ∧ (OneAccess m a) ∧ (judge m a = .badWidth))
    ∧ (∃ (m : Master) (a : Access) (s : State), (reaches s m = true) ∧ (Plain m a) ∧ (judge m a = .unmapped))
    ∧ (∃ (m : Master) (a : Access) (s : State), (reaches s m = true) ∧ (Plain m a) ∧ (judge m a = .unmapped))
    ∧ (∃ (m : Master) (a : Access) (s : State), (reaches s m = true) ∧ (Plain m a) ∧ (judge m a = .nothing))
    ∧ (∃ (m : Master) (a : Access) (s : State), (reaches s m = true) ∧ (Plain m a) ∧ (judge m a = .nothing))
    ∧ (∃ (h : Nat) (s : State), hostReaches s h = false)
    ∧ (∃ (h : Nat) (s : State), hostReaches s h = false) :=
  ⟨⟨.stair, { addr := 8, bytes := 3 }, State.reset,
    by refine ⟨?_, (fun _ h => by cases h), (fun _ h => by cases h), ?_⟩ <;> decide +kernel⟩,
  ⟨.stair, { addr := 8, bytes := 3 }, State.reset,
    by refine ⟨?_, (fun _ h => by cases h), (fun _ h => by cases h), ?_⟩ <;> decide +kernel⟩,
  ⟨.stair, { addr := 0xE00000, bytes := 8 }, State.reset, by refine ⟨?_, (fun _ h => by cases h), ?_⟩ <;> decide +kernel⟩,
  ⟨.stair, { addr := 0xE00000, bytes := 8 }, State.reset, by refine ⟨?_, (fun _ h => by cases h), ?_⟩ <;> decide +kernel⟩,
  ⟨.stair, { addr := 0x400FF8, bytes := 8 }, State.reset, by refine ⟨?_, (fun _ h => by cases h), ?_⟩ <;> decide +kernel⟩,
  ⟨.stair, { addr := 0x400FF8, bytes := 8 }, State.reset, by refine ⟨?_, (fun _ h => by cases h), ?_⟩ <;> decide +kernel⟩,
  ⟨3, st [(.DOMAIN_STAT_HI_ON, 0, 0)], by decide +kernel⟩,
  ⟨3, st [(.DOMAIN_STAT_HI_ON, 0, 0)], by decide +kernel⟩⟩

theorem witness_RegistersStoreAndShow :
    (∃ (m : Master) (a : Access) (r : Reg) (i : Nat) (s : State), (RegsOk s) ∧ (reaches s m = true) ∧ (Plain m a) ∧ (privOf m ≠
      .user) ∧ (judge m a = .reg r i ⟨true, true⟩) ∧ (r.place.blk = .HALL))
    ∧ (∃ (m : Master) (a : Access) (r : Reg) (i : Nat) (s : State), (RegsOk s) ∧ (reaches s m = true) ∧ (Plain m a) ∧ (privOf m ≠
      .user) ∧ (judge m a = .reg r i ⟨true, true⟩) ∧ (r.place.blk = .HALL) ∧ (mismatched s r i = false))
    ∧ (∃ (h : Nat) (n : Nat) (addr : Nat) (s : State), (hostReaches s h = true) ∧ (1 < n) ∧ (n ≤ 8) ∧ (addr % 8 = 0)) :=
  ⟨⟨.stair, { addr := regAddr .HALL_ARB 0, bytes := 8 }, .HALL_ARB, 0, State.reset,
    by refine ⟨?_, ?_, (fun _ h => by cases h), ?_, ?_, ?_⟩ <;> decide +kernel⟩,
  ⟨.stair, { addr := regAddr .HALL_EVENTS 0, bytes := 8 }, .HALL_EVENTS, 0, st [(.HALL_EVENTS_NO_ROUTE_SEEN, 0, 1)],
    by refine ⟨?_, ?_, (fun _ h => by cases h), ?_, ?_, ?_, ?_⟩ <;> decide +kernel⟩,
  ⟨1, 2, regAddr .HALL_ARB 0, st [], by decide +kernel⟩⟩

theorem witness_MastersHaveTheirOwnCopies :
    (∃ (m : Master) (s : State), (RegsOk s) ∧ (MaySee s m .INT_PEND_LO_PEND) ∧ (mismatched s .INT_PEND_LO (masterId m) = false))
    ∧ (∃ (m : Master) (s : State), (RegsOk s) ∧ (MaySee s m .INT_PEND_HI_PEND) ∧ (mismatched s .INT_PEND_HI (masterId m) = false))
    ∧ (∃ (m : Master) (kind : Nat) (block : Nat) (index : Nat) (s : State), (May s m .WIDE_SEL_KIND) ∧ (kind < 16) ∧ (block < 256) ∧
      (index < 256)) :=
  ⟨⟨.host 1, st [(.INT_PEND_LO_PEND, masterId (.host 1), 5), (.INT_PEND_LO_PEND, 0, 3)], by decide +kernel⟩,
  ⟨.hk 3 true, st [(.INT_PEND_HI_PEND, masterId (.hk 3 true), 5)], by decide +kernel⟩,
  ⟨.host 0, 1, 6, 0, { st [] with clk := { net := 70000 }, fault := { hist := [(6, [{ ns := 5, hi := 7 }])] } }, by decide +kernel⟩⟩

theorem witness_MgmtRequestsAreAnswered :
    (∃ (c : Cell) (s : State), (s.devLevel ≠ 4) ∧ (mgmtRefused s c = true) ∧ (isMgmt 0 c = true))
    ∧ (∃ (c : Cell) (s : State), (s.devLevel ≠ 4) ∧ (mgmtRefused s c = true) ∧ (isMgmt 1 c = true))
    ∧ (∃ (c : Cell) (s : State), (s.devLevel ≠ 4) ∧ (mgmtRefused s c = false) ∧ (16 ≤ s.mgmt.queue.length) ∧ (isMgmt 0 c = true))
    ∧ (∃ (c : Cell) (w : Word) (s : State) (s1 : State), (s.devLevel ≠ 4) ∧ (mgmtRefused s c = false) ∧ (s.mgmt.queue.length < 16) ∧
      (isMgmt 0 c = true) ∧ (spaceRead (.mgmt (fromManager s c)) (mgmtAccess c) s = (some w, s1)))
    ∧ (∃ (c : Cell) (s : State), (s.devLevel ≠ 4) ∧ (mgmtRefused s c = false) ∧ (s.mgmt.queue.length < 16) ∧ (isMgmt 1 c = true)) :=
  ⟨⟨cl tyMgmt 0 [wd (0 + 7 * 2 ^ 16), wd (regAddr .HALL_ARB 0), 0x135] 5, st [(.MGMT_CFG_ENABLE, 0, 1), (.MGMT_CFG_MGR_NODE, 0, 9)],
    by decide +kernel⟩,
  ⟨cl tyMgmt 0 [wd (1 + 7 * 2 ^ 16), wd (regAddr .HALL_ARB 0), 0x135] 5, st [(.MGMT_CFG_ENABLE, 0, 1), (.MGMT_CFG_MGR_NODE, 0, 9)],
    by decide +kernel⟩,
  ⟨cl tyMgmt 0 [wd (0 + 7 * 2 ^ 16), wd (regAddr .HALL_ARB 0), 0x135] 9,
    { st [(.MGMT_CFG_ENABLE, 0, 1), (.MGMT_CFG_MGR_NODE, 0, 9)] with mgmt := { queue := List.replicate 16 (0, { ty := 0, vc := 0, dest := 0, src := 0 }) } },
    by decide +kernel⟩,
  ⟨cl tyMgmt 0 [wd (0 + 7 * 2 ^ 16), wd (regAddr .HALL_ARB 0), 0x135] 9, ((spaceRead (.mgmt (fromManager (st [(.MGMT_CFG_ENABLE, 0,
    1), (.MGMT_CFG_MGR_NODE, 0, 9)] : State) (cl tyMgmt 0 [wd (0 + 7 * 2 ^ 16), wd (regAddr .HALL_ARB 0), 0x135] 9 : Cell)))
    (mgmtAccess (cl tyMgmt 0 [wd (0 + 7 * 2 ^ 16), wd (regAddr .HALL_ARB 0), 0x135] 9 : Cell)) (st [(.MGMT_CFG_ENABLE, 0, 1),
    (.MGMT_CFG_MGR_NODE, 0, 9)] : State)).1).getD 0, st [(.MGMT_CFG_ENABLE, 0, 1), (.MGMT_CFG_MGR_NODE, 0, 9)], (spaceRead (.mgmt
    (fromManager (st [(.MGMT_CFG_ENABLE, 0, 1), (.MGMT_CFG_MGR_NODE, 0, 9)] : State) (cl tyMgmt 0 [wd (0 + 7 * 2 ^ 16), wd (regAddr
    .HALL_ARB 0), 0x135] 9 : Cell))) (mgmtAccess (cl tyMgmt 0 [wd (0 + 7 * 2 ^ 16), wd (regAddr .HALL_ARB 0), 0x135] 9 : Cell)) (st
    [(.MGMT_CFG_ENABLE, 0, 1), (.MGMT_CFG_MGR_NODE, 0, 9)] : State)).2, by decide +kernel⟩,
  ⟨cl tyMgmt 0 [wd (1 + 7 * 2 ^ 16), wd (regAddr .HALL_ARB 0), 0x135] 9, st [(.MGMT_CFG_ENABLE, 0, 1), (.MGMT_CFG_MGR_NODE, 0, 9)],
    by decide +kernel⟩⟩

theorem witness_HallMovesCells :
    (∃ (p : Nat) (x : LCell) (r : List LCell) (s : State), (p < 72) ∧ ((s.port p).landing = x :: r) ∧ (x.held = false))
    ∧ (∃ (p : Nat) (vc : Nat) (q : Option Nat) (h : HCell) (s : State), (p < 72) ∧ (s.hall.waiting = [h]) ∧ (h.multicast = false) ∧
      (h.wantPin = false) ∧ (expired s h.stamp = false) ∧ (request s h = .port p vc q) ∧ (1 ≤ s.get .HALL_ARB_W_TREE) ∧ (1 ≤ s.get
      .HALL_ARB_W_REQ) ∧ (1 ≤ s.get .HALL_ARB_W_RESP))
    ∧ (∃ (p : Nat) (h : HCell) (s : State), (p < 72) ∧ (s.hall.waiting = [h]) ∧ (h.multicast = true) ∧ (h.copies = [p]) ∧ (expired s
      h.stamp = false) ∧ (s.avail p = true) ∧ (credit s p 1 = true) ∧ (1 ≤ s.get .HALL_ARB_W_TREE))
    ∧ (∃ (h : HCell) (s : State), (s.hall.waiting = [h]) ∧ (h.multicast = false) ∧ (h.wantPin = false) ∧ (expired s h.stamp = false)
      ∧ (h.cell.dest = s.own) ∧ (h.cell.vc ≠ 0) ∧ (h.cell.vc ≠ 1) ∧ (h.cell.ty ≠ tyFault) ∧ (h.cell.ty ≠ tySuspect) ∧ (ejectRoom s
      78 h = true) ∧ (s.devLevel < 3) ∧ (1 ≤ s.get .HALL_ARB_W_REQ) ∧ (1 ≤ s.get .HALL_ARB_W_RESP))
    ∧ (∃ (h : HCell) (s : State), (s.hall.waiting = [h]) ∧ (h.multicast = false) ∧ (expired s h.stamp = false) ∧ (request s h =
      .noRoute))
    ∧ (∃ (i : Nat) (p : Nat) (vc : Nat) (q : Option Nat) (h : HCell) (s : State), (p < 72) ∧ (s.hall.waiting = [h]) ∧ (h.input = i)
      ∧ (h.multicast = false) ∧ (isPinned h = true) ∧ (h.pinWait.isSome = true) ∧ (expired s h.stamp = false) ∧ (request s h = .port
      p vc q) ∧ (1 ≤ s.get .HALL_ARB_W_TREE) ∧ (1 ≤ s.get .HALL_ARB_W_REQ) ∧ (1 ≤ s.get .HALL_ARB_W_RESP)) :=
  ⟨⟨0, { cell := cl 0 2 [] 0 1, vcIn := 2, at_ := 3 }, default,
    { stN [] with plan := planN, ports := [(0, { landing := [{ cell := cl 0 2 [] 0 1, vcIn := 2, at_ := 3 }] })] },
    by decide +kernel⟩,
  ⟨0, 2, none, { cell := cl 0 2 [] 0 1, input := 72, stamp := 1, vcIn := (cl 0 2 [] 0 1).vc },
    { stN [(.HALL_ARB_W_TREE, 0, 1), (.HALL_ARB_W_REQ, 0, 1), (.HALL_ARB_W_RESP, 0, 1)] with plan := planN, hall := { waiting := [{ cell := cl 0 2 [] 0 1, input := 72, stamp := 1, vcIn := (cl 0 2 [] 0 1).vc }] } },
    by decide +kernel⟩,
  ⟨0, { cell := cl 5 1 [1, 2] 0 0, input := 72, stamp := 1, vcIn := (cl 5 1 [1, 2] 0 0).vc, multicast := true, copies := [0] },
    { stN [(.HALL_ARB_W_TREE, 0, 1), (.HALL_ARB_W_REQ, 0, 1), (.HALL_ARB_W_RESP, 0, 1)] with plan := planN, hall := { waiting := [{ cell := cl 5 1 [1, 2] 0 0, input := 72, stamp := 1, vcIn := (cl 5 1 [1, 2] 0 0).vc, multicast := true, copies := [0] }] } },
    by decide +kernel⟩,
  ⟨{ cell := cl 0 2 [] 1 0, input := 3, stamp := 1, vcIn := (cl 0 2 [] 1 0).vc },
    { stN [(.HALL_ARB_W_TREE, 0, 1), (.HALL_ARB_W_REQ, 0, 1), (.HALL_ARB_W_RESP, 0, 1)] with plan := planN, hall := { waiting := [{ cell := cl 0 2 [] 1 0, input := 3, stamp := 1, vcIn := (cl 0 2 [] 1 0).vc }] } },
    by decide +kernel⟩,
  ⟨{ cell := cl 5 1 [] 0 1, input := 3, stamp := 1, vcIn := (cl 5 1 [] 0 1).vc },
    { stN [(.HALL_ARB_W_TREE, 0, 1), (.HALL_ARB_W_REQ, 0, 1), (.HALL_ARB_W_RESP, 0, 1)] with plan := planN, hall := { waiting := [{ cell := cl 5 1 [] 0 1, input := 3, stamp := 1, vcIn := (cl 5 1 [] 0 1).vc }] } },
    by decide +kernel⟩,
  ⟨72, 0, 2, none,
    { cell := { cl 0 2 [] 0 1 with pin := true }, input := 72, stamp := 1, vcIn := ({ cl 0 2 [] 0 1 with pin := true }).vc, pinWait := some 3 },
    { stN [(.HALL_ARB_W_TREE, 0, 1), (.HALL_ARB_W_REQ, 0, 1), (.HALL_ARB_W_RESP, 0, 1)] with plan := planN, hall := { waiting := [{ cell := { cl 0 2 [] 0 1 with pin := true }, input := 72, stamp := 1, vcIn := ({ cl 0 2 [] 0 1 with pin := true }).vc, pinWait := some 3 }] } },
    by decide +kernel⟩⟩

theorem witness_HallDiscardsAndEnds :
    (∃ (i : Nat) (k : Nat) (j : Nat) (h : HCell) (s : State), (s.hall.waiting.zipIdx.filter (fun e => e.1.input == i))[k]? = some
      (h, j))
    ∧ (∃ (p : Nat) (k : Nat) (x : LCell) (s : State), (s.port p).landing[k]? = some x)
    ∧ (∃ (q : Nat) (s : State), (RegsOk s) ∧ (q < 72) ∧ (detourBit s q = true) ∧ (Due s (Tab.get s.hall.detourAt q 0 + 10000)))
    ∧ (∃ (p : Nat) (src : Nat) (seq : Nat) (tile : Nat) (h : TileHold) (s : State), ((s.port p).holds.find? (fun g => g.src == src
      && g.seq == seq && g.tile == tile && !g.released) = some h) ∧ (Due s (h.first + s.get .HALL_MODE_PIN_HOLD_NS))) :=
  ⟨⟨3, 0, 1, { cell := cl 0 2 [] 0 1, input := 3, stamp := 1, vcIn := (cl 0 2 [] 0 1).vc },
    { stN [] with plan := planN, hall := { waiting := [{ cell := cl 0 2 [] 0 1, input := 5, stamp := 1, vcIn := (cl 0 2 [] 0 1).vc }, { cell := cl 0 2 [] 0 1, input := 3, stamp := 1, vcIn := (cl 0 2 [] 0 1).vc }] } },
    by decide +kernel⟩,
  ⟨71, 0, { cell := cl 0 2 [] 0 1, vcIn := 2, at_ := 3 },
    { stN [] with plan := planN, ports := [(71, { landing := [{ cell := cl 0 2 [] 0 1, vcIn := 2, at_ := 3 }] })] },
    by decide +kernel⟩,
  ⟨71,
    { stN [(.HALL_DETOUR_HI_DETOUR, 0, 128), (.HALL_DETOUR_LO_DETOUR, 0, 128)] with plan := planN, hall := { detourAt := [(71, 0)] }, clk := { ns := 10000 } },
    by decide +kernel⟩,
  ⟨0, 5, 6, 2, { src := 5, dest := 0, seq := 6, epoch := 1, tile := 2, first := 4, cells := 3, got := 1 },
    { stN [] with plan := planN, clk := { ns := 1000000 }, ports := [(0, { holds := [{ src := 5, dest := 0, seq := 6, epoch := 1, tile := 2, first := 4, cells := 3, got := 1 }], landing := [{ cell := { cl 0 2 [] 5 0 with seq := 6, epoch := 1, idx := 35 }, vcIn := 2, at_ := 3, held := true }] })] },
    by decide +kernel⟩⟩

theorem witness_FramesCarryCells :
    (∃ (p : Nat) (c : TxCell) (s : State), (pst s p = 3) ∧ ((s.port p).htq = [c]) ∧ ((s.port p).replayNext = []) ∧ ((s.port
      p).replay.length < 1638) ∧ (expired s c.stamp = false) ∧ (c.cell.ty ≠ tyTime) ∧ ((s.lineOf p).frames < 1024))
    ∧ (∃ (p : Nat) (s : State), (framesFlow s p = false) ∧ (lineFrames s p = true) ∧ ((s.lineOf p).frames < 1024))
    ∧ (∃ (p : Nat) (s : State), (s.lineOf p).frames = 1024)
    ∧ (∃ (p : Nat) (s : State), (pst s p = 2) ∧ ((s.port p).blockGot = false) ∧ ((s.lineOf p).frames < 1024))
    ∧ (∃ (p : Nat) (s : State), (pst s p = 2) ∧ ((s.port p).blockGot = true) ∧ ((s.port p).paramAck = true) ∧ ((s.lineOf p).frames <
      1024) ∧ ((s.port p).again = []) ∧ (max (s.get .PORT_CFG_RATE_MAX p) (bits (s.get .PORT_PARTNER_BLOCK_W0 p) 37 2) ≤ (s.port
      p).rate)) :=
  ⟨⟨0, tx (cl 0 2 [] 0 1), { stN [] with plan := planN, ports := [(0, { htq := [tx (cl 0 2 [] 0 1)] })] }, by decide +kernel⟩,
  ⟨0,
    { stN [(.LANE_STAT_STATE, 0, 3), (.LANE_STAT_STATE, 1, 3), (.PORT_STAT_STATE, 0, 1)] with plan := planN, ports := [(0, { phase := .blindLock })], clk := { ns := 100000000 } },
    by decide +kernel⟩,
  ⟨0, { stN [(.PORT_STAT_STATE, 0, 2)] with plan := planN, line := [(0, { frames := 1024 })] }, by decide +kernel⟩,
  ⟨0, { stN [(.PORT_STAT_STATE, 0, 2)] with plan := planN }, by decide +kernel⟩,
  ⟨0, { stN [(.PORT_STAT_STATE, 0, 2)] with plan := planN, ports := [(0, { blockGot := true, paramAck := true, rate := 3 })] },
    by decide +kernel⟩⟩

theorem witness_FramesAreReceived :
    (∃ (p : Nat) (f : RxFrame) (s : State), (framesFlow s p = true) ∧ (f.uncorrectable = true))
    ∧ (∃ (p : Nat) (f : RxFrame) (s : State), (framesFlow s p = true) ∧ (f.uncorrectable = false) ∧ (f.crcOk = false))
    ∧ (∃ (p : Nat) (f : RxFrame) (s : State), (framesFlow s p = true) ∧ (f.uncorrectable = false) ∧ (f.corrected = false) ∧ (f.crcOk
      = true) ∧ (headerMalformed s p f.hdr = true))
    ∧ (∃ (p : Nat) (c : Cell) (f : RxFrame) (s : State), (pst s p = 3 ∨ pst s p = 4 ∨ pst s p = 6) ∧ (PlainFrame s p f) ∧
      (f.hdr.event = 0) ∧ (f.hdr.ftype = 0) ∧ (f.hdr.slotCount = 1) ∧ (f.slots = [{ void := false, cell := c }]) ∧ (f.hdr.seqBase =
      s.get .PORT_SEQ_RX_EXPECTED p) ∧ (s.get .PORT_SEQ_RX_EXPECTED p < 65536) ∧ (headerFault s c = none) ∧ (landingAdmits s p c.vc
      = true) ∧ (c.ty ≠ tyTime) ∧ (c.dest = s.own))
    ∧ (∃ (p : Nat) (c : Cell) (f : RxFrame) (s : State), (pst s p = 3 ∨ pst s p = 4 ∨ pst s p = 6) ∧ (PlainFrame s p f) ∧
      (f.hdr.event = 0) ∧ (f.hdr.ftype = 0) ∧ (f.hdr.slotCount = 1) ∧ (f.slots = [{ void := true, cell := c }]) ∧ (f.hdr.seqBase =
      s.get .PORT_SEQ_RX_EXPECTED p) ∧ (s.get .PORT_SEQ_RX_EXPECTED p < 65536))
    ∧ (∃ (p : Nat) (sl : Slot) (f : RxFrame) (s : State), (pst s p = 3 ∨ pst s p = 4 ∨ pst s p = 6) ∧ (PlainFrame s p f) ∧
      (f.hdr.event = 0) ∧ (f.hdr.ftype = 0) ∧ (f.hdr.slotCount = 1) ∧ (f.slots = [sl]) ∧ (63489 ≤ subMod f.hdr.seqBase (s.get
      .PORT_SEQ_RX_EXPECTED p) 65536))
    ∧ (∃ (p : Nat) (f : RxFrame) (b : ParamBlock) (s : State), (framesFlow s p = true) ∧ (PlainFrame s p f) ∧ (f.hdr.event = 0 ∨
      f.hdr.event = 1) ∧ (¬ (b.node = s.own ∧ b.port = p)) ∧ ((s.port p).phase = .param) ∧ ((s.port p).paramSent = false))
    ∧ (∃ (p : Nat) (f : RxFrame) (b : ParamBlock) (s : State), (framesFlow s p = true) ∧ (PlainFrame s p f) ∧ (b.node = s.own) ∧
      (b.port = p)) :=
  ⟨⟨0, { uncorrectable := true, hdr := {} }, { stN [] with plan := planN }, by decide +kernel⟩,
  ⟨0, { crcOk := false, hdr := {} }, { stN [] with plan := planN }, by decide +kernel⟩,
  ⟨0, { hdr := { version := 2 } }, { stN [] with plan := planN }, by decide +kernel⟩,
  ⟨0, { cl 0 2 [] 1 0 with segCells := 2 },
    { hdr := { slotCount := 1, seqBase := 0, creditCum := [0,0,0,0,0,0,0,0] }, slots := [{ void := false, cell := { cl 0 2 [] 1 0 with segCells := 2 } }] },
    { stN [] with plan := planN }, by decide +kernel⟩,
  ⟨0, { cl 0 2 [] 1 0 with segCells := 2 },
    { hdr := { slotCount := 1, seqBase := 0, creditCum := [0,0,0,0,0,0,0,0] }, slots := [{ void := true, cell := { cl 0 2 [] 1 0 with segCells := 2 } }] },
    { stN [] with plan := planN }, by decide +kernel⟩,
  ⟨0, { void := false, cell := { cl 0 2 [] 1 0 with segCells := 2 } },
    { hdr := { slotCount := 1, seqBase := 65530, creditCum := [0,0,0,0,0,0,0,0] }, slots := [{ void := false, cell := { cl 0 2 [] 1 0 with segCells := 2 } }] },
    { stN [] with plan := planN }, by decide +kernel⟩,
  ⟨0, { hdr := { ftype := 1, event := 1 } },
    { node := 1, port := 0, vcMask := 255, fecSel := 1, oneLane := false, rateMax := 2, reserved := List.replicate 8 8, sharedCap := List.replicate 8 64 },
    { stN [(.PORT_STAT_STATE, 0, 2)] with plan := planN, ports := [(0, { phase := .param })] }, by decide +kernel⟩,
  ⟨0, { hdr := { ftype := 1 } },
    { node := 0, port := 0, vcMask := 255, fecSel := 1, oneLane := false, rateMax := 2, reserved := List.replicate 8 8, sharedCap := List.replicate 8 64 },
    { stN [] with plan := planN }, by decide +kernel⟩⟩

theorem witness_ReplayAndRetrain :
    (∃ (p : Nat) (at1 : Nat) (s : State), ((s.port p).replayAt = some at1) ∧ (Due s at1) ∧ (pst s p = 3) ∧ ((s.port p).replay ≠ [])
      ∧ (s.get .PORT_STAT_REPLAY_COUNT p < 4))
    ∧ (∃ (p : Nat) (at1 : Nat) (s : State), (levelNow s < 3) ∧ ((s.port p).replayAt = some at1) ∧ (Due s at1) ∧ (pst s p = 3) ∧
      ((s.port p).replay ≠ []) ∧ (4 ≤ s.get .PORT_STAT_REPLAY_COUNT p) ∧ (s.get .PORT_STAT_REPLAY_COUNT p < 7) ∧ ((s.port
      p).resumeReplay5 = false) ∧ (RegsOk s))
    ∧ (∃ (p : Nat) (at1 : Nat) (s : State), ((s.port p).replayAt = some at1) ∧ (Due s at1) ∧ (pst s p = 3) ∧ ((s.port p).replay ≠
      []) ∧ (7 ≤ s.get .PORT_STAT_REPLAY_COUNT p))
    ∧ (∃ (p : Nat) (at1 : Nat) (s : State), ((s.port p).retrainAt = some at1) ∧ (pst s p = 4 ∨ pst s p = 5) ∧ (Due s (at1 +
      400000)))
    ∧ (∃ (p : Nat) (s : State), (pst s p = 4) ∧ ((s.port p).phase = .pauseReq) ∧ (Due s ((s.port p).phaseAt + 10000)))
    ∧ (∃ (p : Nat) (s : State), (pst s p = 4) ∧ ((s.port p).phase = .drain) ∧ ((s.port p).replay = [] ∨ Due s ((s.port p).phaseAt +
      4000)) ∧ (eventNow s p = (0, 0)) ∧ ((s.port p).bothLanes = false) ∧ (usable s p ≠ []))
    ∧ (∃ (m : Master) (p : Nat) (fec : Nat) (one : Nat) (rate : Nat) (s : State), (May s m .PORT_CFG_FEC) ∧ (pst s p = 3) ∧ (fec <
      2) ∧ (one < 2) ∧ (rate < 4) ∧ (fec ≠ s.get .PORT_CFG_FEC p))
    ∧ (∃ (m : Master) (p : Nat) (s : State), (May s m .PORT_CTRL_RETRAIN) ∧ (pst s p = 3))
    ∧ (∃ (m : Master) (p : Nat) (s : State), (May s m .PORT_CTRL_RETRAIN) ∧ (pst s p ≠ 3)) :=
  ⟨⟨0, 5,
    { stN [(.PORT_STAT_REPLAY_COUNT, 0, 3)] with plan := planN, ports := [(0, { replayAt := some 5, replay := [{ cell := cl 0 2 [] 0 1, before := cl 0 2 [] 0 1, input := 3, vcIn := 2, stamp := 1, seq := 5 }] })], clk := { ns := 100000000 } },
    by decide +kernel⟩,
  ⟨0, 5,
    { stN [(.PORT_STAT_REPLAY_COUNT, 0, 6)] with plan := planN, ports := [(0, { replayAt := some 5, replay := [{ cell := cl 0 2 [] 0 1, before := cl 0 2 [] 0 1, input := 3, vcIn := 2, stamp := 1, seq := 5 }] })], clk := { ns := 100000000 } },
    by decide +kernel⟩,
  ⟨0, 5,
    { stN [(.PORT_STAT_REPLAY_COUNT, 0, 7), (.SLUICE_MODE_SERVICE, 0, 1)] with plan := planN, ports := [(0, { replayAt := some 5, replay := [{ cell := cl 0 2 [] 0 1, before := cl 0 2 [] 0 1, input := 3, vcIn := 2, stamp := 1, seq := 5 }], htq := [{ cell := cl 0 2 [] 0 1, before := cl 0 2 [] 0 1, input := 3, vcIn := 2, stamp := 1, seq := 5 }] })], clk := { ns := 100000000 } },
    by decide +kernel⟩,
  ⟨0, 5, { stN [(.PORT_STAT_STATE, 0, 5)] with plan := planN, ports := [(0, { retrainAt := some 5 })], clk := { ns := 100000000 } },
    by decide +kernel⟩,
  ⟨0,
    { stN [(.PORT_STAT_STATE, 0, 4)] with plan := planN, ports := [(0, { phase := .pauseReq, eventOut := some (2, 1, 9) })], clk := { ns := 100000000 } },
    by decide +kernel⟩,
  ⟨0,
    { stN [(.PORT_STAT_STATE, 0, 4)] with plan := planN, ports := [(0, { phase := .drain, replay := [{ cell := cl 0 2 [] 0 1, before := cl 0 2 [] 0 1, input := 3, vcIn := 2, stamp := 1, seq := 5 }] })], clk := { ns := 100000000 } },
    by decide +kernel⟩,
  ⟨.hk 0 true, 0, 1, 0, 2,
    { stN [(.SLUICE_MODE_SERVICE, 0, 1)] with plan := planN, ports := [(0, {  })], clk := { ns := 100000000 } }, by decide +kernel⟩,
  ⟨.hk 0 true, 0, { stN [] with plan := planN, ports := [(0, {  })], clk := { ns := 100000000 } }, by decide +kernel⟩,
  ⟨.hk 0 true, 0, { stN [(.PORT_STAT_STATE, 0, 2)] with plan := planN, ports := [(0, {  })], clk := { ns := 100000000 } },
    by decide +kernel⟩⟩

theorem witness_PortsGoDownAndComeUp :
    (∃ (m : Master) (p : Nat) (s : State), (May s m .PORT_CTRL_BRING_UP) ∧ (mayBringUp s p = true))
    ∧ (∃ (m : Master) (p : Nat) (s : State), (May s m .PORT_CFG_ADMIN_DOWN) ∧ (s.flag .PORT_CFG_ADMIN_DOWN p = false) ∧ (pst s p =
      3))
    ∧ (∃ (m : Master) (p : Nat) (s : State), (May s m .PORT_CFG_ADMIN_DOWN) ∧ (s.flag .PORT_CFG_ADMIN_DOWN p = true) ∧ (pst s p = 0)
      ∧ (s.role p ≠ 0) ∧ (s.domainOn p = true) ∧ (s.devLevel < 4) ∧ (landingEmptyNow s p = true))
    ∧ (∃ (p : Nat) (at1 : Nat) (s : State), ((s.port p).adminAt = some at1) ∧ (pst s p = 6) ∧ ((s.port p).goingDownAt = none) ∧ (Due
      s at1 ∨ ((s.port p).htq = [] ∧ (s.port p).replay = [])))
    ∧ (∃ (p : Nat) (at1 : Nat) (s : State), ((s.port p).goingDownAt = some at1) ∧ (pst s p = 6) ∧ (Due s at1) ∧ ((s.port
      p).downAsked < 8))
    ∧ (∃ (p : Nat) (s : State), (s.flag .PORT_CFG_AUTO_UP p = true) ∧ ((s.port p).phase = .idle) ∧ (Due s ((s.port p).downAt + s.get
      .PORT_CFG_AUTO_UP_MS p * 1000000)) ∧ (mayBringUp s p = true) ∧ (landingEmptyNow s p = true))
    ∧ (∃ (p : Nat) (s : State), ((s.port p).phase = .waitEmpty) ∧ (landingEmptyNow s p = true) ∧ (mayBringUp s p = true))
    ∧ (∃ (p : Nat) (s : State), (pst s p = 2) ∧ (Due s ((s.port p).phaseAt + 10000)))
    ∧ (∃ (p : Nat) (s : State), (Due s ((s.port p).violWindowAt + 1000000)) ∧ ((s.port p).violCount ≤ (s.port p).violLimit))
    ∧ (∃ (p : Nat) (s : State), (levelNow s < 3) ∧ (RegsOk s) ∧ (Due s ((s.port p).violWindowAt + 1000000)) ∧ ((s.port p).violLimit
      < (s.port p).violCount) ∧ ((s.port p).violRetrainEnd = none) ∧ (pst s p = 3)) :=
  ⟨⟨.hk 0 true, 0, { stN [(.PORT_STAT_STATE, 0, 0)] with plan := planN, ports := [(0, {  })], clk := { ns := 100000000 } },
    by decide +kernel⟩,
  ⟨.hk 0 true, 0,
    { stN [(.SLUICE_MODE_SERVICE, 0, 1)] with plan := planN, ports := [(0, { htq := [{ cell := cl 0 2 [] 0 1, before := cl 0 2 [] 0 1, input := 3, vcIn := 2, stamp := 1, seq := 5 }] })], clk := { ns := 100000000 } },
    by decide +kernel⟩,
  ⟨.hk 0 true, 0,
    { stN [(.PORT_STAT_STATE, 0, 0), (.PORT_CFG_ADMIN_DOWN, 0, 1)] with plan := planN, ports := [(0, {  })], clk := { ns := 100000000 } },
    by decide +kernel⟩,
  ⟨0, 5,
    { stN [(.PORT_STAT_STATE, 0, 6)] with plan := planN, ports := [(0, { adminAt := some 5, replay := [{ cell := cl 0 2 [] 0 1, before := cl 0 2 [] 0 1, input := 3, vcIn := 2, stamp := 1, seq := 5 }] })], clk := { ns := 100000000 } },
    by decide +kernel⟩,
  ⟨0, 5,
    { stN [(.PORT_STAT_STATE, 0, 6)] with plan := planN, ports := [(0, { goingDownAt := some 5, downAsked := 7 })], clk := { ns := 100000000 } },
    by decide +kernel⟩,
  ⟨0,
    { stN [(.PORT_STAT_STATE, 0, 0), (.PORT_CFG_AUTO_UP, 0, 1), (.PORT_CFG_AUTO_UP_MS, 0, 10)] with plan := planN, ports := [(0, {  })], clk := { ns := 100000000 } },
    by decide +kernel⟩,
  ⟨0, { stN [(.PORT_STAT_STATE, 0, 0)] with plan := planN, ports := [(0, { phase := .waitEmpty })], clk := { ns := 100000000 } },
    by decide +kernel⟩,
  ⟨0, { stN [(.PORT_STAT_STATE, 0, 2)] with plan := planN, ports := [(0, { phase := .param })], clk := { ns := 100000000 } },
    by decide +kernel⟩,
  ⟨0,
    { stN [(.PORT_VIOL_WINDOW_COUNT, 0, 5)] with plan := planN, ports := [(0, { violCount := 5, violLimit := 5 })], clk := { ns := 100000000 } },
    by decide +kernel⟩,
  ⟨0,
    { stN [(.PORT_VIOL_WINDOW_COUNT, 0, 6)] with plan := planN, ports := [(0, { violCount := 6, violLimit := 5 })], clk := { ns := 100000000 } },
    by decide +kernel⟩⟩

theorem witness_MarkersAlignLanes :
    (∃ (p : Nat) (s : State), (lineFrames s p = true) ∧ (s.flag .PORT_STAT_ONE_LANE_ACTIVE p = false) ∧ ((s.port p).lanes.length =
      2) ∧ ((s.lineOf p).frames = 1024))
    ∧ (∃ (p : Nat) (mk : Marker) (s : State), (mk.missing = false) ∧ (mk.patternOk = true) ∧ (mk.crcOk = true) ∧ (lst s p mk.lane =
      4) ∧ ((laneOf s p mk.lane).deskewed = true ∨ mk.skewPs ≤ s.get .LANE_CFG_SKEW_MAX_NS p * 1000))
    ∧ (∃ (p : Nat) (mk : Marker) (s : State), (mk.missing = false) ∧ (mk.patternOk = true) ∧ (mk.crcOk = true) ∧ (lst s p mk.lane =
      3) ∧ ((s.port p).phase = .blindLock) ∧ (mk.lane < 2) ∧ (lst s p (1 - mk.lane) = 3))
    ∧ (∃ (p : Nat) (mk : Marker) (s : State), (mk.missing = false) ∧ (mk.patternOk = true) ∧ (mk.crcOk = true) ∧ (lst s p mk.lane =
      3) ∧ (mk.skewPs ≤ s.get .LANE_CFG_SKEW_MAX_NS p * 1000) ∧ ((s.port p).phase = .blindLock) ∧ (pst s p = 1) ∧ (mk.lane < 2) ∧
      (lst s p (1 - mk.lane) = 4))
    ∧ (∃ (p : Nat) (mk : Marker) (s : State), (mk.missing = false) ∧ (mk.patternOk = true) ∧ (mk.crcOk = true) ∧ (lst s p mk.lane =
      3) ∧ (s.get .LANE_CFG_SKEW_MAX_NS p * 1000 < mk.skewPs) ∧ (pst s p = 1) ∧ ((s.port p).phase = .blindLock) ∧ (mk.lane < 2) ∧
      (lst s p (1 - mk.lane) = 4) ∧ ((laneOf s p mk.lane).deskewed = false))
    ∧ (∃ (p : Nat) (land : Nat) (k : Nat) (mk : Marker) (s : State), (k = (s.port p).lands.getD land land) ∧ (mk.missing = false) ∧
      (mk.patternOk = false ∨ mk.crcOk = false) ∧ (lst s p k = 4) ∧ ((laneOf s p k).badRun + 1 < 3))
    ∧ (∃ (p : Nat) (land : Nat) (k : Nat) (mk : Marker) (s : State), (k = (s.port p).lands.getD land land) ∧ (mk.missing = true) ∧
      (lst s p k = 4) ∧ (3 ≤ (laneOf s p k).badRun + 1) ∧ (pst s p = 2)) :=
  ⟨⟨0,
    { stN [(.LANE_STAT_STATE, 0, 4), (.LANE_STAT_STATE, 1, 4)] with plan := planN, ports := [(0, { lanes := [{ amSent := 65535 }, { amSent := 7 }] })], clk := { ns := 100000000 }, line := [(0, { frames := 1024 })] },
    by decide +kernel⟩,
  ⟨0, { lane := 1, bipDiff := 5 },
    { stN [(.LANE_STAT_STATE, 0, 4), (.LANE_STAT_STATE, 1, 4)] with plan := planN, ports := [(0, {  })], clk := { ns := 100000000 } },
    by decide +kernel⟩,
  ⟨0, { lane := 1, bipDiff := 5 },
    { stN [(.LANE_STAT_STATE, 0, 3), (.LANE_STAT_STATE, 1, 3), (.PORT_STAT_STATE, 0, 1), (.LANE_CFG_SKEW_MAX_NS, 0, 3)] with plan := planN, ports := [(0, { phase := .blindLock })], clk := { ns := 100000000 } },
    by decide +kernel⟩,
  ⟨0, { lane := 1, bipDiff := 5 },
    { stN [(.LANE_STAT_STATE, 0, 4), (.LANE_STAT_STATE, 1, 3), (.PORT_STAT_STATE, 0, 1), (.LANE_CFG_SKEW_MAX_NS, 0, 3)] with plan := planN, ports := [(0, { phase := .blindLock })], clk := { ns := 100000000 } },
    by decide +kernel⟩,
  ⟨0, { lane := 1, skewPs := 3001 },
    { stN [(.LANE_STAT_STATE, 0, 4), (.LANE_STAT_STATE, 1, 3), (.PORT_STAT_STATE, 0, 1), (.LANE_CFG_SKEW_MAX_NS, 0, 3)] with plan := planN, ports := [(0, { phase := .blindLock })], clk := { ns := 100000000 } },
    by decide +kernel⟩,
  ⟨0, 0, 0, { patternOk := false },
    { stN [(.LANE_STAT_STATE, 0, 4), (.LANE_STAT_STATE, 1, 4)] with plan := planN, ports := [(0, { lanes := [{ badRun := 1 }, {}] })], clk := { ns := 100000000 } },
    by decide +kernel⟩,
  ⟨0, 0, 0, { missing := true },
    { stN [(.LANE_STAT_STATE, 0, 4), (.LANE_STAT_STATE, 1, 4), (.PORT_STAT_STATE, 0, 2)] with plan := planN, ports := [(0, { lanes := [{ badRun := 2 }, {}] })], clk := { ns := 100000000 } },
    by decide +kernel⟩⟩

theorem witness_LanesFailByRule :
    (∃ (p : Nat) (k : Nat) (fom : Nat) (b : EyeBlock) (s : State), (fom = fomOf (min b.e0 (min b.e1 b.e2) ^ 2) (4 * b.var)) ∧ (lst s
      p k ≠ 4))
    ∧ (∃ (den : Nat) (n : Nat), (0 < den) ∧ (n < 256))
    ∧ (∃ (p : Nat) (k : Nat) (fom : Nat) (b : EyeBlock) (s : State), (fom = fomOf (min b.e0 (min b.e1 b.e2) ^ 2) (4 * b.var)) ∧ (lst
      s p k = 4) ∧ (framesFlow s p = true) ∧ (s.get .LANE_FOM_CFG_FAIL p ≤ fom) ∧ (fom < passThr s p))
    ∧ (∃ (p : Nat) (k : Nat) (fom : Nat) (b : EyeBlock) (s : State), (fom = fomOf (min b.e0 (min b.e1 b.e2) ^ 2) (4 * b.var)) ∧ (lst
      s p k = 4) ∧ (framesFlow s p = true) ∧ (fom < s.get .LANE_FOM_CFG_FAIL p) ∧ (k < 2) ∧ ((s.port p).lanes.length = 2))
    ∧ (∃ (p : Nat) (k : Nat) (at1 : Nat) (s : State), ((laneOf s p k).fomLowSince = some at1) ∧ (lst s p k = 4) ∧ (k < 2) ∧ (lst s p
      (1 - k) ≠ 5) ∧ (s.get .LANE_STAT_FOM (2 * p + k) < s.get .LANE_FOM_CFG_FAIL p) ∧ (Due s (at1 + s.get .LANE_CFG_FAIL_WINDOW_US
      p * 1000)) ∧ (pst s p = 3))
    ∧ (∃ (p : Nat) (k : Nat) (s : State), (lst s p k = 4) ∧ (k < 2) ∧ (lst s p (1 - k) = 5) ∧ (pst s p = 3))
    ∧ (∃ (p : Nat) (k : Nat) (s : State), (lst s p k = 2 ∨ lst s p k = 3 ∨ (lst s p k = 4 ∧ pst s p < 3)) ∧ (pst s p ≠ 1 ∨ (laneOf s
      p 0).signal = true ∨ (laneOf s p 1).signal = true))
    ∧ (∃ (p : Nat) (k : Nat) (s : State), (lst s p k = 4) ∧ (k < 2) ∧ (lst s p (1 - k) ≠ 5) ∧ (pst s p = 3))
    ∧ (∃ (p : Nat) (k : Nat) (s : State), (k < 2) ∧ (lst s p k = 2 ∨ lst s p k = 3 ∨ (lst s p k = 4 ∧ pst s p < 3)) ∧ (pst s p ≠ 1 ∨
      (laneOf s p (1 - k)).signal = true))
    ∧ (∃ (p : Nat) (k : Nat) (s : State), (k < 2) ∧ (pst s p = 1) ∧ ((s.port p).attemptAt.isSome = true) ∧ ((s.port p).lanes.length
      = 2) ∧ ((laneOf s p (1 - k)).signal = false)) :=
  ⟨⟨0, 1, fomOf (min 40 (min 41 42) ^ 2) (4 * 1), { e0 := 40, e1 := 41, e2 := 42, var := 1 },
    { stN [(.LANE_STAT_STATE, 0, 3), (.LANE_STAT_STATE, 1, 3)] with plan := planN, ports := [(0, { lanes := [{}, {}] })], clk := { ns := 100000000 } },
    by decide +kernel⟩,
  ⟨4, 40, by decide +kernel⟩,
  ⟨0, 1, fomOf (min 30 (min 31 32) ^ 2) (4 * 3), { e0 := 30, e1 := 31, e2 := 32, var := 3 },
    { stN [(.LANE_STAT_STATE, 0, 4), (.LANE_STAT_STATE, 1, 4), (.LANE_FOM_CFG_FAIL, 0, 60), (.LANE_FOM_CFG_THR_LIGHT, 0, 250), (.LANE_FOM_CFG_THR_HEAVY, 0, 250)] with plan := planN, ports := [(0, {  })], clk := { ns := 100000000 } },
    by decide +kernel⟩,
  ⟨0, 1, fomOf (min 3 (min 4 5) ^ 2) (4 * 3), { e0 := 3, e1 := 4, e2 := 5, var := 3 },
    { stN [(.LANE_STAT_STATE, 0, 4), (.LANE_STAT_STATE, 1, 4), (.LANE_FOM_CFG_FAIL, 0, 60), (.LANE_FOM_CFG_THR_LIGHT, 0, 100), (.LANE_FOM_CFG_THR_HEAVY, 0, 100)] with plan := planN, ports := [(0, { lanes := [{}, {}] })], clk := { ns := 100000000 } },
    by decide +kernel⟩,
  ⟨0, 1, 5,
    { stN [(.LANE_STAT_STATE, 0, 4), (.LANE_STAT_STATE, 1, 4), (.LANE_FOM_CFG_FAIL, 0, 60), (.LANE_FOM_CFG_THR_LIGHT, 0, 100), (.LANE_FOM_CFG_THR_HEAVY, 0, 100), (.LANE_STAT_FOM, 1, 59), (.LANE_CFG_FAIL_WINDOW_US, 0, 10)] with plan := planN, ports := [(0, { lanes := [{}, { fomLowSince := some 5 }] })], clk := { ns := 100000000 } },
    by decide +kernel⟩,
  ⟨0, 1,
    { stN [(.LANE_STAT_STATE, 0, 5), (.LANE_STAT_STATE, 1, 4)] with plan := planN, ports := [(0, {  })], clk := { ns := 100000000 } },
    by decide +kernel⟩,
  ⟨0, 1,
    { stN [(.LANE_STAT_STATE, 0, 5), (.LANE_STAT_STATE, 1, 3)] with plan := planN, ports := [(0, {  })], clk := { ns := 100000000 } },
    by decide +kernel⟩,
  ⟨0, 1,
    { stN [(.LANE_STAT_STATE, 0, 4), (.LANE_STAT_STATE, 1, 4)] with plan := planN, ports := [(0, {  })], clk := { ns := 100000000 } },
    by decide +kernel⟩,
  ⟨0, 1,
    { stN [(.LANE_STAT_STATE, 0, 4), (.LANE_STAT_STATE, 1, 2), (.PORT_STAT_STATE, 0, 2)] with plan := planN, ports := [(0, {  })], clk := { ns := 100000000 } },
    by decide +kernel⟩,
  ⟨0, 1,
    { stN [(.LANE_STAT_STATE, 0, 2), (.LANE_STAT_STATE, 1, 2), (.PORT_STAT_STATE, 0, 1)] with plan := planN, ports := [(0, { attemptAt := some 5, phase := .tune, lanes := [{}, { signal := true }] })], clk := { ns := 100000000 } },
    by decide +kernel⟩⟩

theorem witness_TrainingRunsItsCourse :
    (∃ (p : Nat) (k : Nat) (s : State), (pst s p = 1) ∧ (lst s p k = 1) ∧ ((s.port p).attemptAt = none) ∧ ((s.port p).phase =
      .caps))
    ∧ (∃ (p : Nat) (k : Nat) (s : State), (lst s p k = 2) ∧ (passThr s p ≤ s.get .LANE_STAT_FOM (2 * p + k)) ∧ (stepped s p = false)
      ∧ ((s.port p).phase = .train))
    ∧ (∃ (p : Nat) (k : Nat) (s : State), (lst s p k = 2) ∧ (passThr s p ≤ s.get .LANE_STAT_FOM (2 * p + k)) ∧ (stepped s p = false)
      ∧ ((s.port p).phase = .blindAdapt) ∧ (k < 2) ∧ ((s.port p).lanes.length = 2) ∧ ((laneOf s p (1 - k)).fomGood = true) ∧ (lst s
      p (1 - k) = 2))
    ∧ (∃ (p : Nat) (w : TCW) (s : State), (s.domainOn p = true) ∧ (pst s p = 3) ∧ (w.crcOk = true) ∧ (¬ (w.node = s.own ∧ w.port =
      p)))
    ∧ (∃ (p : Nat) (w : TCW) (s : State), (s.domainOn p = true) ∧ (pst s p ≠ 0) ∧ (w.crcOk = true) ∧ (w.node = s.own) ∧ (w.port =
      p))
    ∧ (∃ (p : Nat) (at1 : Nat) (s : State), ((s.port p).stepAcked = some at1) ∧ ((s.port p).phase = .stepReq) ∧ (Due s (at1 +
      1000)))
    ∧ (∃ (p : Nat) (s : State), ((s.port p).phase = .tuneRate) ∧ ((s.port p).leader = true) ∧ (Due s ((s.port p).phaseAt + (s.port
      p).stepWindow * 10000)))
    ∧ (∃ (p : Nat) (at1 : Nat) (s : State), ((s.port p).attemptAt = some at1) ∧ (pst s p = 1) ∧ (Due s (at1 + attemptBound s p)))
    ∧ (∃ (p : Nat) (at1 : Nat) (s : State), ((s.port p).attemptAt = some at1) ∧ (pst s p = 5) ∧ ((s.port p).phase = .train) ∧ (Due s
      (at1 + 180000)) ∧ ((∃ k ∈ usable s p, lst s p k = 4)))
    ∧ (∃ (p : Nat) (s : State), ((s.port p).phase = .tune) ∧ (pst s p = 1) ∧ (Due s ((s.port p).phaseAt + 600000)) ∧ ((s.port
      p).attemptAt.isSome = true) ∧ ((∀ k, k < 2 → (laneOf s p k).fomGood = false))) :=
  ⟨⟨0, 1,
    { stN [(.PORT_STAT_STATE, 0, 1), (.LANE_STAT_STATE, 0, 1), (.LANE_STAT_STATE, 1, 1)] with plan := planN, ports := [(0, { phase := .caps })], clk := { ns := 100000000 } },
    by decide +kernel⟩,
  ⟨0, 1,
    { stN [(.LANE_STAT_STATE, 0, 2), (.LANE_STAT_STATE, 1, 2), (.PORT_STAT_STATE, 0, 5), (.LANE_STAT_FOM, 1, 255)] with plan := planN, ports := [(0, { phase := .train })], clk := { ns := 100000000 } },
    by decide +kernel⟩,
  ⟨0, 1,
    { stN [(.LANE_STAT_STATE, 0, 2), (.LANE_STAT_STATE, 1, 2), (.PORT_STAT_STATE, 0, 1), (.LANE_STAT_FOM, 1, 255)] with plan := planN, ports := [(0, { phase := .blindAdapt, lanes := [{ fomGood := true }, {}] })], clk := { ns := 100000000 } },
    by decide +kernel⟩,
  ⟨0, { state := 1, caps := 0, rateNow := 0, rateReq := 0, fom := 5, node := 1, port := 0 },
    { stN [] with plan := planN, ports := [(0, {  })], clk := { ns := 100000000 } }, by decide +kernel⟩,
  ⟨0, { state := 1, caps := 0, rateNow := 0, rateReq := 0, fom := 5, node := 0, port := 0 },
    { stN [(.PORT_STAT_STATE, 0, 1)] with plan := planN, ports := [(0, {  })], clk := { ns := 100000000 } }, by decide +kernel⟩,
  ⟨0, 5,
    { stN [(.PORT_STAT_STATE, 0, 1), (.LANE_STAT_STATE, 0, 3), (.LANE_STAT_STATE, 1, 3)] with plan := planN, ports := [(0, { stepAcked := some 5, phase := .stepReq, rate := 1, rateWant := 2 })], clk := { ns := 100000000 } },
    by decide +kernel⟩,
  ⟨0,
    { stN [(.PORT_STAT_STATE, 0, 1)] with plan := planN, ports := [(0, { phase := .tuneRate, leader := true, rateLast := 2, rate := 3 })], clk := { ns := 100000000 } },
    by decide +kernel⟩,
  ⟨0, 5,
    { stN [(.PORT_STAT_STATE, 0, 1), (.LANE_STAT_STATE, 0, 2), (.LANE_STAT_STATE, 1, 2)] with plan := planN, clk := { ns := 10000000000 }, ports := [(0, { attemptAt := some 5, phase := .tune })] },
    by decide +kernel⟩,
  ⟨0, 5,
    { stN [(.PORT_STAT_STATE, 0, 5), (.LANE_STAT_STATE, 0, 4), (.LANE_STAT_STATE, 1, 2)] with plan := planN, ports := [(0, { attemptAt := some 5, phase := .train })], clk := { ns := 100000000 } },
    by decide +kernel⟩,
  ⟨0,
    { stN [(.PORT_STAT_STATE, 0, 1), (.LANE_STAT_STATE, 0, 2), (.LANE_STAT_STATE, 1, 2)] with plan := planN, ports := [(0, { attemptAt := some 5, phase := .tune })], clk := { ns := 100000000 } },
    by decide +kernel⟩⟩

theorem witness_RoomCommandsEnd :
    (∃ (m : Master) (r : Nat) (s : State), (May s m .ROOM_CMD_CMD) ∧ (s.flag .ROOM_CMD_STAT_BUSY = false) ∧ (r < 65536) ∧ ((s.room
      r).resident = true) ∧ (NoneWaits s))
    ∧ (∃ (m : Master) (r : Nat) (s : State), (May s m .ROOM_CMD_CMD) ∧ (s.flag .ROOM_CMD_STAT_BUSY = false) ∧ (r < 65536) ∧ ((s.room
      r).resident = false) ∧ ((s.room r).fetching = false) ∧ ((s.room r).st = 0) ∧ (s.plan.installed = true) ∧ ((slotRooms s).length
      < 4096))
    ∧ (∃ (c : Instr) (m : Master) (r : Nat) (k : Nat) (s : State), (May s m .ROOM_CMD_CMD) ∧ (s.flag .ROOM_CMD_STAT_BUSY = true) ∧
      (c ∈ [Instr.roomActivate m r, .roomDeactivate m r, .roomReset m r, .roomFetch r .command, .roomEvict m r, .roomCmdInvalid m r
      k]))
    ∧ (∃ (m : Master) (r : Nat) (s : State), (May s m .ROOM_CMD_CMD) ∧ (s.flag .ROOM_CMD_STAT_BUSY = false) ∧ (r < 65536) ∧ ((∀ u ∈
      s.crystal.unexp, u.room ≠ r)) ∧ ((∀ x ∈ s.crystal.msgs, x.room ≠ r)) ∧ (NoneWaits s))
    ∧ (∃ (m : Master) (r : Nat) (s : State), (May s m .ROOM_CMD_CMD) ∧ (s.flag .ROOM_CMD_STAT_BUSY = false) ∧ (r < 65536) ∧ ((∀ u ∈
      s.crystal.unexp, u.room ≠ r)) ∧ ((∀ x ∈ s.crystal.msgs, x.room ≠ r)) ∧ (NoParked s) ∧ (NoneWaits s) ∧ ((∀ o ∈ s.crystal.input,
      opRoom s o ≠ some r)) ∧ ((∀ x ∈ s.crystal.holding, x.1 ≠ r)))
    ∧ (∃ (r : Nat) (s : State), ((s.room r).st = 3) ∧ (roomBusy s r = false) ∧ (s.porch.cmdRoom = some (r, 3)) ∧ (NoneWaits s))
    ∧ (∃ (r : Nat) (s : State), (s.flag .ROOM_CMD_STAT_BUSY = false) ∧ (r < 65536) ∧ ((s.room r).resident = true) ∧ (NoneWaits s))
    ∧ (∃ (r : Nat) (by_ : FetchBy) (s : State), ((s.room r).resident = false) ∧ ((s.room r).fetching = false) ∧ ((slotRooms
      s).length < 4096) ∧ ((by_ = .knock ∧ (s.room r).knocks ≠ 0) ∨ (by_ = .pageRead ∧ (s.room r).stalled ≠ []) ∨ (by_ = .lead ∧
      parkedOf s r ≠ [])))
    ∧ (∃ (r : Nat) (v : Nat) (s : State), ((s.room r).resident = false) ∧ ((s.room r).fetching = false) ∧ (4096 ≤ (slotRooms
      s).length) ∧ ((s.room r).knocks ≠ 0) ∧ (victim s = some v))
    ∧ (∃ (r : Nat) (s : State), ((s.room r).resident = false) ∧ ((s.room r).fetching = false) ∧ (4096 ≤ (slotRooms s).length) ∧
      ((s.room r).knocks ≠ 0) ∧ (victim s = none))
    ∧ (∃ (m : Master) (r : Nat) (s : State), (May s m .ROOM_CMD_CMD) ∧ (s.flag .ROOM_CMD_STAT_BUSY = false) ∧ (r < 65536) ∧
      (NoneWaits s))
    ∧ (∃ (m : Master) (r : Nat) (s : State), (May s m .ROOM_CMD_CMD) ∧ (s.flag .ROOM_CMD_STAT_BUSY = false) ∧ (r < 65536) ∧
      (NoneWaits s)) :=
  ⟨⟨.hk 0 true, 5,
    { stR [] with plan := planN, porch := { rooms := [(5, { ctx := ctxW, resident := true, knocks := 3, consumed := 4 })] }, clk := { ns := 100000000 } },
    by decide +kernel⟩,
  ⟨.hk 0 true, 5, { stR [] with plan := planN, porch := { rooms := [(5, { ctx := ctxW, st := 0 })] }, clk := { ns := 100000000 } },
    by decide +kernel⟩,
  ⟨.roomActivate (.hk 0 true) 5, .hk 0 true, 5, 7,
    { stR [(.ROOM_CMD_STAT_BUSY, 0, 1)] with plan := planN, porch := { rooms := [(5, { ctx := ctxW, st := 1, job := 5, everActive := true, resident := true })] }, clk := { ns := 100000000 } },
    by decide +kernel⟩,
  ⟨.hk 0 true, 5,
    { stR [] with plan := planN, porch := { rooms := [(5, { ctx := ctxW, st := 1, job := 5, everActive := true, resident := true, armed := true })] }, clk := { ns := 100000000 } },
    by decide +kernel⟩,
  ⟨.hk 0 true, 5,
    { stR [] with plan := planN, porch := { rooms := [(5, { ctx := ctxW, st := 1, job := 5, everActive := true, resident := true, grant := 64, heldLb := 16, openPkt := [1, 2], knocks := 4, pickUsed := 96 })], lbUsed := 1000, pickUsed := 200 }, clk := { ns := 100000000 } },
    by decide +kernel⟩,
  ⟨5,
    { stR [(.ROOM_CMD_STAT_BUSY, 0, 1)] with plan := planN, porch := { rooms := [(5, { ctx := ctxW, st := 3, err := 0, consumed := 4, resident := true })], cmdRoom := some (5, 3) }, clk := { ns := 100000000 } },
    by decide +kernel⟩,
  ⟨5,
    { stR [] with plan := planN, porch := { rooms := [(5, { ctx := ctxW, st := 1, job := 5, everActive := true, resident := true })] }, clk := { ns := 100000000 } },
    by decide +kernel⟩,
  ⟨5, .knock,
    { stR [] with plan := planN, porch := { rooms := [(5, { ctx := ctxW, knocks := 3, st := 1 })] }, clk := { ns := 100000000 } },
    by decide +kernel⟩,
  ⟨5, 6, sixS 4095, by decide +kernel, by decide +kernel, by rw [sixS, full_slots]; decide, by decide +kernel, six_victim 4095
    (by decide +kernel)⟩,
  ⟨5, fullS [] 4096, by decide +kernel, by decide +kernel, by rw [full_slots]; decide, by decide +kernel, full_victim_none 4096⟩,
  ⟨.hk 0 true, 5, { stR [] with plan := planN, porch := { rooms := [(5, { ctx := ctxW, st := 1 })] }, clk := { ns := 100000000 } },
    by decide +kernel⟩,
  ⟨.hk 0 true, 5,
    { stR [] with plan := planN, porch := { rooms := [(5, { ctx := ctxW, st := 1, job := 5, everActive := true, resident := true })] }, clk := { ns := 100000000 } },
    by decide +kernel⟩⟩

theorem witness_ContextsComeAndGo :
    (∃ (r : Nat) (ws : List Word) (s : State), ((s.room r).fetching = true) ∧ (ctxCrcOk ws = true) ∧ (s.porch.cmdRoom = some (r, 4))
      ∧ (NoneWaits s) ∧ ((s.room r).stalled = []) ∧ (NoParked s))
    ∧ (∃ (r : Nat) (ws : List Word) (s : State), ((s.room r).fetching = true) ∧ (ctxCrcOk ws = true) ∧ (s.porch.cmdRoom = some (r,
      1)) ∧ (NoneWaits s) ∧ ((s.room r).stalled = []) ∧ (NoParked s))
    ∧ (∃ (r : Nat) (res : HostRead) (s : State), ((s.room r).fetching = true) ∧ ((∀ ws, res = .data ws → ctxCrcOk ws = false)) ∧
      (NoneWaits s) ∧ ((s.room r).stalled = []) ∧ (NoParked s))
    ∧ (∃ (m : Master) (s : State), (May s m .ROOM_CTX_DATA_DATA) ∧ (s.get .ROOM_CTX_SEL_WORD < 5) ∧ ((s.room (s.get
      .ROOM_CTX_SEL_ROOM)).st ≠ 1) ∧ (NoneWaits s))
    ∧ (∃ (m : Master) (s : State), (May s m .ROOM_CTX_DATA_DATA) ∧ (5 ≤ s.get .ROOM_CTX_SEL_WORD))
    ∧ (∃ (m : Master) (s : State), (MaySee s m .ROOM_CTX_DATA_DATA) ∧ ((s.room (s.get .ROOM_CTX_SEL_ROOM)).resident = true) ∧ (s.get
      .ROOM_CTX_SEL_WORD < 5))
    ∧ (∃ (m : Master) (s : State), (MaySee s m .ROOM_CTX_DATA_DATA) ∧ ((s.room (s.get .ROOM_CTX_SEL_ROOM)).resident = true) ∧ (5 ≤
      s.get .ROOM_CTX_SEL_WORD))
    ∧ (∃ (m : Master) (s : State), (MaySee s m .ROOM_CTX_DATA_DATA) ∧ ((s.room (s.get .ROOM_CTX_SEL_ROOM)).resident = false)) :=
  ⟨⟨5, ctxAll,
    { stR [(.ROOM_CMD_STAT_BUSY, 0, 1)] with plan := planN, porch := { rooms := [(5, { ctx := ctxW, fetching := true })], cmdRoom := some (5, 4) }, clk := { ns := 100000000 } },
    by decide +kernel⟩,
  ⟨5, ctxAll,
    { stR [(.ROOM_CMD_STAT_BUSY, 0, 1)] with plan := planN, porch := { rooms := [(5, { ctx := ctxW, fetching := true })], cmdRoom := some (5, 1) }, clk := { ns := 100000000 } },
    by decide +kernel⟩,
  ⟨5, .error,
    { stR [(.ROOM_CMD_STAT_BUSY, 0, 1)] with plan := planN, porch := { rooms := [(5, { ctx := ctxW, fetching := true, st := 1 })], cmdRoom := some (5, 4) }, clk := { ns := 100000000 } },
    by refine ⟨?_, (fun _ h => by cases h), ?_, ?_, ?_⟩ <;> decide +kernel⟩,
  ⟨.hk 0 true,
    { stR [(.ROOM_CTX_SEL_ROOM, 0, 5), (.ROOM_CTX_SEL_WORD, 0, 4)] with plan := planN, porch := { rooms := [(5, { ctx := ctxW, resident := true })] }, clk := { ns := 100000000 } },
    by decide +kernel⟩,
  ⟨.hk 0 true,
    { stR [(.ROOM_CTX_SEL_ROOM, 0, 5), (.ROOM_CTX_SEL_WORD, 0, 5)] with plan := planN, porch := { rooms := [(5, { ctx := ctxW, st := 1, job := 5, everActive := true, resident := true })] }, clk := { ns := 100000000 } },
    by decide +kernel⟩,
  ⟨.hk 0 true,
    { stR [(.ROOM_CTX_SEL_ROOM, 0, 5), (.ROOM_CTX_SEL_WORD, 0, 4)] with plan := planN, porch := { rooms := [(5, { ctx := ctxW, st := 1, job := 5, everActive := true, resident := true })] }, clk := { ns := 100000000 } },
    by decide +kernel⟩,
  ⟨.hk 0 true,
    { stR [(.ROOM_CTX_SEL_ROOM, 0, 5), (.ROOM_CTX_SEL_WORD, 0, 5)] with plan := planN, porch := { rooms := [(5, { ctx := ctxW, st := 1, job := 5, everActive := true, resident := true })] }, clk := { ns := 100000000 } },
    by decide +kernel⟩,
  ⟨.hk 0 true,
    { stR [(.ROOM_CTX_SEL_ROOM, 0, 5), (.ROOM_CTX_SEL_WORD, 0, 5)] with plan := planN, porch := { rooms := [(5, { ctx := ctxW, st := 0 })] }, clk := { ns := 100000000 } },
    by decide +kernel⟩⟩

theorem witness_WorkEntriesAreFetched :
    (∃ (h : Nat) (r : Nat) (k : Nat) (s : State), (PageActs s h r) ∧ (k ≤ (s.room r).workSize - (s.room r).knocks))
    ∧ (∃ (h : Nat) (r : Nat) (k : Nat) (s : State), (PageActs s h r) ∧ ((s.room r).workSize - (s.room r).knocks < k) ∧ ((s.room
      r).knocks ≤ (s.room r).workSize))
    ∧ (∃ (h : Nat) (r : Nat) (s : State), (hostReaches s h = true) ∧ (bound s h r = false ∨ (s.room r).st ≠ 1))
    ∧ (∃ (r : Nat) (n : Nat) (s : State), ((s.room r).st = 1) ∧ ((s.room r).resident = true) ∧ (s.hostStopped = false) ∧ (s.flag
      .HPORT_STAT_LINK_UP (s.room r).hport = true) ∧ (0 < (s.room r).knocks) ∧ ((s.room r).reading = none) ∧ ((s.room r).stopped =
      false) ∧ ((s.room r).outstanding < (s.room r).outMax) ∧ (0 < (s.room r).free) ∧ (n = min (min (s.room r).knocks (s.get
      .PORCH_CFG_FETCH_BURST)) ((s.room r).workSize - (s.room r).consumed % (s.room r).workSize)) ∧ (fetchTakes s (s.room r).hport n
      = true))
    ∧ (∃ (r : Nat) (s : State), (s.room r).st ≠ 1 ∨ (s.room r).resident = false ∨ (s.room r).knocks = 0 ∨ (s.room r).reading.isSome
      = true ∨ (s.room r).stopped = true ∨ (s.room r).outMax ≤ (s.room r).outstanding ∨ (s.room r).free = 0)
    ∧ (∃ (r : Nat) (a : Nat) (e : List Word) (s : State), ((s.room r).reading = some (a, 1)) ∧ ((s.room r).st = 1) ∧ ((s.room
      r).resident = true) ∧ (s.hostStopped = false) ∧ (mayConsume (s.room r) = true) ∧ (wePhase (padWords 8 e) = phaseOf (s.room
      r).consumed (s.room r).workSize) ∧ (¬ (weOp (padWords 8 e) = 2 ∧ wePickup (padWords 8 e) = true)))
    ∧ (∃ (r : Nat) (a : Nat) (e : List Word) (s : State), ((s.room r).reading = some (a, 1)) ∧ ((s.room r).st = 1) ∧ ((s.room
      r).resident = true) ∧ (s.hostStopped = false) ∧ (mayConsume (s.room r) = true) ∧ (wePhase (padWords 8 e) = phaseOf (s.room
      r).consumed (s.room r).workSize) ∧ (weOp (padWords 8 e) = 2) ∧ (wePickup (padWords 8 e) = true) ∧ (weLen (padWords 8 e) ≤
      4096) ∧ ((s.room r).pickUsed + pickSpace (weLen (padWords 8 e)) ≤ (s.room r).pickMax * 1024) ∧ (pickSpace (weLen (padWords 8
      e)) ≤ pickFree s))
    ∧ (∃ (r : Nat) (a : Nat) (n : Nat) (e : List Word) (s : State), ((s.room r).reading = some (a, n)) ∧ (0 < n) ∧ ((s.room r).st =
      1) ∧ ((s.room r).resident = true) ∧ (s.hostStopped = false) ∧ (wePhase (padWords 8 e) ≠ phaseOf (s.room r).consumed (s.room
      r).workSize))
    ∧ (∃ (r : Nat) (a : Nat) (n : Nat) (s : State), ((s.room r).reading = some (a, n)) ∧ ((s.room r).st ≠ 1 ∨ (s.room r).resident =
      false ∨ s.hostStopped = true))
    ∧ (∃ (r : Nat) (at1 : Nat) (s : State), ((s.room r).rescanAt = some at1) ∧ ((s.room r).stopped = true) ∧ (0 < (s.room r).knocks)
      ∧ (Due s at1)) :=
  ⟨⟨0, 5, 3,
    { stR [] with plan := planN, porch := { rooms := [(5, { ctx := ctxW, st := 1, job := 5, everActive := true, resident := true, knocks := 13, stopped := true })] }, clk := { ns := 100000000 } },
    by decide +kernel⟩,
  ⟨0, 5, 3,
    { stR [] with plan := planN, porch := { rooms := [(5, { ctx := ctxW, st := 1, job := 5, everActive := true, resident := true, knocks := 14 })] }, clk := { ns := 100000000 } },
    by decide +kernel⟩,
  ⟨1, 5,
    { stR [] with plan := planN, porch := { rooms := [(5, { ctx := ctxW, st := 1, job := 5, everActive := true, resident := true })] }, clk := { ns := 100000000 } },
    by decide +kernel⟩,
  ⟨5, 2,
    { stR [] with plan := planN, porch := { rooms := [(5, { ctx := ctxW, st := 1, job := 5, everActive := true, resident := true, knocks := 3, consumed := 14 })] }, clk := { ns := 100000000 } },
    by decide +kernel⟩,
  ⟨5,
    { stR [] with plan := planN, porch := { rooms := [(5, { ctx := ctxW, st := 1, job := 5, everActive := true, resident := true })] }, clk := { ns := 100000000 } },
    by decide +kernel⟩,
  ⟨5, 3, [wd (1 + 2 ^ 63 + 7 * 2 ^ 16), 0, wd 64],
    { stR [] with plan := planN, porch := { rooms := [(5, { ctx := ctxW, st := 1, job := 5, everActive := true, resident := true, knocks := 3, consumed := 3, reading := some (3, 1) })] }, clk := { ns := 100000000 } },
    by decide +kernel⟩,
  ⟨5, 3, [wd (2 + 2 ^ 12 + 2 ^ 63), 0, wd 65],
    { stR [] with plan := planN, porch := { rooms := [(5, { ctx := ctxW, st := 1, job := 5, everActive := true, resident := true, knocks := 3, consumed := 3, reading := some (3, 1), pickUsed := 100 })] }, clk := { ns := 100000000 } },
    by decide +kernel⟩,
  ⟨5, 16, 2, [wd (1 + 2 ^ 63 + 7 * 2 ^ 16), 0, wd 64],
    { stR [] with plan := planN, porch := { rooms := [(5, { ctx := ctxW, st := 1, job := 5, everActive := true, resident := true, knocks := 3, consumed := 16, reading := some (16, 2) })] }, clk := { ns := 100000000 } },
    by decide +kernel⟩,
  ⟨5, 3, 1,
    { stR [] with plan := planN, porch := { rooms := [(5, { ctx := ctxW, st := 2, everActive := true, knocks := 3, consumed := 3, reading := some (3, 1) })] }, clk := { ns := 100000000 } },
    by decide +kernel⟩,
  ⟨5, 5,
    { stR [] with plan := planN, porch := { rooms := [(5, { ctx := ctxW, st := 1, job := 5, everActive := true, resident := true, knocks := 3, stopped := true, rescanAt := some 5 })] }, clk := { ns := 100000000 } },
    by decide +kernel⟩⟩

theorem witness_RoomPagesAct :
    (∃ (h : Nat) (r : Nat) (v : Nat) (w : Word) (c : Instr) (s : State), (hostReaches s h = true) ∧ (bound s h r = false) ∧ (c ∈
      [Instr.cmplHeadWrite h r v, .armWrite h r v, .lbRelease h r v, .letterboxWord h r w false, .letterboxWord h r w true,
      .lbEndWord h r w false, .lbEndWord h r w true, .pickupSkip h r]))
    ∧ (∃ (h : Nat) (r : Nat) (v : Nat) (w : Word) (b : Bool) (c : Instr) (s : State), (hostReaches s h = false) ∧ (c ∈
      [Instr.cmplHeadWrite h r v, .armWrite h r v, .lbRelease h r v, .letterboxWord h r w b, .lbEndWord h r w b, .pickupSkip h r,
      .lbGrantRead h r, .pickupRead h r b, .knock h r v]))
    ∧ (∃ (h : Nat) (r : Nat) (c : Instr) (s : State), (hostReaches s h = true) ∧ (bound s h r = false) ∧ (c ∈ [Instr.lbGrantRead h
      r, .pickupRead h r false]))
    ∧ (∃ (h : Nat) (r : Nat) (s : State), PageActs s h r)
    ∧ (∃ (h : Nat) (r : Nat) (v : Nat) (s : State), (PageActs s h r) ∧ (v.testBit 0 = true))
    ∧ (∃ (h : Nat) (r : Nat) (s : State), (PageActs s h r) ∧ ((s.room r).resident = true) ∧ (s.porch.lbUsed < 4194304))
    ∧ (∃ (h : Nat) (r : Nat) (s : State), (PageActs s h r) ∧ ((s.room r).resident = false))
    ∧ (∃ (h : Nat) (r : Nat) (v : Nat) (s : State), (PageActs s h r) ∧ (NoneWaits s) ∧ (v.testBit 0 = true))
    ∧ (∃ (h : Nat) (r : Nat) (s : State), (PageActs s h r) ∧ ((s.room r).dropping = false) ∧ (8 ≤ (s.room r).grant))
    ∧ (∃ (h : Nat) (r : Nat) (s : State), (PageActs s h r) ∧ ((s.room r).dropping = false) ∧ (8 ≤ (s.room r).grant))
    ∧ (∃ (h : Nat) (r : Nat) (s : State), (PageActs s h r) ∧ ((s.room r).dropping = false) ∧ ((s.room r).grant < 8) ∧ (NoneWaits s)
      ∧ ((s.room r).resident = true) ∧ (8 * (s.room r).openPkt.length ≤ (s.room r).heldLb))
    ∧ (∃ (h : Nat) (r : Nat) (s : State), (PageActs s h r) ∧ ((s.room r).dropping = false) ∧ ((s.room r).grant < 8) ∧ (NoneWaits s)
      ∧ ((s.room r).resident = false) ∧ ((s.room r).fetching = false) ∧ ((slotRooms s).length < 4096))
    ∧ (∃ (h : Nat) (r : Nat) (w : Word) (c : Instr) (s : State), (PageActs s h r) ∧ (c ∈ [Instr.letterboxWord h r w true, .lbEndWord
      h r w true, .pickupRead h r true]))
    ∧ (∃ (r : Nat) (ws : List Word) (rest : List (Nat × List Word)) (s : State), ((s.room r).closed = (0, ws) :: rest) ∧ ((s.room
      r).st = 1) ∧ ((s.room r).resident = true) ∧ (s.hostStopped = false) ∧ (mayConsume (s.room r) = true) ∧ (fetchTakes s (s.room
      r).hport 1 = true) ∧ (lbLength (padWords 8 ws) = some ws.length) ∧ (weOp (padWords 8 ws) ≠ 2))
    ∧ (∃ (r : Nat) (ws : List Word) (rest : List (Nat × List Word)) (s : State), ((s.room r).closed = (0, ws) :: rest) ∧ ((s.room
      r).st = 1) ∧ ((s.room r).resident = true) ∧ (s.hostStopped = false) ∧ (mayConsume (s.room r) = true) ∧ (fetchTakes s (s.room
      r).hport 1 = true) ∧ (NoneWaits s) ∧ ((s.room r).risk = false) ∧ (lbLength (padWords 8 ws) ≠ some ws.length))
    ∧ (∃ (h : Nat) (r : Nat) (ck : Nat) (sp : Nat) (w : Word) (ws : List Word) (rest : List (List Word × Nat × Nat)) (s : State),
      (PageActs s h r) ∧ ((s.room r).resident = true) ∧ (NoneWaits s) ∧ ((s.room r).pickups = (w :: ws, ck, sp) :: rest))
    ∧ (∃ (h : Nat) (r : Nat) (s : State), (PageActs s h r) ∧ ((s.room r).resident = true) ∧ ((s.room r).pickups = []))
    ∧ (∃ (h : Nat) (r : Nat) (ck : Nat) (sp : Nat) (ws : List Word) (rest : List (List Word × Nat × Nat)) (s : State), (PageActs s h
      r) ∧ ((s.room r).pickups = (ws, ck, sp) :: rest) ∧ (NoneWaits s) ∧ (sp ≤ (s.room r).pickUsed)) :=
  ⟨⟨1, 5, 9, 77, .cmplHeadWrite 1 5 9,
    { stR [] with plan := planN, porch := { rooms := [(5, { ctx := ctxW, st := 1, job := 5, everActive := true, resident := true })] }, clk := { ns := 100000000 } },
    by decide +kernel⟩,
  ⟨0, 5, 9, 77, true, .cmplHeadWrite 0 5 9,
    { stR [(.DOMAIN_STAT_HI_ON, 0, 0)] with plan := planN, porch := { rooms := [(5, { ctx := ctxW, st := 1, job := 5, everActive := true, resident := true })] }, clk := { ns := 100000000 } },
    by decide +kernel⟩,
  ⟨1, 5, .lbGrantRead 1 5,
    { stR [] with plan := planN, porch := { rooms := [(5, { ctx := ctxW, st := 1, job := 5, everActive := true, resident := true })] }, clk := { ns := 100000000 } },
    by decide +kernel⟩,
  ⟨0, 5,
    { stR [] with plan := planN, porch := { rooms := [(5, { ctx := ctxW, st := 1, job := 5, everActive := true, resident := true })] }, clk := { ns := 100000000 } },
    by decide +kernel⟩,
  ⟨0, 5, 9,
    { stR [] with plan := planN, porch := { rooms := [(5, { ctx := ctxW, st := 1, job := 5, everActive := true, resident := true, written := 5 })], msix := [(16, { masked := false })] }, clk := { ns := 100000000 } },
    by decide +kernel⟩,
  ⟨0, 5,
    { stR [] with plan := planN, porch := { rooms := [(5, { ctx := ctxW, st := 1, job := 5, everActive := true, resident := true, grant := 64 })] }, clk := { ns := 100000000 } },
    by decide +kernel⟩,
  ⟨0, 5,
    { stR [] with plan := planN, porch := { rooms := [(5, { ctx := ctxW, st := 1, job := 5, everActive := true })] }, clk := { ns := 100000000 } },
    by decide +kernel⟩,
  ⟨0, 5, 9,
    { stR [] with plan := planN, porch := { rooms := [(5, { ctx := ctxW, st := 1, job := 5, everActive := true, resident := true, grant := 64 })], lbUsed := 1000 }, clk := { ns := 100000000 } },
    by decide +kernel⟩,
  ⟨0, 5,
    { stR [] with plan := planN, porch := { rooms := [(5, { ctx := ctxW, st := 1, job := 5, everActive := true, resident := true, grant := 8, openPkt := [3] })] }, clk := { ns := 100000000 } },
    by decide +kernel⟩,
  ⟨0, 5,
    { stR [] with plan := planN, porch := { rooms := [(5, { ctx := ctxW, st := 1, job := 5, everActive := true, resident := true, grant := 8, openPkt := [3] })] }, clk := { ns := 100000000 } },
    by decide +kernel⟩,
  ⟨0, 5,
    { stR [] with plan := planN, porch := { rooms := [(5, { ctx := ctxW, st := 1, job := 5, everActive := true, resident := true, grant := 0, openPkt := [3, 4], heldLb := 16 })], lbUsed := 1000 }, clk := { ns := 100000000 } },
    by decide +kernel⟩,
  ⟨0, 5,
    { stR [] with plan := planN, porch := { rooms := [(5, { ctx := ctxW, st := 1, job := 5, everActive := true })] }, clk := { ns := 100000000 } },
    by decide +kernel⟩,
  ⟨0, 5, 77, .letterboxWord 0 5 77 true,
    { stR [] with plan := planN, porch := { rooms := [(5, { ctx := ctxW, st := 1, job := 5, everActive := true, resident := true, grant := 64, openPkt := [2], pickups := [([7, 8], 9, 96), ([4], 3, 32)], pickUsed := 128 })] }, clk := { ns := 100000000 } },
    by decide +kernel⟩,
  ⟨5, [wd 1, 0, wd 9, 0, 0, 0, 0, 0, 5, 6], [],
    { stR [] with plan := planN, porch := { rooms := [(5, { ctx := ctxW, st := 1, job := 5, everActive := true, resident := true, closed := [(0, [wd 1, 0, wd 9, 0, 0, 0, 0, 0, 5, 6])] })] }, clk := { ns := 100000000 } },
    by decide +kernel⟩,
  ⟨5, [wd 1, 0, wd 9, 0, 0, 0, 0, 0, 5], [],
    { stR [] with plan := planN, porch := { rooms := [(5, { ctx := ctxW, st := 1, job := 5, everActive := true, resident := true, closed := [(0, [wd 1, 0, wd 9, 0, 0, 0, 0, 0, 5])] })] }, clk := { ns := 100000000 } },
    by decide +kernel⟩,
  ⟨0, 5, 9, 96, 7, [8], [([4], 3, 32)],
    { stR [] with plan := planN, porch := { rooms := [(5, { ctx := ctxW, st := 1, job := 5, everActive := true, resident := true, pickups := [([7, 8], 9, 96), ([4], 3, 32)], pickUsed := 128 })], pickUsed := 200 }, clk := { ns := 100000000 } },
    by decide +kernel⟩,
  ⟨0, 5,
    { stR [] with plan := planN, porch := { rooms := [(5, { ctx := ctxW, st := 1, job := 5, everActive := true, resident := true })] }, clk := { ns := 100000000 } },
    by decide +kernel⟩,
  ⟨0, 5, 9, 96, [7, 8], [([4], 3, 32)],
    { stR [] with plan := planN, porch := { rooms := [(5, { ctx := ctxW, st := 1, job := 5, everActive := true, resident := true, pickups := [([7, 8], 9, 96), ([4], 3, 32)], pickUsed := 128 })], pickUsed := 200 }, clk := { ns := 100000000 } },
    by decide +kernel⟩⟩

theorem witness_CellsAreJudged :
    (∃ (c : Cell) (s : State), (c.ty = tyLead) ∧ (s.hostStopped = true ∨ s.fenced (s.idxOf c.src) = true))
    ∧ (∃ (c : Cell) (s : State), (c.ty = tyPayload) ∧ (s.hostStopped = true ∨ s.fenced (s.idxOf c.src) = true))
    ∧ (∃ (c : Cell) (s : State), (c.ty = tyLead) ∧ (s.hostStopped = false) ∧ (s.fenced (s.idxOf c.src) = false) ∧ (c.check ≠ bodyCrc
      c.body))
    ∧ (∃ (x : Nat) (c : Cell) (s : State), (c.ty = tyPayload) ∧ (x = s.idxOf c.src) ∧ (s.hostStopped = false) ∧ (s.fenced x = false)
      ∧ ((s.flow x).recv.st = 0) ∧ (ackQueueRoom s = true))
    ∧ (∃ (x : Nat) (c : Cell) (s : State), (c.ty = tyPayload) ∧ (x = s.idxOf c.src) ∧ (s.hostStopped = false) ∧ (s.fenced x = false)
      ∧ ((s.flow x).recv.st = 1) ∧ (c.epoch ≠ (s.flow x).recv.epoch) ∧ (c.epoch ≠ ((s.flow x).recv.epoch + 1) % 4))
    ∧ (∃ (x : Nat) (c : Cell) (s : State), (c.ty = tyPayload) ∧ (x = s.idxOf c.src) ∧ (s.hostStopped = false) ∧ (s.fenced x = false)
      ∧ ((s.flow x).recv.st ≠ 0) ∧ (c.epoch = ((s.flow x).recv.epoch + 1) % 4) ∧ ((∀ m ∈ s.crystal.msgs, m.src ≠ x)))
    ∧ (∃ (x : Nat) (c : Cell) (s : State), (c.ty = tyPayload) ∧ (Proceeds x c s) ∧ (1024 < subMod c.seq (s.flow x).recv.w 65536) ∧
      (subMod c.seq (s.flow x).recv.w 65536 ≤ 32768))
    ∧ (∃ (x : Nat) (c : Cell) (s : State), (c.ty = tyPayload) ∧ (Proceeds x c s) ∧ (1 ≤ subMod c.seq (s.flow x).recv.w 65536) ∧
      (subMod c.seq (s.flow x).recv.w 65536 ≤ 1024) ∧ (rsegOf s x c.seq = none) ∧ (vestUsed s + 80 ≤ 8388608) ∧ (Tab.wf
      s.thresh.flows))
    ∧ (∃ (x : Nat) (k : Nat) (c : Cell) (s : State), (c.ty = tyLead) ∧ (c.check = bodyCrc c.body) ∧ (Proceeds x c s) ∧ (1 ≤ subMod
      c.seq (s.flow x).recv.w 65536) ∧ (subMod c.seq (s.flow x).recv.w 65536 ≤ 1024) ∧ (rsegOf s x c.seq = none) ∧ (k = leadRefusal
      s x c.body c.segCells) ∧ (k ≠ 0) ∧ (ackQueueRoom s = true) ∧ (¬ (leadOp c.body = 0x21 ∧ leadRndv c.body = true)))
    ∧ (∃ (x : Nat) (k : Nat) (c : Cell) (s : State), (c.ty = tyLead) ∧ (c.check = bodyCrc c.body) ∧ (Proceeds x c s) ∧ (1 ≤ subMod
      c.seq (s.flow x).recv.w 65536) ∧ (subMod c.seq (s.flow x).recv.w 65536 ≤ 1024) ∧ (rsegOf s x c.seq = none) ∧ (k = leadRefusal
      s x c.body c.segCells) ∧ (k ≠ 0) ∧ (leadOp c.body = 0x21) ∧ (leadRndv c.body = true))
    ∧ (∃ (x : Nat) (c : Cell) (s : State), (c.ty = tyLead) ∧ (c.check = bodyCrc c.body) ∧ (Proceeds x c s) ∧ (1 ≤ subMod c.seq
      (s.flow x).recv.w 65536) ∧ (subMod c.seq (s.flow x).recv.w 65536 ≤ 1024) ∧ (rsegOf s x c.seq = none) ∧ (leadOp c.body = 1) ∧
      (leadRefusal s x c.body c.segCells = 0) ∧ (stillTakes s x c.body = false) ∧ (Tab.wf s.thresh.flows) ∧ (vestUsed s + 80 *
      c.segCells ≤ 8388608) ∧ (roomParked s (leadDestRoom c.body) x c.seq < s.get .PORCH_CFG_PARK_MAX_KIB * 1024) ∧ ((s.room
      (leadDestRoom c.body)).resident = true) ∧ (msgOf s x (leadMsg c.body) = none) ∧ (s.crystalOn = true) ∧ (subMod (leadMsg
      c.body) (s.flow x).recv.n (2 ^ 32) = 0)) :=
  ⟨⟨cel tyLead (led 1 1 5 0 16 0),
    { stT [(.DEV_FAULT_LEVEL, 0, 3)] with plan := planT, porch := { rooms := [(5, { ctx := ctxW, st := 1, job := 5, everActive := true, resident := true })] }, clk := { ns := 100000000 }, thresh := { flows := [(1, flw [])] }, crystal := {  } },
    by decide +kernel⟩,
  ⟨cel tyPayload [],
    { stT [] with plan := planT, porch := { rooms := [(5, { ctx := ctxW, st := 1, job := 5, everActive := true, resident := true })] }, clk := { ns := 100000000 }, thresh := { flows := [(1, flw [])] }, crystal := {  }, fault := { fences := [1] } },
    by decide +kernel⟩,
  ⟨{ cel tyLead [] with check := 7 },
    { stT [] with plan := planT, porch := { rooms := [(5, { ctx := ctxW, st := 1, job := 5, everActive := true, resident := true })] }, clk := { ns := 100000000 }, thresh := { flows := [(1, flw [])] }, crystal := {  } },
    by decide +kernel⟩,
  ⟨1, cel tyPayload [] 7,
    { stT [] with plan := planT, porch := { rooms := [(5, { ctx := ctxW, st := 1, job := 5, everActive := true, resident := true })] }, clk := { ns := 100000000 }, thresh := {  }, crystal := {  } },
    by refine ⟨?_, ?_, ?_, ?_, ?_, ackRoom _ (by decide +kernel)⟩ <;> decide +kernel⟩,
  ⟨1, cel tyPayload [] 7 1 0 3,
    { stT [] with plan := planT, porch := { rooms := [(5, { ctx := ctxW, st := 1, job := 5, everActive := true, resident := true })] }, clk := { ns := 100000000 }, thresh := { flows := [(1, flw [])] }, crystal := {  } },
    by decide +kernel⟩,
  ⟨1, cel tyPayload [] 7 2 1 2,
    { stT [] with plan := planT, porch := { rooms := [(5, { ctx := ctxW, st := 1, job := 5, everActive := true, resident := true })] }, clk := { ns := 100000000 }, thresh := { flows := [(1, flw [sg 3 []])] }, crystal := {  } },
    by decide +kernel⟩,
  ⟨1, cel tyPayload [] 1024,
    { stT [] with plan := planT, porch := { rooms := [(5, { ctx := ctxW, st := 1, job := 5, everActive := true, resident := true })] }, clk := { ns := 100000000 }, thresh := { flows := [(1, flw [])] }, crystal := {  } },
    by decide +kernel⟩,
  ⟨1, cel tyPayload [] 1023 2 1,
    { stT [] with plan := planT, porch := { rooms := [(5, { ctx := ctxW, st := 1, job := 5, everActive := true, resident := true })] }, clk := { ns := 100000000 }, thresh := { flows := [(1, flw [sg 3 []])] }, crystal := {  } },
    by decide +kernel⟩,
  ⟨1, 2, cel tyLead (led 2 1 5 0 16 0),
    { stT [] with plan := planT, porch := { rooms := [(5, { ctx := ctxW, st := 1, job := 5, everActive := true, resident := true })] }, clk := { ns := 100000000 }, thresh := { flows := [(1, flw [])] }, crystal := {  } },
    by refine ⟨?_, ?_, ?_, ?_, ?_, ?_, ?_, ?_, ackRoom _ (by decide +kernel), ?_⟩ <;> decide +kernel⟩,
  ⟨1, 4, cel tyLead (led 0x21 8 5 8 16 0) 0 3,
    { stT [] with plan := planT, porch := { rooms := [(5, { ctx := ctxW, st := 1, job := 5, everActive := true, resident := true })] }, clk := { ns := 100000000 }, thresh := { flows := [(1, flw [])] }, crystal := {  } },
    by decide +kernel⟩,
  ⟨1, cel tyLead (led 1 1 5 0 16 0),
    { stT [] with plan := planT, porch := { rooms := [(5, { ctx := ctxW, st := 1, job := 5, everActive := true, resident := true })] }, clk := { ns := 100000000 }, thresh := { flows := [(1, flw [sg 3 []])] }, crystal := {  } },
    by decide +kernel⟩⟩

theorem witness_SegmentsAreDelivered :
    (∃ (s : State), s.hostStopped = true ∨ s.porch.deliveries = [])
    ∧ (∃ (x : Nat) (q : Nat) (h : Nat) (a : Nat) (n : Nat) (g : RSeg) (rest : List Delivery) (s : State), (s.hostStopped = false) ∧
      (s.porch.deliveries = .seg x q :: rest) ∧ (rsegOf s x q = some g) ∧ (g.queued = true) ∧ (g.st = .inProgress) ∧ (leadOp g.body
      = 0x10) ∧ (leadInline g.body = true) ∧ (g.cells = 1) ∧ (g.access = some (h, [(a, n)])) ∧ (s.flag .HPORT_STAT_LINK_UP h = true)
      ∧ (s.thresh.keyCache.contains (leadKeyIdx g.body) = true) ∧ (keyCheck (s.keyAt (leadKeyIdx g.body)) (leadKeyIdx g.body)
      (leadKeyGen g.body) (leadJob g.body) 10 (leadRemote g.body) (segBytes (leadLen g.body) (leadOff g.body)) none = 0) ∧ (tracked
      s x (leadMsg g.body) = false) ∧ (0 < leadLen g.body) ∧ (min 16 (leadLen g.body) ≤ n) ∧ (atomicHolds s h [(a, n)] = false))
    ∧ (∃ (x : Nat) (q : Nat) (h : Nat) (pages : List (Nat × Nat)) (g : RSeg) (rest : List Delivery) (s : State), (s.hostStopped =
      false) ∧ (s.porch.deliveries = .seg x q :: rest) ∧ (rsegOf s x q = some g) ∧ (g.queued = true) ∧ (g.st = .inProgress) ∧
      (leadOp g.body = 0x10) ∧ (g.access = some (h, pages)) ∧ (s.flag .HPORT_STAT_LINK_UP h = true) ∧ (s.thresh.keyCache.contains
      (leadKeyIdx g.body) = true) ∧ (keyCheck (s.keyAt (leadKeyIdx g.body)) (leadKeyIdx g.body) (leadKeyGen g.body) (leadJob g.body)
      10 (leadRemote g.body) (segBytes (leadLen g.body) (leadOff g.body)) none = 0) ∧ (tilesGood g = false) ∧ (atomicHolds s h pages
      = false))
    ∧ (∃ (x : Nat) (q : Nat) (sub : Nat) (g : RSeg) (rest : List Delivery) (s : State), (s.hostStopped = false) ∧
      (s.porch.deliveries = .seg x q :: rest) ∧ (rsegOf s x q = some g) ∧ (g.queued = true) ∧ (g.st = .inProgress) ∧ (leadOp g.body
      = 0x10) ∧ (g.access.isSome = true) ∧ (s.thresh.keyCache.contains (leadKeyIdx g.body) = true) ∧ (sub = keyCheck (s.keyAt
      (leadKeyIdx g.body)) (leadKeyIdx g.body) (leadKeyGen g.body) (leadJob g.body) 10 (leadRemote g.body) (segBytes (leadLen
      g.body) (leadOff g.body)) none) ∧ (sub ≠ 0) ∧ (ackQueueRoom s = true))
    ∧ (∃ (x : Nat) (q : Nat) (at1 : Nat) (hint : Nat) (g : RSeg) (s : State), (rsegOf s x q = some g) ∧ (g.parkAt = some at1) ∧
      (s.hostStopped = false) ∧ (Due s (at1 + s.get .THRESH_CFG_PARK_BUDGET_US * 1000)) ∧ ((∀ w ∈ s.thresh.respWait, ¬ (w.src = x ∧
      w.seq = q))) ∧ (ackQueueRoom s = true) ∧ (NoneWaits s) ∧ ((g.park = some .residency ∧ hint = 10) ∨ (g.park = some .order ∧
      hint = s.get .CRYSTAL_CFG_FULL_HINT_US) ∨ (g.park = some .xlate ∧ hint = s.get .THRESH_CFG_PAGE_HINT_US)))
    ∧ (∃ (x : Nat) (q : Nat) (g : RSeg) (s : State), (rsegOf s x q = some g) ∧ (g.lead = none) ∧ (g.st = .inProgress) ∧ (Due s
      (g.first + s.get .THRESH_ACK_CFG_ORPHAN_US * 1000)))
    ∧ (∃ (i : Nat) (rest : List CellarRead) (s : State), (s.thresh.cellarWait = .key i :: rest) ∧ (s.thresh.keyCache.length < 65536)
      ∧ (NoParked s) ∧ (NoneWaits s))
    ∧ (∃ (job : Nat) (n : Nat) (slot : Nat) (rest : List CellarRead) (s : State), (s.thresh.cellarWait = .rank job n :: rest) ∧
      (s.thresh.rankCache.length < 16384) ∧ (s.jobSlot job = some slot) ∧ (NoParked s) ∧ (NoneWaits s))
    ∧ (∃ (r : CellarRead) (rest : List CellarRead) (s : State), (s.thresh.cellarWait = r :: rest) ∧ (NoParked s))
    ∧ (∃ (tag : Nat) (r : HRead) (s : State), (Tab.find? s.thresh.reads tag = some r) ∧ (s.hostStopped = true))
    ∧ (∃ (tag : Nat) (x : Nat) (q : Nat) (ep : Nat) (g : Seg) (s : State), (Tab.find? s.thresh.reads tag = some (.payload x q ep)) ∧
      (s.hostStopped = false) ∧ (outSeg s x q = some g) ∧ (g.epoch = ep) ∧ (g.input < 80))
    ∧ (∃ (tag : Nat) (h : Nat) (addr : Nat) (x : Nat) (q : Nat) (ep : Nat) (l : List Word) (s : State), (Tab.find? s.thresh.reads
      tag = some (.atomic h addr x q ep l false)) ∧ (s.hostStopped = false) ∧ (leadOp l = 0x30) ∧ (tracked s x (leadMsg l) = false)
      ∧ (NoParked s) ∧ (s.flag .HPORT_STAT_LINK_UP h = true)) :=
  ⟨⟨{ stT [] with plan := planT, porch := { rooms := [(5, { ctx := ctxW, st := 1, job := 5, everActive := true, resident := true })] }, clk := { ns := 100000000 }, thresh := {  }, crystal := {  } },
    by decide +kernel⟩,
  ⟨1, 7, 0, 0x9000, 16, { sg 7 (led 0x10 1 5 8 16 0) with queued := true, access := some (0, [(0x9000, 16)]), accepted := true },
    [.stored 9],
    { stT [] with plan := planT, porch := { rooms := [(5, { ctx := ctxW, st := 1, job := 5, everActive := true, resident := true })], deliveries := [.seg 1 7, .stored 9] }, clk := { ns := 100000000 }, thresh := { flows := [(1, flw [{ sg 7 (led 0x10 1 5 8 16 0) with queued := true, access := some (0, [(0x9000, 16)]), accepted := true }])], keys := [(3, keyE)], keyCache := [3] }, crystal := {  } },
    by decide +kernel⟩,
  ⟨1, 7, 0, [(0x9000, 64)],
    { sg 7 (led 0x10 0 5 8 64 0) 2 with queued := true, access := some (0, [(0x9000, 64)]), accepted := true, got := [{ cel tyPayload [] 7 2 1 with check := 3 }] },
    [.stored 9],
    { stT [] with plan := planT, porch := { rooms := [(5, { ctx := ctxW, st := 1, job := 5, everActive := true, resident := true })], deliveries := [.seg 1 7, .stored 9] }, clk := { ns := 100000000 }, thresh := { flows := [(1, flw [{ sg 7 (led 0x10 0 5 8 64 0) 2 with queued := true, access := some (0, [(0x9000, 64)]), accepted := true, got := [{ cel tyPayload [] 7 2 1 with check := 3 }] }])], keys := [(3, keyE)], keyCache := [3] }, crystal := {  } },
    by decide +kernel⟩,
  ⟨1, 7, 5, { sg 7 (led 0x10 1 5 8 16 0 4 3 4000) with queued := true, access := some (0, [(0x9000, 16)]) }, [.stored 9],
    { stT [] with plan := planT, porch := { rooms := [(5, { ctx := ctxW, st := 1, job := 5, everActive := true, resident := true })], deliveries := [.seg 1 7, .stored 9] }, clk := { ns := 100000000 }, thresh := { flows := [(1, flw [{ sg 7 (led 0x10 1 5 8 16 0 4 3 4000) with queued := true, access := some (0, [(0x9000, 16)]) }])], keys := [(3, keyE)], keyCache := [3] }, crystal := {  } },
    by refine ⟨?_, ?_, ?_, ?_, ?_, ?_, ?_, ?_, ?_, ?_, ackRoom _ (by decide +kernel)⟩ <;> decide +kernel⟩,
  ⟨1, 7, 5, 10, { sg 7 (led 1 1 5 0 16 0) with park := some .residency, parkAt := some 5 },
    { stT [] with plan := planT, porch := { rooms := [(5, { ctx := ctxW, st := 1, job := 5, everActive := true, resident := true })] }, clk := { ns := 100000000 }, thresh := { flows := [(1, flw [{ sg 7 (led 1 1 5 0 16 0) with park := some .residency, parkAt := some 5 }])] }, crystal := {  } },
    by refine ⟨?_, ?_, ?_, ?_, ?_, ackRoom _ (by decide +kernel), ?_, ?_⟩ <;> decide +kernel⟩,
  ⟨1, 7, { seq := 7, cells := 2, st := .inProgress, first := 5 },
    { stT [] with plan := planT, porch := { rooms := [(5, { ctx := ctxW, st := 1, job := 5, everActive := true, resident := true })] }, clk := { ns := 100000000 }, thresh := { flows := [(1, flw [{ seq := 7, cells := 2, st := .inProgress, first := 5 }])] }, crystal := {  } },
    by decide +kernel⟩,
  ⟨3, [.rank 5 6],
    { stT [] with plan := planT, porch := { rooms := [(5, { ctx := ctxW, st := 1, job := 5, everActive := true, resident := true })] }, clk := { ns := 100000000 }, thresh := { cellarWait := [.key 3, .rank 5 6], keyCache := [8] }, crystal := {  } },
    by decide +kernel⟩,
  ⟨5, 6, 2, [],
    { stT [] with plan := planT, porch := { rooms := [(5, { ctx := ctxW, st := 1, job := 5, everActive := true, resident := true })] }, clk := { ns := 100000000 }, thresh := { cellarWait := [.rank 5 6], ranks := [(6, 77)] }, crystal := {  } },
    by decide +kernel⟩,
  ⟨.key 3, [],
    { stT [] with plan := planT, porch := { rooms := [(5, { ctx := ctxW, st := 1, job := 5, everActive := true, resident := true })] }, clk := { ns := 100000000 }, thresh := { cellarWait := [.key 3] }, crystal := {  } },
    by decide +kernel⟩,
  ⟨3, .payload 1 7 1,
    { stT [(.DEV_FAULT_LEVEL, 0, 3)] with plan := planT, porch := { rooms := [(5, { ctx := ctxW, st := 1, job := 5, everActive := true, resident := true })] }, clk := { ns := 100000000 }, thresh := { reads := [(3, .payload 1 7 1)] }, crystal := {  } },
    by decide +kernel⟩,
  ⟨3, 1, 7, 1,
    { opId := 4, peer := 1, input := 72, room := 5, lead := led 0x10 1 5 8 16 0, cells := 2, bytes := 64, resp := false, data := .host 0 [(0x9000, 64)], seq := 7, epoch := 1 },
    { stT [] with plan := planT, porch := { rooms := [(5, { ctx := ctxW, st := 1, job := 5, everActive := true, resident := true })] }, clk := { ns := 100000000 }, thresh := { reads := [(3, .payload 1 7 1)], flows := [(1, { node := 1, send := { st := 2, epoch := 1, out := [{ opId := 4, peer := 1, input := 72, room := 5, lead := led 0x10 1 5 8 16 0, cells := 2, bytes := 64, resp := false, data := .host 0 [(0x9000, 64)], seq := 7, epoch := 1 }] } })] }, crystal := {  } },
    by decide +kernel⟩,
  ⟨3, 0, 0x9000, 1, 7, 1, led 0x30 0 5 8 0 0,
    { stT [] with plan := planT, porch := { rooms := [(5, { ctx := ctxW, st := 1, job := 5, everActive := true, resident := true })] }, clk := { ns := 100000000 }, thresh := { reads := [(3, .atomic 0 0x9000 1 7 1 (led 0x30 0 5 8 0 0) false)], flows := [(1, flw [{ sg 7 (led 0x30 0 5 8 0 0) with accepted := true }])] }, crystal := {  } },
    by decide +kernel⟩⟩

theorem witness_MessagesMeetReceives :
    (∃ (r : Nat) (x : Nat) (q : Nat) (g : RSeg) (p : Posted) (s : State), (s.crystal.input = [.arrive x q]) ∧ (s.crystal.holding =
      []) ∧ (deliveryTakes s = true) ∧ (rsegOf s x q = some g) ∧ (leadDestRoom g.body = r) ∧ (msgOf s x (leadMsg g.body) = none) ∧
      ((s.room r).st = 1) ∧ (subMod (leadMsg g.body) (s.flow x).recv.n (2 ^ 32) = 0) ∧ (s.crystal.msgs.length < 32768) ∧ (leadRndv
      g.body = false) ∧ (bestPosted (fun p => !p.spilled) r (leadCtx g.body) (leadRank g.body) (leadTag g.body) s = some p))
    ∧ (∃ (r : Nat) (x : Nat) (q : Nat) (g : RSeg) (s : State), (s.crystal.input = [.arrive x q]) ∧ (s.crystal.holding = []) ∧
      (deliveryTakes s = true) ∧ (rsegOf s x q = some g) ∧ (leadDestRoom g.body = r) ∧ (msgOf s x (leadMsg g.body) = none) ∧
      ((s.room r).st = 1) ∧ (subMod (leadMsg g.body) (s.flow x).recv.n (2 ^ 32) = 0) ∧ (s.crystal.msgs.length < 32768) ∧ (leadRndv
      g.body = true ∧ rndvFull s = true))
    ∧ (∃ (r : Nat) (x : Nat) (q : Nat) (g : RSeg) (s : State), (s.crystal.input = [.arrive x q]) ∧ (s.crystal.holding = []) ∧
      (deliveryTakes s = true) ∧ (rsegOf s x q = some g) ∧ (leadDestRoom g.body = r) ∧ (msgOf s x (leadMsg g.body) = none) ∧
      ((s.room r).st = 1) ∧ (subMod (leadMsg g.body) (s.flow x).recv.n (2 ^ 32) = 0) ∧ (s.crystal.msgs.length < 32768) ∧ (leadRndv
      g.body = false) ∧ ((∀ e ∈ s.crystal.posted, e.room ≠ r)) ∧ (tilesNeeded g.body = 0 ∨ tilesUsed s (s.room r).part + tilesNeeded
      g.body ≤ partTiles s (s.room r).part) ∧ (unexpSpills s (s.room r).part = false ∨ spillFull s (s.room r).part = false))
    ∧ (∃ (r : Nat) (x : Nat) (q : Nat) (g : RSeg) (s : State), (s.crystal.input = [.arrive x q]) ∧ (s.crystal.holding = []) ∧
      (deliveryTakes s = true) ∧ (rsegOf s x q = some g) ∧ (leadDestRoom g.body = r) ∧ (msgOf s x (leadMsg g.body) = none) ∧
      ((s.room r).st = 1) ∧ (subMod (leadMsg g.body) (s.flow x).recv.n (2 ^ 32) = 0) ∧ (s.crystal.msgs.length < 32768) ∧ (leadRndv
      g.body = false) ∧ (bestPosted (fun p => !p.spilled) r (leadCtx g.body) (leadRank g.body) (leadTag g.body) s = none) ∧
      (roomSpilledPosted s r = true))
    ∧ (∃ (p : Posted) (u : Unexp) (s : State), (s.crystal.input = [.post p]) ∧ (s.crystal.holding = []) ∧ (deliveryTakes s = true) ∧
      ((s.room p.room).st = 1) ∧ (bestUnexp (fun u => !u.spilled) p s = some u) ∧ (u.rndv = true) ∧ (rndvFull s = false))
    ∧ (∃ (p : Posted) (u : Unexp) (s : State), (s.crystal.input = [.post p]) ∧ (s.crystal.holding = []) ∧ (deliveryTakes s = true) ∧
      ((s.room p.room).st = 1) ∧ (bestUnexp (fun u => !u.spilled) p s = some u) ∧ (u.rndv = false))
    ∧ (∃ (p : Posted) (s : State), (s.crystal.input = [.post p]) ∧ (s.crystal.holding = []) ∧ (deliveryTakes s = true) ∧ ((s.room
      p.room).st = 1) ∧ ((∀ e ∈ s.crystal.unexp, e.room ≠ p.room)) ∧ (postSpills s p.part = false ∨ spillFull s p.part = false))
    ∧ (∃ (p : Posted) (s : State), (s.crystal.input = [.post p]) ∧ (s.crystal.holding = []) ∧ (deliveryTakes s = true) ∧ ((s.room
      p.room).st = 1) ∧ ((∀ e ∈ s.crystal.unexp, e.room ≠ p.room)) ∧ (postSpills s p.part = true) ∧ (spillFull s p.part = true))
    ∧ (∃ (p : Posted) (s : State), (s.crystal.holding = [(p.room, .post p)]) ∧ ((s.room p.room).st = 1) ∧ (s.crystal.ueNext = false)
      ∧ ((∀ e ∈ s.crystal.unexp, e.room ≠ p.room)) ∧ (postSpills s p.part = false ∨ spillFull s p.part = false))
    ∧ (∃ (part : Nat) (p : Posted) (s : State), (s.crystal.posted.filter (fun e => e.part == part && e.spilled) = [p]) ∧ (postedOn s
      part < partPosted s part) ∧ (s.crystal.ueNext = false))
    ∧ (∃ (part : Nat) (u : Unexp) (s : State), (s.crystal.unexp.filter (fun e => e.part == part && e.spilled) = [u]) ∧ (unexpOn s
      part < partUnexp s part) ∧ (s.crystal.ueNext = false))
    ∧ (∃ (r : Nat) (e : List Word) (p : Posted) (s : State), (s.crystal.input = [.cancel r e]) ∧ (s.crystal.holding = []) ∧
      (cancelTarget s r (wf_ e 6 0 32) (fun p => !p.spilled) = some p) ∧ ((s.room r).st = 1) ∧ (s.hostStopped = false) ∧ (p.silent =
      false) ∧ (weSilent e = false) ∧ (Certain r s))
    ∧ (∃ (r : Nat) (e : List Word) (s : State), (s.crystal.input = [.cancel r e]) ∧ (s.crystal.holding = []) ∧ ((∀ p ∈
      s.crystal.posted, p.room = r → p.cookie ≠ wf_ e 6 0 32)) ∧ (roomSpilledPosted s r = false) ∧ ((s.room r).st = 1) ∧
      (s.hostStopped = false) ∧ (weSilent e = false) ∧ (Certain r s))
    ∧ (∃ (x : Nat) (q : Nat) (bad : List Nat) (g : RSeg) (m : MsgEntry) (s : State), (rsegOf s x q = some g) ∧ (msgOf s x (leadMsg
      g.body) = some m) ∧ (g.queued = true) ∧ (leadOp g.body = 1) ∧ (m.recv = none) ∧ (m.discarding = false) ∧ (g.st = .inProgress)
      ∧ (tilesGood g = false ∨ (∃ k ∈ bad, k ∈ tilesOf g)))
    ∧ (∃ (x : Nat) (q : Nat) (g : RSeg) (m : MsgEntry) (s : State), (rsegOf s x q = some g) ∧ (msgOf s x (leadMsg g.body) = some m)
      ∧ (g.queued = true) ∧ (leadOp g.body = 1) ∧ (m.recv = none) ∧ (m.discarding = false) ∧ (g.st = .inProgress) ∧ (tilesGood g =
      true))
    ∧ (∃ (r : Nat) (h : Nat × CrOp) (s : State), (s.crystal.holding.find? (fun e => e.1 == r) = some h) ∧ (s.crystal.ueNext = true))
    ∧ (∃ (g : RndvGet) (rest : List RndvGet) (s : State), (s.crystal.gets = g :: rest) ∧ (s.hostStopped = false) ∧ (segWaits
      (s.idxOf g.dest) false s = false) ∧ (s.fenced (s.idxOf g.dest) = false))
    ∧ (∃ (g : RndvGet) (rest : List RndvGet) (s : State), (s.crystal.gets = g :: rest) ∧ (s.hostStopped = false) ∧ (segWaits
      (s.idxOf g.dest) false s = false) ∧ (s.fenced (s.idxOf g.dest) = true)) :=
  ⟨⟨5, 1, 7, sg 7 (led 1 1 5 0 16 0), pstd 5 0 1 6 4 77 3,
    { stT [] with plan := planT, porch := { rooms := [(5, { ctx := ctxW, st := 1, job := 5, everActive := true, resident := true })] }, clk := { ns := 100000000 }, thresh := { flows := [(1, flw [sg 7 (led 1 1 5 0 16 0)])] }, crystal := { input := [.arrive 1 7], posted := [pstd 5 0 1 6 4 9 8, pstd 5 0 1 6 4 77 3, pstd 5 0 1 6 3 9 1] } },
    by decide +kernel⟩,
  ⟨5, 1, 7, sg 7 (led 1 8 5 0 64 0),
    { stT [] with plan := planT, porch := { rooms := [(5, { ctx := ctxW, st := 1, job := 5, everActive := true, resident := true })] }, clk := { ns := 100000000 }, thresh := { flows := [(1, flw [sg 7 (led 1 8 5 0 64 0)])] }, crystal := { input := [.arrive 1 7], gets := List.replicate (4096 + Config.rndvSpill 0) { room := 5, dest := 1, destRoom := 9, keyIdx := 3, keyGen := 2, remote := 4096, msgId := 6, len := 100, recv := some (pstd 5 0 1 6 4 77 3), rank := 6, ctx := 1, tag := 4, imm := none } } },
    by refine ⟨?_, ?_, ?_, ?_, ?_, ?_, ?_, ?_, ?_, ⟨by decide +kernel, by unfold rndvFull; simp; exact Nat.le_refl _⟩⟩ <;> decide +kernel⟩,
  ⟨5, 1, 7, sg 7 (led 1 0 5 0 64 0) 2,
    { stT [] with plan := planT, porch := { rooms := [(5, { ctx := ctxW, st := 1, job := 5, everActive := true, resident := true })] }, clk := { ns := 100000000 }, thresh := { flows := [(1, flw [sg 7 (led 1 0 5 0 64 0) 2])] }, crystal := { input := [.arrive 1 7] } },
    by decide +kernel⟩,
  ⟨5, 1, 7, sg 7 (led 1 1 5 0 16 0),
    { stT [] with plan := planT, porch := { rooms := [(5, { ctx := ctxW, st := 1, job := 5, everActive := true, resident := true })] }, clk := { ns := 100000000 }, thresh := { flows := [(1, flw [sg 7 (led 1 1 5 0 16 0)])] }, crystal := { input := [.arrive 1 7], posted := [pstd 5 0 1 6 4 9 8 true] } },
    by decide +kernel⟩,
  ⟨pstd 5 0 1 6 4 77 3, uxp 8 5 0 1 6 4 1 (led 1 8 5 0 64 0) true,
    { stT [] with plan := planT, porch := { rooms := [(5, { ctx := ctxW, st := 1, job := 5, everActive := true, resident := true })] }, clk := { ns := 100000000 }, thresh := { flows := [(1, flw [sg 7 (led 1 1 5 0 16 0)])] }, crystal := { input := [.post (pstd 5 0 1 6 4 77 3)], unexp := [uxp 8 5 0 1 6 4 1 (led 1 8 5 0 64 0) true] } },
    by refine ⟨?_, ?_, ?_, ?_, ?_, ?_, by unfold rndvFull; simp⟩ <;> decide +kernel⟩,
  ⟨pstd 5 0 1 6 4 77 3, uxp 8 5 0 1 6 4 1 (led 1 1 5 0 16 0),
    { stT [] with plan := planT, porch := { rooms := [(5, { ctx := ctxW, st := 1, job := 5, everActive := true, resident := true })] }, clk := { ns := 100000000 }, thresh := { flows := [(1, flw [sg 7 (led 1 1 5 0 16 0)])] }, crystal := { input := [.post (pstd 5 0 1 6 4 77 3)], unexp := [uxp 8 5 0 1 6 4 1 (led 1 1 5 0 16 0)] } },
    by decide +kernel⟩,
  ⟨pstd 5 0 1 6 4 77 3,
    { stT [] with plan := planT, porch := { rooms := [(5, { ctx := ctxW, st := 1, job := 5, everActive := true, resident := true })] }, clk := { ns := 100000000 }, thresh := { flows := [(1, flw [sg 7 (led 1 1 5 0 16 0)])] }, crystal := { input := [.post (pstd 5 0 1 6 4 77 3)] } },
    by decide +kernel⟩,
  ⟨pstd 5 0 1 6 4 77 3,
    { stT [] with plan := planT, porch := { rooms := [(5, { ctx := ctxW, st := 1, job := 5, everActive := true, resident := true })] }, clk := { ns := 100000000 }, thresh := { flows := [(1, flw [sg 7 (led 1 1 5 0 16 0)])] }, crystal := { input := [.post (pstd 5 0 1 6 4 77 3)], posted := (List.range 16384).map (fun i => pstd 7 0 1 6 4 i i true) } },
    by decide +kernel⟩,
  ⟨pstd 5 0 1 6 4 77 3,
    { stT [] with plan := planT, porch := { rooms := [(5, { ctx := ctxW, st := 1, job := 5, everActive := true, resident := true })] }, clk := { ns := 100000000 }, thresh := { flows := [(1, flw [sg 7 (led 1 1 5 0 16 0)])] }, crystal := { holding := [(5, .post (pstd 5 0 1 6 4 77 3))] } },
    by decide +kernel⟩,
  ⟨0, pstd 6 0 1 6 4 9 8 true,
    { stT [] with plan := planT, porch := { rooms := [(5, { ctx := ctxW, st := 1, job := 5, everActive := true, resident := true })] }, clk := { ns := 100000000 }, thresh := { flows := [(1, flw [sg 7 (led 1 1 5 0 16 0)])] }, crystal := { posted := [pstd 5 0 1 6 4 77 3, pstd 6 0 1 6 4 9 8 true] } },
    by decide +kernel⟩,
  ⟨0, uxp 9 5 0 1 6 4 1 [] false true,
    { stT [] with plan := planT, porch := { rooms := [(5, { ctx := ctxW, st := 1, job := 5, everActive := true, resident := true })] }, clk := { ns := 100000000 }, thresh := { flows := [(1, flw [sg 7 (led 1 1 5 0 16 0)])] }, crystal := { unexp := [uxp 8 5 0 1 6 4 1 (led 1 1 5 0 16 0), uxp 9 5 0 1 6 4 1 [] false true] } },
    by decide +kernel⟩,
  ⟨5, [wd (0x50 + 2 ^ 63), 0, 0, 0, 0, 0, 77, 0], pstd 5 0 1 6 4 77 3,
    { stT [] with plan := planT, porch := { rooms := [(5, { ctx := ctxW, st := 1, job := 5, everActive := true, resident := true, outstanding := 3, reserved := 3 })] }, clk := { ns := 100000000 }, thresh := { flows := [(1, flw [sg 7 (led 1 1 5 0 16 0)])] }, crystal := { input := [.cancel 5 [wd (0x50 + 2 ^ 63), 0, 0, 0, 0, 0, 77, 0]], posted := [pstd 5 0 1 6 4 77 9, pstd 5 0 1 6 4 77 3] } },
    by decide +kernel⟩,
  ⟨5, [wd (0x50 + 2 ^ 63), 0, 0, 0, 0, 0, 77, 0],
    { stT [] with plan := planT, porch := { rooms := [(5, { ctx := ctxW, st := 1, job := 5, everActive := true, resident := true, outstanding := 3, reserved := 3 })] }, clk := { ns := 100000000 }, thresh := { flows := [(1, flw [sg 7 (led 1 1 5 0 16 0)])] }, crystal := { input := [.cancel 5 [wd (0x50 + 2 ^ 63), 0, 0, 0, 0, 0, 77, 0]], posted := [pstd 5 0 1 6 4 78 9] } },
    by decide +kernel⟩,
  ⟨1, 7, [],
    { sg 7 (led 1 0 5 0 64 0) 2 with queued := true, accepted := true, got := [{ cel tyPayload [wd 5] 7 2 1 with check := 3 }] },
    { id := 8, src := 1, msgId := 0, room := 5, total := 64 },
    { stT [] with plan := planT, porch := { rooms := [(5, { ctx := ctxW, st := 1, job := 5, everActive := true, resident := true })] }, clk := { ns := 100000000 }, thresh := { flows := [(1, flw [{ sg 7 (led 1 0 5 0 64 0) 2 with queued := true, accepted := true, got := [{ cel tyPayload [wd 5] 7 2 1 with check := 3 }] }])] }, crystal := { msgs := [{ id := 8, src := 1, msgId := 0, room := 5, total := 64 }] } },
    by decide +kernel⟩,
  ⟨1, 7, { sg 7 (led 1 0 5 0 64 0) 2 with queued := true, accepted := true, got := [cel tyPayload [wd 5] 7 2 1], msgId := 8 },
    { id := 8, src := 1, msgId := 0, room := 5, total := 64 },
    { stT [] with plan := planT, porch := { rooms := [(5, { ctx := ctxW, st := 1, job := 5, everActive := true, resident := true })] }, clk := { ns := 100000000 }, thresh := { flows := [(1, flw [{ sg 7 (led 1 0 5 0 64 0) 2 with queued := true, accepted := true, got := [cel tyPayload [wd 5] 7 2 1], msgId := 8 }])] }, crystal := { msgs := [{ id := 8, src := 1, msgId := 0, room := 5, total := 64 }], unexp := [uxp 8 5 0 1 6 4 1 (led 1 1 5 0 16 0)] } },
    by decide +kernel⟩,
  ⟨5, (5, .post (pstd 5 0 1 6 4 77 3)),
    { stT [] with plan := planT, porch := { rooms := [(5, { ctx := ctxW, st := 1, job := 5, everActive := true, resident := true })] }, clk := { ns := 100000000 }, thresh := { flows := [(1, flw [sg 7 (led 1 1 5 0 16 0)])] }, crystal := { holding := [(5, .post (pstd 5 0 1 6 4 77 3))], ueNext := true } },
    by decide +kernel⟩,
  ⟨{ room := 5, dest := 1, destRoom := 9, keyIdx := 3, keyGen := 2, remote := 4096, msgId := 6, len := 100, recv := some (pstd 5 0 1 6 4 77 3), rank := 6, ctx := 1, tag := 4, imm := none },
    [{ room := 5, dest := 1, destRoom := 9, keyIdx := 3, keyGen := 2, remote := 4096, msgId := 6, len := 100, recv := some (pstd 5 0 1 6 4 77 3), rank := 6, ctx := 1, tag := 4, imm := none }],
    { stT [] with plan := planT, porch := { rooms := [(5, { ctx := ctxW, st := 1, job := 5, everActive := true, resident := true })] }, clk := { ns := 100000000 }, thresh := { flows := [(1, flw [sg 7 (led 1 1 5 0 16 0)])] }, crystal := { gets := [{ room := 5, dest := 1, destRoom := 9, keyIdx := 3, keyGen := 2, remote := 4096, msgId := 6, len := 100, recv := some (pstd 5 0 1 6 4 77 3), rank := 6, ctx := 1, tag := 4, imm := none }, { room := 5, dest := 1, destRoom := 9, keyIdx := 3, keyGen := 2, remote := 4096, msgId := 6, len := 100, recv := some (pstd 5 0 1 6 4 77 3), rank := 6, ctx := 1, tag := 4, imm := none }] } },
    by decide +kernel⟩,
  ⟨{ room := 5, dest := 1, destRoom := 9, keyIdx := 3, keyGen := 2, remote := 4096, msgId := 6, len := 100, recv := some (pstd 5 0 1 6 4 77 3), rank := 6, ctx := 1, tag := 4, imm := none },
    [{ room := 5, dest := 1, destRoom := 9, keyIdx := 3, keyGen := 2, remote := 4096, msgId := 6, len := 100, recv := some (pstd 5 0 1 6 4 77 3), rank := 6, ctx := 1, tag := 4, imm := none }],
    { stT [] with plan := planT, porch := { rooms := [(5, { ctx := ctxW, st := 1, job := 5, everActive := true, resident := true })] }, clk := { ns := 100000000 }, thresh := { flows := [(1, flw [sg 7 (led 1 1 5 0 16 0)])] }, crystal := { gets := [{ room := 5, dest := 1, destRoom := 9, keyIdx := 3, keyGen := 2, remote := 4096, msgId := 6, len := 100, recv := some (pstd 5 0 1 6 4 77 3), rank := 6, ctx := 1, tag := 4, imm := none }, { room := 5, dest := 1, destRoom := 9, keyIdx := 3, keyGen := 2, remote := 4096, msgId := 6, len := 100, recv := some (pstd 5 0 1 6 4 77 3), rank := 6, ctx := 1, tag := 4, imm := none }] }, fault := { fences := [1] } },
    by decide +kernel⟩⟩

theorem witness_WorkEntriesAreInjected :
    (∃ (s : State), s.hostStopped = true ∨ (s.porch.fetchQ = [] ∧ s.porch.stalled = []))
    ∧ (∃ (it : WorkItem) (rest : List WorkItem) (st : Nat) (aux : Nat) (s : State), (Judging it rest s) ∧ (Certain it.room s) ∧
      ((s.room it.room).st = 1) ∧ (weSilent it.entry = false) ∧ ((s.fenced s.ownIdx = true ∧ st = 2 ∧ aux = 1) ∨ (s.fenced s.ownIdx
      = false ∧ (s.room it.room).job = 0 ∧ st = 3 ∧ aux = 0) ∨ (s.fenced s.ownIdx = false ∧ (s.room it.room).job ≠ 0 ∧ ((weOp
      it.entry = 0 ∧ st = 0 ∧ aux = 0) ∨ (weOp it.entry ∉ [0, 1, 2, 0x10, 0x20, 0x40, 0x50] ∧ isAtomic (weOp it.entry) = false ∧ st
      = 6 ∧ aux = 0) ∨ ((weOp it.entry ∈ [1, 0x10, 0x20] ∨ isAtomic (weOp it.entry) = true) ∧ ((s.jobSlot (s.room it.room).job =
      none ∧ st = 3 ∧ aux = 0) ∨ (∃ slot, s.jobSlot (s.room it.room).job = some slot ∧ s.get .JOB_SLOT_LAST_RANK slot < weRank
      it.entry ∧ st = 4 ∧ aux = 0)))))))
    ∧ (∃ (it : WorkItem) (rest : List WorkItem) (st : Nat) (s : State), (Judging it rest s) ∧ (Certain it.room s) ∧ ((s.room
      it.room).st = 1) ∧ ((s.room it.room).job ≠ 0) ∧ (weSilent it.entry = false) ∧ (s.fenced s.ownIdx = false) ∧ (weOp it.entry =
      2) ∧ (wePickup it.entry = true) ∧ ((s.crystalOn = false ∧ st = 25) ∨ (s.crystalOn = true ∧ (s.room it.room).order = 1 ∧ weRank
      it.entry = 0xFFFFFF ∧ st = 19)))
    ∧ (∃ (it : WorkItem) (rest : List WorkItem) (s : State), (Judging it rest s) ∧ ((s.room it.room).job ≠ 0) ∧ (s.fenced s.ownIdx =
      false) ∧ (weOp it.entry = 2) ∧ (wePickup it.entry = true) ∧ (s.crystalOn = true) ∧ (¬ ((s.room it.room).order = 1 ∧ weRank
      it.entry = 0xFFFFFF)))
    ∧ (∃ (it : WorkItem) (rest : List WorkItem) (s : State), (Judging it rest s) ∧ ((s.room it.room).job ≠ 0) ∧ (s.fenced s.ownIdx =
      false) ∧ (weOp it.entry = 0x50) ∧ (s.crystalOn = true))
    ∧ (∃ (it : WorkItem) (rest : List WorkItem) (s : State), (Judging it rest s) ∧ ((s.room it.room).job ≠ 0) ∧ (s.fenced s.ownIdx =
      false) ∧ (weOp it.entry = 0x40))
    ∧ (∃ (it : WorkItem) (rest : List WorkItem) (slot : Nat) (s : State), (Judging it rest s) ∧ (s.fenced s.ownIdx = false) ∧ (weOp
      it.entry ∈ [1, 0x10, 0x20]) ∧ ((s.room it.room).job ≠ 0) ∧ (s.jobSlot (s.room it.room).job = some slot) ∧ (weRank it.entry ≤
      s.get .JOB_SLOT_LAST_RANK slot) ∧ (rankCached s (s.room it.room).job (weRank it.entry) = none) ∧ (s.cellarOn = true) ∧
      (s.thresh.cellarFailed = none) ∧ (cellarTakes s = true))
    ∧ (∃ (it : WorkItem) (rest : List WorkItem) (node : Nat) (dr : Nat) (x : Nat) (s : State), (Judging it rest s) ∧ (RankKnown it
      node dr s) ∧ (x = s.idxOf node) ∧ (weOp it.entry = 1 ∨ weOp it.entry = 0x10) ∧ (weInline it.entry = true) ∧ ((s.flow
      x).send.st = 2) ∧ ((s.flow x).send.deferred = none) ∧ (sluiceTakes s false = true))
    ∧ (∃ (it : WorkItem) (rest : List WorkItem) (node : Nat) (dr : Nat) (x : Nat) (s : State), (Judging it rest s) ∧ (RankKnown it
      node dr s) ∧ (x = s.idxOf node) ∧ (weOp it.entry = 1 ∨ weOp it.entry = 0x10) ∧ (weInline it.entry = true) ∧ ((s.flow
      x).send.st = 0) ∧ (ackQueueRoom s = true))
    ∧ (∃ (it : WorkItem) (s : State), (s.hostStopped = false) ∧ (s.porch.fetchQ = []) ∧ (s.porch.stalled = [it]) ∧ (it.cont = none)
      ∧ (it.lb = none) ∧ (Certain it.room s) ∧ ((s.room it.room).st = 1) ∧ (weSilent it.entry = false) ∧ (Due s (it.at_ + s.get
      .THRESH_CFG_OP_TIMEOUT_MS * 1000000))) :=
  ⟨⟨{ stT [] with plan := planT, porch := { rooms := [(5, { ctx := ctxW, st := 1, job := 5, everActive := true, resident := true })] }, clk := { ns := 100000000 }, thresh := {  }, crystal := {  } },
    by decide +kernel⟩,
  ⟨{ room := 5, entry := [wd (1 + 0 * 2 ^ 8 + 2 ^ 16 + 6 * 2 ^ 32 + 2 ^ 63), wd 64, wd (16 + 77 * 2 ^ 32), wd 4096, 0, wd 4, wd 21, wd 22] },
    [], 2, 1,
    { stT [] with plan := planT, porch := { rooms := [(5, { ctx := ctxW, st := 1, job := 5, everActive := true, resident := true, outstanding := 1, reserved := 1, pickUsed := 500 })], fetchQ := [{ room := 5, entry := [wd (1 + 0 * 2 ^ 8 + 2 ^ 16 + 6 * 2 ^ 32 + 2 ^ 63), wd 64, wd (16 + 77 * 2 ^ 32), wd 4096, 0, wd 4, wd 21, wd 22] }], pickUsed := 500 }, clk := { ns := 100000000 }, thresh := {  }, crystal := {  }, fault := { fences := [0] } },
    by decide +kernel⟩,
  ⟨{ room := 5, entry := [wd (2 + 16 * 2 ^ 8 + 2 ^ 16 + 6 * 2 ^ 32 + 2 ^ 63), wd 64, wd (16 + 77 * 2 ^ 32), wd 4096, 0, wd 4, wd 21, wd 22] },
    [], 25,
    { stT [(.FAULT_STAT_LEVEL, 6, 2)] with plan := planT, porch := { rooms := [(5, { ctx := ctxW, st := 1, job := 5, everActive := true, resident := true, outstanding := 1, reserved := 1, pickUsed := 500 })], fetchQ := [{ room := 5, entry := [wd (2 + 16 * 2 ^ 8 + 2 ^ 16 + 6 * 2 ^ 32 + 2 ^ 63), wd 64, wd (16 + 77 * 2 ^ 32), wd 4096, 0, wd 4, wd 21, wd 22] }], pickUsed := 500 }, clk := { ns := 100000000 }, thresh := {  }, crystal := {  } },
    by decide +kernel⟩,
  ⟨{ room := 5, entry := [wd (2 + 16 * 2 ^ 8 + 2 ^ 16 + 16777215 * 2 ^ 32 + 2 ^ 63), wd 64, wd (16 + 77 * 2 ^ 32), wd 4096, 0, wd 4, wd 21, wd 22] },
    [],
    { stT [] with plan := planT, porch := { rooms := [(5, { ctx := ctxW, st := 1, job := 5, everActive := true, resident := true, outstanding := 1, reserved := 1, pickUsed := 500 })], fetchQ := [{ room := 5, entry := [wd (2 + 16 * 2 ^ 8 + 2 ^ 16 + 16777215 * 2 ^ 32 + 2 ^ 63), wd 64, wd (16 + 77 * 2 ^ 32), wd 4096, 0, wd 4, wd 21, wd 22] }], pickUsed := 500 }, clk := { ns := 100000000 }, thresh := {  }, crystal := {  } },
    by decide +kernel⟩,
  ⟨{ room := 5, entry := [wd (80 + 0 * 2 ^ 8 + 2 ^ 16 + 6 * 2 ^ 32 + 2 ^ 63), wd 64, wd (16 + 77 * 2 ^ 32), wd 4096, 0, wd 4, wd 21, wd 22] },
    [],
    { stT [] with plan := planT, porch := { rooms := [(5, { ctx := ctxW, st := 1, job := 5, everActive := true, resident := true, outstanding := 1, reserved := 1, pickUsed := 500 })], fetchQ := [{ room := 5, entry := [wd (80 + 0 * 2 ^ 8 + 2 ^ 16 + 6 * 2 ^ 32 + 2 ^ 63), wd 64, wd (16 + 77 * 2 ^ 32), wd 4096, 0, wd 4, wd 21, wd 22] }], pickUsed := 500 }, clk := { ns := 100000000 }, thresh := {  }, crystal := {  } },
    by decide +kernel⟩,
  ⟨{ room := 5, entry := [wd (64 + 0 * 2 ^ 8 + 2 ^ 16 + 6 * 2 ^ 32 + 2 ^ 63), wd 64, wd (16 + 77 * 2 ^ 32), wd 4096, 0, wd 4, wd 21, wd 22] },
    [],
    { stT [] with plan := planT, porch := { rooms := [(5, { ctx := ctxW, st := 1, job := 5, everActive := true, resident := true, outstanding := 1, reserved := 1, pickUsed := 500 })], fetchQ := [{ room := 5, entry := [wd (64 + 0 * 2 ^ 8 + 2 ^ 16 + 6 * 2 ^ 32 + 2 ^ 63), wd 64, wd (16 + 77 * 2 ^ 32), wd 4096, 0, wd 4, wd 21, wd 22] }], pickUsed := 500 }, clk := { ns := 100000000 }, thresh := {  }, crystal := {  } },
    by decide +kernel⟩,
  ⟨{ room := 5, entry := [wd (1 + 0 * 2 ^ 8 + 2 ^ 16 + 6 * 2 ^ 32 + 2 ^ 63), wd 64, wd (16 + 77 * 2 ^ 32), wd 4096, 0, wd 4, wd 21, wd 22] },
    [], 2,
    { stT [] with plan := planT, porch := { rooms := [(5, { ctx := ctxW, st := 1, job := 5, everActive := true, resident := true, outstanding := 1, reserved := 1, pickUsed := 500 })], fetchQ := [{ room := 5, entry := [wd (1 + 0 * 2 ^ 8 + 2 ^ 16 + 6 * 2 ^ 32 + 2 ^ 63), wd 64, wd (16 + 77 * 2 ^ 32), wd 4096, 0, wd 4, wd 21, wd 22] }], pickUsed := 500 }, clk := { ns := 100000000 }, thresh := {  }, crystal := {  } },
    by decide +kernel⟩,
  ⟨{ room := 5, entry := [wd (1 + 1 * 2 ^ 8 + 2 ^ 16 + 6 * 2 ^ 32 + 2 ^ 63), wd 64, wd (16 + 77 * 2 ^ 32), wd 4096, 0, wd 4, wd 21, wd 22] },
    [], 1, 9, 1,
    { stT [] with plan := planT, porch := { rooms := [(5, { ctx := ctxW, st := 1, job := 5, everActive := true, resident := true, outstanding := 1, reserved := 1, pickUsed := 500 })], fetchQ := [{ room := 5, entry := [wd (1 + 1 * 2 ^ 8 + 2 ^ 16 + 6 * 2 ^ 32 + 2 ^ 63), wd 64, wd (16 + 77 * 2 ^ 32), wd 4096, 0, wd 4, wd 21, wd 22] }], pickUsed := 500 }, clk := { ns := 100000000 }, thresh := { rankCache := [(5, 6, wd (1 + 9 * 2 ^ 32 + 2 ^ 63))], flows := [(1, { node := 1, send := { st := 2, epoch := 1, next := 65535, sendCtr := 8, opCtr := 6 } })] }, crystal := {  } },
    by refine ⟨?_, ⟨⟨2, wd (1 + 9 * 2 ^ 32 + 2 ^ 63), by decide +kernel⟩, by decide +kernel⟩, ?_, ?_, ?_, ?_, ?_, ?_⟩ <;> decide +kernel⟩,
  ⟨{ room := 5, entry := [wd (1 + 1 * 2 ^ 8 + 2 ^ 16 + 6 * 2 ^ 32 + 2 ^ 63), wd 64, wd (16 + 77 * 2 ^ 32), wd 4096, 0, wd 4, wd 21, wd 22] },
    [], 1, 9, 1,
    { stT [] with plan := planT, porch := { rooms := [(5, { ctx := ctxW, st := 1, job := 5, everActive := true, resident := true, outstanding := 1, reserved := 1, pickUsed := 500 })], fetchQ := [{ room := 5, entry := [wd (1 + 1 * 2 ^ 8 + 2 ^ 16 + 6 * 2 ^ 32 + 2 ^ 63), wd 64, wd (16 + 77 * 2 ^ 32), wd 4096, 0, wd 4, wd 21, wd 22] }], pickUsed := 500 }, clk := { ns := 100000000 }, thresh := { rankCache := [(5, 6, wd (1 + 9 * 2 ^ 32 + 2 ^ 63))] }, crystal := {  } },
    by refine ⟨?_, ⟨⟨2, wd (1 + 9 * 2 ^ 32 + 2 ^ 63), by decide +kernel⟩, by decide +kernel⟩, ?_, ?_, ?_, ?_, ackRoom _ (by decide +kernel)⟩ <;> decide +kernel⟩,
  ⟨{ room := 5, entry := [wd (32 + 0 * 2 ^ 8 + 2 ^ 16 + 6 * 2 ^ 32 + 2 ^ 63), wd 64, wd (16 + 77 * 2 ^ 32), wd 4096, 0, wd 4, wd 21, wd 22], at_ := 5 },
    { stT [] with plan := planT, porch := { rooms := [(5, { ctx := ctxW, st := 1, job := 5, everActive := true, resident := true, outstanding := 1, reserved := 1, pickUsed := 500 })], stalled := [{ room := 5, entry := [wd (32 + 0 * 2 ^ 8 + 2 ^ 16 + 6 * 2 ^ 32 + 2 ^ 63), wd 64, wd (16 + 77 * 2 ^ 32), wd 4096, 0, wd 4, wd 21, wd 22], at_ := 5 }], pickUsed := 500 }, clk := { ns := 100000000 }, thresh := {  }, crystal := {  } },
    by decide +kernel⟩⟩

theorem witness_SegmentsAreAdmitted :
    (∃ (g : Seg) (s : State), (s.thresh.admitQ = [g]) ∧ (sluiceRuns s = false))
    ∧ (∃ (q : Nat) (g : Seg) (rest : List Seg) (s : State), (s.thresh.admitQ = []) ∧ (Tab.get s.sluice.queues q [] = g :: rest) ∧
      (g.q = q) ∧ (sluiceRuns s = true) ∧ ((s.flow g.peer).send.wait = []) ∧ (flowTests s g = true) ∧ (deviceTests s g = true))
    ∧ (∃ (q : Nat) (g : Seg) (rest : List Seg) (s : State), (s.thresh.admitQ = []) ∧ (Tab.get s.sluice.queues q [] = g :: rest) ∧
      (g.q = q) ∧ (sluiceRuns s = true) ∧ ((s.flow g.peer).send.wait ≠ [] ∨ flowTests s g = false) ∧ (s.sluice.waitCount < 8192))
    ∧ (∃ (q : Nat) (g : Seg) (rest : List Seg) (s : State), (s.thresh.admitQ = []) ∧ (Tab.get s.sluice.queues q [] = g :: rest) ∧
      (sluiceRuns s = true) ∧ ((s.flow g.peer).send.wait ≠ [] ∨ flowTests s g = false) ∧ (8192 ≤ s.sluice.waitCount))
    ∧ (∃ (q : Nat) (g : Seg) (rest : List Seg) (s : State), (s.thresh.admitQ = []) ∧ (Tab.get s.sluice.queues q [] = g :: rest) ∧
      (sluiceRuns s = false ∨ ((s.flow g.peer).send.wait = [] ∧ flowTests s g = true ∧ deviceTests s g = false)))
    ∧ (∃ (x : Nat) (g : Seg) (rest : List Seg) (c : Instr) (s : State), ((s.flow x).send.wait = g :: rest) ∧ (g.peer = x) ∧
      (sluiceRuns s = true) ∧ (flowTests s g = true) ∧ (deviceTests s g = true) ∧ (c = .waitlistRetest x ∨ (c = .paceRelease x ∧
      scheduled s = false ∧ Due s (s.flow x).send.nextOk)))
    ∧ (∃ (x : Nat) (g : Seg) (rest : List Seg) (s : State), ((s.flow x).send.wait = g :: rest) ∧ (sluiceRuns s = false ∨ flowTests s
      g = false ∨ deviceTests s g = false))
    ∧ (∃ (x : Nat) (g : Seg) (rest : List Seg) (s : State), ((s.flow x).send.wait = g :: rest) ∧ (sluiceRuns s = false ∨ flowTests s
      g = false ∨ deviceTests s g = false)) :=
  ⟨⟨{ opId := 4, peer := 1, input := 72, room := 5, lead := led 0x10 1 5 8 16 0, cells := 1, bytes := 16, resp := false, data := .none_, seq := 7, epoch := 1, q := 0 },
    { stA [(.JOB_SHAPE_QUEUE, 2, 3), (.HALL_STAT_VC_SET, 0, 3)] with power := { policyRan := true, hkHeld := false }, plan := planA, porch := { rooms := [(5, { ctx := ctxW, st := 1, job := 5, everActive := true, resident := true, outstanding := 1, reserved := 1 })] }, clk := { ns := 100000000 }, thresh := { admitQ := [{ opId := 4, peer := 1, input := 72, room := 5, lead := led 0x10 1 5 8 16 0, cells := 1, bytes := 16, resp := false, data := .none_, seq := 7, epoch := 1, q := 0 }] }, crystal := {  }, sluice := { budget := 600000 } },
    by decide +kernel⟩,
  ⟨3,
    { opId := 4, peer := 1, input := 72, room := 5, lead := led 0x10 1 5 8 16 0, cells := 1, bytes := 16, resp := false, data := .none_, seq := 7, epoch := 1, q := 3 },
    [{ opId := 4, peer := 1, input := 72, room := 5, lead := led 0x10 1 5 8 16 0, cells := 1, bytes := 16, resp := false, data := .none_, seq := 8, epoch := 1, q := 3 }],
    { stA [(.SHAPE_CFG_ENABLE, 3, 1), (.SHAPE_CFG_OVERHEAD, 3, 20), (.SHAPE_CFG_BURST_KIB, 3, 4), (.SHAPE_CFG_RATE, 3, 77)] with power := { policyRan := true, hkHeld := false }, plan := planA, porch := { rooms := [(5, { ctx := ctxW, st := 1, job := 5, everActive := true, resident := true, outstanding := 1, reserved := 1 })] }, clk := { ns := 100000000 }, thresh := { flows := [(1, { node := 1, send := { st := 2, epoch := 1, acked := 6, next := 8 }, recv := { st := 1, epoch := 1 } })] }, crystal := {  }, sluice := { budget := 600000, queues := [(3, [{ opId := 4, peer := 1, input := 72, room := 5, lead := led 0x10 1 5 8 16 0, cells := 1, bytes := 16, resp := false, data := .none_, seq := 7, epoch := 1, q := 3 }, { opId := 4, peer := 1, input := 72, room := 5, lead := led 0x10 1 5 8 16 0, cells := 1, bytes := 16, resp := false, data := .none_, seq := 8, epoch := 1, q := 3 }])], tokens := [(3, 0)] } },
    by decide +kernel⟩,
  ⟨3,
    { opId := 4, peer := 1, input := 72, room := 5, lead := led 0x10 1 5 8 16 0, cells := 1, bytes := 16, resp := false, data := .none_, seq := 7, epoch := 1, q := 3 },
    [{ opId := 4, peer := 1, input := 72, room := 5, lead := led 0x10 1 5 8 16 0, cells := 1, bytes := 16, resp := false, data := .none_, seq := 8, epoch := 1, q := 3 }],
    { stA [] with power := { policyRan := true, hkHeld := false }, plan := planA, porch := { rooms := [(5, { ctx := ctxW, st := 1, job := 5, everActive := true, resident := true, outstanding := 1, reserved := 1 })] }, clk := { ns := 100000000 }, thresh := { flows := [(1, { node := 1, send := { st := 2, epoch := 1, acked := 8, next := 8, nextOk := 900000000, rate := some 5 }, recv := { st := 1, epoch := 1 } })] }, crystal := {  }, sluice := { budget := 600000, queues := [(3, [{ opId := 4, peer := 1, input := 72, room := 5, lead := led 0x10 1 5 8 16 0, cells := 1, bytes := 16, resp := false, data := .none_, seq := 7, epoch := 1, q := 3 }, { opId := 4, peer := 1, input := 72, room := 5, lead := led 0x10 1 5 8 16 0, cells := 1, bytes := 16, resp := false, data := .none_, seq := 8, epoch := 1, q := 3 }])], tokens := [(3, 0)] } },
    by decide +kernel⟩,
  ⟨3,
    { opId := 4, peer := 1, input := 72, room := 5, lead := led 0x10 1 5 8 16 0, cells := 1, bytes := 16, resp := false, data := .none_, seq := 7, epoch := 1, q := 3 },
    [{ opId := 4, peer := 1, input := 72, room := 5, lead := led 0x10 1 5 8 16 0, cells := 1, bytes := 16, resp := false, data := .none_, seq := 8, epoch := 1, q := 3 }],
    { stA [] with power := { policyRan := true, hkHeld := false }, plan := planA, porch := { rooms := [(5, { ctx := ctxW, st := 1, job := 5, everActive := true, resident := true, outstanding := 1, reserved := 1 })] }, clk := { ns := 100000000 }, thresh := { flows := [(1, { node := 1, send := { st := 2, epoch := 1, acked := 58000 }, recv := { st := 1, epoch := 1 } })] }, crystal := {  }, sluice := { budget := 600000, queues := [(3, [{ opId := 4, peer := 1, input := 72, room := 5, lead := led 0x10 1 5 8 16 0, cells := 1, bytes := 16, resp := false, data := .none_, seq := 7, epoch := 1, q := 3 }, { opId := 4, peer := 1, input := 72, room := 5, lead := led 0x10 1 5 8 16 0, cells := 1, bytes := 16, resp := false, data := .none_, seq := 8, epoch := 1, q := 3 }])], tokens := [(3, 0)], waitCount := 8192 } },
    by decide +kernel⟩,
  ⟨3,
    { opId := 4, peer := 1, input := 72, room := 5, lead := led 0x10 1 5 8 16 0, cells := 1, bytes := 16, resp := false, data := .none_, seq := 7, epoch := 1, q := 3 },
    [{ opId := 4, peer := 1, input := 72, room := 5, lead := led 0x10 1 5 8 16 0, cells := 1, bytes := 16, resp := false, data := .none_, seq := 8, epoch := 1, q := 3 }],
    { stA [(.HALL_STAT_VC_SET, 0, 3)] with power := { policyRan := true, hkHeld := false }, plan := planA, porch := { rooms := [(5, { ctx := ctxW, st := 1, job := 5, everActive := true, resident := true, outstanding := 1, reserved := 1 })] }, clk := { ns := 100000000 }, thresh := { flows := [(1, { node := 1, send := { st := 2, epoch := 1, acked := 6, next := 8 }, recv := { st := 1, epoch := 1 } })] }, crystal := {  }, sluice := { budget := 600000, queues := [(3, [{ opId := 4, peer := 1, input := 72, room := 5, lead := led 0x10 1 5 8 16 0, cells := 1, bytes := 16, resp := false, data := .none_, seq := 7, epoch := 1, q := 3 }, { opId := 4, peer := 1, input := 72, room := 5, lead := led 0x10 1 5 8 16 0, cells := 1, bytes := 16, resp := false, data := .none_, seq := 8, epoch := 1, q := 3 }])], tokens := [(3, 0)] } },
    by decide +kernel⟩,
  ⟨1,
    { opId := 4, peer := 1, input := 72, room := 5, lead := led 0x10 1 5 8 16 0, cells := 1, bytes := 16, resp := false, data := .none_, seq := 7, epoch := 1, q := 3 },
    [{ opId := 4, peer := 1, input := 72, room := 5, lead := led 0x10 1 5 8 16 0, cells := 1, bytes := 16, resp := false, data := .none_, seq := 8, epoch := 1, q := 3 }],
    .waitlistRetest 1,
    { stA [(.SHAPE_CFG_ENABLE, 3, 1), (.SHAPE_CFG_OVERHEAD, 3, 20), (.SHAPE_CFG_BURST_KIB, 3, 4), (.SHAPE_CFG_RATE, 3, 77)] with power := { policyRan := true, hkHeld := false }, plan := planA, porch := { rooms := [(5, { ctx := ctxW, st := 1, job := 5, everActive := true, resident := true, outstanding := 1, reserved := 1 })] }, clk := { ns := 100000000 }, thresh := { flows := [(1, { node := 1, send := { st := 2, epoch := 1, acked := 6, wait := [{ opId := 4, peer := 1, input := 72, room := 5, lead := led 0x10 1 5 8 16 0, cells := 1, bytes := 16, resp := false, data := .none_, seq := 7, epoch := 1, q := 3 }, { opId := 4, peer := 1, input := 72, room := 5, lead := led 0x10 1 5 8 16 0, cells := 1, bytes := 16, resp := false, data := .none_, seq := 8, epoch := 1, q := 3 }] }, recv := { st := 1, epoch := 1 } })] }, crystal := {  }, sluice := { budget := 600000, waitCount := 2 } },
    by decide +kernel⟩,
  ⟨1,
    { opId := 4, peer := 1, input := 72, room := 5, lead := led 0x10 1 5 8 16 0, cells := 1, bytes := 16, resp := false, data := .none_, seq := 7, epoch := 1, q := 3 },
    [{ opId := 4, peer := 1, input := 72, room := 5, lead := led 0x10 1 5 8 16 0, cells := 1, bytes := 16, resp := false, data := .none_, seq := 8, epoch := 1, q := 3 }],
    { stA [] with power := { policyRan := true, hkHeld := false }, plan := planA, porch := { rooms := [(5, { ctx := ctxW, st := 1, job := 5, everActive := true, resident := true, outstanding := 1, reserved := 1 })] }, clk := { ns := 100000000 }, thresh := { flows := [(1, { node := 1, send := { st := 2, epoch := 1, acked := 58000, wait := [{ opId := 4, peer := 1, input := 72, room := 5, lead := led 0x10 1 5 8 16 0, cells := 1, bytes := 16, resp := false, data := .none_, seq := 7, epoch := 1, q := 3 }, { opId := 4, peer := 1, input := 72, room := 5, lead := led 0x10 1 5 8 16 0, cells := 1, bytes := 16, resp := false, data := .none_, seq := 8, epoch := 1, q := 3 }] }, recv := { st := 1, epoch := 1 } })] }, crystal := {  }, sluice := { budget := 600000 } },
    by decide +kernel⟩,
  ⟨1,
    { opId := 4, peer := 1, input := 72, room := 5, lead := led 0x10 1 5 8 16 0, cells := 1, bytes := 16, resp := false, data := .none_, seq := 7, epoch := 1, q := 3 },
    [{ opId := 4, peer := 1, input := 72, room := 5, lead := led 0x10 1 5 8 16 0, cells := 1, bytes := 16, resp := false, data := .none_, seq := 8, epoch := 1, q := 3 }],
    { stA [] with power := { policyRan := true, hkHeld := false }, plan := planA, porch := { rooms := [(5, { ctx := ctxW, st := 1, job := 5, everActive := true, resident := true, outstanding := 1, reserved := 1 })] }, clk := { ns := 100000000 }, thresh := { flows := [(1, { node := 1, send := { st := 2, epoch := 1, acked := 58000, wait := [{ opId := 4, peer := 1, input := 72, room := 5, lead := led 0x10 1 5 8 16 0, cells := 1, bytes := 16, resp := false, data := .none_, seq := 7, epoch := 1, q := 3 }, { opId := 4, peer := 1, input := 72, room := 5, lead := led 0x10 1 5 8 16 0, cells := 1, bytes := 16, resp := false, data := .none_, seq := 8, epoch := 1, q := 3 }] }, recv := { st := 1, epoch := 1 } })] }, crystal := {  }, sluice := { budget := 600000 } },
    by decide +kernel⟩⟩

theorem witness_TheSluiceKeepsItsAccounts :
    (∃ (s : State) (n : Nat), (Due s s.sluice.budgetAt) ∧ (n = (s.plan.budgets.getD (s.get .OP_CTRL_OP_POINT) (0, 0, 0)).2.1 * s.get
      .VPOL_STAT_SCALE))
    ∧ (∃ (q : Nat) (s : State), Due s (Tab.get s.sluice.shapeAt q 0))
    ∧ (∃ (s : State), Due s s.sluice.issueAt)
    ∧ (∃ (x : Nat) (c : Cell) (s : State), (c.ty = tyTicket) ∧ (wf_ c.body 0 0 1 = 0) ∧ (c.check = bodyCrc c.body) ∧ (s.hostStopped
      = false) ∧ (x = s.idxOf c.src) ∧ ((s.flow x).recv.st = 1) ∧ ((s.flow x).recv.epoch = c.epoch))
    ∧ (∃ (x : Nat) (c : Cell) (s : State), (c.ty = tyTicket) ∧ (wf_ c.body 0 0 1 = 1) ∧ (c.check = bodyCrc c.body) ∧ (s.hostStopped
      = false) ∧ (x = s.idxOf c.src) ∧ ((s.flow x).send.st = 2) ∧ ((s.flow x).send.epoch = c.epoch) ∧ ((s.flow x).send.wait = []))
    ∧ (∃ (k : Nat) (owed : Nat) (n : Nat) (s : State), (nextClaim s = some (k, owed)) ∧ (k < 131072) ∧ (n = min owed (s.get
      .TICKET_CFG_BATCH)) ∧ (s.hostStopped = false) ∧ (n * 327680 ≤ s.sluice.issue))
    ∧ (∃ (x : Nat) (s : State), (scheduled s = true) ∧ (0 < needOf s x) ∧ ((∀ u, (s.flow x).send.lastReq = some u → Due s (max u
      (s.flow x).send.lastGrant + s.get .TICKET_CFG_RETRY_US * 1000))))
    ∧ (∃ (x : Nat) (s : State), (∃ u ∈ (s.flow x).send.held.drop (ticketWaiters s x), Due s u))
    ∧ (∃ (x : Nat) (r : Nat) (s : State), ((s.flow x).send.rate = some r) ∧ (scheduled s = false) ∧ (Due s ((s.flow x).send.lastAi +
      s.get .MARK_CFG_AI_US * 1000)))
    ∧ (∃ (s : State), Due s s.sluice.histAt)
    ∧ (∃ (m : Master) (s : State), May s m .HIST_CTRL_CLEAR)
    ∧ (∃ (m : Master) (s : State), (May s m .SLUICE_MODE_SCHEDULE) ∧ (causeStands s = false) ∧ (scheduled s = false))
    ∧ (∃ (m : Master) (s : State), (May s m .SLUICE_MODE_SCHEDULE) ∧ (causeStands s = true))
    ∧ (∃ (m : Master) (s : State), May s m .SLUICE_MODE_FORCE_MARKED) :=
  ⟨⟨{ stA [] with power := { policyRan := true, hkHeld := false }, plan := planA, porch := { rooms := [(5, { ctx := ctxW, st := 1, job := 5, everActive := true, resident := true, outstanding := 1, reserved := 1 })] }, clk := { ns := 100000000 }, thresh := {  }, crystal := {  }, sluice := { budget := 600000 } },
    5000 * 32768, by decide +kernel⟩,
  ⟨3,
    { stA [(.SHAPE_CFG_ENABLE, 3, 1), (.SHAPE_CFG_OVERHEAD, 3, 20), (.SHAPE_CFG_BURST_KIB, 3, 4), (.SHAPE_CFG_RATE, 3, 77)] with power := { policyRan := true, hkHeld := false }, plan := planA, porch := { rooms := [(5, { ctx := ctxW, st := 1, job := 5, everActive := true, resident := true, outstanding := 1, reserved := 1 })] }, clk := { ns := 100000000 }, thresh := {  }, crystal := {  }, sluice := { budget := 600000, queues := [(3, [{ opId := 4, peer := 1, input := 72, room := 5, lead := led 0x10 1 5 8 16 0, cells := 1, bytes := 16, resp := false, data := .none_, seq := 7, epoch := 1, q := 3 }, { opId := 4, peer := 1, input := 72, room := 5, lead := led 0x10 1 5 8 16 0, cells := 1, bytes := 16, resp := false, data := .none_, seq := 8, epoch := 1, q := 3 }])], tokens := [(3, 0)] } },
    by decide +kernel⟩,
  ⟨{ stA [] with power := { policyRan := true, hkHeld := false }, plan := planA, porch := { rooms := [(5, { ctx := ctxW, st := 1, job := 5, everActive := true, resident := true, outstanding := 1, reserved := 1 })] }, clk := { ns := 100000000 }, thresh := {  }, crystal := {  }, sluice := { budget := 600000 } },
    by decide +kernel⟩,
  ⟨1, cel tyTicket [wd (0 + 5 * 2 ^ 16 + 9 * 2 ^ 32), wd (0)],
    { stA [] with power := { policyRan := true, hkHeld := false }, plan := planA, porch := { rooms := [(5, { ctx := ctxW, st := 1, job := 5, everActive := true, resident := true, outstanding := 1, reserved := 1 })] }, clk := { ns := 100000000 }, thresh := { flows := [(1, { node := 1, recv := { st := 1, epoch := 1, cum := 10 } })] }, crystal := {  }, sluice := { budget := 600000 } },
    by decide +kernel⟩,
  ⟨1, cel tyTicket [wd (1 + 0), wd (4)],
    { stA [] with power := { policyRan := true, hkHeld := false }, plan := planA, porch := { rooms := [(5, { ctx := ctxW, st := 1, job := 5, everActive := true, resident := true, outstanding := 1, reserved := 1 })] }, clk := { ns := 100000000 }, thresh := { flows := [(1, { node := 1, send := { st := 2, epoch := 1, seen := 65534 }, recv := { st := 1, epoch := 1 } })] }, crystal := {  }, sluice := { budget := 600000 } },
    by decide +kernel⟩,
  ⟨1, 9, 4,
    { stA [] with power := { policyRan := true, hkHeld := false }, plan := planA, porch := { rooms := [(5, { ctx := ctxW, st := 1, job := 5, everActive := true, resident := true, outstanding := 1, reserved := 1 })] }, clk := { ns := 100000000 }, thresh := { flows := [(1, { node := 1, send := { st := 2, epoch := 1, seen := 0 }, recv := { st := 1, epoch := 1, cum := 65534, pending := 9 } })] }, crystal := {  }, sluice := { budget := 600000, issue := 2000000 } },
    by decide +kernel⟩,
  ⟨1,
    { stA [(.SLUICE_MODE_SERVICE, 0, 1)] with power := { policyRan := true, hkHeld := false }, plan := planA, porch := { rooms := [(5, { ctx := ctxW, st := 1, job := 5, everActive := true, resident := true, outstanding := 1, reserved := 1 })] }, clk := { ns := 100000000 }, thresh := { flows := [(1, { node := 1, send := { st := 2, epoch := 1, acked := 6, lastReq := some 5, wait := [{ opId := 4, peer := 1, input := 72, room := 5, lead := led 0x10 0 5 8 99999 9, cells := 1, bytes := 16, resp := false, data := .none_, seq := 7, epoch := 1, q := 3 }] }, recv := { st := 1, epoch := 1 } })] }, crystal := {  }, sluice := { budget := 600000 } },
    by decide +kernel⟩,
  ⟨1,
    { stA [] with power := { policyRan := true, hkHeld := false }, plan := planA, porch := { rooms := [(5, { ctx := ctxW, st := 1, job := 5, everActive := true, resident := true, outstanding := 1, reserved := 1 })] }, clk := { ns := 100000000 }, thresh := { flows := [(1, { node := 1, send := { st := 2, epoch := 1, held := [5, 99999999] }, recv := { st := 1, epoch := 1 } })] }, crystal := {  }, sluice := { budget := 600000 } },
    by decide +kernel⟩,
  ⟨1, 999900,
    { stA [] with power := { policyRan := true, hkHeld := false }, plan := planA, porch := { rooms := [(5, { ctx := ctxW, st := 1, job := 5, everActive := true, resident := true, outstanding := 1, reserved := 1 })] }, clk := { ns := 100000000 }, thresh := { flows := [(1, { node := 1, send := { st := 2, epoch := 1, rate := some 999900 }, recv := { st := 1, epoch := 1 } })] }, crystal := {  }, sluice := { budget := 600000 } },
    by decide +kernel⟩,
  ⟨{ stA [] with power := { policyRan := true, hkHeld := false }, plan := planA, porch := { rooms := [(5, { ctx := ctxW, st := 1, job := 5, everActive := true, resident := true, outstanding := 1, reserved := 1 })] }, clk := { ns := 100000000 }, thresh := {  }, crystal := {  }, sluice := { budget := 600000, queues := [(3, [{ opId := 4, peer := 1, input := 72, room := 5, lead := led 0x10 1 5 8 16 0, cells := 1, bytes := 16, resp := false, data := .none_, seq := 7, epoch := 1, q := 3 }, { opId := 4, peer := 1, input := 72, room := 5, lead := led 0x10 1 5 8 16 0, cells := 1, bytes := 16, resp := false, data := .none_, seq := 8, epoch := 1, q := 3 }])], tokens := [(3, 0)] } },
    by decide +kernel⟩,
  ⟨.hk 0 true,
    { stA [(.HIST_SEL_QUEUE, 0, 3)] with power := { policyRan := true, hkHeld := false }, plan := planA, porch := { rooms := [(5, { ctx := ctxW, st := 1, job := 5, everActive := true, resident := true, outstanding := 1, reserved := 1 })] }, clk := { ns := 100000000 }, thresh := {  }, crystal := {  }, sluice := { budget := 600000, hist := [(histKey 3 1 4, 9), (histKey 2 1 4, 8)] } },
    by decide +kernel⟩,
  ⟨.hk 0 true,
    { stA [] with power := { policyRan := true, hkHeld := false }, plan := planA, porch := { rooms := [(5, { ctx := ctxW, st := 1, job := 5, everActive := true, resident := true, outstanding := 1, reserved := 1 })] }, clk := { ns := 100000000 }, thresh := { flows := [(1, { node := 1, send := { st := 2, epoch := 1, rate := some 5 }, recv := { st := 1, epoch := 1 } })] }, crystal := {  }, sluice := { budget := 600000 } },
    by decide +kernel⟩,
  ⟨.hk 0 true,
    { stA [] with power := { policyRan := true, hkHeld := false }, plan := planA, porch := { rooms := [(5, { ctx := ctxW, st := 1, job := 5, everActive := true, resident := true, outstanding := 1, reserved := 1 })] }, clk := { ns := 100000000 }, thresh := { flows := [(1, { node := 1, send := { st := 2, epoch := 1, rate := some 5 }, recv := { st := 1, epoch := 1 } })] }, crystal := {  }, sluice := { budget := 600000, lastPortDown := some 99999990 } },
    by decide +kernel⟩,
  ⟨.hk 0 true,
    { stA [(.SLUICE_MODE_SERVICE, 0, 1)] with power := { policyRan := true, hkHeld := false }, plan := planA, porch := { rooms := [(5, { ctx := ctxW, st := 1, job := 5, everActive := true, resident := true, outstanding := 1, reserved := 1 })] }, clk := { ns := 100000000 }, thresh := { flows := [(1, { node := 1, send := { st := 2, epoch := 1, held := [5] }, recv := { st := 1, epoch := 1 } })] }, crystal := {  }, sluice := { budget := 600000 } },
    by decide +kernel⟩⟩

theorem witness_AcknowledgementsAreUsed :
    (∃ (x : Nat) (c : Cell) (s : State), (Used tyAck x c s) ∧ (ackKind c = 0) ∧ (wf_ c.body 2 16 1 = 0) ∧ ((s.flow x).send.st = 2) ∧
      ((s.flow x).send.epoch = c.epoch) ∧ (wf_ c.body 0 32 16 = 0) ∧ (s.get .THRESH_ACK_CFG_FAST_RETX = 0) ∧ (NoneWaits s) ∧ ((∀ g ∈
      (s.flow x).send.out, ∀ o, s.op g.opId = some o → o.hung = false)))
    ∧ (∃ (x : Nat) (c : Cell) (g : Seg) (o : OpSt) (s : State), (Used tyAck x c s) ∧ (ackKind c = 0) ∧ (wf_ c.body 2 16 1 = 0) ∧
      ((s.flow x).send.st = 2) ∧ ((s.flow x).send.epoch = c.epoch) ∧ (wf_ c.body 0 32 16 = 0) ∧ (s.get .THRESH_ACK_CFG_FAST_RETX =
      0) ∧ ((s.flow x).send.out = [g]) ∧ (covered (wf_ c.body 0 0 16) (wn c.body 1) g.seq = true) ∧ (s.op g.opId = some o) ∧ (o.kind
      = .send ∨ o.kind = .put) ∧ (o.done = []) ∧ (o.fails = []) ∧ (o.len ≤ 4096) ∧ (leadOff g.lead = 0) ∧ (o.lb = none) ∧ (o.hung =
      false) ∧ (Certain o.room s) ∧ ((s.room o.room).st = 1) ∧ (weSilent o.entry = false))
    ∧ (∃ (x : Nat) (c : Cell) (s : State), (Used tyAck x c s) ∧ (ackKind c = 0) ∧ (wf_ c.body 2 16 1 = 0) ∧ ((s.flow x).send.st ≠ 2
      ∨ (s.flow x).send.epoch ≠ c.epoch))
    ∧ (∃ (x : Nat) (c : Cell) (s : State), (Used tyAck x c s) ∧ (ackKind c = 1) ∧ (wf_ c.body 2 16 1 = 0) ∧ (ackQueueRoom s = true))
    ∧ (∃ (x : Nat) (c : Cell) (s : State), (Used tyAck x c s) ∧ (ackKind c = 2) ∧ (wf_ c.body 2 16 1 = 0) ∧ ((s.flow x).send.st = 1)
      ∧ ((s.flow x).send.pend = []))
    ∧ (∃ (x : Nat) (k : Nat) (sub : Nat) (c : Cell) (g : RSeg) (s : State), (Used tyAck x c s) ∧ (ackKind c = 3) ∧ (wf_ c.body 2 16
      1 = 1) ∧ (wf_ c.body 2 18 2 = (s.flow x).recv.epoch) ∧ ((wf_ c.body 2 32 32).testBit 0 = true) ∧ (rsegOf s x (wf_ c.body 2 0
      16) = some g) ∧ (g.st = .nacked k sub))
    ∧ (∃ (x : Nat) (at1 : Nat) (s : State), ((s.flow x).recv.coalAt = some at1) ∧ (Due s at1) ∧ (s.hostStopped = false) ∧ ((s.flow
      x).recv.st = 1) ∧ (ackQueueRoom s = true)) :=
  ⟨⟨1, cel tyAck [wd (0 * 2 ^ 16 + 7), wd (4), wd (0)] 0 1 0 1,
    { stA [(.THRESH_ACK_CFG_FAST_RETX, 0, 0)] with power := { policyRan := true, hkHeld := false }, plan := planA, porch := { rooms := [(5, { ctx := ctxW, st := 1, job := 5, everActive := true, resident := true, outstanding := 1, reserved := 1 })] }, clk := { ns := 100000000 }, thresh := { flows := [(1, { node := 1, send := { st := 2, epoch := 1, acked := 6, next := 20, out := [{ opId := 4, peer := 1, input := 72, room := 5, lead := led 0x10 1 5 8 16 0, cells := 1, bytes := 16, resp := false, data := .none_, seq := 7, epoch := 1, q := 3 }, { opId := 4, peer := 1, input := 72, room := 5, lead := led 0x10 1 5 8 16 0, cells := 1, bytes := 16, resp := false, data := .none_, seq := 8, epoch := 1, q := 3 }, { opId := 4, peer := 1, input := 72, room := 5, lead := led 0x10 1 5 8 16 0, cells := 1, bytes := 16, resp := false, data := .none_, seq := 10, epoch := 1, q := 3 }, { opId := 4, peer := 1, input := 72, room := 5, lead := led 0x10 1 5 8 16 0, cells := 1, bytes := 16, resp := false, data := .none_, seq := 11, epoch := 1, q := 3 }] }, recv := { st := 1, epoch := 1 } })], ops := [(4, { kind := .put, room := 5, code := 0x10, entry := [wd (0x10 + 2 ^ 63), 0, wd (16 + 77 * 2 ^ 32)], peer := 1, dest := 1, destRoom := 9, msgId := 8, segs := 1, len := 16 })] }, crystal := {  }, sluice := { budget := 600000 } },
    by decide +kernel⟩,
  ⟨1, cel tyAck [wd (0 * 2 ^ 16 + 7), wd (0), wd (0)] 0 1 0 1,
    { opId := 4, peer := 1, input := 72, room := 5, lead := led 0x10 1 5 8 16 0, cells := 1, bytes := 16, resp := false, data := .none_, seq := 7, epoch := 1, q := 3 },
    { kind := .put, room := 5, code := 0x10, entry := [wd (0x10 + 2 ^ 63), 0, wd (16 + 77 * 2 ^ 32)], peer := 1, dest := 1, destRoom := 9, msgId := 8, segs := 1, len := 16 },
    { stA [(.THRESH_ACK_CFG_FAST_RETX, 0, 0)] with power := { policyRan := true, hkHeld := false }, plan := planA, porch := { rooms := [(5, { ctx := ctxW, st := 1, job := 5, everActive := true, resident := true, outstanding := 1, reserved := 1 })] }, clk := { ns := 100000000 }, thresh := { flows := [(1, { node := 1, send := { st := 2, epoch := 1, acked := 6, next := 8, out := [{ opId := 4, peer := 1, input := 72, room := 5, lead := led 0x10 1 5 8 16 0, cells := 1, bytes := 16, resp := false, data := .none_, seq := 7, epoch := 1, q := 3 }] }, recv := { st := 1, epoch := 1 } })], ops := [(4, { kind := .put, room := 5, code := 0x10, entry := [wd (0x10 + 2 ^ 63), 0, wd (16 + 77 * 2 ^ 32)], peer := 1, dest := 1, destRoom := 9, msgId := 8, segs := 1, len := 16 })] }, crystal := {  }, sluice := { budget := 600000 } },
    by decide +kernel⟩,
  ⟨1, cel tyAck [wd (0 * 2 ^ 16 + 7), wd (0), wd (0)] 0 1 0 2,
    { stA [] with power := { policyRan := true, hkHeld := false }, plan := planA, porch := { rooms := [(5, { ctx := ctxW, st := 1, job := 5, everActive := true, resident := true, outstanding := 1, reserved := 1 })] }, clk := { ns := 100000000 }, thresh := { flows := [(1, { node := 1, send := { st := 2, epoch := 1, acked := 6 }, recv := { st := 1, epoch := 1 } })] }, crystal := {  }, sluice := { budget := 600000 } },
    by decide +kernel⟩,
  ⟨1, cel tyAck [wd (1 * 2 ^ 16 + 0), wd (0), wd (0)] 0 1 0 1,
    { stA [] with power := { policyRan := true, hkHeld := false }, plan := planA, porch := { rooms := [(5, { ctx := ctxW, st := 1, job := 5, everActive := true, resident := true, outstanding := 1, reserved := 1 })] }, clk := { ns := 100000000 }, thresh := {  }, crystal := {  }, sluice := { budget := 600000 } },
    by refine ⟨?_, ?_, ?_, ackRoom _ (by decide +kernel)⟩ <;> decide +kernel⟩,
  ⟨1, cel tyAck [wd (2 * 2 ^ 16 + 3 * 2 ^ 18), wd (0), wd (0)] 0 1 0 1,
    { stA [] with power := { policyRan := true, hkHeld := false }, plan := planA, porch := { rooms := [(5, { ctx := ctxW, st := 1, job := 5, everActive := true, resident := true, outstanding := 1, reserved := 1 })] }, clk := { ns := 100000000 }, thresh := { flows := [(1, { node := 1, send := { st := 1 } })] }, crystal := {  }, sluice := { budget := 600000 } },
    by decide +kernel⟩,
  ⟨1, 8, 5, cel tyAck [wd (3 * 2 ^ 16 + 0), wd (0), wd (7 + 2 ^ 16 + 2 ^ 18 + 2 ^ 32)] 0 1 0 1, { sg 7 [] with st := .nacked 8 5 },
    { stA [] with power := { policyRan := true, hkHeld := false }, plan := planA, porch := { rooms := [(5, { ctx := ctxW, st := 1, job := 5, everActive := true, resident := true, outstanding := 1, reserved := 1 })] }, clk := { ns := 100000000 }, thresh := { flows := [(1, flw [{ sg 7 [] with st := .nacked 8 5 }, sg 9 []])] }, crystal := {  }, sluice := { budget := 600000 } },
    by decide +kernel⟩,
  ⟨1, 5,
    { stA [] with power := { policyRan := true, hkHeld := false }, plan := planA, porch := { rooms := [(5, { ctx := ctxW, st := 1, job := 5, everActive := true, resident := true, outstanding := 1, reserved := 1 })] }, clk := { ns := 100000000 }, thresh := { flows := [(1, { node := 1, send := { st := 2, epoch := 1, acked := 6 }, recv := { st := 1, epoch := 1, w := 4, sinceAck := 5, ce := 2, coalAt := some 5 } })] }, crystal := {  }, sluice := { budget := 600000 } },
    by refine ⟨?_, ?_, ?_, ?_, ackRoom _ (by decide +kernel)⟩ <;> decide +kernel⟩⟩

theorem witness_SegmentsFailOrGoAgain :
    (∃ (x : Nat) (c : Cell) (g : Seg) (s : State), (Used tyNack x c s) ∧ (nackCode c = 1) ∧ (nackMine s x c = true) ∧ (wf_ c.body 0
      17 1 = 0) ∧ (outSeg s x c.seq = some g))
    ∧ (∃ (x : Nat) (c : Cell) (g : Seg) (o : OpSt) (s : State), (Used tyNack x c s) ∧ (2 ≤ nackCode c) ∧ (nackCode c ≤ 10) ∧
      (nackMine s x c = true) ∧ (wf_ c.body 0 17 1 = 0) ∧ (c.seq ∉ (s.flow x).send.conf) ∧ (inSendWindow (s.flow x).send c.seq =
      true) ∧ (outSeg s x c.seq = some g) ∧ (s.op g.opId = some o) ∧ (o.kind = .send ∨ o.kind = .put) ∧ (o.done = []) ∧ (o.fails =
      []) ∧ (o.len ≤ 4096) ∧ (leadOff g.lead = 0) ∧ (o.lb = none) ∧ (Certain o.room s) ∧ ((s.room o.room).st = 1) ∧ (weSilent
      o.entry = false))
    ∧ (∃ (x : Nat) (c : Cell) (s : State), (Used tyNack x c s) ∧ (nackMine s x c = false) ∧ (2 ≤ nackCode c) ∧ (nackCode c ≤ 10))
    ∧ (∃ (x : Nat) (c : Cell) (s : State), (Used tyNack x c s) ∧ (nackCode c = 0 ∨ 11 < nackCode c))
    ∧ (∃ (x : Nat) (q : Nat) (at1 : Nat) (g : Seg) (s : State), (outSeg s x q = some g) ∧ (g.timerAt = some at1) ∧ (Due s at1) ∧
      (s.hostStopped = false) ∧ (327680 ≤ s.sluice.budget) ∧ (hallTakes s g.input (segVc s g.resp) = true))
    ∧ (∃ (x : Nat) (q : Nat) (at1 : Nat) (g : Seg) (s : State), (outSeg s x q = some g) ∧ (g.timerAt = some at1) ∧ (s.hostStopped =
      true ∨ s.sluice.budget < 327680 ∨ hallTakes s g.input (segVc s g.resp) = false))
    ∧ (∃ (x : Nat) (q : Nat) (at1 : Nat) (g : Seg) (s : State), (outSeg s x q = some g) ∧ (g.resendAt = some at1) ∧ (Due s at1) ∧
      (s.hostStopped = false) ∧ (327680 ≤ s.sluice.budget) ∧ (hallTakes s g.input (segVc s g.resp) = true) ∧ ((∀ e ∈ (s.flow
      x).send.respHints, e.1 ≠ q)))
    ∧ (∃ (x : Nat) (q : Nat) (first : Nat) (g : Seg) (s : State), (outSeg s x q = some g) ∧ (g.firstNs = some first) ∧ (g.hint =
      none) ∧ (Due s (first + g.toMs * 1000000)))
    ∧ (∃ (x : Nat) (q : Nat) (first : Nat) (h : Nat) (g : Seg) (o : OpSt) (s : State), (outSeg s x q = some g) ∧ (g.firstNs = some
      first) ∧ (g.hint = some h) ∧ (Due s (first + g.toMs * 1000000)) ∧ (s.op g.opId = some o) ∧ (o.kind = .send ∨ o.kind = .put) ∧
      (o.done = []) ∧ (o.fails = []) ∧ (o.len ≤ 4096) ∧ (leadOff g.lead = 0) ∧ (o.lb = none) ∧ (s.hostStopped = false) ∧ (Certain
      o.room s) ∧ ((s.room o.room).st = 1) ∧ (weSilent o.entry = false)) :=
  ⟨⟨1, cel tyNack [wd (1 + 44 * 2 ^ 48)] 7 1 0 1,
    { opId := 4, peer := 1, input := 72, room := 5, lead := led 0x10 1 5 8 16 0, cells := 1, bytes := 16, resp := false, data := .none_, seq := 7, epoch := 1, q := 3, timerAt := some 5, firstNs := some 5, rto := 40000 },
    { stA [] with power := { policyRan := true, hkHeld := false }, plan := planA, porch := { rooms := [(5, { ctx := ctxW, st := 1, job := 5, everActive := true, resident := true, outstanding := 1, reserved := 1 })] }, clk := { ns := 100000000 }, thresh := { flows := [(1, { node := 1, send := { st := 2, epoch := 1, acked := 6, next := 8, out := [{ opId := 4, peer := 1, input := 72, room := 5, lead := led 0x10 1 5 8 16 0, cells := 1, bytes := 16, resp := false, data := .none_, seq := 7, epoch := 1, q := 3, timerAt := some 5, firstNs := some 5, rto := 40000 }] }, recv := { st := 1, epoch := 1 } })], ops := [(4, { kind := .put, room := 5, code := 0x10, entry := [wd (0x10 + 2 ^ 63), 0, wd (16 + 77 * 2 ^ 32)], peer := 1, dest := 1, destRoom := 9, msgId := 8, segs := 1, len := 16 })] }, crystal := {  }, sluice := { budget := 600000 } },
    by decide +kernel⟩,
  ⟨1, cel tyNack [wd (8 + 5 * 2 ^ 8)] 7 1 0 1,
    { opId := 4, peer := 1, input := 72, room := 5, lead := led 0x10 1 5 8 16 0, cells := 1, bytes := 16, resp := false, data := .none_, seq := 7, epoch := 1, q := 3, timerAt := some 5, firstNs := some 5, rto := 40000 },
    { kind := .put, room := 5, code := 0x10, entry := [wd (0x10 + 2 ^ 63), 0, wd (16 + 77 * 2 ^ 32)], peer := 1, dest := 1, destRoom := 9, msgId := 8, segs := 1, len := 16 },
    { stA [] with power := { policyRan := true, hkHeld := false }, plan := planA, porch := { rooms := [(5, { ctx := ctxW, st := 1, job := 5, everActive := true, resident := true, outstanding := 1, reserved := 1 })] }, clk := { ns := 100000000 }, thresh := { flows := [(1, { node := 1, send := { st := 2, epoch := 1, acked := 6, next := 8, out := [{ opId := 4, peer := 1, input := 72, room := 5, lead := led 0x10 1 5 8 16 0, cells := 1, bytes := 16, resp := false, data := .none_, seq := 7, epoch := 1, q := 3, timerAt := some 5, firstNs := some 5, rto := 40000 }] }, recv := { st := 1, epoch := 1 } })], ops := [(4, { kind := .put, room := 5, code := 0x10, entry := [wd (0x10 + 2 ^ 63), 0, wd (16 + 77 * 2 ^ 32)], peer := 1, dest := 1, destRoom := 9, msgId := 8, segs := 1, len := 16 })] }, crystal := {  }, sluice := { budget := 600000 } },
    by decide +kernel⟩,
  ⟨1, cel tyNack [wd (8 + 0)] 7 1 0 2,
    { stA [] with power := { policyRan := true, hkHeld := false }, plan := planA, porch := { rooms := [(5, { ctx := ctxW, st := 1, job := 5, everActive := true, resident := true, outstanding := 1, reserved := 1 })] }, clk := { ns := 100000000 }, thresh := { flows := [(1, { node := 1, send := { st := 2, epoch := 1, acked := 6, next := 8, out := [{ opId := 4, peer := 1, input := 72, room := 5, lead := led 0x10 1 5 8 16 0, cells := 1, bytes := 16, resp := false, data := .none_, seq := 7, epoch := 1, q := 3, timerAt := some 5, firstNs := some 5, rto := 40000 }] }, recv := { st := 1, epoch := 1 } })], ops := [(4, { kind := .put, room := 5, code := 0x10, entry := [wd (0x10 + 2 ^ 63), 0, wd (16 + 77 * 2 ^ 32)], peer := 1, dest := 1, destRoom := 9, msgId := 8, segs := 1, len := 16 })] }, crystal := {  }, sluice := { budget := 600000 } },
    by decide +kernel⟩,
  ⟨1, cel tyNack [wd (0 + 0)] 7 1 0 1,
    { stA [] with power := { policyRan := true, hkHeld := false }, plan := planA, porch := { rooms := [(5, { ctx := ctxW, st := 1, job := 5, everActive := true, resident := true, outstanding := 1, reserved := 1 })] }, clk := { ns := 100000000 }, thresh := { flows := [(1, { node := 1, send := { st := 2, epoch := 1, acked := 6, next := 8, out := [{ opId := 4, peer := 1, input := 72, room := 5, lead := led 0x10 1 5 8 16 0, cells := 1, bytes := 16, resp := false, data := .none_, seq := 7, epoch := 1, q := 3, timerAt := some 5, firstNs := some 5, rto := 40000 }] }, recv := { st := 1, epoch := 1 } })], ops := [(4, { kind := .put, room := 5, code := 0x10, entry := [wd (0x10 + 2 ^ 63), 0, wd (16 + 77 * 2 ^ 32)], peer := 1, dest := 1, destRoom := 9, msgId := 8, segs := 1, len := 16 })] }, crystal := {  }, sluice := { budget := 600000 } },
    by decide +kernel⟩,
  ⟨1, 7, 5,
    { opId := 4, peer := 1, input := 72, room := 5, lead := led 0x10 1 5 8 16 0, cells := 1, bytes := 16, resp := false, data := .none_, seq := 7, epoch := 1, q := 3, timerAt := some 5, firstNs := some 5, rto := 40000 },
    { stA [] with power := { policyRan := true, hkHeld := false }, plan := planA, porch := { rooms := [(5, { ctx := ctxW, st := 1, job := 5, everActive := true, resident := true, outstanding := 1, reserved := 1 })] }, clk := { ns := 100000000 }, thresh := { flows := [(1, { node := 1, send := { st := 2, epoch := 1, acked := 6, next := 8, out := [{ opId := 4, peer := 1, input := 72, room := 5, lead := led 0x10 1 5 8 16 0, cells := 1, bytes := 16, resp := false, data := .none_, seq := 7, epoch := 1, q := 3, timerAt := some 5, firstNs := some 5, rto := 40000 }] }, recv := { st := 1, epoch := 1 } })], ops := [(4, { kind := .put, room := 5, code := 0x10, entry := [wd (0x10 + 2 ^ 63), 0, wd (16 + 77 * 2 ^ 32)], peer := 1, dest := 1, destRoom := 9, msgId := 8, segs := 1, len := 16 })] }, crystal := {  }, sluice := { budget := 600000 } },
    by decide +kernel⟩,
  ⟨1, 7, 5,
    { opId := 4, peer := 1, input := 72, room := 5, lead := led 0x10 1 5 8 16 0, cells := 1, bytes := 16, resp := false, data := .none_, seq := 7, epoch := 1, q := 3, timerAt := some 5, firstNs := some 5, rto := 40000 },
    { stA [(.DEV_FAULT_LEVEL, 0, 3)] with power := { policyRan := true, hkHeld := false }, plan := planA, porch := { rooms := [(5, { ctx := ctxW, st := 1, job := 5, everActive := true, resident := true, outstanding := 1, reserved := 1 })] }, clk := { ns := 100000000 }, thresh := { flows := [(1, { node := 1, send := { st := 2, epoch := 1, acked := 6, next := 8, out := [{ opId := 4, peer := 1, input := 72, room := 5, lead := led 0x10 1 5 8 16 0, cells := 1, bytes := 16, resp := false, data := .none_, seq := 7, epoch := 1, q := 3, timerAt := some 5, firstNs := some 5, rto := 40000 }] }, recv := { st := 1, epoch := 1 } })], ops := [(4, { kind := .put, room := 5, code := 0x10, entry := [wd (0x10 + 2 ^ 63), 0, wd (16 + 77 * 2 ^ 32)], peer := 1, dest := 1, destRoom := 9, msgId := 8, segs := 1, len := 16 })] }, crystal := {  }, sluice := { budget := 600000 } },
    by decide +kernel⟩,
  ⟨1, 7, 5,
    { opId := 4, peer := 1, input := 72, room := 5, lead := led 0x10 1 5 8 16 0, cells := 1, bytes := 16, resp := false, data := .none_, seq := 7, epoch := 1, q := 3, resendAt := some 5, firstNs := some 5, hint := some 44, rto := 40000 },
    { stA [] with power := { policyRan := true, hkHeld := false }, plan := planA, porch := { rooms := [(5, { ctx := ctxW, st := 1, job := 5, everActive := true, resident := true, outstanding := 1, reserved := 1 })] }, clk := { ns := 100000000 }, thresh := { flows := [(1, { node := 1, send := { st := 2, epoch := 1, acked := 6, out := [{ opId := 4, peer := 1, input := 72, room := 5, lead := led 0x10 1 5 8 16 0, cells := 1, bytes := 16, resp := false, data := .none_, seq := 7, epoch := 1, q := 3, resendAt := some 5, firstNs := some 5, hint := some 44, rto := 40000 }] }, recv := { st := 1, epoch := 1 } })] }, crystal := {  }, sluice := { budget := 600000 } },
    by decide +kernel⟩,
  ⟨1, 7, 5,
    { opId := 4, peer := 1, input := 72, room := 5, lead := led 0x10 1 5 8 16 0, cells := 1, bytes := 16, resp := false, data := .none_, seq := 7, epoch := 1, q := 3, timerAt := some 5, firstNs := some 5, rto := 40000 },
    { stA [] with power := { policyRan := true, hkHeld := false }, plan := planA, porch := { rooms := [(5, { ctx := ctxW, st := 1, job := 5, everActive := true, resident := true, outstanding := 1, reserved := 1 })] }, clk := { ns := 100000000 }, thresh := { flows := [(1, { node := 1, send := { st := 2, epoch := 1, acked := 6, next := 8, out := [{ opId := 4, peer := 1, input := 72, room := 5, lead := led 0x10 1 5 8 16 0, cells := 1, bytes := 16, resp := false, data := .none_, seq := 7, epoch := 1, q := 3, timerAt := some 5, firstNs := some 5, rto := 40000 }] }, recv := { st := 1, epoch := 1 } })], ops := [(4, { kind := .put, room := 5, code := 0x10, entry := [wd (0x10 + 2 ^ 63), 0, wd (16 + 77 * 2 ^ 32)], peer := 1, dest := 1, destRoom := 9, msgId := 8, segs := 1, len := 16 })] }, crystal := {  }, sluice := { budget := 600000 } },
    by decide +kernel⟩,
  ⟨1, 7, 5, 44,
    { opId := 4, peer := 1, input := 72, room := 5, lead := led 0x10 1 5 8 16 0, cells := 1, bytes := 16, resp := false, data := .none_, seq := 7, epoch := 1, q := 3, resendAt := some 5, firstNs := some 5, hint := some 44, rto := 40000 },
    { kind := .put, room := 5, code := 0x10, entry := [wd (0x10 + 2 ^ 63), 0, wd (16 + 77 * 2 ^ 32)], peer := 1, dest := 1, destRoom := 9, msgId := 8, segs := 1, len := 16 },
    { stA [] with power := { policyRan := true, hkHeld := false }, plan := planA, porch := { rooms := [(5, { ctx := ctxW, st := 1, job := 5, everActive := true, resident := true, outstanding := 1, reserved := 1 })] }, clk := { ns := 100000000 }, thresh := { flows := [(1, { node := 1, send := { st := 2, epoch := 1, acked := 6, out := [{ opId := 4, peer := 1, input := 72, room := 5, lead := led 0x10 1 5 8 16 0, cells := 1, bytes := 16, resp := false, data := .none_, seq := 7, epoch := 1, q := 3, resendAt := some 5, firstNs := some 5, hint := some 44, rto := 40000 }] }, recv := { st := 1, epoch := 1 } })], ops := [(4, { kind := .put, room := 5, code := 0x10, entry := [wd (0x10 + 2 ^ 63), 0, wd (16 + 77 * 2 ^ 32)], peer := 1, dest := 1, destRoom := 9, msgId := 8, segs := 1, len := 16 })] }, crystal := {  }, sluice := { budget := 600000 } },
    by decide +kernel⟩⟩

theorem witness_FlowsResetAndExpire :
    (∃ (x : Nat) (c : Cell) (s : State), (Used tyNack x c s) ∧ (nackCode c = 11) ∧ (nackMine s x c = true) ∧ (mayAdvance s x =
      true))
    ∧ (∃ (x : Nat) (c : Cell) (s : State), (Used tyNack x c s) ∧ (nackCode c = 11) ∧ (nackMine s x c = true) ∧ (mayAdvance s x =
      false))
    ∧ (∃ (x : Nat) (fresh : Bool) (s : State), ((s.flow x).send.deferred = some fresh) ∧ (mayAdvance s x = true))
    ∧ (∃ (m : Master) (x : Nat) (s : State), (May s m .FLOW_CMD_RESET) ∧ (x = s.get .FLOW_SEL_NODE_INDEX))
    ∧ (∃ (x : Nat) (s : State), ((s.flow x).send.st = 1) ∧ (Due s (s.flow x).send.syncAt) ∧ (ackQueueRoom s = true))
    ∧ (∃ (x : Nat) (s : State), ((s.flow x).send.st = 1) ∧ (Due s ((s.flow x).send.syncStart + s.get .THRESH_CFG_OP_TIMEOUT_MS *
      1000000)))
    ∧ (∃ (i : Nat) (first : Nat) (o : OpSt) (s : State), (s.op i = some o) ∧ (o.kind = .get ∨ o.kind = .atomic) ∧ (o.reqAcked =
      true) ∧ (o.firstNs = some first) ∧ (Due s (first + o.toMs * 1000000)) ∧ (o.done = []) ∧ (o.fails = []) ∧ (o.lb = none) ∧
      (s.hostStopped = false) ∧ (Certain o.room s) ∧ ((s.room o.room).st = 1) ∧ (weSilent o.entry = false))
    ∧ (∃ (i : Nat) (at1 : Nat) (o : OpSt) (g : Seg) (s : State), (s.op i = some o) ∧ (o.kind = .atomic) ∧ (o.respAt = some at1) ∧
      (Due s at1) ∧ ((∀ f, o.firstNs = some f → ¬ Due s (f + o.toMs * 1000000))) ∧ (o.req = some g) ∧ (g.opId = i) ∧ ((s.flow
      g.peer).send.st = 2) ∧ ((s.flow g.peer).send.deferred = none) ∧ (isAtomic (leadOp g.lead) = true) ∧ (g.lead.length = 8) ∧
      (o.msgSet = true))
    ∧ (∃ (src : Nat) (msg : Nat) (e : TrackEntry) (s : State), (s.thresh.tracker.find? (fun t => t.src == src && t.msgId == msg) =
      some e) ∧ (Due s (e.lastNs + 2 * s.get .THRESH_CFG_OP_TIMEOUT_MS * 1000000)) ∧ (s.hostStopped = false) ∧ (Certain e.room s) ∧
      ((s.room e.room).st = 1)) :=
  ⟨⟨1, cel tyNack [wd (11 + 2 ^ 16)] 7 1 0 1,
    { stA [] with power := { policyRan := true, hkHeld := false }, plan := planA, porch := { rooms := [(5, { ctx := ctxW, st := 1, job := 5, everActive := true, resident := true, outstanding := 1, reserved := 1 })] }, clk := { ns := 100000000 }, thresh := { flows := [(1, { node := 1, send := { st := 2, epoch := 1, acked := 6, next := 8, out := [{ opId := 4, peer := 1, input := 72, room := 5, lead := led 0x10 1 5 8 16 0, cells := 1, bytes := 16, resp := false, data := .none_, seq := 7, epoch := 1, q := 3 }], lastAdvance := some 5 }, recv := { st := 1, epoch := 1 } })], ops := [(4, { kind := .put, room := 5, code := 0x10, entry := [wd (0x10 + 2 ^ 63), 0, wd (16 + 77 * 2 ^ 32)], peer := 1, dest := 1, destRoom := 9, msgId := 8, segs := 1, len := 16 })] }, crystal := {  }, sluice := { budget := 600000 } },
    by decide +kernel⟩,
  ⟨1, cel tyNack [wd (11 + 2 ^ 16)] 7 1 0 1,
    { stA [] with power := { policyRan := true, hkHeld := false }, plan := planA, porch := { rooms := [(5, { ctx := ctxW, st := 1, job := 5, everActive := true, resident := true, outstanding := 1, reserved := 1 })] }, clk := { ns := 100000000 }, thresh := { flows := [(1, { node := 1, send := { st := 2, epoch := 1, acked := 6, next := 8, out := [{ opId := 4, peer := 1, input := 72, room := 5, lead := led 0x10 1 5 8 16 0, cells := 1, bytes := 16, resp := false, data := .none_, seq := 7, epoch := 1, q := 3 }], lastAdvance := some 99900000 }, recv := { st := 1, epoch := 1 } })], ops := [(4, { kind := .put, room := 5, code := 0x10, entry := [wd (0x10 + 2 ^ 63), 0, wd (16 + 77 * 2 ^ 32)], peer := 1, dest := 1, destRoom := 9, msgId := 8, segs := 1, len := 16 })] }, crystal := {  }, sluice := { budget := 600000 } },
    by decide +kernel⟩,
  ⟨1, true,
    { stA [] with power := { policyRan := true, hkHeld := false }, plan := planA, porch := { rooms := [(5, { ctx := ctxW, st := 1, job := 5, everActive := true, resident := true, outstanding := 1, reserved := 1 })] }, clk := { ns := 100000000 }, thresh := { flows := [(1, { node := 1, send := { st := 2, epoch := 1, acked := 6, next := 8, out := [{ opId := 4, peer := 1, input := 72, room := 5, lead := led 0x10 1 5 8 16 0, cells := 1, bytes := 16, resp := false, data := .none_, seq := 7, epoch := 1, q := 3 }], deferred := some true }, recv := { st := 1, epoch := 1 } })], ops := [(4, { kind := .put, room := 5, code := 0x10, entry := [wd (0x10 + 2 ^ 63), 0, wd (16 + 77 * 2 ^ 32)], peer := 1, dest := 1, destRoom := 9, msgId := 8, segs := 1, len := 16 })] }, crystal := {  }, sluice := { budget := 600000 } },
    by decide +kernel⟩,
  ⟨.hk 0 true, 1,
    { stA [(.FLOW_SEL_NODE_INDEX, 0, 1)] with power := { policyRan := true, hkHeld := false }, plan := planA, porch := { rooms := [(5, { ctx := ctxW, st := 1, job := 5, everActive := true, resident := true, outstanding := 1, reserved := 1 })] }, clk := { ns := 100000000 }, thresh := { flows := [(1, { node := 1, send := { st := 2, epoch := 1, acked := 6, next := 8, out := [{ opId := 4, peer := 1, input := 72, room := 5, lead := led 0x10 1 5 8 16 0, cells := 1, bytes := 16, resp := false, data := .none_, seq := 7, epoch := 1, q := 3 }], seen := 3 }, recv := { st := 1, epoch := 1 } })], ops := [(4, { kind := .put, room := 5, code := 0x10, entry := [wd (0x10 + 2 ^ 63), 0, wd (16 + 77 * 2 ^ 32)], peer := 1, dest := 1, destRoom := 9, msgId := 8, segs := 1, len := 16 })] }, crystal := {  }, sluice := { budget := 600000 } },
    by decide +kernel⟩,
  ⟨1,
    { stA [] with power := { policyRan := true, hkHeld := false }, plan := planA, porch := { rooms := [(5, { ctx := ctxW, st := 1, job := 5, everActive := true, resident := true, outstanding := 1, reserved := 1 })] }, clk := { ns := 100000000 }, thresh := { flows := [(1, { node := 1, send := { st := 1, syncAt := 5 } })] }, crystal := {  }, sluice := { budget := 600000 } },
    by refine ⟨?_, ?_, ackRoom _ (by decide +kernel)⟩ <;> decide +kernel⟩,
  ⟨1,
    { stA [] with power := { policyRan := true, hkHeld := false }, plan := planA, porch := { rooms := [(5, { ctx := ctxW, st := 1, job := 5, everActive := true, resident := true, outstanding := 1, reserved := 1 })] }, clk := { ns := 100000000 }, thresh := { flows := [(1, { node := 1, send := { st := 1, syncAt := 5, pend := [{ opId := 4, peer := 1, input := 72, room := 5, lead := led 0x10 1 5 8 16 0, cells := 1, bytes := 16, resp := false, data := .none_, seq := 7, epoch := 1, q := 3 }] } })], ops := [(4, { kind := .put, room := 5, code := 0x10, entry := [wd (0x10 + 2 ^ 63), 0, wd (16 + 77 * 2 ^ 32)], peer := 1, dest := 1, destRoom := 9, msgId := 8, segs := 1, len := 16 })] }, crystal := {  }, sluice := { budget := 600000 } },
    by decide +kernel⟩,
  ⟨4, 5,
    { kind := .get, room := 5, code := 0x20, entry := [wd (0x20 + 2 ^ 63), 0, wd (16 + 77 * 2 ^ 32)], peer := 1, dest := 1, destRoom := 9, msgId := 8, segs := 1, reqAcked := true, firstNs := some 5, len := 16 },
    { stA [] with power := { policyRan := true, hkHeld := false }, plan := planA, porch := { rooms := [(5, { ctx := ctxW, st := 1, job := 5, everActive := true, resident := true, outstanding := 1, reserved := 1 })] }, clk := { ns := 100000000 }, thresh := { ops := [(4, { kind := .get, room := 5, code := 0x20, entry := [wd (0x20 + 2 ^ 63), 0, wd (16 + 77 * 2 ^ 32)], peer := 1, dest := 1, destRoom := 9, msgId := 8, segs := 1, reqAcked := true, firstNs := some 5, len := 16 })] }, crystal := {  }, sluice := { budget := 600000 } },
    by decide +kernel⟩,
  ⟨4, 5,
    { kind := .atomic, room := 5, code := 0x31, entry := [wd (0x31 + 2 ^ 63), 0, wd (16 + 77 * 2 ^ 32)], peer := 1, dest := 1, destRoom := 9, msgId := 8, msgSet := true, respAt := some 5, req := some ({ opId := 4, peer := 1, input := 72, room := 5, lead := led 0x31 0 5 8 0 0, cells := 1, bytes := 16, resp := false, data := .none_, seq := 7, epoch := 1, q := 3 }), segs := 1, len := 16 },
    { opId := 4, peer := 1, input := 72, room := 5, lead := led 0x31 0 5 8 0 0, cells := 1, bytes := 16, resp := false, data := .none_, seq := 7, epoch := 1, q := 3 },
    { stA [] with power := { policyRan := true, hkHeld := false }, plan := planA, porch := { rooms := [(5, { ctx := ctxW, st := 1, job := 5, everActive := true, resident := true, outstanding := 1, reserved := 1 })] }, clk := { ns := 100000000 }, thresh := { flows := [(1, { node := 1, send := { st := 2, epoch := 1, next := 65535 }, recv := { st := 1, epoch := 1 } })], ops := [(4, { kind := .atomic, room := 5, code := 0x31, entry := [wd (0x31 + 2 ^ 63), 0, wd (16 + 77 * 2 ^ 32)], peer := 1, dest := 1, destRoom := 9, msgId := 8, msgSet := true, respAt := some 5, req := some ({ opId := 4, peer := 1, input := 72, room := 5, lead := led 0x31 0 5 8 0 0, cells := 1, bytes := 16, resp := false, data := .none_, seq := 7, epoch := 1, q := 3 }), segs := 1, len := 16 })] }, crystal := {  }, sluice := { budget := 600000 } },
    by decide +kernel⟩,
  ⟨1, 8, { src := 1, msgId := 8, room := 5, lead := led 0x10 1 5 8 16 0, total := 2, lastNs := 5 },
    { stA [] with power := { policyRan := true, hkHeld := false }, plan := planA, porch := { rooms := [(5, { ctx := ctxW, st := 1, job := 5, everActive := true, resident := true, outstanding := 1, reserved := 1 })] }, clk := { ns := 100000000 }, thresh := { tracker := [{ src := 1, msgId := 8, room := 5, lead := led 0x10 1 5 8 16 0, total := 2, lastNs := 5 }] }, crystal := {  }, sluice := { budget := 600000 } },
    by decide +kernel⟩⟩

theorem witness_KeyAndRankWindowsAct :
    (∃ (m : Master) (c : Instr) (s : State), (May s m .KEY_CMD_CMD) ∧ (s.flag .KEY_CMD_STAT_BUSY = true) ∧ (c ∈ [Instr.keyCmdWrite
      m, .keyCmdRead m, .keyCmdInvalidate m]))
    ∧ (∃ (m : Master) (cmd : Nat) (r : Nat) (c : Instr) (s : State), (May s m .KEY_CMD_CMD) ∧ (s.flag .KEY_CMD_STAT_BUSY = false) ∧
      ((c = .keyCmdWrite m ∧ cmd = 1) ∨ (c = .keyCmdRead m ∧ cmd = 2) ∨ (c = .keyCmdInvalidate m ∧ cmd = 3)) ∧ (r = keyRefusal s cmd
      (s.get .KEY_SEL_INDEX)) ∧ (r ≠ 0))
    ∧ (∃ (m : Master) (i : Nat) (s : State), (May s m .KEY_CMD_CMD) ∧ (s.flag .KEY_CMD_STAT_BUSY = false) ∧ (i = s.get
      .KEY_SEL_INDEX) ∧ (keyRefusal s 1 i = 0))
    ∧ (∃ (m : Master) (i : Nat) (s : State), (May s m .KEY_CMD_CMD) ∧ (s.flag .KEY_CMD_STAT_BUSY = false) ∧ (i = s.get
      .KEY_SEL_INDEX) ∧ (keyRefusal s 2 i = 0))
    ∧ (∃ (m : Master) (i : Nat) (s : State), (May s m .KEY_CMD_CMD) ∧ (s.flag .KEY_CMD_STAT_BUSY = false) ∧ (i = s.get
      .KEY_SEL_INDEX) ∧ (keyRefusal s 3 i = 0))
    ∧ (∃ (p : Nat × Nat) (s : State), (s.thresh.keyBusy = some p) ∧ (p.1 = 2 ∨ keyUnissued s p.2 = false))
    ∧ (∃ (p : Nat × Nat) (s : State), (s.thresh.keyBusy = some p) ∧ (p.1 ≠ 2) ∧ (keyUnissued s p.2 = true))
    ∧ (∃ (m : Master) (r : Nat) (c : Instr) (s : State), (May s m .RANK_CMD_CMD) ∧ ((c ∈ [Instr.rankCmdWrite m, .rankCmdRead m,
      .rankCmdFlushJob m] ∧ s.flag .JOB_SLOT_VALID (s.get .RANK_SEL_SLOT) = false ∧ r = 2) ∨ (c ∈ [Instr.rankCmdWrite m,
      .rankCmdRead m] ∧ s.flag .JOB_SLOT_VALID (s.get .RANK_SEL_SLOT) = true ∧ s.get .JOB_SLOT_LAST_RANK (s.get .RANK_SEL_SLOT) <
      s.get .RANK_SEL_RANK ∧ r = 3) ∨ (c ∈ [Instr.rankCmdWrite m, .rankCmdRead m] ∧ s.flag .JOB_SLOT_VALID (s.get .RANK_SEL_SLOT) =
      true ∧ s.get .RANK_SEL_RANK ≤ s.get .JOB_SLOT_LAST_RANK (s.get .RANK_SEL_SLOT) ∧ (s.plan.installed = false ∨ s.cellarOn =
      false) ∧ r = 4)))
    ∧ (∃ (m : Master) (slot : Nat) (r : Nat) (s : State), (May s m .RANK_CMD_CMD) ∧ (slot = s.get .RANK_SEL_SLOT) ∧ (r = s.get
      .RANK_SEL_RANK) ∧ (s.flag .JOB_SLOT_VALID slot = true) ∧ (r ≤ s.get .JOB_SLOT_LAST_RANK slot) ∧ (s.plan.installed = true) ∧
      (s.cellarOn = true))
    ∧ (∃ (m : Master) (slot : Nat) (r : Nat) (s : State), (May s m .RANK_CMD_CMD) ∧ (slot = s.get .RANK_SEL_SLOT) ∧ (r = s.get
      .RANK_SEL_RANK) ∧ (s.flag .JOB_SLOT_VALID slot = true) ∧ (r ≤ s.get .JOB_SLOT_LAST_RANK slot) ∧ (s.plan.installed = true) ∧
      (s.cellarOn = true))
    ∧ (∃ (m : Master) (slot : Nat) (s : State), (May s m .RANK_CMD_CMD) ∧ (slot = s.get .RANK_SEL_SLOT) ∧ (s.flag .JOB_SLOT_VALID
      slot = true)) :=
  ⟨⟨.hk 0 true, .keyCmdWrite (.hk 0 true),
    { stA [(.KEY_SEL_INDEX, 0, 3), (.RANK_SEL_SLOT, 0, 2), (.RANK_SEL_RANK, 0, 6), (.KEY_CMD_STAT_BUSY, 0, 1)] with power := { policyRan := true, hkHeld := false }, plan := planA, porch := { rooms := [(5, { ctx := ctxW, st := 1, job := 5, everActive := true, resident := true, outstanding := 1, reserved := 1 })] }, clk := { ns := 100000000 }, thresh := { keys := [(3, keyE), (4, keyE)] }, crystal := {  }, sluice := { budget := 600000 } },
    by decide +kernel⟩,
  ⟨.hk 0 true, 1, 2, .keyCmdWrite (.hk 0 true),
    { stA [(.KEY_SEL_INDEX, 0, 3), (.RANK_SEL_SLOT, 0, 2), (.RANK_SEL_RANK, 0, 6), (.KEY_SEL_INDEX, 0, 0)] with power := { policyRan := true, hkHeld := false }, plan := planA, porch := { rooms := [(5, { ctx := ctxW, st := 1, job := 5, everActive := true, resident := true, outstanding := 1, reserved := 1 })] }, clk := { ns := 100000000 }, thresh := { keys := [(3, keyE), (4, keyE)] }, crystal := {  }, sluice := { budget := 600000 } },
    by decide +kernel⟩,
  ⟨.hk 0 true, 3,
    { stA [(.KEY_SEL_INDEX, 0, 3), (.RANK_SEL_SLOT, 0, 2), (.RANK_SEL_RANK, 0, 6), (.KEY_DATA_WORD, 0, 9), (.KEY_DATA_WORD, 1, 8), (.KEY_DATA_WORD, 2, 7)] with power := { policyRan := true, hkHeld := false }, plan := planA, porch := { rooms := [(5, { ctx := ctxW, st := 1, job := 5, everActive := true, resident := true, outstanding := 1, reserved := 1 })] }, clk := { ns := 100000000 }, thresh := { keys := [(3, keyE), (4, keyE)] }, crystal := {  }, sluice := { budget := 600000 } },
    by decide +kernel⟩,
  ⟨.hk 0 true, 3,
    { stA [(.KEY_SEL_INDEX, 0, 3), (.RANK_SEL_SLOT, 0, 2), (.RANK_SEL_RANK, 0, 6)] with power := { policyRan := true, hkHeld := false }, plan := planA, porch := { rooms := [(5, { ctx := ctxW, st := 1, job := 5, everActive := true, resident := true, outstanding := 1, reserved := 1 })] }, clk := { ns := 100000000 }, thresh := { keys := [(3, keyE), (4, keyE)] }, crystal := {  }, sluice := { budget := 600000 } },
    by decide +kernel⟩,
  ⟨.hk 0 true, 3,
    { stA [(.KEY_SEL_INDEX, 0, 3), (.RANK_SEL_SLOT, 0, 2), (.RANK_SEL_RANK, 0, 6)] with power := { policyRan := true, hkHeld := false }, plan := planA, porch := { rooms := [(5, { ctx := ctxW, st := 1, job := 5, everActive := true, resident := true, outstanding := 1, reserved := 1 })] }, clk := { ns := 100000000 }, thresh := { keys := [(3, keyE), (4, keyE)] }, crystal := {  }, sluice := { budget := 600000 } },
    by decide +kernel⟩,
  ⟨(1, 3),
    { stA [(.KEY_SEL_INDEX, 0, 3), (.RANK_SEL_SLOT, 0, 2), (.RANK_SEL_RANK, 0, 6), (.KEY_CMD_STAT_BUSY, 0, 1)] with power := { policyRan := true, hkHeld := false }, plan := planA, porch := { rooms := [(5, { ctx := ctxW, st := 1, job := 5, everActive := true, resident := true, outstanding := 1, reserved := 1 })] }, clk := { ns := 100000000 }, thresh := { keyBusy := some (1, 3) }, crystal := {  }, sluice := { budget := 600000 } },
    by decide +kernel⟩,
  ⟨(1, 3),
    { stA [(.KEY_SEL_INDEX, 0, 3), (.RANK_SEL_SLOT, 0, 2), (.RANK_SEL_RANK, 0, 6), (.KEY_CMD_STAT_BUSY, 0, 1)] with power := { policyRan := true, hkHeld := false }, plan := planA, porch := { rooms := [(5, { ctx := ctxW, st := 1, job := 5, everActive := true, resident := true, outstanding := 1, reserved := 1 })] }, clk := { ns := 100000000 }, thresh := { keyBusy := some (1, 3), keys := [(3, keyE), (4, keyE)], ops := [(4, { kind := .put, room := 5, code := 0x10, entry := [wd (0x10 + 2 ^ 63), 0, wd (16 + 77 * 2 ^ 32), 0, wd (3 * 2 ^ 32)], peer := 1, dest := 1, destRoom := 9, msgId := 8, segs := 1, len := 16 })], admitQ := [{ opId := 4, peer := 1, input := 72, room := 5, lead := led 0x10 1 5 8 16 0, cells := 1, bytes := 16, resp := false, data := .host 0 [(0x9000, 16)], seq := 7, epoch := 1, q := 3 }] }, crystal := {  }, sluice := { budget := 600000 } },
    by decide +kernel⟩,
  ⟨.hk 0 true, 2, .rankCmdWrite (.hk 0 true),
    { stA [(.KEY_SEL_INDEX, 0, 3), (.RANK_SEL_SLOT, 0, 2), (.RANK_SEL_RANK, 0, 6), (.JOB_SLOT_VALID, 2, 0)] with power := { policyRan := true, hkHeld := false }, plan := planA, porch := { rooms := [(5, { ctx := ctxW, st := 1, job := 5, everActive := true, resident := true, outstanding := 1, reserved := 1 })] }, clk := { ns := 100000000 }, thresh := { keys := [(3, keyE), (4, keyE)] }, crystal := {  }, sluice := { budget := 600000 } },
    by decide +kernel⟩,
  ⟨.hk 0 true, 2, 6,
    { stA [(.KEY_SEL_INDEX, 0, 3), (.RANK_SEL_SLOT, 0, 2), (.RANK_SEL_RANK, 0, 6), (.RANK_DATA_ENTRY, 0, 99)] with power := { policyRan := true, hkHeld := false }, plan := planA, porch := { rooms := [(5, { ctx := ctxW, st := 1, job := 5, everActive := true, resident := true, outstanding := 1, reserved := 1 })] }, clk := { ns := 100000000 }, thresh := { ranks := [(7, 8)] }, crystal := {  }, sluice := { budget := 600000 } },
    by decide +kernel⟩,
  ⟨.hk 0 true, 2, 6,
    { stA [(.KEY_SEL_INDEX, 0, 3), (.RANK_SEL_SLOT, 0, 2), (.RANK_SEL_RANK, 0, 6)] with power := { policyRan := true, hkHeld := false }, plan := planA, porch := { rooms := [(5, { ctx := ctxW, st := 1, job := 5, everActive := true, resident := true, outstanding := 1, reserved := 1 })] }, clk := { ns := 100000000 }, thresh := { ranks := [(6, 8)] }, crystal := {  }, sluice := { budget := 600000 } },
    by decide +kernel⟩,
  ⟨.hk 0 true, 2,
    { stA [(.KEY_SEL_INDEX, 0, 3), (.RANK_SEL_SLOT, 0, 2), (.RANK_SEL_RANK, 0, 6)] with power := { policyRan := true, hkHeld := false }, plan := planA, porch := { rooms := [(5, { ctx := ctxW, st := 1, job := 5, everActive := true, resident := true, outstanding := 1, reserved := 1 })] }, clk := { ns := 100000000 }, thresh := { rankCache := [(5, 6, 7), (4, 6, 7)], ranks := [(6, 8)] }, crystal := {  }, sluice := { budget := 600000 } },
    by decide +kernel⟩⟩

theorem witness_MissesAreServed :
    (∃ (m : Master) (h : Nat) (id : Nat) (e : Miss) (rest : List (Nat × Nat)) (s : State), (MaySee s m .MISS_POP_VALID) ∧
      (s.thresh.missOrder = (h, id) :: rest) ∧ (Tab.find? (s.missOf h) id = some e) ∧ (h < 4) ∧ (id < 64) ∧ (e.ctx < 2 ^ 20))
    ∧ (∃ (m : Master) (s : State), (MaySee s m .MISS_POP_VALID) ∧ (s.thresh.missOrder = []))
    ∧ (∃ (m : Master) (h : Nat) (id : Nat) (e : Miss) (s : State), (May s m .MISS_DONE_ID) ∧ (Tab.find? (s.missOf h) id = some e) ∧
      (NoWaiters s))
    ∧ (∃ (m : Master) (h : Nat) (id : Nat) (e : Miss) (it : WorkItem) (s : State), (May s m .MISS_DONE_ID) ∧ (Tab.find? (s.missOf h)
      id = some e) ∧ (s.porch.stalled = [it]) ∧ (it.misses = [(h, e.ctx, e.page)]) ∧ (it.cont = none) ∧ (it.lb = none) ∧ (NoWaiters
      { s with porch := { s.porch with stalled := [] } }) ∧ (s.hostStopped = false) ∧ (Certain it.room s) ∧ ((s.room it.room).st =
      1) ∧ (weSilent it.entry = false))
    ∧ (∃ (m : Master) (h : Nat) (id : Nat) (e : Miss) (it : WorkItem) (s : State), (May s m .MISS_DONE_ID) ∧ (Tab.find? (s.missOf h)
      id = some e) ∧ ((∀ x ∈ s.missOf h, x.2.ctx = e.ctx → x.2.page = e.page → x.1 = id)) ∧ (s.porch.stalled = [it]) ∧ (it.misses =
      [(h, e.ctx, e.page)]) ∧ (NoWaiters { s with porch := { s.porch with stalled := [] } }))
    ∧ (∃ (m : Master) (h : Nat) (id : Nat) (n : Nat) (e : Miss) (s : State), (May s m .MISS_DONE_ID) ∧ (Tab.find? (s.missOf h) id =
      some e) ∧ (s.flag .PRQ_CTRL_ENABLE h = true) ∧ (prqFull s h = false) ∧ (n = Tab.get s.thresh.prqTail h 0))
    ∧ (∃ (m : Master) (h : Nat) (id : Nat) (e : Miss) (s : State), (May s m .MISS_DONE_ID) ∧ (Tab.find? (s.missOf h) id = some e) ∧
      (s.flag .PRQ_CTRL_ENABLE h = true) ∧ (prqFull s h = true))
    ∧ (∃ (m : Master) (h : Nat) (addr : Nat) (s : State), (May s m .WALK_REQ_ADDR) ∧ (inWindow s h (addr / 8 * 8) = true))
    ∧ (∃ (m : Master) (hk : Nat) (h : Nat) (addr : Nat) (s : State), (May s m .WALK_REQ_ADDR) ∧ (inWindow s h (addr / 8 * 8) =
      false) ∧ ((∀ x ∈ s.thresh.walkStall, x.hk ≠ hk)))
    ∧ (∃ (hk : Nat) (s : State), ((Tab.find? s.thresh.walks hk).isSome = true) ∧ ((∀ x ∈ s.thresh.walkStall, x.hk ≠ hk)))
    ∧ (∃ (hk : Nat) (h : Nat) (x : WalkStall) (s : State), ((Tab.find? s.thresh.walks hk).isSome = true) ∧ (s.thresh.walkStall =
      [x]) ∧ (x.hk = hk) ∧ (x.m = .host h)) :=
  ⟨⟨.hk 3 true, 1, 4, { ctx := 9, page := 7, write := true, target := false }, [(2, 5)],
    { stA [] with plan := planT, porch := { rooms := [(5, { ctx := ctxW, st := 1, job := 5, everActive := true, resident := true, outstanding := 1, reserved := 1 })] }, clk := { ns := 100000000 }, thresh := { misses := [(1, [(4, { ctx := 9, page := 7, write := true, target := false })])], missOrder := [(1, 4), (2, 5)] }, crystal := {  } },
    by decide +kernel⟩,
  ⟨.hk 3 true,
    { stA [(.MISS_POP_VALID, 3, 1)] with plan := planT, porch := { rooms := [(5, { ctx := ctxW, st := 1, job := 5, everActive := true, resident := true, outstanding := 1, reserved := 1 })] }, clk := { ns := 100000000 }, thresh := { nextTag := 4 }, crystal := {  } },
    by decide +kernel⟩,
  ⟨.hk 3 true, 1, 4, { ctx := 9, page := 7, write := true, target := false },
    { stA [] with plan := planT, porch := { rooms := [(5, { ctx := ctxW, st := 1, job := 5, everActive := true, resident := true, outstanding := 1, reserved := 1 })] }, clk := { ns := 100000000 }, thresh := { misses := [(1, [(4, { ctx := 9, page := 7, write := true, target := false })])], missOrder := [(1, 4), (2, 5)] }, crystal := {  } },
    by decide +kernel⟩,
  ⟨.hk 3 true, 1, 4, { ctx := 9, page := 7, write := true, target := false },
    { room := 5, entry := [wd (1 + 2 ^ 63 + 7 * 2 ^ 16), 0, wd 64], misses := [(1, 9, 7)] },
    { stA [] with plan := planT, porch := { rooms := [(5, { ctx := ctxW, st := 1, job := 5, everActive := true, resident := true, outstanding := 1, reserved := 1 })], stalled := [{ room := 5, entry := [wd (1 + 2 ^ 63 + 7 * 2 ^ 16), 0, wd 64], misses := [(1, 9, 7)] }] }, clk := { ns := 100000000 }, thresh := { misses := [(1, [(4, { ctx := 9, page := 7, write := true, target := false })])], missOrder := [(1, 4), (2, 5)] }, crystal := {  } },
    by decide +kernel⟩,
  ⟨.hk 3 true, 1, 4, { ctx := 9, page := 7, write := true, target := false },
    { room := 5, entry := [wd (1 + 2 ^ 63 + 7 * 2 ^ 16), 0, wd 64], misses := [(1, 9, 7)] },
    { stA [] with plan := planT, porch := { rooms := [(5, { ctx := ctxW, st := 1, job := 5, everActive := true, resident := true, outstanding := 1, reserved := 1 })], stalled := [{ room := 5, entry := [wd (1 + 2 ^ 63 + 7 * 2 ^ 16), 0, wd 64], misses := [(1, 9, 7)] }] }, clk := { ns := 100000000 }, thresh := { misses := [(1, [(4, { ctx := 9, page := 7, write := true, target := false })])], missOrder := [(1, 4), (2, 5)] }, crystal := {  } },
    by decide +kernel⟩,
  ⟨.hk 3 true, 1, 4, 7, { ctx := 9, page := 7, write := true, target := false },
    { stA [(.PRQ_CTRL_ENABLE, 1, 1), (.PRQ_BASE_BASE, 1, 3), (.PRQ_BASE_LOG2, 1, 2), (.PRQ_CTRL_HEAD, 1, 4)] with plan := planT, porch := { rooms := [(5, { ctx := ctxW, st := 1, job := 5, everActive := true, resident := true, outstanding := 1, reserved := 1 })] }, clk := { ns := 100000000 }, thresh := { misses := [(1, [(4, { ctx := 9, page := 7, write := true, target := false })])], missOrder := [(1, 4), (2, 5)], prqTail := [(1, 7)] }, crystal := {  } },
    by decide +kernel⟩,
  ⟨.hk 3 true, 1, 4, { ctx := 9, page := 7, write := true, target := false },
    { stA [(.PRQ_CTRL_ENABLE, 1, 1), (.PRQ_BASE_BASE, 1, 3), (.PRQ_BASE_LOG2, 1, 2), (.PRQ_CTRL_HEAD, 1, 4)] with plan := planT, porch := { rooms := [(5, { ctx := ctxW, st := 1, job := 5, everActive := true, resident := true, outstanding := 1, reserved := 1 })] }, clk := { ns := 100000000 }, thresh := { misses := [(1, [(4, { ctx := 9, page := 7, write := true, target := false })])], missOrder := [(1, 4), (2, 5)], prqTail := [(1, 8)] }, crystal := {  } },
    by decide +kernel⟩,
  ⟨.hk 3 true, 1, 0x5FFF,
    { stA [(.WALK_WIN_BASE_ENABLE, 15, 1), (.WALK_WIN_BASE_BASE, 15, 4), (.WALK_WIN_LIMIT_LIMIT, 15, 5)] with plan := planT, porch := { rooms := [(5, { ctx := ctxW, st := 1, job := 5, everActive := true, resident := true, outstanding := 1, reserved := 1 })] }, clk := { ns := 100000000 }, thresh := { misses := [(1, [(4, { ctx := 9, page := 7, write := true, target := false })])], missOrder := [(1, 4), (2, 5)] }, crystal := {  } },
    by decide +kernel⟩,
  ⟨.hk 3 true, 3, 1, 0x6000,
    { stA [(.WALK_WIN_BASE_ENABLE, 15, 1), (.WALK_WIN_BASE_BASE, 15, 4), (.WALK_WIN_LIMIT_LIMIT, 15, 5)] with plan := planT, porch := { rooms := [(5, { ctx := ctxW, st := 1, job := 5, everActive := true, resident := true, outstanding := 1, reserved := 1 })] }, clk := { ns := 100000000 }, thresh := { misses := [(1, [(4, { ctx := 9, page := 7, write := true, target := false })])], missOrder := [(1, 4), (2, 5)], walks := [(3, 2)] }, crystal := {  } },
    by decide +kernel⟩,
  ⟨3,
    { stA [(.WALK_DATA_DATA, 3, 8)] with plan := planT, porch := { rooms := [(5, { ctx := ctxW, st := 1, job := 5, everActive := true, resident := true, outstanding := 1, reserved := 1 })] }, clk := { ns := 100000000 }, thresh := { misses := [(1, [(4, { ctx := 9, page := 7, write := true, target := false })])], missOrder := [(1, 4), (2, 5)], walks := [(3, 2)] }, crystal := {  } },
    by decide +kernel⟩,
  ⟨3, 1, { hk := 3, m := .host 1, low := true, high := true, till := 9 },
    { stA [(.WALK_DATA_DATA, 3, 8)] with plan := planT, porch := { rooms := [(5, { ctx := ctxW, st := 1, job := 5, everActive := true, resident := true, outstanding := 1, reserved := 1 })] }, clk := { ns := 100000000 }, thresh := { misses := [(1, [(4, { ctx := 9, page := 7, write := true, target := false })])], missOrder := [(1, 4), (2, 5)], walks := [(3, 2)], walkStall := [{ hk := 3, m := .host 1, low := true, high := true, till := 9 }] }, crystal := {  } },
    by decide +kernel⟩⟩

theorem witness_TranslationsChange :
    (∃ (m : Master) (s : State), (May s m .ATB_CMD_CMD) ∧ ((atbNew s).size = 3 ∨ (atbNew s).bpage % 2 ^ (9 * (atbNew s).size) ≠ 0))
    ∧ (∃ (m : Master) (h : Nat) (k : Nat) (e : Miss) (s : State), (May s m .ATB_CMD_CMD) ∧ ((atbNew s).size ≠ 3) ∧ ((atbNew s).bpage
      % 2 ^ (9 * (atbNew s).size) = 0) ∧ (Tab.find? (s.missOf h) k = some e) ∧ (e.stale = true))
    ∧ (∃ (m : Master) (h : Nat) (i : Nat) (s : State), (May s m .ATB_CMD_CMD) ∧ ((atbNew s).size ≠ 3) ∧ ((atbNew s).bpage % 2 ^ (9 *
      (atbNew s).size) = 0) ∧ (NoWaiters s) ∧ (i < 1024) ∧ (Tab.find? (s.atbOf h) i = none) ∧ ((∀ j, j < i → ∃ e : AtbEntry,
      Tab.find? (s.atbOf h) j = some e ∧ ¬ (e.ctx = (atbNew s).ctx ∧ runsMeet (atbPages e) (atbPages (atbNew s)) = true))))
    ∧ (∃ (m : Master) (s : State), May s m .ATB_CMD_CMD)
    ∧ (∃ (m : Master) (h : Nat) (i : Nat) (e : AtbEntry) (s : State), (May s m .ATB_CMD_CMD) ∧ (Tab.find? (s.atbOf h) i = some e) ∧
      (e.size < 4) ∧ (e.vpage < 2 ^ 36) ∧ (e.bpage < 2 ^ 40) ∧ (e.ctx < 2 ^ 20))
    ∧ (∃ (m : Master) (h : Nat) (ctx : Option Nat) (run : Nat × Nat) (c : Instr) (s : State), (May s m .INV_RING_RING) ∧ (s.flag
      .INV_STAT_BUSY h = false) ∧ ((c = .invRange m h ∧ ctx = some (s.get .INV_MBOX1_CTX h) ∧ run = (s.get .INV_MBOX0_VPAGE h, max 1
      (s.get .INV_MBOX1_PAGES h))) ∨ (c = .invContext m h ∧ ctx = some (s.get .INV_MBOX1_CTX h) ∧ run = (0, 2 ^ 36)) ∨ (c =
      .invPortAll m h ∧ ctx = none ∧ run = (0, 2 ^ 36))))
    ∧ (∃ (m : Master) (h : Nat) (c : Instr) (s : State), (May s m .INV_RING_RING) ∧ (s.flag .INV_STAT_BUSY h = true) ∧ (c ∈
      [Instr.invRange m h, .invContext m h, .invPortAll m h, .pageDone m h]))
    ∧ (∃ (m : Master) (h : Nat) (id : Nat) (e : Miss) (s : State), (May s m .INV_RING_RING) ∧ (s.flag .INV_STAT_BUSY h = false) ∧
      (s.flag .INV_MBOX0_FAIL h = false) ∧ (s.missOf h = [(id, e)]) ∧ (e.ctx = s.get .INV_MBOX1_CTX h) ∧ (e.page = s.get
      .INV_MBOX0_VPAGE h) ∧ (e.lastReq.isSome = true) ∧ (e.queued = false))
    ∧ (∃ (h : Nat) (d : InvSt) (s : State), (Tab.find? s.thresh.invBusy h = some d) ∧ (d.drain = false ∨ undrained s h d.ranges =
      false))
    ∧ (∃ (h : Nat) (d : InvSt) (s : State), (Tab.find? s.thresh.invBusy h = some d) ∧ (d.drain = true) ∧ (undrained s h d.ranges =
      true)) :=
  ⟨⟨.hk 3 true,
    { stA [(.ATB_DATA0_SIZE, 0, 3), (.ATB_DATA0_WRITE, 0, 1), (.ATB_DATA0_VPAGE, 0, 513), (.ATB_DATA1_BPAGE, 0, 0), (.ATB_DATA2_CTX, 0, 9), (.ATB_DATA2_PAGES, 0, 2)] with plan := planT, porch := { rooms := [(5, { ctx := ctxW, st := 1, job := 5, everActive := true, resident := true, outstanding := 1, reserved := 1 })] }, clk := { ns := 100000000 }, thresh := { misses := [(1, [(4, { ctx := 9, page := 7, write := true, target := false })])], missOrder := [(1, 4), (2, 5)] }, crystal := {  } },
    by decide +kernel⟩,
  ⟨.hk 3 true, 1, 4, { ctx := 9, page := 7, write := true, target := false, stale := true },
    { stA [(.ATB_DATA0_SIZE, 0, 1), (.ATB_DATA0_WRITE, 0, 1), (.ATB_DATA0_VPAGE, 0, 513), (.ATB_DATA1_BPAGE, 0, 512), (.ATB_DATA2_CTX, 0, 9), (.ATB_DATA2_PAGES, 0, 2)] with plan := planT, porch := { rooms := [(5, { ctx := ctxW, st := 1, job := 5, everActive := true, resident := true, outstanding := 1, reserved := 1 })] }, clk := { ns := 100000000 }, thresh := { misses := [(1, [(4, { ctx := 9, page := 7, write := true, target := false, stale := true })])], missOrder := [(1, 4), (2, 5)] }, crystal := {  } },
    by decide +kernel⟩,
  ⟨.hk 3 true, 1, 2,
    { stA [(.ATB_DATA0_SIZE, 0, 1), (.ATB_DATA0_WRITE, 0, 1), (.ATB_DATA0_VPAGE, 0, 513), (.ATB_DATA1_BPAGE, 0, 512), (.ATB_DATA2_CTX, 0, 9), (.ATB_DATA2_PAGES, 0, 2)] with plan := planT, porch := { rooms := [(5, { ctx := ctxW, st := 1, job := 5, everActive := true, resident := true, outstanding := 1, reserved := 1 })] }, clk := { ns := 100000000 }, thresh := { misses := [(1, [(4, { ctx := 9, page := 600, write := true, target := false })])], missOrder := [(1, 4), (2, 5)], atb := [(1, [(0, { size := 0, write := true, vpage := 2, bpage := 3, ctx := 9 }), (1, { size := 1, write := false, vpage := 700, bpage := 512, ctx := 8 }), (5, { size := 0, write := true, vpage := 600, bpage := 3, ctx := 9 })]), (2, [(0, { size := 0, write := true, vpage := 2, bpage := 3, ctx := 9 })])] }, crystal := {  } },
    by decide +kernel⟩,
  ⟨.hk 3 true,
    { stA [(.ATB_DATA0_SIZE, 0, 1), (.ATB_DATA0_WRITE, 0, 1), (.ATB_DATA0_VPAGE, 0, 513), (.ATB_DATA1_BPAGE, 0, 512), (.ATB_DATA2_CTX, 0, 9), (.ATB_DATA2_PAGES, 0, 2)] with plan := planT, porch := { rooms := [(5, { ctx := ctxW, st := 1, job := 5, everActive := true, resident := true, outstanding := 1, reserved := 1 })] }, clk := { ns := 100000000 }, thresh := { atb := [(1, [(0, { size := 0, write := true, vpage := 2, bpage := 3, ctx := 9 }), (1, { size := 1, write := false, vpage := 700, bpage := 512, ctx := 8 }), (5, { size := 0, write := true, vpage := 600, bpage := 3, ctx := 9 })]), (2, [(0, { size := 0, write := true, vpage := 2, bpage := 3, ctx := 9 })])] }, crystal := {  } },
    by decide +kernel⟩,
  ⟨.hk 3 true, 1, 1, { size := 1, write := false, vpage := 700, bpage := 512, ctx := 8 },
    { stA [(.ATB_DATA0_VPAGE, 0, 5)] with plan := planT, porch := { rooms := [(5, { ctx := ctxW, st := 1, job := 5, everActive := true, resident := true, outstanding := 1, reserved := 1 })] }, clk := { ns := 100000000 }, thresh := { atb := [(1, [(0, { size := 0, write := true, vpage := 2, bpage := 3, ctx := 9 }), (1, { size := 1, write := false, vpage := 700, bpage := 512, ctx := 8 }), (5, { size := 0, write := true, vpage := 600, bpage := 3, ctx := 9 })]), (2, [(0, { size := 0, write := true, vpage := 2, bpage := 3, ctx := 9 })])] }, crystal := {  } },
    by decide +kernel⟩,
  ⟨.hk 3 true, 1, some 9, (2, 6), .invRange (.hk 3 true) 1,
    { stA [(.INV_MBOX0_DRAIN, 1, 1), (.INV_MBOX0_VPAGE, 1, 2), (.INV_MBOX1_PAGES, 1, 6), (.INV_MBOX1_CTX, 1, 9)] with plan := planT, porch := { rooms := [(5, { ctx := ctxW, st := 1, job := 5, everActive := true, resident := true, outstanding := 1, reserved := 1 })] }, clk := { ns := 100000000 }, thresh := { misses := [(1, [(4, { ctx := 9, page := 7, write := true, target := false })])], missOrder := [(1, 4), (2, 5)], atb := [(1, [(0, { size := 0, write := true, vpage := 2, bpage := 3, ctx := 9 }), (1, { size := 1, write := false, vpage := 700, bpage := 512, ctx := 8 }), (5, { size := 0, write := true, vpage := 600, bpage := 3, ctx := 9 })]), (2, [(0, { size := 0, write := true, vpage := 2, bpage := 3, ctx := 9 })])] }, crystal := {  } },
    by decide +kernel⟩,
  ⟨.hk 3 true, 1, .invRange (.hk 3 true) 1,
    { stA [(.INV_STAT_BUSY, 1, 1)] with plan := planT, porch := { rooms := [(5, { ctx := ctxW, st := 1, job := 5, everActive := true, resident := true, outstanding := 1, reserved := 1 })] }, clk := { ns := 100000000 }, thresh := { misses := [(1, [(4, { ctx := 9, page := 7, write := true, target := false })])], missOrder := [(1, 4), (2, 5)] }, crystal := {  } },
    by decide +kernel⟩,
  ⟨.hk 3 true, 1, 4, { ctx := 9, page := 7, write := true, target := false, queued := false, lastReq := some 5 },
    { stA [(.INV_MBOX0_VPAGE, 1, 7), (.INV_MBOX1_CTX, 1, 9)] with plan := planT, porch := { rooms := [(5, { ctx := ctxW, st := 1, job := 5, everActive := true, resident := true, outstanding := 1, reserved := 1 })] }, clk := { ns := 100000000 }, thresh := { misses := [(1, [(4, { ctx := 9, page := 7, write := true, target := false, queued := false, lastReq := some 5 })])] }, crystal := {  } },
    by decide +kernel⟩,
  ⟨1, { result := 2 },
    { stA [(.INV_STAT_BUSY, 1, 1), (.INV_STAT_DONE_SEQ, 1, 65535)] with plan := planT, porch := { rooms := [(5, { ctx := ctxW, st := 1, job := 5, everActive := true, resident := true, outstanding := 1, reserved := 1 })] }, clk := { ns := 100000000 }, thresh := { invBusy := [(1, { result := 2 })] }, crystal := {  } },
    by decide +kernel⟩,
  ⟨1, { drain := true, ranges := [(0x9000, 16)] },
    { stA [(.INV_STAT_BUSY, 1, 1)] with plan := planT, porch := { rooms := [(5, { ctx := ctxW, st := 1, job := 5, everActive := true, resident := true, outstanding := 1, reserved := 1 })] }, clk := { ns := 100000000 }, thresh := { invBusy := [(1, { drain := true, ranges := [(0x9000, 16)] })], admitQ := [{ opId := 4, peer := 1, input := 72, room := 5, lead := led 0x10 1 5 8 16 0, cells := 1, bytes := 16, resp := false, data := .host 1 [(0x9000, 16)], seq := 7, epoch := 1, q := 3 }] }, crystal := {  } },
    by decide +kernel⟩⟩

theorem witness_CollectivesAreServed :
    (∃ (s : State), s.hostStopped = true ∨ s.rake.colls = [] ∨ (∀ it ∈ s.rake.colls, treeBusy s it = true))
    ∧ (∃ (it : WorkItem) (rest : List WorkItem) (i : Nat) (st : Nat) (s : State), (CollNext it rest s) ∧ (Certain it.room s) ∧
      ((s.room it.room).st = 1) ∧ (weSilent it.entry = false) ∧ (i = weTree it.entry) ∧ (((10 < weCop it.entry ∨ 6 < weCtype
      it.entry) ∧ st = 6) ∨ (weCop it.entry ≤ 10 ∧ weCtype it.entry ≤ 6 ∧ (s.flag .TREE_ENTRY_VALID i = false ∨ s.flag
      .TREE_ENTRY_HOST i = false ∨ s.hasVc 1 = false) ∧ st = 5) ∨ (weCop it.entry ≤ 10 ∧ weCtype it.entry ≤ 6 ∧ s.flag
      .TREE_ENTRY_VALID i = true ∧ s.flag .TREE_ENTRY_HOST i = true ∧ s.hasVc 1 = true ∧ s.get .TREE_JOB_JOB i ≠ (s.room
      it.room).job ∧ st = 3) ∨ (weCop it.entry ≤ 10 ∧ weCtype it.entry ≤ 6 ∧ s.flag .TREE_ENTRY_VALID i = true ∧ s.flag
      .TREE_ENTRY_HOST i = true ∧ s.hasVc 1 = true ∧ s.get .TREE_JOB_JOB i = (s.room it.room).job ∧ s.rakeOn = false ∧ st = 25)))
    ∧ (∃ (it : WorkItem) (rest : List WorkItem) (i : Nat) (n : Nat) (st : Nat) (s : State), (CollNext it rest s) ∧ (CollGatePasses
      it s) ∧ (Certain it.room s) ∧ ((s.room it.room).st = 1) ∧ (recordedFor s (weTree it.entry) (s.get .TREE_ENTRY_NEXT_SEQ (weTree
      it.entry)) = none) ∧ (weSilent it.entry = false) ∧ (i = weTree it.entry) ∧ (n = weLen it.entry) ∧ (s.get .TREE_ENTRY_STATE i ≠
      2) ∧ ((∀ d ∈ s.rake.dels, d.tree ≠ i)) ∧ ((weCop it.entry = 0 ∧ (weCtype it.entry = 3 ∨ weCtype it.entry = 4) ∧ weFast
      it.entry = false ∧ st = 20) ∨ (¬ (weCop it.entry = 0 ∧ (weCtype it.entry = 3 ∨ weCtype it.entry = 4)) ∧ (n % memBytes (weCop
      it.entry) (weCtype it.entry) ≠ 0 ∨ 65536 < n ∨ (n = 0 ∧ weCop it.entry ≠ 8)) ∧ st = 8) ∨ (¬ (weCop it.entry = 0 ∧ (weCtype
      it.entry = 3 ∨ weCtype it.entry = 4)) ∧ n % memBytes (weCop it.entry) (weCtype it.entry) = 0 ∧ n ≤ 65536 ∧ n ≠ 0 ∧ weCop
      it.entry < 8 ∧ (weAddr it.entry % (if isLoc (weCop it.entry) then 8 else ctypeBytes (weCtype it.entry)) ≠ 0 ∨ weRemote
      it.entry % (if isLoc (weCop it.entry) then 8 else ctypeBytes (weCtype it.entry)) ≠ 0) ∧ st = 7)))
    ∧ (∃ (it : WorkItem) (rest : List WorkItem) (i : Nat) (s : State), (CollNext it rest s) ∧ (CollGatePasses it s) ∧ (i = weTree
      it.entry) ∧ (weCop it.entry = 8) ∧ (weLen it.entry = 0) ∧ (s.get .TREE_ENTRY_STATE i ≠ 2) ∧ ((∀ e ∈ s.rake.recorded, e.1 ≠ i))
      ∧ (treeKids s i = []) ∧ (s.get .TREE_ENTRY_ROLE i ≠ 3))
    ∧ (∃ (i : Nat) (s : State), s.hostStopped = true ∨ (∀ d ∈ s.rake.dels, d.tree ≠ i))
    ∧ (∃ (i : Nat) (k : Nat) (st : Nat) (members : Nat) (fenced : Nat) (body : List Word) (d : CollDel) (s : State), (s.hostStopped
      = false) ∧ (s.rake.dels = [d]) ∧ (d.tree = i) ∧ (d.chunks = [(k, body)] ∧ d.done + 1 = d.total ∨ d.chunks = [] ∧ d.done =
      d.total) ∧ (d.pages = none) ∧ (d.head = some (st, members, fenced)) ∧ (d.keyFail = false) ∧ (Certain d.room s) ∧ ((s.room
      d.room).st = 1) ∧ (weSilent d.entry = false))
    ∧ (∃ (i : Nat) (k : Nat) (h : Nat) (pa : Nat) (pn : Nat) (off : Nat) (n : Nat) (body : List Word) (rest : List (Nat × List
      Word)) (key : KeyEntry) (d : CollDel) (s : State), (s.hostStopped = false) ∧ (s.rake.dels = [d]) ∧ (d.tree = i) ∧ (d.chunks =
      (k, body) :: rest) ∧ (d.pages = some (h, [(pa, pn)])) ∧ (d.done + 1 < d.total) ∧ (off = chunkOff (weCop d.entry) (weCtype
      d.entry) (weFast d.entry) k) ∧ (n = chunkBytes (weCop d.entry) (weCtype d.entry) (weFast d.entry) (weLen d.entry) k) ∧ (0 < n)
      ∧ (n ≤ 64) ∧ (body.length = 8) ∧ (off + n ≤ pn) ∧ (lookLocal d.room (weRkey d.entry) rWrite (weRemote d.entry + off) n s =
      (.found (key, 0), s)) ∧ (s.flag .HPORT_STAT_LINK_UP h = true) ∧ (atomicHolds s h [(pa, pn)] = false))
    ∧ (∃ (i : Nat) (k : Nat) (h : Nat) (pa : Nat) (pn : Nat) (off : Nat) (n : Nat) (since : Nat) (body : List Word) (rest : List
      (Nat × List Word)) (key : KeyEntry) (d : CollDel) (s : State), (s.hostStopped = false) ∧ (s.rake.dels = [d]) ∧ (d.tree = i) ∧
      (d.chunks = (k, body) :: rest) ∧ (d.pages = some (h, [(pa, pn)])) ∧ (off = chunkOff (weCop d.entry) (weCtype d.entry) (weFast
      d.entry) k) ∧ (n = chunkBytes (weCop d.entry) (weCtype d.entry) (weFast d.entry) (weLen d.entry) k) ∧ (lookLocal d.room
      (weRkey d.entry) rWrite (weRemote d.entry + off) n s = (.found (key, 0), s)) ∧ (s.flag .HPORT_STAT_LINK_UP h = false) ∧ (since
      = d.waitAt.getD s.now) ∧ (¬ Due s (since + s.get .THRESH_CFG_OP_TIMEOUT_MS * 1000000)))
    ∧ (∃ (i : Nat) (k : Nat) (h : Nat) (pa : Nat) (pn : Nat) (off : Nat) (n : Nat) (since : Nat) (body : List Word) (rest : List
      (Nat × List Word)) (key : KeyEntry) (d : CollDel) (s : State), (s.hostStopped = false) ∧ (s.rake.dels = [d]) ∧ (d.tree = i) ∧
      (d.chunks = (k, body) :: rest) ∧ (d.pages = some (h, [(pa, pn)])) ∧ (off = chunkOff (weCop d.entry) (weCtype d.entry) (weFast
      d.entry) k) ∧ (n = chunkBytes (weCop d.entry) (weCtype d.entry) (weFast d.entry) (weLen d.entry) k) ∧ (lookLocal d.room
      (weRkey d.entry) rWrite (weRemote d.entry + off) n s = (.found (key, 0), s)) ∧ (s.flag .HPORT_STAT_LINK_UP h = false) ∧ (since
      = d.waitAt.getD s.now) ∧ (Due s (since + s.get .THRESH_CFG_OP_TIMEOUT_MS * 1000000)) ∧ (Certain d.room s) ∧ ((s.room
      d.room).st = 1) ∧ (weSilent d.entry = false)) :=
  ⟨⟨{ stT [(.TREE_ENTRY_VALID, 3, 1), (.TREE_ENTRY_HOST, 3, 1), (.TREE_ENTRY_PARENT, 3, 0), (.TREE_ENTRY_ROLE, 3, 1), (.TREE_JOB_JOB, 3, 5), (.TREE_ENTRY_NEXT_SEQ, 3, 255), (.RAKE_STAT_CTX_FREE, 0, 2), (.RAKE_STAT_WINDOW_LOG2, 0, 4)] with plan := planT, porch := { rooms := [(5, { ctx := ctxW, st := 1, job := 5, everActive := true, resident := true, outstanding := 1, reserved := 1 })] }, clk := { ns := 100000000 }, thresh := {  }, crystal := {  }, rake := {  } },
    by decide +kernel⟩,
  ⟨{ room := 5, entry := [wd (0x40 + 0 * 2 ^ 8 + 2 ^ 63), wd 64, wd (0 + 77 * 2 ^ 32), wd 4096, wd (3 + 2 * 2 ^ 24), wd (3 + 11 * 2 ^ 12 + 0 * 2 ^ 16)] },
    [], 3, 6,
    { stT [(.TREE_ENTRY_VALID, 3, 1), (.TREE_ENTRY_HOST, 3, 1), (.TREE_ENTRY_PARENT, 3, 0), (.TREE_ENTRY_ROLE, 3, 1), (.TREE_JOB_JOB, 3, 5), (.TREE_ENTRY_NEXT_SEQ, 3, 255), (.RAKE_STAT_CTX_FREE, 0, 2), (.RAKE_STAT_WINDOW_LOG2, 0, 4)] with plan := planT, porch := { rooms := [(5, { ctx := ctxW, st := 1, job := 5, everActive := true, resident := true, outstanding := 1, reserved := 1 })] }, clk := { ns := 100000000 }, thresh := {  }, crystal := {  }, rake := { colls := [{ room := 5, entry := [wd (0x40 + 0 * 2 ^ 8 + 2 ^ 63), wd 64, wd (0 + 77 * 2 ^ 32), wd 4096, wd (3 + 2 * 2 ^ 24), wd (3 + 11 * 2 ^ 12 + 0 * 2 ^ 16)] }] } },
    by decide +kernel⟩,
  ⟨{ room := 5, entry := [wd (0x40 + 0 * 2 ^ 8 + 2 ^ 63), wd 64, wd (64 + 77 * 2 ^ 32), wd 4096, wd (3 + 2 * 2 ^ 24), wd (3 + 0 * 2 ^ 12 + 3 * 2 ^ 16)] },
    [], 3, 64, 20,
    { stT [(.TREE_ENTRY_VALID, 3, 1), (.TREE_ENTRY_HOST, 3, 1), (.TREE_ENTRY_PARENT, 3, 0), (.TREE_ENTRY_ROLE, 3, 1), (.TREE_JOB_JOB, 3, 5), (.TREE_ENTRY_NEXT_SEQ, 3, 255), (.RAKE_STAT_CTX_FREE, 0, 2), (.RAKE_STAT_WINDOW_LOG2, 0, 4)] with plan := planT, porch := { rooms := [(5, { ctx := ctxW, st := 1, job := 5, everActive := true, resident := true, outstanding := 1, reserved := 1 })] }, clk := { ns := 100000000 }, thresh := {  }, crystal := {  }, rake := { colls := [{ room := 5, entry := [wd (0x40 + 0 * 2 ^ 8 + 2 ^ 63), wd 64, wd (64 + 77 * 2 ^ 32), wd 4096, wd (3 + 2 * 2 ^ 24), wd (3 + 0 * 2 ^ 12 + 3 * 2 ^ 16)] }] } },
    by decide +kernel⟩,
  ⟨{ room := 5, entry := [wd (0x40 + 0 * 2 ^ 8 + 2 ^ 63), wd 64, wd (0 + 77 * 2 ^ 32), wd 4096, wd (3 + 2 * 2 ^ 24), wd (3 + 8 * 2 ^ 12 + 0 * 2 ^ 16)] },
    [], 3,
    { stT [(.TREE_ENTRY_VALID, 3, 1), (.TREE_ENTRY_HOST, 3, 1), (.TREE_ENTRY_PARENT, 3, 0), (.TREE_ENTRY_ROLE, 3, 1), (.TREE_JOB_JOB, 3, 5), (.TREE_ENTRY_NEXT_SEQ, 3, 255), (.RAKE_STAT_CTX_FREE, 0, 2), (.RAKE_STAT_WINDOW_LOG2, 0, 4)] with plan := planT, porch := { rooms := [(5, { ctx := ctxW, st := 1, job := 5, everActive := true, resident := true, outstanding := 1, reserved := 1 })] }, clk := { ns := 100000000 }, thresh := {  }, crystal := {  }, rake := { colls := [{ room := 5, entry := [wd (0x40 + 0 * 2 ^ 8 + 2 ^ 63), wd 64, wd (0 + 77 * 2 ^ 32), wd 4096, wd (3 + 2 * 2 ^ 24), wd (3 + 8 * 2 ^ 12 + 0 * 2 ^ 16)] }] } },
    by decide +kernel⟩,
  ⟨3,
    { stT [(.TREE_ENTRY_VALID, 3, 1), (.TREE_ENTRY_HOST, 3, 1), (.TREE_ENTRY_PARENT, 3, 0), (.TREE_ENTRY_ROLE, 3, 1), (.TREE_JOB_JOB, 3, 5), (.TREE_ENTRY_NEXT_SEQ, 3, 255), (.RAKE_STAT_CTX_FREE, 0, 2), (.RAKE_STAT_WINDOW_LOG2, 0, 4)] with plan := planT, porch := { rooms := [(5, { ctx := ctxW, st := 1, job := 5, everActive := true, resident := true, outstanding := 1, reserved := 1 })] }, clk := { ns := 100000000 }, thresh := {  }, crystal := {  }, rake := { dels := [{ tree := 4, seq := 255, room := 5, entry := [wd (0x40 + 2 ^ 63), wd 64, wd 128, wd 0x9000, wd (3 + 2 * 2 ^ 24), wd (3 + 3 * 2 ^ 12 + 1 * 2 ^ 16)], head := some (2, 6, 1), total := 2, done := 1, written := 60, chunks := [(1, [1, 2, 3, 4, 5, 6, 7, 8])] }] } },
    by decide +kernel⟩,
  ⟨3, 1, 2, 6, 1, [1, 2, 3, 4, 5, 6, 7, 8],
    { tree := 3, seq := 255, room := 5, entry := [wd (0x40 + 2 ^ 63), wd 64, wd 128, wd 0x9000, wd (3 + 2 * 2 ^ 24), wd (3 + 3 * 2 ^ 12 + 1 * 2 ^ 16)], head := some (2, 6, 1), total := 2, done := 1, written := 60, chunks := [(1, [1, 2, 3, 4, 5, 6, 7, 8])] },
    { stT [(.TREE_ENTRY_VALID, 3, 1), (.TREE_ENTRY_HOST, 3, 1), (.TREE_ENTRY_PARENT, 3, 0), (.TREE_ENTRY_ROLE, 3, 1), (.TREE_JOB_JOB, 3, 5), (.TREE_ENTRY_NEXT_SEQ, 3, 255), (.RAKE_STAT_CTX_FREE, 0, 2), (.RAKE_STAT_WINDOW_LOG2, 0, 4)] with plan := planT, porch := { rooms := [(5, { ctx := ctxW, st := 1, job := 5, everActive := true, resident := true, outstanding := 1, reserved := 1 })] }, clk := { ns := 100000000 }, thresh := {  }, crystal := {  }, rake := { dels := [{ tree := 3, seq := 255, room := 5, entry := [wd (0x40 + 2 ^ 63), wd 64, wd 128, wd 0x9000, wd (3 + 2 * 2 ^ 24), wd (3 + 3 * 2 ^ 12 + 1 * 2 ^ 16)], head := some (2, 6, 1), total := 2, done := 1, written := 60, chunks := [(1, [1, 2, 3, 4, 5, 6, 7, 8])] }] } },
    by decide +kernel⟩,
  ⟨3, 1, 0, 0x9000, 128, chunkOff (weCop
    ({ tree := 3, seq := 255, room := 5, entry := [wd (0x40 + 2 ^ 63), wd 64, wd 128, wd 0x9000, wd (3 + 2 * 2 ^ 24), wd (3 + 3 * 2 ^ 12 + 1 * 2 ^ 16)], total := 9, done := 1, written := 60, chunks := [(1, [1, 2, 3, 4, 5, 6, 7, 8])], pages := some (0, [(0x9000, 128)]) }
    : CollDel).entry) (weCtype
    ({ tree := 3, seq := 255, room := 5, entry := [wd (0x40 + 2 ^ 63), wd 64, wd 128, wd 0x9000, wd (3 + 2 * 2 ^ 24), wd (3 + 3 * 2 ^ 12 + 1 * 2 ^ 16)], total := 9, done := 1, written := 60, chunks := [(1, [1, 2, 3, 4, 5, 6, 7, 8])], pages := some (0, [(0x9000, 128)]) }
    : CollDel).entry) (weFast
    ({ tree := 3, seq := 255, room := 5, entry := [wd (0x40 + 2 ^ 63), wd 64, wd 128, wd 0x9000, wd (3 + 2 * 2 ^ 24), wd (3 + 3 * 2 ^ 12 + 1 * 2 ^ 16)], total := 9, done := 1, written := 60, chunks := [(1, [1, 2, 3, 4, 5, 6, 7, 8])], pages := some (0, [(0x9000, 128)]) }
    : CollDel).entry) (1 : Nat), chunkBytes (weCop
    ({ tree := 3, seq := 255, room := 5, entry := [wd (0x40 + 2 ^ 63), wd 64, wd 128, wd 0x9000, wd (3 + 2 * 2 ^ 24), wd (3 + 3 * 2 ^ 12 + 1 * 2 ^ 16)], total := 9, done := 1, written := 60, chunks := [(1, [1, 2, 3, 4, 5, 6, 7, 8])], pages := some (0, [(0x9000, 128)]) }
    : CollDel).entry) (weCtype
    ({ tree := 3, seq := 255, room := 5, entry := [wd (0x40 + 2 ^ 63), wd 64, wd 128, wd 0x9000, wd (3 + 2 * 2 ^ 24), wd (3 + 3 * 2 ^ 12 + 1 * 2 ^ 16)], total := 9, done := 1, written := 60, chunks := [(1, [1, 2, 3, 4, 5, 6, 7, 8])], pages := some (0, [(0x9000, 128)]) }
    : CollDel).entry) (weFast
    ({ tree := 3, seq := 255, room := 5, entry := [wd (0x40 + 2 ^ 63), wd 64, wd 128, wd 0x9000, wd (3 + 2 * 2 ^ 24), wd (3 + 3 * 2 ^ 12 + 1 * 2 ^ 16)], total := 9, done := 1, written := 60, chunks := [(1, [1, 2, 3, 4, 5, 6, 7, 8])], pages := some (0, [(0x9000, 128)]) }
    : CollDel).entry) (weLen
    ({ tree := 3, seq := 255, room := 5, entry := [wd (0x40 + 2 ^ 63), wd 64, wd 128, wd 0x9000, wd (3 + 2 * 2 ^ 24), wd (3 + 3 * 2 ^ 12 + 1 * 2 ^ 16)], total := 9, done := 1, written := 60, chunks := [(1, [1, 2, 3, 4, 5, 6, 7, 8])], pages := some (0, [(0x9000, 128)]) }
    : CollDel).entry) (1 : Nat), [1, 2, 3, 4, 5, 6, 7, 8], [], { keyE with w1 := 2 ^ 40 },
    { tree := 3, seq := 255, room := 5, entry := [wd (0x40 + 2 ^ 63), wd 64, wd 128, wd 0x9000, wd (3 + 2 * 2 ^ 24), wd (3 + 3 * 2 ^ 12 + 1 * 2 ^ 16)], total := 9, done := 1, written := 60, chunks := [(1, [1, 2, 3, 4, 5, 6, 7, 8])], pages := some (0, [(0x9000, 128)]) },
    { stT [(.TREE_ENTRY_VALID, 3, 1), (.TREE_ENTRY_HOST, 3, 1), (.TREE_ENTRY_PARENT, 3, 0), (.TREE_ENTRY_ROLE, 3, 1), (.TREE_JOB_JOB, 3, 5), (.TREE_ENTRY_NEXT_SEQ, 3, 255), (.RAKE_STAT_CTX_FREE, 0, 2), (.RAKE_STAT_WINDOW_LOG2, 0, 4)] with plan := planT, porch := { rooms := [(5, { ctx := ctxW, st := 1, job := 5, everActive := true, resident := true, outstanding := 1, reserved := 1 })] }, clk := { ns := 100000000 }, thresh := { keys := [(3, { keyE with w1 := 2 ^ 40 }), (4, keyE)], keyCache := [3] }, crystal := {  }, rake := { dels := [{ tree := 3, seq := 255, room := 5, entry := [wd (0x40 + 2 ^ 63), wd 64, wd 128, wd 0x9000, wd (3 + 2 * 2 ^ 24), wd (3 + 3 * 2 ^ 12 + 1 * 2 ^ 16)], total := 9, done := 1, written := 60, chunks := [(1, [1, 2, 3, 4, 5, 6, 7, 8])], pages := some (0, [(0x9000, 128)]) }] } },
    by decide +kernel⟩,
  ⟨3, 1, 0, 0x9000, 128, chunkOff (weCop
    ({ tree := 3, seq := 255, room := 5, entry := [wd (0x40 + 2 ^ 63), wd 64, wd 128, wd 0x9000, wd (3 + 2 * 2 ^ 24), wd (3 + 3 * 2 ^ 12 + 1 * 2 ^ 16)], total := 9, done := 1, written := 60, chunks := [(1, [1, 2, 3, 4, 5, 6, 7, 8])], pages := some (0, [(0x9000, 128)]) }
    : CollDel).entry) (weCtype
    ({ tree := 3, seq := 255, room := 5, entry := [wd (0x40 + 2 ^ 63), wd 64, wd 128, wd 0x9000, wd (3 + 2 * 2 ^ 24), wd (3 + 3 * 2 ^ 12 + 1 * 2 ^ 16)], total := 9, done := 1, written := 60, chunks := [(1, [1, 2, 3, 4, 5, 6, 7, 8])], pages := some (0, [(0x9000, 128)]) }
    : CollDel).entry) (weFast
    ({ tree := 3, seq := 255, room := 5, entry := [wd (0x40 + 2 ^ 63), wd 64, wd 128, wd 0x9000, wd (3 + 2 * 2 ^ 24), wd (3 + 3 * 2 ^ 12 + 1 * 2 ^ 16)], total := 9, done := 1, written := 60, chunks := [(1, [1, 2, 3, 4, 5, 6, 7, 8])], pages := some (0, [(0x9000, 128)]) }
    : CollDel).entry) (1 : Nat), chunkBytes (weCop
    ({ tree := 3, seq := 255, room := 5, entry := [wd (0x40 + 2 ^ 63), wd 64, wd 128, wd 0x9000, wd (3 + 2 * 2 ^ 24), wd (3 + 3 * 2 ^ 12 + 1 * 2 ^ 16)], total := 9, done := 1, written := 60, chunks := [(1, [1, 2, 3, 4, 5, 6, 7, 8])], pages := some (0, [(0x9000, 128)]) }
    : CollDel).entry) (weCtype
    ({ tree := 3, seq := 255, room := 5, entry := [wd (0x40 + 2 ^ 63), wd 64, wd 128, wd 0x9000, wd (3 + 2 * 2 ^ 24), wd (3 + 3 * 2 ^ 12 + 1 * 2 ^ 16)], total := 9, done := 1, written := 60, chunks := [(1, [1, 2, 3, 4, 5, 6, 7, 8])], pages := some (0, [(0x9000, 128)]) }
    : CollDel).entry) (weFast
    ({ tree := 3, seq := 255, room := 5, entry := [wd (0x40 + 2 ^ 63), wd 64, wd 128, wd 0x9000, wd (3 + 2 * 2 ^ 24), wd (3 + 3 * 2 ^ 12 + 1 * 2 ^ 16)], total := 9, done := 1, written := 60, chunks := [(1, [1, 2, 3, 4, 5, 6, 7, 8])], pages := some (0, [(0x9000, 128)]) }
    : CollDel).entry) (weLen
    ({ tree := 3, seq := 255, room := 5, entry := [wd (0x40 + 2 ^ 63), wd 64, wd 128, wd 0x9000, wd (3 + 2 * 2 ^ 24), wd (3 + 3 * 2 ^ 12 + 1 * 2 ^ 16)], total := 9, done := 1, written := 60, chunks := [(1, [1, 2, 3, 4, 5, 6, 7, 8])], pages := some (0, [(0x9000, 128)]) }
    : CollDel).entry) (1 : Nat), 100000000, [1, 2, 3, 4, 5, 6, 7, 8], [], { keyE with w1 := 2 ^ 40 },
    { tree := 3, seq := 255, room := 5, entry := [wd (0x40 + 2 ^ 63), wd 64, wd 128, wd 0x9000, wd (3 + 2 * 2 ^ 24), wd (3 + 3 * 2 ^ 12 + 1 * 2 ^ 16)], total := 9, done := 1, written := 60, chunks := [(1, [1, 2, 3, 4, 5, 6, 7, 8])], pages := some (0, [(0x9000, 128)]) },
    { stN [(.JOB_SLOT_VALID, 2, 1), (.JOB_SLOT_JOB, 2, 5), (.JOB_SLOT_LAST_RANK, 2, 100), (.HPORT_STAT_LINK_UP, 0, 0), (.HPORT_STAT_MODE, 0, 1), (.PORCH_CFG_FETCH_BURST, 0, 4), (.PORCH_CFG_PARK_MAX_KIB, 0, 64), (.THRESH_CFG_PARK_BUDGET_US, 0, 10), (.THRESH_ACK_CFG_ORPHAN_US, 0, 10), (.CRYSTAL_CFG_FULL_HINT_US, 0, 33), (.THRESH_CFG_PAGE_HINT_US, 0, 44), (.THRESH_CFG_OP_TIMEOUT_MS, 0, 10), (.TREE_ENTRY_VALID, 3, 1), (.TREE_ENTRY_HOST, 3, 1), (.TREE_ENTRY_PARENT, 3, 0), (.TREE_ENTRY_ROLE, 3, 1), (.TREE_JOB_JOB, 3, 5), (.TREE_ENTRY_NEXT_SEQ, 3, 255), (.RAKE_STAT_CTX_FREE, 0, 2), (.RAKE_STAT_WINDOW_LOG2, 0, 4)] with plan := planT, porch := { rooms := [(5, { ctx := ctxW, st := 1, job := 5, everActive := true, resident := true, outstanding := 1, reserved := 1 })] }, clk := { ns := 100000000 }, thresh := { keys := [(3, { keyE with w1 := 2 ^ 40 }), (4, keyE)], keyCache := [3] }, crystal := {  }, rake := { dels := [{ tree := 3, seq := 255, room := 5, entry := [wd (0x40 + 2 ^ 63), wd 64, wd 128, wd 0x9000, wd (3 + 2 * 2 ^ 24), wd (3 + 3 * 2 ^ 12 + 1 * 2 ^ 16)], total := 9, done := 1, written := 60, chunks := [(1, [1, 2, 3, 4, 5, 6, 7, 8])], pages := some (0, [(0x9000, 128)]) }] } },
    by decide +kernel⟩,
  ⟨3, 1, 0, 0x9000, 128, chunkOff (weCop
    ({ tree := 3, waitAt := some 5, seq := 255, room := 5, entry := [wd (0x40 + 2 ^ 63), wd 64, wd 128, wd 0x9000, wd (3 + 2 * 2 ^ 24), wd (3 + 3 * 2 ^ 12 + 1 * 2 ^ 16)], total := 9, done := 1, written := 60, chunks := [(1, [1, 2, 3, 4, 5, 6, 7, 8])], pages := some (0, [(0x9000, 128)]) }
    : CollDel).entry) (weCtype
    ({ tree := 3, waitAt := some 5, seq := 255, room := 5, entry := [wd (0x40 + 2 ^ 63), wd 64, wd 128, wd 0x9000, wd (3 + 2 * 2 ^ 24), wd (3 + 3 * 2 ^ 12 + 1 * 2 ^ 16)], total := 9, done := 1, written := 60, chunks := [(1, [1, 2, 3, 4, 5, 6, 7, 8])], pages := some (0, [(0x9000, 128)]) }
    : CollDel).entry) (weFast
    ({ tree := 3, waitAt := some 5, seq := 255, room := 5, entry := [wd (0x40 + 2 ^ 63), wd 64, wd 128, wd 0x9000, wd (3 + 2 * 2 ^ 24), wd (3 + 3 * 2 ^ 12 + 1 * 2 ^ 16)], total := 9, done := 1, written := 60, chunks := [(1, [1, 2, 3, 4, 5, 6, 7, 8])], pages := some (0, [(0x9000, 128)]) }
    : CollDel).entry) (1 : Nat), chunkBytes (weCop
    ({ tree := 3, waitAt := some 5, seq := 255, room := 5, entry := [wd (0x40 + 2 ^ 63), wd 64, wd 128, wd 0x9000, wd (3 + 2 * 2 ^ 24), wd (3 + 3 * 2 ^ 12 + 1 * 2 ^ 16)], total := 9, done := 1, written := 60, chunks := [(1, [1, 2, 3, 4, 5, 6, 7, 8])], pages := some (0, [(0x9000, 128)]) }
    : CollDel).entry) (weCtype
    ({ tree := 3, waitAt := some 5, seq := 255, room := 5, entry := [wd (0x40 + 2 ^ 63), wd 64, wd 128, wd 0x9000, wd (3 + 2 * 2 ^ 24), wd (3 + 3 * 2 ^ 12 + 1 * 2 ^ 16)], total := 9, done := 1, written := 60, chunks := [(1, [1, 2, 3, 4, 5, 6, 7, 8])], pages := some (0, [(0x9000, 128)]) }
    : CollDel).entry) (weFast
    ({ tree := 3, waitAt := some 5, seq := 255, room := 5, entry := [wd (0x40 + 2 ^ 63), wd 64, wd 128, wd 0x9000, wd (3 + 2 * 2 ^ 24), wd (3 + 3 * 2 ^ 12 + 1 * 2 ^ 16)], total := 9, done := 1, written := 60, chunks := [(1, [1, 2, 3, 4, 5, 6, 7, 8])], pages := some (0, [(0x9000, 128)]) }
    : CollDel).entry) (weLen
    ({ tree := 3, waitAt := some 5, seq := 255, room := 5, entry := [wd (0x40 + 2 ^ 63), wd 64, wd 128, wd 0x9000, wd (3 + 2 * 2 ^ 24), wd (3 + 3 * 2 ^ 12 + 1 * 2 ^ 16)], total := 9, done := 1, written := 60, chunks := [(1, [1, 2, 3, 4, 5, 6, 7, 8])], pages := some (0, [(0x9000, 128)]) }
    : CollDel).entry) (1 : Nat), 5, [1, 2, 3, 4, 5, 6, 7, 8], [], { keyE with w1 := 2 ^ 40 },
    { tree := 3, waitAt := some 5, seq := 255, room := 5, entry := [wd (0x40 + 2 ^ 63), wd 64, wd 128, wd 0x9000, wd (3 + 2 * 2 ^ 24), wd (3 + 3 * 2 ^ 12 + 1 * 2 ^ 16)], total := 9, done := 1, written := 60, chunks := [(1, [1, 2, 3, 4, 5, 6, 7, 8])], pages := some (0, [(0x9000, 128)]) },
    { stN [(.JOB_SLOT_VALID, 2, 1), (.JOB_SLOT_JOB, 2, 5), (.JOB_SLOT_LAST_RANK, 2, 100), (.HPORT_STAT_LINK_UP, 0, 0), (.HPORT_STAT_MODE, 0, 1), (.PORCH_CFG_FETCH_BURST, 0, 4), (.PORCH_CFG_PARK_MAX_KIB, 0, 64), (.THRESH_CFG_PARK_BUDGET_US, 0, 10), (.THRESH_ACK_CFG_ORPHAN_US, 0, 10), (.CRYSTAL_CFG_FULL_HINT_US, 0, 33), (.THRESH_CFG_PAGE_HINT_US, 0, 44), (.THRESH_CFG_OP_TIMEOUT_MS, 0, 10), (.TREE_ENTRY_VALID, 3, 1), (.TREE_ENTRY_HOST, 3, 1), (.TREE_ENTRY_PARENT, 3, 0), (.TREE_ENTRY_ROLE, 3, 1), (.TREE_JOB_JOB, 3, 5), (.TREE_ENTRY_NEXT_SEQ, 3, 255), (.RAKE_STAT_CTX_FREE, 0, 2), (.RAKE_STAT_WINDOW_LOG2, 0, 4)] with plan := planT, porch := { rooms := [(5, { ctx := ctxW, st := 1, job := 5, everActive := true, resident := true, outstanding := 1, reserved := 1 })] }, clk := { ns := 100000000 }, thresh := { keys := [(3, { keyE with w1 := 2 ^ 40 }), (4, keyE)], keyCache := [3] }, crystal := {  }, rake := { dels := [{ tree := 3, waitAt := some 5, seq := 255, room := 5, entry := [wd (0x40 + 2 ^ 63), wd 64, wd 128, wd 0x9000, wd (3 + 2 * 2 ^ 24), wd (3 + 3 * 2 ^ 12 + 1 * 2 ^ 16)], total := 9, done := 1, written := 60, chunks := [(1, [1, 2, 3, 4, 5, 6, 7, 8])], pages := some (0, [(0x9000, 128)]) }] } },
    by decide +kernel⟩⟩

theorem witness_TreesRunTheirOperations :
    (∃ (c : Cell) (s : State), (c.ty = tyTreeUp ∨ c.ty = tyTreeDown) ∧ (s.rakeOn = false ∨ s.hostStopped = true) ∧ (cellKind c = 0))
    ∧ (∃ (c : Cell) (s : State), (c.ty = tyTreeUp ∨ c.ty = tyTreeDown) ∧ (s.rakeOn = false ∨ s.hostStopped = true) ∧ (cellKind c =
      1))
    ∧ (∃ (c : Cell) (s : State), (c.ty = tyTreeUp ∨ c.ty = tyTreeDown) ∧ (s.rakeOn = false ∨ s.hostStopped = true) ∧ (cellKind c =
      2))
    ∧ (∃ (c : Cell) (s : State), (c.ty = tyTreeUp ∨ c.ty = tyTreeDown) ∧ (s.rakeOn = false ∨ s.hostStopped = true) ∧ (cellKind c =
      3))
    ∧ (∃ (cmd : Instr) (port : Nat) (c : Cell) (s : State), (c.ty = tyTreeUp ∨ c.ty = tyTreeDown) ∧ (s.rakeOn = true) ∧
      (s.hostStopped = false) ∧ ((cmd, cellKind c) ∈ [(.treeHeadArrival port (some c), 0), (.treeDataArrival port (some c), 1),
      (.treeGrantArrival port (some c), 2), (.treeAbortArrival port (some c), 3)]) ∧ (c.check ≠ bodyCrc c.body ∨ s.flag
      .TREE_ENTRY_VALID (cellTree c) = false ∨ (port ≠ treeParent s (cellTree c) ∧ port ∉ treeKids s (cellTree c)) ∨ (cellKind c = 1
      ∧ s.tree (cellTree c) = none ∧ port ≠ treeParent s (cellTree c) ∧ (cellTree c, port) ∉ s.rake.dropping)))
    ∧ (∃ (port : Nat) (i : Nat) (c : Cell) (s : State), (TreeCellUsed port c s) ∧ (i = cellTree c) ∧ (cellKind c = 0) ∧ (port ≠
      treeParent s i) ∧ (s.tree i = none) ∧ (s.flag .TREE_ENTRY_HOST i = true) ∧ ((∀ e ∈ s.rake.recorded, e.1 ≠ i)) ∧ (¬ (s.flag
      .TREE_ENTRY_ABORTED_VALID i = true ∧ s.get .TREE_ENTRY_ABORTED_SEQ i = hSeq c.body)) ∧ (s.get .TREE_ENTRY_NEXT_SEQ i < 256) ∧
      (s.get .TREE_ENTRY_STATE i ≠ 2) ∧ (hSeq c.body = s.get .TREE_ENTRY_NEXT_SEQ i))
    ∧ (∃ (port : Nat) (i : Nat) (c : Cell) (s : State), (TreeCellUsed port c s) ∧ (i = cellTree c) ∧ (cellKind c = 0) ∧ (port ≠
      treeParent s i) ∧ (s.tree i = none) ∧ (s.flag .TREE_ENTRY_HOST i = true) ∧ ((∀ e ∈ s.rake.recorded, e.1 ≠ i)) ∧ (¬ (s.flag
      .TREE_ENTRY_ABORTED_VALID i = true ∧ s.get .TREE_ENTRY_ABORTED_SEQ i = hSeq c.body)) ∧ (s.get .TREE_ENTRY_NEXT_SEQ i < 256) ∧
      (s.get .TREE_ENTRY_STATE i ≠ 2) ∧ (hSeq c.body ≠ s.get .TREE_ENTRY_NEXT_SEQ i))
    ∧ (∃ (port : Nat) (i : Nat) (c : Cell) (s : State), (TreeCellUsed port c s) ∧ (i = cellTree c) ∧ (cellKind c = 0) ∧ (port ≠
      treeParent s i) ∧ (s.tree i = none) ∧ (s.flag .TREE_ENTRY_HOST i = true) ∧ ((∀ e ∈ s.rake.recorded, e.1 ≠ i)) ∧ (¬ (s.flag
      .TREE_ENTRY_ABORTED_VALID i = true ∧ s.get .TREE_ENTRY_ABORTED_SEQ i = hSeq c.body)) ∧ (s.get .TREE_ENTRY_NEXT_SEQ i < 256) ∧
      (s.get .TREE_ENTRY_STATE i = 2))
    ∧ (∃ (port : Nat) (i : Nat) (k : Nat) (c : Cell) (x : TreeSt) (s : State), (TreeCellUsed port c s) ∧ (i = cellTree c) ∧
      (cellKind c = 1) ∧ (port ≠ treeParent s i) ∧ (s.tree i = some x) ∧ ((i, port) ∉ s.rake.dropping) ∧ (port ∈ x.heads) ∧ (k =
      Tab.get x.got port 0) ∧ (cellLo c = k % 64) ∧ (k < x.total) ∧ (k < x.downGot + x.window) ∧ (x.contrib = none) ∧ (x.begun =
      false) ∧ (x.headSent = false))
    ∧ (∃ (port : Nat) (i : Nat) (k : Nat) (c : Cell) (x : TreeSt) (s : State), (TreeCellUsed port c s) ∧ (i = cellTree c) ∧
      (cellKind c = 1) ∧ (port ≠ treeParent s i) ∧ (s.tree i = some x) ∧ ((i, port) ∉ s.rake.dropping) ∧ (port ∈ x.heads) ∧ (k =
      Tab.get x.got port 0) ∧ (cellLo c = k % 64) ∧ (k < x.total) ∧ (k < x.downGot + x.window) ∧ (x.contrib = none) ∧ (x.headSent =
      true) ∧ (x.downHead = false) ∧ (x.ins = []) ∧ (x.upSent = k) ∧ (x.total = k + 1) ∧ (s.flag .TREE_ENTRY_HOST i = false) ∧
      (expectedKids s i x = [port]) ∧ (s.get .TREE_ENTRY_ROLE i ≠ 3))
    ∧ (∃ (port : Nat) (c : Cell) (s : State), (TreeCellUsed port c s) ∧ (cellKind c = 1) ∧ (port ≠ treeParent s (cellTree c)) ∧
      ((cellTree c, port) ∈ s.rake.dropping))
    ∧ (∃ (port : Nat) (i : Nat) (c : Cell) (x : TreeSt) (s : State), (TreeCellUsed port c s) ∧ (i = cellTree c) ∧ (cellKind c = 2) ∧
      (s.tree i = some x) ∧ (port = treeParent s i) ∧ (x.opSeq = hSeq c.body) ∧ (x.begun = false))
    ∧ (∃ (port : Nat) (i : Nat) (c : Cell) (x : TreeSt) (s : State), (TreeCellUsed port c s) ∧ (i = cellTree c) ∧ (cellKind c = 2) ∧
      (s.tree i = some x) ∧ (port ≠ treeParent s i ∨ x.opSeq ≠ hSeq c.body))
    ∧ (∃ (port : Nat) (i : Nat) (c : Cell) (s : State) (x : _), (TreeCellUsed port c s) ∧ (i = cellTree c) ∧ (cellKind c = 3) ∧
      (s.tree i = some x) ∧ (x.opSeq = hSeq c.body))
    ∧ (∃ (port : Nat) (i : Nat) (c : Cell) (s : State), (TreeCellUsed port c s) ∧ (i = cellTree c) ∧ (cellKind c = 3) ∧ (s.tree i =
      none) ∧ (recordedFor s i (hSeq c.body) = none) ∧ (¬ (s.flag .TREE_ENTRY_ABORTED_VALID i = true ∧ s.get .TREE_ENTRY_ABORTED_SEQ
      i = hSeq c.body)) ∧ ((hSeq c.body + 256 - s.get .TREE_ENTRY_NEXT_SEQ i % 256) % 256 < 128))
    ∧ (∃ (port : Nat) (i : Nat) (c : Cell) (s : State), (TreeCellUsed port c s) ∧ (i = cellTree c) ∧ (cellKind c = 3) ∧ (s.tree i =
      none) ∧ (s.flag .TREE_ENTRY_ABORTED_VALID i = true) ∧ (s.get .TREE_ENTRY_ABORTED_SEQ i = hSeq c.body))
    ∧ (∃ (i : Nat) (x : TreeSt) (rest : List Nat) (s : State), (s.rake.waiters = i :: rest) ∧ (s.tree i = some x) ∧ (s.get
      .RAKE_STAT_CTX_FREE ≠ 0) ∧ (s.get .RAKE_STAT_CTX_FREE < 256) ∧ (x.headSent = true) ∧ (x.downHead = false))
    ∧ (∃ (i : Nat) (s : State), s.rake.waiters.head? ≠ some i ∨ s.tree i = none ∨ s.get .RAKE_STAT_CTX_FREE = 0)
    ∧ (∃ (i : Nat) (x : TreeSt) (s : State), (s.tree i = some x) ∧ (x.begun = true) ∧ ((∃ e ∈ x.firstAt, e.2 ≤ s.now ∧ (∃ p ∈
      neededFor s i x, ∀ a ∈ x.ins, ¬ (a.1 = e.1 ∧ a.2.1 = p)) ∧ ∀ p ∈ neededFor s i x, (∀ a ∈ x.ins, ¬ (a.1 = e.1 ∧ a.2.1 = p)) → p
      ∈ x.heads)))
    ∧ (∃ (i : Nat) (s : State), (∀ x, s.tree i = some x → x.begun = false ∨ ∀ e ∈ x.firstAt, s.now < e.2))
    ∧ (∃ (m : Master) (i : Nat) (s : State) (x : _), (May s m .RAKE_CTRL_CMD) ∧ (s.domainOn 77 = true) ∧ (s.tree i = some x) ∧
      (x.begun = true))
    ∧ (∃ (m : Master) (i : Nat) (s : State), (May s m .RAKE_CTRL_CMD) ∧ (s.domainOn 77 = true) ∧ ((∀ x, s.tree i = some x → x.begun
      = false)))
    ∧ (∃ (m : Master) (s : State), (May s m .RAKE_CTRL_CMD) ∧ (s.domainOn 77 = true))
    ∧ (∃ (m : Master) (s : State), (May s m .RAKE_CTRL_CMD) ∧ (s.domainOn 77 = false))
    ∧ (∃ (m : Master) (s : State), (May s m .RAKE_CTRL_CMD) ∧ (s.domainOn 77 = false)) :=
  ⟨⟨{ ty := tyTreeUp, vc := 1, dest := 0, src := 1, seq := 3 + 1024 * 0, epoch := 0, check := bodyCrc ([wd (255 + 1 * 2 ^ 8 + 0 * 2 ^ 12), wd 64, wd (6 + 2 * 2 ^ 32), 0]), body := [wd (255 + 1 * 2 ^ 8 + 0 * 2 ^ 12), wd 64, wd (6 + 2 * 2 ^ 32), 0] },
    { stT [(.TREE_CHILD_CHILD_LO, 3, 2 ^ 5), (.TREE_ENTRY_VALID, 3, 1), (.TREE_ENTRY_HOST, 3, 1), (.TREE_ENTRY_PARENT, 3, 0), (.TREE_ENTRY_ROLE, 3, 1), (.TREE_JOB_JOB, 3, 5), (.TREE_ENTRY_NEXT_SEQ, 3, 255), (.RAKE_STAT_CTX_FREE, 0, 2), (.RAKE_STAT_WINDOW_LOG2, 0, 4), (.FAULT_STAT_LEVEL, 7, 2)] with plan := planT, porch := { rooms := [(5, { ctx := ctxW, st := 1, job := 5, everActive := true, resident := true, outstanding := 1, reserved := 1 })] }, clk := { ns := 100000000 }, thresh := {  }, crystal := {  }, rake := {  } },
    by decide +kernel⟩,
  ⟨{ ty := tyTreeUp, vc := 1, dest := 0, src := 1, seq := 3 + 1024 * 0, epoch := 1, check := bodyCrc ([0]), body := [0] },
    { stT [(.TREE_CHILD_CHILD_LO, 3, 2 ^ 5), (.TREE_ENTRY_VALID, 3, 1), (.TREE_ENTRY_HOST, 3, 1), (.TREE_ENTRY_PARENT, 3, 0), (.TREE_ENTRY_ROLE, 3, 1), (.TREE_JOB_JOB, 3, 5), (.TREE_ENTRY_NEXT_SEQ, 3, 255), (.RAKE_STAT_CTX_FREE, 0, 2), (.RAKE_STAT_WINDOW_LOG2, 0, 4), (.DEV_FAULT_LEVEL, 0, 3)] with plan := planT, porch := { rooms := [(5, { ctx := ctxW, st := 1, job := 5, everActive := true, resident := true, outstanding := 1, reserved := 1 })] }, clk := { ns := 100000000 }, thresh := {  }, crystal := {  }, rake := {  } },
    by decide +kernel⟩,
  ⟨{ ty := tyTreeUp, vc := 1, dest := 0, src := 1, seq := 3 + 1024 * 0, epoch := 2, check := bodyCrc ([0]), body := [0] },
    { stT [(.TREE_CHILD_CHILD_LO, 3, 2 ^ 5), (.TREE_ENTRY_VALID, 3, 1), (.TREE_ENTRY_HOST, 3, 1), (.TREE_ENTRY_PARENT, 3, 0), (.TREE_ENTRY_ROLE, 3, 1), (.TREE_JOB_JOB, 3, 5), (.TREE_ENTRY_NEXT_SEQ, 3, 255), (.RAKE_STAT_CTX_FREE, 0, 2), (.RAKE_STAT_WINDOW_LOG2, 0, 4), (.DEV_FAULT_LEVEL, 0, 3)] with plan := planT, porch := { rooms := [(5, { ctx := ctxW, st := 1, job := 5, everActive := true, resident := true, outstanding := 1, reserved := 1 })] }, clk := { ns := 100000000 }, thresh := {  }, crystal := {  }, rake := {  } },
    by decide +kernel⟩,
  ⟨{ ty := tyTreeUp, vc := 1, dest := 0, src := 1, seq := 3 + 1024 * 0, epoch := 3, check := bodyCrc ([0]), body := [0] },
    { stT [(.TREE_CHILD_CHILD_LO, 3, 2 ^ 5), (.TREE_ENTRY_VALID, 3, 1), (.TREE_ENTRY_HOST, 3, 1), (.TREE_ENTRY_PARENT, 3, 0), (.TREE_ENTRY_ROLE, 3, 1), (.TREE_JOB_JOB, 3, 5), (.TREE_ENTRY_NEXT_SEQ, 3, 255), (.RAKE_STAT_CTX_FREE, 0, 2), (.RAKE_STAT_WINDOW_LOG2, 0, 4), (.DEV_FAULT_LEVEL, 0, 3)] with plan := planT, porch := { rooms := [(5, { ctx := ctxW, st := 1, job := 5, everActive := true, resident := true, outstanding := 1, reserved := 1 })] }, clk := { ns := 100000000 }, thresh := {  }, crystal := {  }, rake := {  } },
    by decide +kernel⟩,
  ⟨.treeHeadArrival (5 : Nat) (some
    ({ ty := tyTreeUp, vc := 1, dest := 0, src := 1, seq := 3 + 1024 * 0, epoch := 0, check := 3 + bodyCrc ([0]), body := [0] } :
    Cell)), 5,
    { ty := tyTreeUp, vc := 1, dest := 0, src := 1, seq := 3 + 1024 * 0, epoch := 0, check := 3 + bodyCrc ([0]), body := [0] },
    { stT [(.TREE_CHILD_CHILD_LO, 3, 2 ^ 5), (.TREE_ENTRY_VALID, 3, 1), (.TREE_ENTRY_HOST, 3, 1), (.TREE_ENTRY_PARENT, 3, 0), (.TREE_ENTRY_ROLE, 3, 1), (.TREE_JOB_JOB, 3, 5), (.TREE_ENTRY_NEXT_SEQ, 3, 255), (.RAKE_STAT_CTX_FREE, 0, 2), (.RAKE_STAT_WINDOW_LOG2, 0, 4)] with plan := planT, porch := { rooms := [(5, { ctx := ctxW, st := 1, job := 5, everActive := true, resident := true, outstanding := 1, reserved := 1 })] }, clk := { ns := 100000000 }, thresh := {  }, crystal := {  }, rake := { trees := [(3, { opSeq := 255, begun := true, cop := 1, len := 64, heads := [5] })] } },
    by decide +kernel⟩,
  ⟨5, 3,
    { ty := tyTreeUp, vc := 1, dest := 0, src := 1, seq := 3 + 1024 * 0, epoch := 0, check := bodyCrc ([wd (255 + 1 * 2 ^ 8 + 0 * 2 ^ 12), wd 64, wd (6 + 2 * 2 ^ 32), 0]), body := [wd (255 + 1 * 2 ^ 8 + 0 * 2 ^ 12), wd 64, wd (6 + 2 * 2 ^ 32), 0] },
    { stT [(.TREE_CHILD_CHILD_LO, 3, 2 ^ 5), (.TREE_ENTRY_VALID, 3, 1), (.TREE_ENTRY_HOST, 3, 1), (.TREE_ENTRY_PARENT, 3, 0), (.TREE_ENTRY_ROLE, 3, 1), (.TREE_JOB_JOB, 3, 5), (.TREE_ENTRY_NEXT_SEQ, 3, 255), (.RAKE_STAT_CTX_FREE, 0, 2), (.RAKE_STAT_WINDOW_LOG2, 0, 4)] with plan := planT, porch := { rooms := [(5, { ctx := ctxW, st := 1, job := 5, everActive := true, resident := true, outstanding := 1, reserved := 1 })] }, clk := { ns := 100000000 }, thresh := {  }, crystal := {  }, rake := {  } },
    by decide +kernel⟩,
  ⟨5, 3,
    { ty := tyTreeUp, vc := 1, dest := 0, src := 1, seq := 3 + 1024 * 0, epoch := 0, check := bodyCrc ([wd (9 + 1 * 2 ^ 8 + 0 * 2 ^ 12), wd 64, wd (6 + 2 * 2 ^ 32), 0]), body := [wd (9 + 1 * 2 ^ 8 + 0 * 2 ^ 12), wd 64, wd (6 + 2 * 2 ^ 32), 0] },
    { stT [(.TREE_CHILD_CHILD_LO, 3, 2 ^ 5), (.TREE_ENTRY_VALID, 3, 1), (.TREE_ENTRY_HOST, 3, 1), (.TREE_ENTRY_PARENT, 3, 0), (.TREE_ENTRY_ROLE, 3, 1), (.TREE_JOB_JOB, 3, 5), (.TREE_ENTRY_NEXT_SEQ, 3, 255), (.RAKE_STAT_CTX_FREE, 0, 2), (.RAKE_STAT_WINDOW_LOG2, 0, 4)] with plan := planT, porch := { rooms := [(5, { ctx := ctxW, st := 1, job := 5, everActive := true, resident := true, outstanding := 1, reserved := 1 })] }, clk := { ns := 100000000 }, thresh := {  }, crystal := {  }, rake := {  } },
    by decide +kernel⟩,
  ⟨5, 3,
    { ty := tyTreeUp, vc := 1, dest := 0, src := 1, seq := 3 + 1024 * 0, epoch := 0, check := bodyCrc ([wd (9 + 1 * 2 ^ 8 + 0 * 2 ^ 12), wd 64, wd (6 + 2 * 2 ^ 32), 0]), body := [wd (9 + 1 * 2 ^ 8 + 0 * 2 ^ 12), wd 64, wd (6 + 2 * 2 ^ 32), 0] },
    { stT [(.TREE_CHILD_CHILD_LO, 3, 2 ^ 5), (.TREE_ENTRY_VALID, 3, 1), (.TREE_ENTRY_HOST, 3, 1), (.TREE_ENTRY_PARENT, 3, 0), (.TREE_ENTRY_ROLE, 3, 1), (.TREE_JOB_JOB, 3, 5), (.TREE_ENTRY_NEXT_SEQ, 3, 255), (.RAKE_STAT_CTX_FREE, 0, 2), (.RAKE_STAT_WINDOW_LOG2, 0, 4), (.TREE_ENTRY_STATE, 3, 2)] with plan := planT, porch := { rooms := [(5, { ctx := ctxW, st := 1, job := 5, everActive := true, resident := true, outstanding := 1, reserved := 1 })] }, clk := { ns := 100000000 }, thresh := {  }, crystal := {  }, rake := {  } },
    by decide +kernel⟩,
  ⟨5, 3, 2,
    { ty := tyTreeUp, vc := 1, dest := 0, src := 1, seq := 3 + 1024 * 2, epoch := 1, check := bodyCrc ([1, 2]), body := [1, 2] },
    { opSeq := 255, cop := 1, ctype := 0, len := 256, heads := [5], got := [(5, 2)], window := 4 },
    { stT [(.TREE_CHILD_CHILD_LO, 3, 2 ^ 5), (.TREE_ENTRY_VALID, 3, 1), (.TREE_ENTRY_HOST, 3, 1), (.TREE_ENTRY_PARENT, 3, 0), (.TREE_ENTRY_ROLE, 3, 1), (.TREE_JOB_JOB, 3, 5), (.TREE_ENTRY_NEXT_SEQ, 3, 255), (.RAKE_STAT_CTX_FREE, 0, 2), (.RAKE_STAT_WINDOW_LOG2, 0, 4)] with plan := planT, porch := { rooms := [(5, { ctx := ctxW, st := 1, job := 5, everActive := true, resident := true, outstanding := 1, reserved := 1 })] }, clk := { ns := 100000000 }, thresh := {  }, crystal := {  }, rake := { trees := [(3, { opSeq := 255, cop := 1, ctype := 0, len := 256, heads := [5], got := [(5, 2)], window := 4 })] } },
    by decide +kernel⟩,
  ⟨5, 3, 0,
    { ty := tyTreeUp, vc := 1, dest := 0, src := 1, seq := 3 + 1024 * 0, epoch := 1, check := bodyCrc ([1, 2, 3, 4, 5, 6, 7, 8]), body := [1, 2, 3, 4, 5, 6, 7, 8] },
    { opSeq := 255, begun := true, cop := 1, ctype := 0, len := 64, heads := [5], headSent := true, got := [], window := 4, downGot := 0 },
    { stT [(.TREE_CHILD_CHILD_LO, 3, 2 ^ 5), (.TREE_ENTRY_VALID, 3, 1), (.TREE_ENTRY_HOST, 3, 1), (.TREE_ENTRY_PARENT, 3, 0), (.TREE_ENTRY_ROLE, 3, 1), (.TREE_JOB_JOB, 3, 5), (.TREE_ENTRY_NEXT_SEQ, 3, 255), (.RAKE_STAT_CTX_FREE, 0, 2), (.RAKE_STAT_WINDOW_LOG2, 0, 4), (.TREE_ENTRY_HOST, 3, 0)] with plan := planT, porch := { rooms := [(5, { ctx := ctxW, st := 1, job := 5, everActive := true, resident := true, outstanding := 1, reserved := 1 })] }, clk := { ns := 100000000 }, thresh := {  }, crystal := {  }, rake := { trees := [(3, { opSeq := 255, begun := true, cop := 1, ctype := 0, len := 64, heads := [5], headSent := true, got := [], window := 4, downGot := 0 })] } },
    by decide +kernel⟩,
  ⟨5, { ty := tyTreeUp, vc := 1, dest := 0, src := 1, seq := 3 + 1024 * 0, epoch := 1, check := bodyCrc ([0]), body := [0] },
    { stT [(.TREE_CHILD_CHILD_LO, 3, 2 ^ 5), (.TREE_ENTRY_VALID, 3, 1), (.TREE_ENTRY_HOST, 3, 1), (.TREE_ENTRY_PARENT, 3, 0), (.TREE_ENTRY_ROLE, 3, 1), (.TREE_JOB_JOB, 3, 5), (.TREE_ENTRY_NEXT_SEQ, 3, 255), (.RAKE_STAT_CTX_FREE, 0, 2), (.RAKE_STAT_WINDOW_LOG2, 0, 4)] with plan := planT, porch := { rooms := [(5, { ctx := ctxW, st := 1, job := 5, everActive := true, resident := true, outstanding := 1, reserved := 1 })] }, clk := { ns := 100000000 }, thresh := {  }, crystal := {  }, rake := { dropping := [(3, 5)] } },
    by decide +kernel⟩,
  ⟨0, 3,
    { ty := tyTreeDown, vc := 1, dest := 0, src := 1, seq := 3 + 1024 * 0, epoch := 2, check := bodyCrc ([255, 0, 0, wd (5 * 2 ^ 8)]), body := [255, 0, 0, wd (5 * 2 ^ 8)] },
    { opSeq := 255 },
    { stT [(.TREE_CHILD_CHILD_LO, 3, 2 ^ 5), (.TREE_ENTRY_VALID, 3, 1), (.TREE_ENTRY_HOST, 3, 1), (.TREE_ENTRY_PARENT, 3, 0), (.TREE_ENTRY_ROLE, 3, 1), (.TREE_JOB_JOB, 3, 5), (.TREE_ENTRY_NEXT_SEQ, 3, 255), (.RAKE_STAT_CTX_FREE, 0, 2), (.RAKE_STAT_WINDOW_LOG2, 0, 4)] with plan := planT, porch := { rooms := [(5, { ctx := ctxW, st := 1, job := 5, everActive := true, resident := true, outstanding := 1, reserved := 1 })] }, clk := { ns := 100000000 }, thresh := {  }, crystal := {  }, rake := { trees := [(3, { opSeq := 255 })] } },
    by decide +kernel⟩,
  ⟨5, 3,
    { ty := tyTreeDown, vc := 1, dest := 0, src := 1, seq := 3 + 1024 * 0, epoch := 2, check := bodyCrc ([255]), body := [255] },
    { opSeq := 255 },
    { stT [(.TREE_CHILD_CHILD_LO, 3, 2 ^ 5), (.TREE_ENTRY_VALID, 3, 1), (.TREE_ENTRY_HOST, 3, 1), (.TREE_ENTRY_PARENT, 3, 0), (.TREE_ENTRY_ROLE, 3, 1), (.TREE_JOB_JOB, 3, 5), (.TREE_ENTRY_NEXT_SEQ, 3, 255), (.RAKE_STAT_CTX_FREE, 0, 2), (.RAKE_STAT_WINDOW_LOG2, 0, 4)] with plan := planT, porch := { rooms := [(5, { ctx := ctxW, st := 1, job := 5, everActive := true, resident := true, outstanding := 1, reserved := 1 })] }, clk := { ns := 100000000 }, thresh := {  }, crystal := {  }, rake := { trees := [(3, { opSeq := 255 })] } },
    by decide +kernel⟩,
  ⟨5, 3,
    { ty := tyTreeUp, vc := 1, dest := 0, src := 1, seq := 3 + 1024 * 0, epoch := 3, check := bodyCrc ([wd (255 + 1 * 2 ^ 8 + 0 * 2 ^ 12), wd 64, wd (6 + 2 * 2 ^ 32), 0]), body := [wd (255 + 1 * 2 ^ 8 + 0 * 2 ^ 12), wd 64, wd (6 + 2 * 2 ^ 32), 0] },
    { stT [(.TREE_CHILD_CHILD_LO, 3, 2 ^ 5), (.TREE_ENTRY_VALID, 3, 1), (.TREE_ENTRY_HOST, 3, 1), (.TREE_ENTRY_PARENT, 3, 0), (.TREE_ENTRY_ROLE, 3, 1), (.TREE_JOB_JOB, 3, 5), (.TREE_ENTRY_NEXT_SEQ, 3, 255), (.RAKE_STAT_CTX_FREE, 0, 2), (.RAKE_STAT_WINDOW_LOG2, 0, 4)] with plan := planT, porch := { rooms := [(5, { ctx := ctxW, st := 1, job := 5, everActive := true, resident := true, outstanding := 1, reserved := 1 })] }, clk := { ns := 100000000 }, thresh := {  }, crystal := {  }, rake := { trees := [(3, { opSeq := 255, begun := true, cop := 1, len := 64, heads := [5] })], dels := [{ tree := 3, seq := 255, room := 5, entry := [wd (0x40 + 2 ^ 63), wd 64, wd 128, wd 0x9000, wd (3 + 2 * 2 ^ 24), wd (3 + 3 * 2 ^ 12 + 1 * 2 ^ 16)] }] } },
    { opSeq := 255, begun := true, cop := 1, len := 64, heads := [5] }, by decide +kernel⟩,
  ⟨5, 3,
    { ty := tyTreeUp, vc := 1, dest := 0, src := 1, seq := 3 + 1024 * 0, epoch := 3, check := bodyCrc ([wd 255, 0, 0, wd 9]), body := [wd 255, 0, 0, wd 9] },
    { stT [(.TREE_CHILD_CHILD_LO, 3, 2 ^ 5), (.TREE_ENTRY_VALID, 3, 1), (.TREE_ENTRY_HOST, 3, 1), (.TREE_ENTRY_PARENT, 3, 0), (.TREE_ENTRY_ROLE, 3, 1), (.TREE_JOB_JOB, 3, 5), (.TREE_ENTRY_NEXT_SEQ, 3, 255), (.RAKE_STAT_CTX_FREE, 0, 2), (.RAKE_STAT_WINDOW_LOG2, 0, 4)] with plan := planT, porch := { rooms := [(5, { ctx := ctxW, st := 1, job := 5, everActive := true, resident := true, outstanding := 1, reserved := 1 })] }, clk := { ns := 100000000 }, thresh := {  }, crystal := {  }, rake := {  } },
    by decide +kernel⟩,
  ⟨5, 3,
    { ty := tyTreeUp, vc := 1, dest := 0, src := 1, seq := 3 + 1024 * 0, epoch := 3, check := bodyCrc ([wd (9 + 1 * 2 ^ 8 + 0 * 2 ^ 12), wd 64, wd (6 + 2 * 2 ^ 32), 0]), body := [wd (9 + 1 * 2 ^ 8 + 0 * 2 ^ 12), wd 64, wd (6 + 2 * 2 ^ 32), 0] },
    { stT [(.TREE_CHILD_CHILD_LO, 3, 2 ^ 5), (.TREE_ENTRY_VALID, 3, 1), (.TREE_ENTRY_HOST, 3, 1), (.TREE_ENTRY_PARENT, 3, 0), (.TREE_ENTRY_ROLE, 3, 1), (.TREE_JOB_JOB, 3, 5), (.TREE_ENTRY_NEXT_SEQ, 3, 255), (.RAKE_STAT_CTX_FREE, 0, 2), (.RAKE_STAT_WINDOW_LOG2, 0, 4), (.TREE_ENTRY_ABORTED_VALID, 3, 1), (.TREE_ENTRY_ABORTED_SEQ, 3, 9)] with plan := planT, porch := { rooms := [(5, { ctx := ctxW, st := 1, job := 5, everActive := true, resident := true, outstanding := 1, reserved := 1 })] }, clk := { ns := 100000000 }, thresh := {  }, crystal := {  }, rake := {  } },
    by decide +kernel⟩,
  ⟨3,
    { opSeq := 255, begun := true, cop := 1, ctype := 0, len := 64, heads := [5], headSent := true, got := [], window := 4, downGot := 0 },
    [4],
    { stT [(.TREE_CHILD_CHILD_LO, 3, 2 ^ 5), (.TREE_ENTRY_VALID, 3, 1), (.TREE_ENTRY_HOST, 3, 1), (.TREE_ENTRY_PARENT, 3, 0), (.TREE_ENTRY_ROLE, 3, 1), (.TREE_JOB_JOB, 3, 5), (.TREE_ENTRY_NEXT_SEQ, 3, 255), (.RAKE_STAT_CTX_FREE, 0, 2), (.RAKE_STAT_WINDOW_LOG2, 0, 4)] with plan := planT, porch := { rooms := [(5, { ctx := ctxW, st := 1, job := 5, everActive := true, resident := true, outstanding := 1, reserved := 1 })] }, clk := { ns := 100000000 }, thresh := {  }, crystal := {  }, rake := { trees := [(3, { opSeq := 255, begun := true, cop := 1, ctype := 0, len := 64, heads := [5], headSent := true, got := [], window := 4, downGot := 0 })], waiters := [3, 4] } },
    by decide +kernel⟩,
  ⟨3,
    { stT [(.TREE_CHILD_CHILD_LO, 3, 2 ^ 5), (.TREE_ENTRY_VALID, 3, 1), (.TREE_ENTRY_HOST, 3, 1), (.TREE_ENTRY_PARENT, 3, 0), (.TREE_ENTRY_ROLE, 3, 1), (.TREE_JOB_JOB, 3, 5), (.TREE_ENTRY_NEXT_SEQ, 3, 255), (.RAKE_STAT_CTX_FREE, 0, 2), (.RAKE_STAT_WINDOW_LOG2, 0, 4)] with plan := planT, porch := { rooms := [(5, { ctx := ctxW, st := 1, job := 5, everActive := true, resident := true, outstanding := 1, reserved := 1 })] }, clk := { ns := 100000000 }, thresh := {  }, crystal := {  }, rake := { waiters := [4] } },
    by decide +kernel⟩,
  ⟨3,
    { opSeq := 255, begun := true, cop := 1, len := 64, heads := [5], headSent := true, firstAt := [(0, 5)], ins := [(0, 72, [1])] },
    { stT [(.TREE_CHILD_CHILD_LO, 3, 2 ^ 5), (.TREE_ENTRY_VALID, 3, 1), (.TREE_ENTRY_HOST, 3, 1), (.TREE_ENTRY_PARENT, 3, 0), (.TREE_ENTRY_ROLE, 3, 1), (.TREE_JOB_JOB, 3, 5), (.TREE_ENTRY_NEXT_SEQ, 3, 255), (.RAKE_STAT_CTX_FREE, 0, 2), (.RAKE_STAT_WINDOW_LOG2, 0, 4)] with plan := planT, porch := { rooms := [(5, { ctx := ctxW, st := 1, job := 5, everActive := true, resident := true, outstanding := 1, reserved := 1 })] }, clk := { ns := 100000000 }, thresh := {  }, crystal := {  }, rake := { trees := [(3, { opSeq := 255, begun := true, cop := 1, len := 64, heads := [5], headSent := true, firstAt := [(0, 5)], ins := [(0, 72, [1])] })] } },
    by decide +kernel⟩,
  ⟨3,
    { stT [(.TREE_CHILD_CHILD_LO, 3, 2 ^ 5), (.TREE_ENTRY_VALID, 3, 1), (.TREE_ENTRY_HOST, 3, 1), (.TREE_ENTRY_PARENT, 3, 0), (.TREE_ENTRY_ROLE, 3, 1), (.TREE_JOB_JOB, 3, 5), (.TREE_ENTRY_NEXT_SEQ, 3, 255), (.RAKE_STAT_CTX_FREE, 0, 2), (.RAKE_STAT_WINDOW_LOG2, 0, 4)] with plan := planT, porch := { rooms := [(5, { ctx := ctxW, st := 1, job := 5, everActive := true, resident := true, outstanding := 1, reserved := 1 })] }, clk := { ns := 100000000 }, thresh := {  }, crystal := {  }, rake := {  } },
    by decide +kernel⟩,
  ⟨.hk 0 true, 3,
    { stT [(.TREE_CHILD_CHILD_LO, 3, 2 ^ 5), (.TREE_ENTRY_VALID, 3, 1), (.TREE_ENTRY_HOST, 3, 1), (.TREE_ENTRY_PARENT, 3, 0), (.TREE_ENTRY_ROLE, 3, 1), (.TREE_JOB_JOB, 3, 5), (.TREE_ENTRY_NEXT_SEQ, 3, 255), (.RAKE_STAT_CTX_FREE, 0, 2), (.RAKE_STAT_WINDOW_LOG2, 0, 4)] with plan := planT, porch := { rooms := [(5, { ctx := ctxW, st := 1, job := 5, everActive := true, resident := true, outstanding := 1, reserved := 1 })] }, clk := { ns := 100000000 }, thresh := {  }, crystal := {  }, rake := { trees := [(3, { opSeq := 255, begun := true, cop := 1, len := 64, heads := [5] })], dels := [{ tree := 3, seq := 255, room := 5, entry := [wd (0x40 + 2 ^ 63), wd 64, wd 128, wd 0x9000, wd (3 + 2 * 2 ^ 24), wd (3 + 3 * 2 ^ 12 + 1 * 2 ^ 16)] }] } },
    { opSeq := 255, begun := true, cop := 1, len := 64, heads := [5] }, by decide +kernel⟩,
  ⟨.hk 0 true, 3,
    { stT [(.TREE_CHILD_CHILD_LO, 3, 2 ^ 5), (.TREE_ENTRY_VALID, 3, 1), (.TREE_ENTRY_HOST, 3, 1), (.TREE_ENTRY_PARENT, 3, 0), (.TREE_ENTRY_ROLE, 3, 1), (.TREE_JOB_JOB, 3, 5), (.TREE_ENTRY_NEXT_SEQ, 3, 255), (.RAKE_STAT_CTX_FREE, 0, 2), (.RAKE_STAT_WINDOW_LOG2, 0, 4)] with plan := planT, porch := { rooms := [(5, { ctx := ctxW, st := 1, job := 5, everActive := true, resident := true, outstanding := 1, reserved := 1 })] }, clk := { ns := 100000000 }, thresh := {  }, crystal := {  }, rake := { trees := [(3, { opSeq := 255 })] } },
    by decide +kernel⟩,
  ⟨.hk 0 true,
    { stT [(.TREE_CHILD_CHILD_LO, 3, 2 ^ 5), (.TREE_ENTRY_VALID, 3, 1), (.TREE_ENTRY_HOST, 3, 1), (.TREE_ENTRY_PARENT, 3, 0), (.TREE_ENTRY_ROLE, 3, 1), (.TREE_JOB_JOB, 3, 5), (.TREE_ENTRY_NEXT_SEQ, 3, 255), (.RAKE_STAT_CTX_FREE, 0, 2), (.RAKE_STAT_WINDOW_LOG2, 0, 4), (.TREE_ENTRY_STATE, 3, 2), (.TREE_ENTRY_ABORTED_VALID, 3, 1)] with plan := planT, porch := { rooms := [(5, { ctx := ctxW, st := 1, job := 5, everActive := true, resident := true, outstanding := 1, reserved := 1 })] }, clk := { ns := 100000000 }, thresh := {  }, crystal := {  }, rake := { trees := [(3, { opSeq := 255, begun := true, cop := 1, len := 64, heads := [5] })] } },
    by decide +kernel⟩,
  ⟨.hk 0 true,
    { stT [(.TREE_CHILD_CHILD_LO, 3, 2 ^ 5), (.TREE_ENTRY_VALID, 3, 1), (.TREE_ENTRY_HOST, 3, 1), (.TREE_ENTRY_PARENT, 3, 0), (.TREE_ENTRY_ROLE, 3, 1), (.TREE_JOB_JOB, 3, 5), (.TREE_ENTRY_NEXT_SEQ, 3, 255), (.RAKE_STAT_CTX_FREE, 0, 2), (.RAKE_STAT_WINDOW_LOG2, 0, 4), (.DOMAIN_STAT_HI_ON, 0, 0)] with plan := planT, porch := { rooms := [(5, { ctx := ctxW, st := 1, job := 5, everActive := true, resident := true, outstanding := 1, reserved := 1 })] }, clk := { ns := 100000000 }, thresh := {  }, crystal := {  }, rake := {  } },
    by decide +kernel⟩,
  ⟨.hk 0 true,
    { stT [(.TREE_CHILD_CHILD_LO, 3, 2 ^ 5), (.TREE_ENTRY_VALID, 3, 1), (.TREE_ENTRY_HOST, 3, 1), (.TREE_ENTRY_PARENT, 3, 0), (.TREE_ENTRY_ROLE, 3, 1), (.TREE_JOB_JOB, 3, 5), (.TREE_ENTRY_NEXT_SEQ, 3, 255), (.RAKE_STAT_CTX_FREE, 0, 2), (.RAKE_STAT_WINDOW_LOG2, 0, 4), (.DOMAIN_STAT_HI_ON, 0, 0)] with plan := planT, porch := { rooms := [(5, { ctx := ctxW, st := 1, job := 5, everActive := true, resident := true, outstanding := 1, reserved := 1 })] }, clk := { ns := 100000000 }, thresh := {  }, crystal := {  }, rake := {  } },
    by decide +kernel⟩⟩

theorem witness_UnprivilegedWritesAreRefused :
    (∃ (m : Master) (n : Nat) (k : Nat) (j : Nat) (i : Nat) (b : Bool) (w : Word) (c : Instr) (f : Fld) (s : State), (MayNot s m f)
      ∧ ((c, f, i) ∈ [(.heartbeat m, .VPOL_CFG_HEARTBEAT, 0), (.fplanOpen m n, .FPLAN_CTRL_OPEN, 0), (.fplanDataWrite m w,
      .FPLAN_DATA_WORD, 0), (.fplanCommit m, .FPLAN_CTRL_COMMIT, 0), (.fplanAbort m, .FPLAN_CTRL_ABORT, 0), (.scheduleRequest m,
      .SLUICE_MODE_SCHEDULE, 0), (.portCtrlRetrain m n, .PORT_CTRL_RETRAIN, n), (.portCtrlBringUp m n, .PORT_CTRL_BRING_UP, n),
      (.adminDownSet m n, .PORT_CFG_ADMIN_DOWN, n), (.roomActivate m n, .ROOM_CMD_CMD, 0), (.roomDeactivate m n, .ROOM_CMD_CMD, 0),
      (.roomReset m n, .ROOM_CMD_CMD, 0), (.roomEvict m n, .ROOM_CMD_CMD, 0), (.roomCmdInvalid m n k, .ROOM_CMD_CMD, 0)] ++
      [(.flowCmdReset m, .FLOW_CMD_RESET, 0), (.keyCmdWrite m, .KEY_CMD_CMD, 0), (.keyCmdRead m, .KEY_CMD_CMD, 0),
      (.keyCmdInvalidate m, .KEY_CMD_CMD, 0), (.missDoneWalkFault m n k, .MISS_DONE_ID, 0), (.missDoneWalkDevice m n k,
      .MISS_DONE_ID, 0), (.missDoneNotPresent m n k, .MISS_DONE_ID, 0), (.missDoneRetry m n k, .MISS_DONE_ID, 0), (.walkReq m n k j,
      .WALK_REQ_ADDR, n), (.atbInstall m n b k, .ATB_CMD_CMD, 0), (.atbInvalidate m n, .ATB_CMD_CMD, 0), (.atbRead m n k,
      .ATB_CMD_CMD, 0), (.invRange m n, .INV_RING_RING, n), (.invContext m n, .INV_RING_RING, n), (.invPortAll m n, .INV_RING_RING,
      n), (.pageDone m n, .INV_RING_RING, n), (.rankCmdWrite m, .RANK_CMD_CMD, 0), (.rankCmdRead m, .RANK_CMD_CMD, 0),
      (.rankCmdFlushJob m, .RANK_CMD_CMD, 0)] ++ [(.rakeAbortCmd m n, .RAKE_CTRL_CMD, 0), (.rakeResyncCmd m n, .RAKE_CTRL_CMD, 0),
      (.timeSet m n k, .TIME_ADJ_SET, 0), (.histClear m, .HIST_CTRL_CLEAR, 0), (.hostReset m, .DEV_FAULT_CTRL_HOST_RESET, 0),
      (.fenceSet m n, .FENCE_CMD_CMD, 0), (.fenceLift m n, .FENCE_CMD_CMD, 0), (.fenceLiftAll m, .FENCE_CMD_CMD, 0),
      (.deviceResetWrite m n, .RESET_CTRL_DEVICE_RESET, 0), (.blockResetCrystal m, .RESET_CTRL_CRYSTAL, 0), (.blockResetRake m,
      .RESET_CTRL_RAKE, 0), (.blockResetCount m, .RESET_CTRL_COUNT, 0), (.watchdogKick m, .WDOG_CFG_KICK, 0), (.atticRead m,
      .ATTIC_CMD_CMD, 0), (.atticWrite m b, .ATTIC_CMD_CMD, 0), (.optCommit m, .ATTIC_CMD_CMD, 0), (.bistShutdown m,
      .BIST_CTRL_SHUTDOWN, 0), (.bistStart m, .BIST_CTRL_START, 0), (.bistOverride m, .BOOT_CTRL_OVERRIDE, 0), (.latchRelease m n,
      .LATCH_RELEASE_ANY, n % 512), (.latchForce m n, .LATCH_FORCE_GO, n % 512), (.snapArm m, .SNAP_CTRL_ARM, 0), (.snapDisarm m,
      .SNAP_CTRL_DISARM, 0)]))
    ∧ (∃ (m : Master) (b : Nat) (s : State), (MayNot s m .FAULT_INJECT_GO) ∧ (b ∈ blockIds))
    ∧ (∃ (m : Master) (n : Nat) (k : Nat) (j : Nat) (i : Nat) (l : Nat) (v : Nat) (w : Word) (c : Instr) (f : Fld) (s : State),
      (MayNot s m f) ∧ ((c, f, i, v) ∈ [(.forceMarkedWrite m n, .SLUICE_MODE_FORCE_MARKED, 0, n), (.portSettingWrite m n k j l,
      .PORT_CFG_FEC, n, k + j + l), (.adminDownClear m n, .PORT_CFG_ADMIN_DOWN, n, 0), (.roomCtxWrite m w, .ROOM_CTX_DATA_DATA, 0,
      w.toNat), (.opPointWrite m n, .OP_CTRL_OP_POINT, 0, n % 4), (.l4HoldWrite m n, .DEV_FAULT_CTRL_L4_HOLD, 0, n % 2),
      (.fenceDataWrite m w, .FENCE_DATA_BITS, 0, w.toNat), (.resetCauseClear m n, .RESET_CAUSE_CLR_CLEAR, 0, n % 4096),
      (.domainTargetWrite m true w, .DOMAIN_TARGET_HI_TARGET, 0, w.toNat % 65536), (.domainTargetWrite m false w,
      .DOMAIN_TARGET_LO_TARGET, 0, w.toNat)] ∨ (i ∈ blockIds ∧ c = .faultAckWrite m i n ∧ f = .FAULT_ACK_ACK ∧ v = n % 2 ^ 64 / 2))
      ∧ (v ≠ 0))
    ∧ (∃ (m : Master) (n : Nat) (k : Nat) (j : Nat) (i : Nat) (l : Nat) (v : Nat) (w : Word) (c : Instr) (f : Fld) (s : State),
      (MayNot s m f) ∧ ((c, f, i, v) ∈ [(.forceMarkedWrite m n, .SLUICE_MODE_FORCE_MARKED, 0, n), (.portSettingWrite m n k j l,
      .PORT_CFG_FEC, n, k + j + l), (.adminDownClear m n, .PORT_CFG_ADMIN_DOWN, n, 0), (.roomCtxWrite m w, .ROOM_CTX_DATA_DATA, 0,
      w.toNat), (.opPointWrite m n, .OP_CTRL_OP_POINT, 0, n % 4), (.l4HoldWrite m n, .DEV_FAULT_CTRL_L4_HOLD, 0, n % 2),
      (.fenceDataWrite m w, .FENCE_DATA_BITS, 0, w.toNat), (.resetCauseClear m n, .RESET_CAUSE_CLR_CLEAR, 0, n % 4096),
      (.domainTargetWrite m true w, .DOMAIN_TARGET_HI_TARGET, 0, w.toNat % 65536), (.domainTargetWrite m false w,
      .DOMAIN_TARGET_LO_TARGET, 0, w.toNat)] ∨ (i ∈ blockIds ∧ c = .faultAckWrite m i n ∧ f = .FAULT_ACK_ACK ∧ v = n % 2 ^ 64 / 2))
      ∧ (v = 0)) :=
  ⟨⟨.mgmt false, 600, 0, 0, 88, false, 0, .latchForce (.mgmt false) 600, .LATCH_FORCE_GO, State.reset, by decide +kernel⟩,
  ⟨.mgmt false, 87, State.reset, by decide +kernel⟩,
  ⟨.mgmt false, 7, 0, 0, 0, 0, 3, 0, .opPointWrite (.mgmt false) 7, .OP_CTRL_OP_POINT, State.reset, by decide +kernel⟩,
  ⟨.mgmt false, 4, 0, 0, 0, 0, 0, 0, .opPointWrite (.mgmt false) 4, .OP_CTRL_OP_POINT, State.reset, by decide +kernel⟩⟩

/-! The checks of WellFormed.lean: an ill-formed term for each is refused, and each command passes with operands in range. -/

def wc : Cell := { ty := 0, vc := 2, dest := 0, src := 0, body := List.replicate 8 0 }
def wfr : RxFrame := { hdr := {} }
def wp : ParamBlock := { node := 0, port := 0, vcMask := 0, fecSel := 0, oneLane := false, rateMax := 0, reserved := List.replicate 8 0, sharedCap := List.replicate 8 0 }
def wt : TCW := { state := 0, caps := 0, rateNow := 0, rateReq := 0, fom := 0, node := 0, port := 0 }

theorem test_wf_Master : (
    [.host 4, .hk 8 true] : List Master).all (fun x => !x.wf) = true := by decide +kernel
theorem test_wf_Cell : (
    [{ wc with ty := 16 }, { wc with vc := 8 }, { wc with hop := 8 }, { wc with dimDone := 16 }, { wc with order := 32 },
     { wc with dest := 2 ^ 20 }, { wc with src := 2 ^ 20 }, { wc with seq := 2 ^ 16 }, { wc with epoch := 4 },
     { wc with idx := 128 }, { wc with segCells := 128 }, { wc with check := 2 ^ 32 }, { wc with body := [] }] : List Cell).all (fun x => !x.wf) = true := by decide +kernel
theorem test_wf_RxFrame : (
    [{ hdr := {}, slots := List.replicate 16 ⟨true, wc⟩ }, { hdr := { ftype := 16 } }, { hdr := { version := 16 } },
     { hdr := { creditCum := [] } }, { hdr := {}, slots := [⟨false, { wc with vc := 8 }⟩] }] : List RxFrame).all (fun x => !x.wf) = true := by decide +kernel
theorem test_wf_ParamBlock : (
    [{ wp with node := 2 ^ 20 }, { wp with port := 128 }, { wp with vcMask := 256 }, { wp with fecSel := 2 },
     { wp with rateMax := 4 }, { wp with reserved := [] }, { wp with sharedCap := [] }] : List ParamBlock).all (fun x => !x.wf) = true := by decide +kernel
theorem test_wf_TCW : (
    [{ wt with state := 16 }, { wt with caps := 16 }, { wt with rateNow := 4 }, { wt with rateReq := 4 }, { wt with fom := 256 },
     { wt with eqReq := 16 }, { wt with eqTap := 8 }, { wt with seq := 256 }, { wt with eqSeq := 256 },
     { wt with node := 2 ^ 20 }, { wt with port := 128 }] : List TCW).all (fun x => !x.wf) = true := by decide +kernel
theorem test_wf_Access : (
    [{ addr := 2 ^ 30 }, { addr := 0, bytes := 4097 }] : List Access).all (fun x => !x.wf) = true := by decide +kernel
theorem test_wf_StairFrame : (
    [{ tag := 16, step := 0 }, { tag := 0, step := 128 }, { tag := 0, step := 0, crcErr := 65536 }] : List StairFrame).all (fun x => !x.wf) = true := by decide +kernel
theorem test_wf_EyeBlock : (
    [{ e0 := 2 ^ 32, e1 := 0, e2 := 0, var := 0 }, { e0 := 0, e1 := 0, e2 := 0, var := 2 ^ 64 }] : List EyeBlock).all (fun x => !x.wf) = true := by decide +kernel
theorem test_wf_QueueId : (
    [.rxCrossing 72, .txCrossing 72, .landing 72, .porchHallCrossing 8, .returnCrossing 8, .crystalCrossing 8, .rakeCrossing 8,
     .vestCrossing 8, .hkCrossing 8, .fetch 4, .porchThresh 4, .sluiceHall 4, .completion 4, .hallTx 72 0, .hallTx 0 8,
     .cellarClient 8] : List QueueId).all (fun x => !x.wf) = true := by decide +kernel
theorem test_wf_refuses_0 : (
    [.queuePtrMismatch (.fetch 4), .cycleMeterWindowEnd [550], .heartbeat (.host 4), .opPointWrite (.host 4) 0,
     .opPointWrite .stair 4, .fplanOpen (.host 4) 0, .fplanOpen .stair 2, .fplanDataWrite (.host 4) 0, .fplanCommit (.host 4),
     .fplanAbort (.host 4), .scheduleRequest (.host 4), .forceMarkedWrite (.host 4) 0,
     .forceMarkedWrite .stair 18446744073709551616, .leadArrival (some { wc with vc := 8 }),
     .payloadArrival (some { wc with vc := 8 }), .cellHallEntry 80 none, .cellHallEntry 0 (some { wc with vc := 8 }),
     .arbitrationAttempt 80, .detourEnd 72, .lifetimeDiscard 80, .pinHoldExpiry 80, .tileHoldExpiry 72 0 0 0,
     .tileHoldExpiry 0 131072 0 0, .tileHoldExpiry 0 0 65536 0, .tileHoldExpiry 0 0 0 16, .linkFrameTransmit 72,
     .linkFrameReceive 72 wfr, .linkFrameReceive 0 { hdr := { version := 16 } }, .paramFrameReceive 72 wfr wp,
     .paramFrameReceive 0 { hdr := { version := 16 } } wp, .paramFrameReceive 0 wfr { wp with vcMask := 256 },
     .replayTimerExpiry 72, .retrainTimeout 72, .pauseAckTimeout 72, .retrainDrained 72, .portSettingWrite (.host 4) 0 0 0 0,
     .portSettingWrite .stair 72 0 0 0, .portSettingWrite .stair 0 2 0 0, .portSettingWrite .stair 0 0 2 0,
     .portSettingWrite .stair 0 0 0 4, .portCtrlRetrain (.host 4) 0, .portCtrlRetrain .stair 72, .portCtrlBringUp (.host 4) 0,
     .portCtrlBringUp .stair 72, .adminDownSet (.host 4) 0, .adminDownSet .stair 72, .adminDownClear (.host 4) 0,
     .adminDownClear .stair 72, .adminDrainEnd 72, .goingDownEnd 72, .autoUpTimer 72, .landingEmpty 72, .paramTimeout 72,
     .violationWindowEnd 72, .alignmentMarkerSend 72 0 0, .alignmentMarkerSend 0 256 0, .alignmentMarkerSend 0 0 256,
     .alignmentMarkerReceive 72 0 {}, .alignmentMarkerReceive 0 2 {}, .fomBlockEnd 72 0 { e0 := 0, e1 := 0, e2 := 0, var := 0 },
     .fomBlockEnd 0 2 { e0 := 0, e1 := 0, e2 := 0, var := 0 }, .fomBlockEnd 0 0 { e0 := 0, e1 := 2 ^ 32, e2 := 0, var := 0 },
     .fomFailWindowExpiry 72 0, .fomFailWindowExpiry 0 2, .cdrLockLoss 72 0, .cdrLockLoss 0 2, .signalLoss 72 0,
     .signalLoss 0 2, .laneSignalDetect 72 0, .laneSignalDetect 0 2, .laneFomPass 72 0, .laneFomPass 0 2,
     .trainingFrameReceive 72 0 wt, .trainingFrameReceive 0 2 wt, .trainingFrameReceive 0 0 { wt with fom := 256 },
     .rateStepSwitch 72, .stepWindowExpiry 72, .bringupAttemptTimeout 72, .retrainAttemptTimeout 72, .hostLinkDown 4] : List Instr).all (fun c => !c.wf) = true := by decide +kernel
theorem test_wf_refuses_1 : (
    [.hostLinkUp 4 0 0 false, .hostLinkUp 0 32 0 false, .hostLinkUp 0 0 8 false, .roomActivate (.host 4) 0,
     .roomActivate .stair 65536, .roomDeactivate (.host 4) 0, .roomDeactivate .stair 65536, .roomReset (.host 4) 0,
     .roomReset .stair 65536, .roomResetComplete 65536, .roomFetch 65536 .command, .roomEvict (.host 4) 0,
     .roomEvict .stair 65536, .roomCmdInvalid (.host 4) 0 0, .roomCmdInvalid .stair 65536 0, .roomCmdInvalid .stair 0 16,
     .contextFetchDone 65536 .error, .roomCtxWrite (.host 4) 0, .roomCtxRead (.host 4) .error, .knock 4 0 0, .knock 0 65536 0,
     .knock 0 0 18446744073709551616, .workFetchStart 65536, .workFetchDone 65536 [], .workFetchDone 0 [[0]],
     .rescanTimer 65536, .cmplHeadWrite 4 0 0, .cmplHeadWrite 0 65536 0, .cmplHeadWrite 0 0 18446744073709551616,
     .armWrite 4 0 0, .armWrite 0 65536 0, .armWrite 0 0 18446744073709551616, .lbGrantRead 4 0, .lbGrantRead 0 65536,
     .lbRelease 4 0 0, .lbRelease 0 65536 0, .lbRelease 0 0 18446744073709551616, .letterboxWord 4 0 0 false,
     .letterboxWord 0 65536 0 false, .lbEndWord 4 0 0 false, .lbEndWord 0 65536 0 false, .lbPacketEnqueue 65536,
     .pickupRead 4 0 false, .pickupRead 0 65536 false, .pickupSkip 4 0, .pickupSkip 0 65536, .roomQueueMismatch 65536 false,
     .matchArrival 65536, .matchPost 65536, .spillReadDone 65536, .refill 64 0, .refill 0 2, .recvCancel 65536,
     .storeReadbackDone 131072 0 [], .storeReadbackDone 0 65536 [], .discardingEntryExpiry 131072 0,
     .discardingEntryExpiry 0 4294967296, .parkBudgetExpiry 131072 0, .parkBudgetExpiry 0 65536, .orphanTimeout 131072 0,
     .orphanTimeout 0 65536, .segmentAdmit 256, .waitlistRetest 131072, .paceRelease 131072,
     .ackArrival (some { wc with vc := 8 }), .syncReqArrival (some { wc with vc := 8 }),
     .syncRespArrival (some { wc with vc := 8 }), .confArrival (some { wc with vc := 8 }), .ackCoalTimer 131072,
     .retransmitTimeout 131072 0, .retransmitTimeout 0 65536, .opTimeout 131072 0, .opTimeout 0 65536,
     .nackNotReadyArrival (some { wc with vc := 8 }), .nackFinalArrival (some { wc with vc := 8 }),
     .nackFlowResetArrival (some { wc with vc := 8 }), .notReadyResend 131072 0, .notReadyResend 0 65536,
     .atomicCacheRelease 131072 0, .atomicCacheRelease 0 4294967296] : List Instr).all (fun c => !c.wf) = true := by decide +kernel
theorem test_wf_refuses_2 : (
    [.trackerTimeout 131072 0, .trackerTimeout 0 4294967296, .syncReqRetry 131072, .syncTimeout 131072,
     .epochAdvanceDeferred 131072, .flowCmdReset (.host 4), .keyCmdWrite (.host 4), .keyCmdRead (.host 4),
     .keyCmdInvalidate (.host 4), .missPop (.host 4) 0, .missPop .stair 8, .missDoneWalkFault (.host 4) 0 0,
     .missDoneWalkFault .stair 4 0, .missDoneWalkFault .stair 0 64, .missDoneWalkDevice (.host 4) 0 0,
     .missDoneWalkDevice .stair 4 0, .missDoneWalkDevice .stair 0 64, .missDoneNotPresent (.host 4) 0 0,
     .missDoneNotPresent .stair 4 0, .missDoneNotPresent .stair 0 64, .missDoneRetry (.host 4) 0 0, .missDoneRetry .stair 4 0,
     .missDoneRetry .stair 0 64, .walkReq (.host 4) 0 0 0, .walkReq .stair 8 0 0, .walkReq .stair 0 4 0,
     .walkReq .stair 0 0 18446744073709551616, .walkReadDone 8 .error, .atbInstall (.host 4) 0 false 0,
     .atbInstall .stair 4 false 0, .atbInstall .stair 0 false 64, .atbInvalidate (.host 4) 0, .atbInvalidate .stair 4,
     .atbRead (.host 4) 0 0, .atbRead .stair 4 0, .atbRead .stair 0 1024, .invRange (.host 4) 0, .invRange .stair 4,
     .invContext (.host 4) 0, .invContext .stair 4, .invPortAll (.host 4) 0, .invPortAll .stair 4, .pageDone (.host 4) 0,
     .pageDone .stair 4, .invRequestComplete 4, .rankCmdWrite (.host 4), .rankCmdRead (.host 4), .rankCmdFlushJob (.host 4),
     .treeHeadArrival 72 none, .treeHeadArrival 0 (some { wc with vc := 8 }), .treeDataArrival 72 none,
     .treeDataArrival 0 (some { wc with vc := 8 }), .treeGrantArrival 72 none, .treeGrantArrival 0 (some { wc with vc := 8 }),
     .treeAbortArrival 72 none, .treeAbortArrival 0 (some { wc with vc := 8 }), .treeContextTake 1024, .treeStallTimeout 1024,
     .rakeAbortCmd (.host 4) 0, .rakeAbortCmd .stair 1024, .rakeResyncCmd (.host 4) 0, .rakeResyncCmd .stair 1024,
     .collResultWrite 1024, .timeCellSend 72, .timeCellArrival 72 wc, .timeCellArrival 0 { wc with vc := 8 },
     .timeSet (.host 4) 0 0, .timeSet .stair 18446744073709551616 0, .timeSet .stair 0 65536, .gateEntryChange 72,
     .shaperRefill 256, .ticketRequestArrival (some { wc with vc := 8 }), .ticketGrantArrival (some { wc with vc := 8 }),
     .ticketRequestRetry 131072, .ticketExpiry 131072, .rateIncreaseTick 131072, .histClear (.host 4), .quietTimerExpiry 88,
     .faultAckWrite (.host 4) 0 0, .faultAckWrite .stair 88 0] : List Instr).all (fun c => !c.wf) = true := by decide +kernel
theorem test_wf_refuses_3 : (
    [.faultAckWrite .stair 0 18446744073709551616, .faultInject (.host 4) 0 0, .faultInject .stair 88 0,
     .faultInject .stair 0 64, .faultRegParityMismatch 88, .hostReset (.host 4), .l4HoldWrite (.host 4) 0,
     .l4HoldWrite .stair 18446744073709551616, .suspectJitterExpiry 64, .suspectHoldExpiry 64, .fenceDataWrite (.host 4) 0,
     .fenceSet (.host 4) 0, .fenceSet .stair 131072, .fenceLift (.host 4) 0, .fenceLift .stair 131072, .fenceLiftAll (.host 4),
     .perstSecondary 4, .deviceResetWrite (.host 4) 0, .deviceResetWrite .stair 256, .blockResetCrystal (.host 4),
     .blockResetRake (.host 4), .blockResetCount (.host 4), .resetCauseClear (.host 4) 0,
     .resetCauseClear .stair 18446744073709551616, .watchdogKick (.host 4), .thermalWarning 16 0, .thermalWarning 0 256,
     .thermalTrip 16 0, .thermalTrip 0 256, .domainTargetWrite (.host 4) false 0, .domainTransitionDone 80,
     .atticRead (.host 4), .atticWrite (.host 4) false, .optCommit (.host 4), .stairEnum { tag := 16, step := 0 },
     .stairRead { tag := 16, step := 0 } 0, .stairRead { tag := 0, step := 0 } 67108864,
     .stairWrite { tag := 16, step := 0 } 0 0, .stairWrite { tag := 0, step := 0 } 67108864 0,
     .stairReset { tag := 16, step := 0 } 0 0, .stairReset { tag := 0, step := 0 } 256 0,
     .stairReset { tag := 0, step := 0 } 0 256, .stairBadType { tag := 16, step := 0 } 0 [],
     .stairBadType { tag := 0, step := 0 } 256 [], .bistShutdown (.host 4), .bistStart (.host 4), .bistGroupDone 16 false,
     .bistOverride (.host 4), .registerWrite (.host 4) { addr := 0 } [0], .registerWrite .stair { addr := 2 ^ 30 } [0],
     .rcRegisterRead (.host 4) { addr := 0 }, .rcRegisterRead .stair { addr := 2 ^ 30 }, .intPendRead (.host 4) false,
     .wideSelWrite (.host 4) 0 0 0, .wideSelWrite .stair 16 0 0, .wideSelWrite .stair 0 256 0, .wideSelWrite .stair 0 0 256,
     .mgmtReadArrival (some { wc with vc := 8 }), .mgmtWriteArrival (some { wc with vc := 8 }), .latchTake (.host 4) 0,
     .latchTake .stair 512, .latchWait (.host 4) 0, .latchWait .stair 512, .latchWaitTimeout 512, .latchRelease (.host 4) 0,
     .latchRelease .stair 512, .latchForce (.host 4) 0, .latchForce .stair 512, .snapArm (.host 4), .snapDisarm (.host 4),
     .trainingStepBoundExpiry 72] : List Instr).all (fun c => !c.wf) = true := by decide +kernel
theorem test_wf_accepts_0 : (
    [.queuePtrMismatch .ackNack, .cycleMeterWindowEnd (List.replicate 24 550), .vpolInterval, .policyStaleTimeout,
     .heartbeat .stair, .opPointWrite .stair 0, .regulatorSeedReached, .avsWriteRetry false, .fplanOpen .stair 0,
     .fplanDataWrite .stair 0, .fplanCommit .stair, .fplanAbort .stair, .fplanSessionTimeout, .planVerifyDone,
     .fullPlanApplyDone, .planActivate, .scheduleRequest .stair, .forceMarkedWrite .stair 0, .headerParityFail (.hallInput 0 0),
     .leadArrival none, .payloadArrival none, .cellHallEntry 0 none, .arbitrationAttempt 0, .detourEnd 0, .lifetimeDiscard 0,
     .pinHoldExpiry 0, .tileHoldExpiry 0 0 0 0, .linkFrameTransmit 0, .linkFrameReceive 0 wfr, .paramFrameReceive 0 wfr wp,
     .replayTimerExpiry 0, .retrainTimeout 0, .pauseAckTimeout 0, .retrainDrained 0, .portSettingWrite .stair 0 0 0 0,
     .portCtrlRetrain .stair 0, .portCtrlBringUp .stair 0, .adminDownSet .stair 0, .adminDownClear .stair 0, .adminDrainEnd 0,
     .goingDownEnd 0, .autoUpTimer 0, .landingEmpty 0, .paramTimeout 0, .violationWindowEnd 0, .alignmentMarkerSend 0 0 0,
     .alignmentMarkerReceive 0 0 {}, .fomBlockEnd 0 0 { e0 := 0, e1 := 0, e2 := 0, var := 0 }, .fomFailWindowExpiry 0 0,
     .cdrLockLoss 0 0, .signalLoss 0 0, .laneSignalDetect 0 0, .laneFomPass 0 0, .trainingFrameReceive 0 0 wt,
     .rateStepSwitch 0, .stepWindowExpiry 0, .bringupAttemptTimeout 0, .retrainAttemptTimeout 0, .hostLinkDown 0,
     .hostLinkUp 0 0 0 false, .roomActivate .stair 0, .roomDeactivate .stair 0, .roomReset .stair 0, .roomResetComplete 0,
     .roomFetch 0 .command, .roomEvict .stair 0, .roomCmdInvalid .stair 0 0, .contextFetchDone 0 .error, .roomCtxWrite .stair 0,
     .roomCtxRead .stair .error, .knock 0 0 0, .workFetchStart 0, .workFetchDone 0 [], .rescanTimer 0, .cmplHeadWrite 0 0 0,
     .armWrite 0 0 0, .lbGrantRead 0 0, .lbRelease 0 0 0, .letterboxWord 0 0 0 false, .lbEndWord 0 0 0 false] : List Instr).all (fun c => c.wf) = true := by decide +kernel
theorem test_wf_accepts_1 : (
    [.lbPacketEnqueue 0, .pickupRead 0 0 false, .pickupSkip 0 0, .roomQueueMismatch 0 false, .porchDelivery, .matchArrival 0,
     .matchPost 0, .spillReadDone 0, .refill 0 0, .recvCancel 0, .storeReadbackDone 0 0 [], .rendezvousGetIssue,
     .discardingEntryExpiry 0 0, .parkBudgetExpiry 0 0, .orphanTimeout 0 0, .injectionTranslate, .segmentAdmit 0,
     .waitlistRetest 0, .paceRelease 0, .hostReadDone 0 .error, .ackArrival none, .syncReqArrival none, .syncRespArrival none,
     .confArrival none, .ackCoalTimer 0, .retransmitTimeout 0 0, .opTimeout 0 0, .nackNotReadyArrival none,
     .nackFinalArrival none, .nackFlowResetArrival none, .notReadyResend 0 0, .responseTimerExpiry 0, .atomicCacheRelease 0 0,
     .trackerTimeout 0 0, .syncReqRetry 0, .syncTimeout 0, .epochAdvanceDeferred 0, .flowCmdReset .stair, .keyCmdWrite .stair,
     .keyCmdRead .stair, .keyCmdInvalidate .stair, .keyCmdComplete, .missPop .stair 0, .missDoneWalkFault .stair 0 0,
     .missDoneWalkDevice .stair 0 0, .missDoneNotPresent .stair 0 0, .missDoneRetry .stair 0 0, .walkReq .stair 0 0 0,
     .walkReadDone 0 .error, .atbInstall .stair 0 false 0, .atbInvalidate .stair 0, .atbRead .stair 0 0, .invRange .stair 0,
     .invContext .stair 0, .invPortAll .stair 0, .pageDone .stair 0, .invRequestComplete 0, .rankCmdWrite .stair,
     .rankCmdRead .stair, .rankCmdFlushJob .stair, .collAdmit, .treeHeadArrival 0 none, .treeDataArrival 0 none,
     .treeGrantArrival 0 none, .treeAbortArrival 0 none, .treeContextTake 0, .treeStallTimeout 0, .rakeAbortCmd .stair 0,
     .rakeResyncCmd .stair 0, .collResultWrite 0, .timeCellSend 0, .timeCellArrival 0 wc, .timeHoldoverTimeout,
     .timeSet .stair 0 0, .gateEntryChange 0, .budgetRefill, .shaperRefill 0, .ticketBudgetRefill, .ticketRequestArrival none,
     .ticketGrantArrival none] : List Instr).all (fun c => c.wf) = true := by decide +kernel
theorem test_wf_accepts_2 : (
    [.ticketGrantIssue, .ticketRequestRetry 0, .ticketExpiry 0, .rateIncreaseTick 0, .histSample, .histClear .stair,
     .quietTimerExpiry 0, .faultAckWrite .stair 0 0, .faultInject .stair 0 0, .cfgParityMismatch (.reg 0 0),
     .faultRegParityMismatch 0, .hostReset .stair, .hostResetComplete, .l4ResetTimer, .l4HoldWrite .stair 0,
     .suspectJitterExpiry 0, .suspectHoldExpiry 0, .fenceDataWrite .stair 0, .fenceSet .stair 0, .fenceLift .stair 0,
     .fenceLiftAll .stair, .ddrEccError false, .ddrLinkFail, .sramEccError { block := 0, unit := 0 } false, .powerOnReset,
     .supplyFault, .resetRelease, .perstPrimary, .perstSecondary 0, .deviceResetWrite .stair 0, .blockResetCrystal .stair,
     .blockResetRake .stair, .blockResetCount .stair, .resetCauseClear .stair 0, .watchdogExpiry, .watchdogKick .stair,
     .thermalWarning 0 0, .thermalTrip 0 0, .thermalTripRelease, .domainTargetWrite .stair false 0, .domainTransitionDone 0,
     .atticRead .stair, .atticWrite .stair false, .optCommit .stair, .stairEnum { tag := 0, step := 0 },
     .stairRead { tag := 0, step := 0 } 0, .stairWrite { tag := 0, step := 0 } 0 0, .stairReset { tag := 0, step := 0 } 0 0,
     .stairBadType { tag := 0, step := 0 } 0 [], .stairUpstreamFrame [], .chainEndDetect, .stairLockLoss, .bistShutdown .stair,
     .bistStart .stair, .bistGroupDone 0 false, .bistOverride .stair, .bootDecision, .registerWrite .stair { addr := 0 } [0],
     .rcRegisterRead .stair { addr := 0 }, .intPendRead .stair false, .wideSelWrite .stair 0 0 0, .mgmtReadArrival none,
     .mgmtWriteArrival none, .latchTake .stair 0, .latchWait .stair 0, .latchWaitTimeout 0, .latchRelease .stair 0,
     .latchForce .stair 0, .dumpPeriod, .dumpRecordDone, .snapArm .stair, .snapDisarm .stair, .snapshotFire, .snapRecordWrite,
     .trainingStepBoundExpiry 0, .cellarReadDone false, .stairCommaLock false] : List Instr).all (fun c => c.wf) = true := by decide +kernel

/-! Worked examples of the spec. -/

/-- The next state's answer to a question; the default where the command answers none. -/
def after {α : Type} (d : α) (c : Instr) (s : State) (f : State → α) : α :=
  match exec c s with
  | .next t => f t
  | _ => d

/-- R86, R87, chapter 4: coordinates (5, 17, 3, 12) have identifier 181,356 and node index 34,734. -/
theorem test_node_index : nodeIndex [18, 18, 18, 18] 181356 = 34734 ∧ (List.range 4).map (coord 181356) = [12, 3, 17, 5] := by decide
/-- Table 4.1, chapter 4: DIM_DONE of a cell from 0x2_C522 to 0x2_C46C starts at 0b1100. -/
theorem test_dim_done : dimDone0 4 [18, 18, 18, 18] 0x2C522 0x2C46C = 12 := by decide
/-- Chapter 4: ORDER 13 is the order (2, 0, 3, 1). -/
theorem test_order : orderDims 13 = [2, 0, 3, 1] := by decide
/-- R79, chapter 4: 9,000 bytes are three segments, the last of 808 bytes in 13 payload cells. -/
theorem test_segments : segCount 9000 = 3 ∧ segBytes 9000 2 = 808 ∧ payloadCells (led 1 0 5 0 9000 1) = 64
    ∧ payloadCells (led 1 0 5 0 9000 2) = 13 := by decide
/-- R251, chapter 4: SEG_SEQ 0x0000 lies 3 above the watermark 0xFFFD. -/
theorem test_window : subMod 0x0000 0xFFFD 65536 = 3 := by decide
/-- R104, chapter 5: at 0x2_C522 a cell for 0x2_C46C may take P11 and P20. -/
theorem test_candidates :
    candidates ({ stN [(.NODE_ID_NODE, 0, 0x2C522), (.PORT_STAT_STATE, 11, 3), (.PORT_STAT_STATE, 20, 3)] with
      plan := { dims := 4, sizes := [18, 18, 18, 18], roles := List.replicate 11 0 ++ [1 + 8 * 12] ++ List.replicate 8 0 ++ [2 + 8 * 3] } })
      { cell := cl 0 2 [] 0x2C522 0x2C46C, input := 72, stamp := 0, vcIn := 2 } 2 = [11, 20] := by decide +kernel
/-- R26, chapter 1: at Sprint a slowest period of 470 ps gives the scale 0x7A8D; 448 ps gives 0x8000. -/
theorem test_scale_slow : after 0 (.cycleMeterWindowEnd (List.replicate 23 440 ++ [470])) (st [(.OP_CTRL_OP_POINT, 0, 0)])
    (fun t => t.get .CYCLE_METER_PERIOD_PS 23) = 470
    ∧ after 0 (.cycleMeterWindowEnd (470 :: List.replicate 23 440)) (st [(.OP_CTRL_OP_POINT, 0, 0)]) (fun t => t.get .VPOL_STAT_SCALE) = 0x7A8D := by
  decide +kernel
theorem test_scale_full : after 0 (.cycleMeterWindowEnd (List.replicate 24 448)) (st [(.OP_CTRL_OP_POINT, 0, 0)])
    (fun t => t.get .VPOL_STAT_SCALE) = 0x8000 := by decide +kernel
/-- R333, chapter 13: a refill at INJECT_BUDGET 1,200 and SCALE 31,373 adds 1,200 × 31,373 / 327,680 segments. -/
theorem test_budget : after 0 .budgetRefill { st [(.VPOL_STAT_SCALE, 0, 31373)] with plan := { budgets := [(64, 1, 1), (64, 1200, 1)] } }
    (fun t => t.sluice.budget) = 1200 * 31373 := by decide +kernel
/-- Table 13.8, chapter 13: 37 cells count in bin 6, a wait of 700 ns in bin 10. -/
theorem test_hist : histBin 37 = 6 ∧ histBin 700 = 10 := by decide
/-- R411, R412, chapter 16: the aliases of the example, and an offset with no register. -/
theorem test_alias : judge .stair { addr := 0x01030208 } = .reg .PORT_CTRL 3 ⟨true, true⟩
    ∧ judge .stair { addr := 0x01030218 } = .reg .PORT_EVENTS 3 ⟨true, true⟩
    ∧ judge .stair { addr := 0x00820000 } = .reg .THRESH_CFG 0 ⟨true, true⟩
    ∧ judge .stair { addr := 0x00800040 } = .reg .KEY_DATA 0 ⟨true, true⟩
    ∧ judge .stair { addr := 0x00800098 } = .reg .FLOW_STAT1 0 ⟨true, true⟩
    ∧ judge .stair { addr := 0x008000A0 } = .nothing := by decide +kernel
/-- R422 to R426, chapter 16: the words of the Latch example. -/
theorem test_latch_take : after none (.latchTake (.host 2) 17) (st []) (fun t => t.out.head?) = some (.reg (.host 2) 0x21) := by decide +kernel
theorem test_latch_wait_limit : after none (.latchWaitTimeout 17)
    { st [] with latch := [(17, { owner := some 2, waiters := [(.hk 3 true, 8)] })], clk := { ns := 8 } }
    (fun t => t.out.head?) = some (.reg (.hk 3 true) 0x28) := by decide +kernel
theorem test_latch_abandoned : after none (.perstSecondary 2)
    { st [] with latch := [(17, { owner := some 2, waiters := [(.host 1, 9000)] })] }
    (fun t => t.out.find? (fun o => o == .reg (.host 1) 0x13)) = some (.reg (.host 1) 0x13) := by decide +kernel
theorem test_latch_hk : after none (.latchTake (.hk 3 true) 17) (st []) (fun t => t.out.head?) = some (.reg (.hk 3 true) 0xB1) := by decide +kernel
/-- R192, chapter 8: with c = 14 on a ring of 16 and three knocks, the first read takes two entries, up to the ring's end. -/
theorem test_ring_end : after none (.workFetchStart 5) { stR [] with
      plan := planN,
      porch := { rooms := [(5, { ctx := ctxW, st := 1, job := 5, everActive := true, resident := true, consumed := 14, knocks := 3 })] } } (fun t => (t.room 5).reading) = some (14, 2) := by decide +kernel
/-- R217 to R219, chapter 9: of R_a (stamp 101) and R_b (102), both eligible for rank 7 and tag 0x11, R_a matches. -/
theorem test_oldest : bestPosted (fun _ => true) 812 3 7 0x11
    { st [] with crystal := { posted := [pstd 812 5 3 0xFFFFFF 0x11 2 102, pstd 812 5 3 7 0x11 1 101, pstd 812 5 3 9 0x22 4 104] } }
    = some (pstd 812 5 3 7 0x11 1 101) := by decide +kernel
/-- R303 to R305, chapter 12: the Order-free example; both arrival orders end in the same partial and the same result. -/
def x1 : Nat := 0x3FF0000000000000
def x2 : Nat := 0x3C48000000000000
def x3 : Nat := 0xBFF0000000000000
def x4 : Nat := 0x3B90000000000000
theorem test_bins : binMake x1 = mkBin 48 0 0 262144 ∧ binMake x2 = mkBin 46 0 0 12 ∧ binMake x4 = mkBin 45 0 0 16384 := by decide +kernel
theorem test_order_free :
    binCombine (binCombine (binCombine (binMake x1) (binMake x3)) (binMake x2)) (binMake x4) = 0x3000000000000000 * 2 ^ 64 + 12
    ∧ binCombine (binCombine (binCombine (binMake x2) (binMake x4)) (binMake x1)) (binMake x3) = 0x3000000000000000 * 2 ^ 64 + 12
    ∧ binRound 6 (0x3000000000000000 * 2 ^ 64 + 12) = 0x3C48000000000000 := by decide +kernel
/-- R307, chapter 12: in Fast the first order yields 3 × 2^−60 + 2^−70, the second 0. -/
theorem test_fast : let a := (fmtOf 6).add
    a (a (a x1 x3) x2) x4 = 0x3C48020000000000 ∧ a (a (a x2 x4) x1) x3 = 0 := by decide +kernel
/-- R143, chapter 6: replay 1 raises REPLAY_COUNT to 1 and sends every cell of the replay buffer again. -/
theorem test_replay : after (0, []) (.replayTimerExpiry 0) { stN [] with
      clk := { ns := 4000 },
      ports := [(0, { replayAt := some 4000, replay := [{ tx (cl 0 2) with seq := 0x1200 }, { tx (cl 0 2) with seq := 0x1201 }] })] }
    (fun t => (t.get .PORT_STAT_REPLAY_COUNT 0, (t.port 0).replayNext)) = (1, [0x1200, 0x1201]) := by decide +kernel
/-- Table 2.6, chapter 2: the entry words of tree 40, by field. -/
theorem test_tree_words : (List.range 72).filter (fun p => Nat.testBit 0x22 p) = [1, 5] ∧ bits 0x64500 9 7 = 34 ∧ bits 0x64500 16 2 = 2
    ∧ bits 0x64500 18 1 = 1 ∧ bits 0x64500 8 1 = 1 := by decide
/-- R391, chapter 15: the eighteenth device of a chain repeats ENUM to its end, which answers with STEP 18. -/
theorem test_enum : after 0 (.stairEnum { tag := 1, step := 18 }) (st [(.STAIR_STAT_CHAIN_END, 0, 1)]) (fun t => t.get .STAIR_STAT_STEP) = 18 := by
  decide +kernel
/-- R366 to R368, chapter 14: bit 34,734 names the node 0x2_C46C, the fabric manager's 0x9_0000 has node index 104,976. -/
theorem test_fence_bit : after false (.fenceSet (.hk 0 true) 34734) { st [] with plan := { dims := 4, sizes := [18, 18, 18, 18] } }
    (fun t => t.fenced (t.idxOf 0x2C46C)) = true ∧ nodeIndex [18, 18, 18, 18] 0x90000 = 104976 := by decide +kernel
/-- FIPS 180-4 (log 13): the SHA-384 digest of the three bytes "abc". -/
theorem test_sha384 : sha384 [0x61, 0x62, 0x63] =
    0xCB00753F45A35E8BB5A03D699AC65007272C32AB0EDED1631A8B605A43FF5BED8086072BA1E7CC2358BAECA134C825A7 := by
  decide +kernel
/-- The remaining hypotheses: a state with the store in order, a match found and none found, a session command of another master. -/
theorem witness_StepKeepsRegsOk : ∃ s t : State, RegsOk s ∧ step s = .next t := ⟨State.reset, tick State.reset, by decide +kernel, rfl⟩
theorem witness_MatchingTakesTheOldest :
    (∃ (room ctx rank tag : Nat) (p : Posted) (s : State), bestPosted (fun _ => true) room ctx rank tag s = some p)
    ∧ (∃ (room ctx rank tag : Nat) (s : State), bestPosted (fun _ => true) room ctx rank tag s = none ∧ s.crystal.posted ≠ [])
    ∧ (∃ (p : Posted) (u : Unexp) (s : State), bestUnexp (fun _ => true) p s = some u)
    ∧ (∃ (p : Posted) (s : State), bestUnexp (fun _ => true) p s = none ∧ s.crystal.unexp ≠ []) :=
  ⟨⟨812, 3, 7, 0x11, pstd 812 5 3 7 0x11 1 101, { st [] with crystal := { posted := [pstd 812 5 3 7 0x11 1 101] } }, by decide +kernel⟩,
  ⟨812, 3, 8, 0x11, { st [] with crystal := { posted := [pstd 812 5 3 7 0x11 1 101] } }, by decide +kernel⟩,
  ⟨pstd 812 5 3 7 0x11 1 101, uxp 1 812 5 3 7 0x11 4 [], { st [] with crystal := { unexp := [uxp 1 812 5 3 7 0x11 4 []] } }, by decide +kernel⟩,
  ⟨pstd 812 5 3 8 0x11 1 101, { st [] with crystal := { unexp := [uxp 1 812 5 3 7 0x11 4 []] } }, by decide +kernel⟩⟩
theorem witness_PlanSessionsLoad_foreign : ∃ (c : Instr) (m : Master) (f : Fld) (s : State),
    ((∃ k, c = .fplanOpen m k ∧ f = .FPLAN_CTRL_OPEN) ∨ (∃ w, c = .fplanDataWrite m w ∧ f = .FPLAN_DATA_WORD)
      ∨ (c = .fplanCommit m ∧ f = .FPLAN_CTRL_COMMIT) ∨ (c = .fplanAbort m ∧ f = .FPLAN_CTRL_ABORT))
    ∧ May s m f ∧ foreign m s = true :=
  ⟨.fplanCommit .stair, .stair, .FPLAN_CTRL_COMMIT, { st [(.FPLAN_STAT_STATE, 0, 1)] with session := { owner := some 5 } },
    .inr (.inr (.inl ⟨rfl, rfl⟩)), by decide +kernel⟩

end Sys2Proof.Machine.Tests
end

section
/-! The refutation of O24: a second class of fault that the answer to a lost entry raises in the queue's own owner (R22, R23). -/
namespace Sys2Proof.Machine

/-! What becomes of a lost removal (Table 1.5, R233, R239). -/

/-- A pointer mismatch of an input that holds one removal asks the removal again, of an input that is empty. -/
theorem loseInput_remove (r : Nat) (s : State) (hi : s.crystal.input = [.remove r false]) :
    loseInput (fun _ => true) s = askRemoval r false (modCrystal (fun c => { c with input := [] }) s) := by
  simp [loseInput, lose, hi, forEach, loseCrOp]

/-- A removal asked of an empty input, with no lookup waiting, takes place at once. -/
theorem askRemoval_of_idle (r : Nat) (s : State) (hi : s.crystal.input = []) (hh : s.crystal.holding = []) :
    askRemoval r false s = leaveService r s := by
  have hs : modCrystal (fun c => { c with input := [], holding := [] }) s = s := by
    simp only [modCrystal, ← hi, ← hh]
  rw [← hs]
  simp [askRemoval, drainRemovals, forEach, drainRemoval, takeOp, opRoom, modCrystal]

/-- The get of no bytes by which an announcement of a room that leaves service is answered (R239). -/
def zeroGet (room src : Nat) (l : List Word) (s : State) : RndvGet :=
  { room := room, dest := s.nodeOf src, destRoom := leadSrcRoom l, keyIdx := leadKeyIdx l, keyGen := leadKeyGen l,
    remote := leadRemote l, msgId := leadMsg l, len := 0, recv := none, rank := leadRank l, ctx := leadCtx l, tag := leadTag l,
    imm := if leadHasImm l then some (leadImm l) else none, total := leadLen l }

/-- A get that finds its queue and the queue's spill full waits, and the Crystalliser detects SPILL_FULL (R22). -/
theorem pushGet_of_rndvFull (room src : Nat) (l : List Word) (s : State) (h : rndvFull s = true) :
    pushGet room src l none s = raise 6 12 0 0 (modCrystal (fun c => { c with owed := c.owed ++ [zeroGet room src l s] }) s) :=
  if_pos h

/-- A detected fault leaves the Crystalliser's own state. -/
theorem raise_crystal (b c u d : Nat) (s : State) : (raise b c u d s).crystal = s.crystal :=
  raise_keeps b c u d s .crystal (by decide)

/-- A room whose one unexpected message is an announcement leaves service by that announcement's get. -/
theorem leaveService_announcement (u : Unexp) (s : State) (hu : s.crystal.unexp = [u]) (hm : s.crystal.msgs = [])
    (hr : u.rndv = true) (h : rndvFull s = true) :
    leaveService u.room s = pushGet u.room u.src u.lead none (modCrystal (fun c => { c with unexp := [], msgs := [] }) s) := by
  have hf : rndvFull (modCrystal (fun c => { c with unexp := [], msgs := [] }) s) = true := h
  have hmsgs : (pushGet u.room u.src u.lead none (modCrystal (fun c => { c with unexp := [], msgs := [] }) s)).crystal.msgs = [] := by
    rw [pushGet_of_rndvFull _ _ _ _ hf, raise_crystal]
    rfl
  simp only [modCrystal] at hmsgs
  simp [leaveService, modCrystal, hu, hm, hr, forEach, hmsgs]

/-! The counterexample. -/

/-- An announcement that room 5 has not matched. -/
def waitingAnnouncement : Unexp :=
  { id := 0, room := 5, part := 0, ctx := 0, rank := 0, tag := 0, src := 1, msgId := 0, lead := [], rndv := true }

/-- The registers stand as a SPILL_FULL of the Crystalliser that has not been acknowledged left them: the block is at L1. -/
def spillUnacked : State := (State.reset.set .FAULT_STAT_LEVEL 1 6).set .FAULT_UNACK_UNACK (2 ^ 11) 6

/-- Beside it, the rendezvous get queue and its spill are still full, and the Crystalliser's input holds the removal of room 5, which
leaves service with an announcement unmatched. -/
def fullSpillState : State :=
  { spillUnacked with crystal := {
      input := [.remove 5 false], unexp := [waitingAnnouncement],
      gets := List.replicate (4096 + Config.rndvSpill 0) (zeroGet 5 1 [] State.reset) } }

theorem rndvFull_fullSpillState : rndvFull fullSpillState = true := by
  have hlen : fullSpillState.crystal.gets.length = 4096 + Config.rndvSpill 0 := List.length_replicate
  exact decide_eq_true (Nat.le_of_eq hlen.symm)

/-- The lost removal, asked again, takes place at once, and its get finds the spill full. -/
theorem loseInput_fullSpillState :
    loseInput (fun _ => true) fullSpillState = raise 6 12 0 0 (modCrystal (fun c =>
      { c with input := [], unexp := [], msgs := [], owed := [zeroGet 5 1 [] fullSpillState] }) fullSpillState) :=
  calc loseInput (fun _ => true) fullSpillState
    _ = askRemoval 5 false (modCrystal (fun c => { c with input := [] }) fullSpillState) := loseInput_remove 5 _ rfl
    _ = leaveService 5 (modCrystal (fun c => { c with input := [] }) fullSpillState) := askRemoval_of_idle _ _ rfl rfl
    _ = pushGet 5 1 [] none (modCrystal (fun c => { c with input := [], unexp := [], msgs := [] }) fullSpillState) :=
      leaveService_announcement waitingAnnouncement _ rfl rfl rfl rndvFull_fullSpillState
    _ = _ := pushGet_of_rndvFull _ _ _ _ rndvFull_fullSpillState

/-- The repeated SPILL_FULL escalates to L2, where the QUEUE_PTR that follows leaves the block (R349). -/
theorem level_after_mismatch : (faultAt 6 3 0 0 (loseInput (fun _ => true) fullSpillState)).level 6 = 2 := by
  rw [loseInput_fullSpillState]
  decide +kernel

/-- Refutes O24: the entries that a queue loses are answered before its owner raises QUEUE_PTR, and an answer may itself raise a class in
that owner. A removal that the Crystalliser's input loses is asked again and takes place at once; the get it makes for a waiting
announcement finds the rendezvous spill full. SPILL_FULL, not acknowledged since its last fault, escalates to L2, while the obligation
gives the block the level of QUEUE_PTR alone, L1. -/
theorem not_detectedErrorsRaiseFaults : ¬ Obligations.DetectedErrorsRaiseFaults := by
  rintro ⟨hqueue, -⟩
  obtain ⟨t, hexec, -, -, -, ⟨-, -, hlevel⟩, -⟩ := hqueue .threshCrystal fullSpillState rfl (fun _ => by simp)
  have ht : t = faultAt 6 3 0 0 (loseInput (fun _ => true) fullSpillState) := (Host.Outcome.next.inj hexec).symm
  have hstore : RegsOk fullSpillState := show RegsOk spillUnacked by decide +kernel
  have hone : t.level 6 = 1 := (hlevel hstore).trans (by decide +kernel)
  rw [ht, level_after_mismatch] at hone
  exact absurd hone (by decide)

end Sys2Proof.Machine
end

section
/-! Support for the voltage policy: one relation for what a command leaves alone (the queue, parts and fields), what the shared
operations do to it, and what a sticky event bit shows. -/
namespace Sys2Proof.Machine

/-! What an update leaves. -/

/-- An update leaves the queue, every part outside `parts` and every register field outside `regs`. -/
structure Leaves (parts : List Part) (regs : List Fld) (s t : State) : Prop where
  pending : t.pending = s.pending
  keeps : Keeps parts s t
  onlyRegs : OnlyRegs regs s t

section
variable {P : List Part} {R : List Fld} {s t u : State}

/-- The command's frame and its effect, put together. -/
theorem Leaves.does {c : Instr} {Q : State → Prop} (h : Leaves P R s t) (hexec : exec c s = .next t) (hQ : Q t) : Does c s P R Q :=
  ⟨t, hexec, h.pending, h.keeps, h.onlyRegs, hQ⟩

theorem Leaves.refl (P : List Part) (R : List Fld) (s : State) : Leaves P R s s := ⟨rfl, Keeps.refl P s, OnlyRegs.refl R s⟩

theorem Leaves.trans (h1 : Leaves P R s t) (h2 : Leaves P R t u) : Leaves P R s u :=
  ⟨h2.pending.trans h1.pending, h1.keeps.trans h2.keeps, h1.onlyRegs.trans h2.onlyRegs⟩

theorem Leaves.mono {P' : List Part} {R' : List Fld} (h : Leaves P R s t) (hP : ∀ p ∈ P, p ∈ P' := by decide)
    (hR : ∀ f ∈ R, f ∈ R' := by decide) : Leaves P' R' s t := ⟨h.pending, h.keeps.mono hP, h.onlyRegs.mono hR⟩

/-- A further update with a frame of its own. -/
theorem Leaves.andThen {P' : List Part} {R' : List Fld} (h1 : Leaves P R s t) (h2 : Leaves P' R' t u)
    (hP : ∀ p ∈ P', p ∈ P := by decide) (hR : ∀ f ∈ R', f ∈ R := by decide) : Leaves P R s u := h1.trans (h2.mono hP hR)

theorem Leaves.get (h : Leaves P R s t) {f : Fld} {i : Nat} (hf : f ∉ R := by decide) : t.get f i = s.get f i := h.onlyRegs f hf i

theorem Leaves.flag (h : Leaves P R s t) {f : Fld} {i : Nat} (hf : f ∉ R := by decide) : t.flag f i = s.flag f i := by
  simp only [State.flag, h.get hf]

theorem Leaves.power (h : Leaves P R s t) (hp : Part.power ∉ P := by decide) : t.power = s.power := h.keeps .power hp

theorem Leaves.out (h : Leaves P R s t) (hp : Part.out ∉ P := by decide) : t.out = s.out := h.keeps .out hp

theorem Leaves.now (h : Leaves P R s t) (hp : Part.clk ∉ P := by decide) : t.now = s.now := congrArg ClockSt.ns (h.keeps .clk hp)

end

theorem leaves_set (s : State) (f : Fld) (v i : Nat) : Leaves [] [f] s (s.set f v i) :=
  ⟨rfl, set_keeps _ _ _ _ _, set_regs _ _ _ (List.mem_singleton_self f)⟩

theorem leaves_emit (o : Output) (s : State) : Leaves [.out] [] s (emit o s) := ⟨rfl, emit_keeps _ _, emit_regs _ _ _⟩

@[simp] theorem modPower_power (g : PowerSt → PowerSt) (s : State) : (modPower g s).power = g s.power := rfl
@[simp] theorem modPower_get (g : PowerSt → PowerSt) (s : State) (f : Fld) (i : Nat) : (modPower g s).get f i = s.get f i := rfl
@[simp] theorem modPower_out (g : PowerSt → PowerSt) (s : State) : (modPower g s).out = s.out := rfl

theorem leaves_modPower (g : PowerSt → PowerSt) (s : State) : Leaves [.power] [] s (modPower g s) where
  pending := rfl
  keeps p hp := by
    cases p with
    | power => exact absurd (by decide) hp
    | _ => rfl
  onlyRegs := OnlyRegs.of_fld rfl

@[simp] theorem State.flag_set_self (s : State) (f : Fld) (v i : Nat) :
    (s.set f v i).flag f i = (v % 2 ^ f.info.width != 0) := by simp [State.flag]

/-! Interrupts and sticky event bits: the queue, and what has left the device. -/

theorem sendMsix_pending (h v : Nat) (s : State) : (sendMsix h v s).pending = s.pending := by
  unfold sendMsix
  dsimp only
  split
  · split <;> rfl
  · rfl

theorem sendMsix_out_subset (h v : Nat) (s : State) : s.out ⊆ (sendMsix h v s).out := by
  unfold sendMsix
  dsimp only
  split
  · split
    · exact List.Subset.refl _
    · exact List.subset_cons_self _ _
  · exact List.Subset.refl _

theorem pendOne_pending (b m : Nat) (s : State) : (pendOne b m s).pending = s.pending := by
  unfold pendOne
  extract_lets f was s1
  split
  · rfl
  · split
    · exact sendMsix_pending _ _ s1
    · rfl

theorem pendOne_out_subset (b m : Nat) (s : State) : s.out ⊆ (pendOne b m s).out := by
  unfold pendOne
  extract_lets f was s1
  split
  · exact List.Subset.refl _
  · split
    · exact sendMsix_out_subset _ _ s1
    · exact List.Subset.refl _

theorem interrupt_pending (b : Nat) (s : State) : (interrupt b s).pending = s.pending :=
  forEach_same State.pending (pendOne b) (pendOne_pending b) masterIds s

theorem interrupt_out_subset (b : Nat) (s : State) : s.out ⊆ (interrupt b s).out :=
  forEach_keeps (P := fun t => s.out ⊆ t.out) (pendOne b) (fun m t h => List.Subset.trans h (pendOne_out_subset b m t)) masterIds s
    (List.Subset.refl _)

theorem leaves_event (b : Nat) (f : Fld) (s : State) (i : Nat) : Leaves [.out, .porch] (f :: intRegs) s (event b f s i) where
  pending := by
    unfold event
    split
    · rfl
    · exact interrupt_pending _ _
  keeps := event_keeps _ _ _ _
  onlyRegs := event_regs _ _ _ _

/-- Nothing that has left the device is taken back by an event. -/
theorem event_out_subset (b : Nat) (f : Fld) (s : State) (i : Nat) : s.out ⊆ (event b f s i).out := by
  unfold event
  split
  · exact List.Subset.refl _
  · exact interrupt_out_subset b (s.set f 1 i)

@[simp] theorem event_power (b : Nat) (f : Fld) (s : State) (i : Nat) : (event b f s i).power = s.power :=
  (leaves_event b f s i).power

theorem event_get {b : Nat} {f g : Fld} {s : State} {i j : Nat} (hg : g ∉ f :: intRegs := by decide) :
    (event b f s i).get g j = s.get g j := (leaves_event b f s i).get hg

/-- The event bit shows afterwards. -/
theorem event_flag {f : Fld} (hf : f ∉ intRegs) (hw : f.info.width = 1) (b : Nat) (s : State) (i : Nat) :
    (event b f s i).flag f i = true := by
  unfold event
  split
  · assumption
  · simp [State.flag, interrupt_regs b _ f hf i, hw]

/-! The end of a write that acts: it mends the parity of its register. -/

theorem leaves_mendReg (r : Reg) (i : Nat) (lo hi : Bool) (s : State) : Leaves [.fault] mendRegs s (mendReg r i lo hi s) where
  pending := by
    unfold mendReg mendSites notePar
    split <;> rfl
  keeps := mendReg_keeps _ _ _ _ _
  onlyRegs := mendReg_regs _ _ _ _ _

/-- A write that the master may do acts. -/
theorem guarded_of_may {m : Master} {f : Fld} {s : State} (h : May s m f) (i : Nat) (act : State → State) :
    guarded m f i act s = mendReg f.info.reg i true true (act s) := by
  obtain ⟨hreach, hwrite⟩ := h
  simp [guarded, hreach, hwrite]

theorem guardedV_of_may {m : Master} {f : Fld} {s : State} (h : May s m f) (i v : Nat) (act : State → State) :
    guardedV m f i v act s = mendReg f.info.reg i true true (act s) := by
  obtain ⟨hreach, hwrite⟩ := h
  simp [guardedV, hreach, hwrite]

/-! The width of a field in a canonical store. -/

theorem Tab.mem_of_find?_eq_some {α : Type} {t : Tab α} {k : Nat} {v : α} (h : Tab.find? t k = some v) : (k, v) ∈ t := by
  induction t with
  | nil => cases h
  | cons e r ih =>
    obtain ⟨j, w⟩ := e
    simp only [Tab.find?] at h
    split at h
    · rename_i hj
      cases h
      exact hj ▸ List.mem_cons_self
    · exact List.mem_cons_of_mem _ (ih h)

theorem Fld.ofNat_fkey_mod (f : Fld) (i : Nat) : Fld.ofNat (fkey f i % 1024) = f := by
  have hf : f.ctorIdx < 1024 := by cases f <;> decide
  rw [fkey, Nat.mul_add_mod_self_right, Nat.mod_eq_of_lt hf, Fld.ofNat_ctorIdx]

/-- In a canonical store a field whose reset value fits its width reads a value of its width. -/
theorem RegsOk.get_lt {s : State} (h : RegsOk s) {f : Fld} {i : Nat} (hreset : f.resetAt i < 2 ^ f.info.width) :
    s.get f i < 2 ^ f.info.width := by
  unfold State.get Tab.get
  cases hfind : Tab.find? s.fld (fkey f i) with
  | none => exact hreset
  | some v =>
    have hfits := h.2 _ (Tab.mem_of_find?_eq_some hfind)
    rwa [Fld.ofNat_fkey_mod] at hfits

end Sys2Proof.Machine
end

section
/-! The core period and the set-point of the policy (R24 to R29, R444), and the proof of O5. -/
namespace Sys2Proof.Machine

/-! The slowest of some meters: a pair of a period and the meter that gives it. -/

/-- The slower of the slowest meter so far and meter `m`; of equals the earlier stays. -/
def slowerOf (reading : Nat → Nat) (b : Nat × Nat) (m : Nat) : Nat × Nat := if b.1 < reading m then (reading m, m) else b

/-- `b` is the largest reading of the meters `l` with the lowest meter that gives it; (0, 0) stands where all readings are 0. -/
structure IsSlowest (reading : Nat → Nat) (l : List Nat) (b : Nat × Nat) : Prop where
  le : ∀ m ∈ l, reading m ≤ b.1
  lowest : b.1 = 0 ∨ (b.2 ∈ l ∧ reading b.2 = b.1 ∧ ∀ m ∈ l, m < b.2 → reading m < b.1)

/-- One more meter, above all before it. -/
theorem IsSlowest.append {reading : Nat → Nat} {l : List Nat} {b : Nat × Nat} (h : IsSlowest reading l b) {m : Nat} (hm : ∀ x ∈ l, x < m) :
    IsSlowest reading (l ++ [m]) (slowerOf reading b m) := by
  obtain ⟨hle, hlow⟩ := h
  unfold slowerOf
  split
  case isTrue hslower =>
    have hlt : ∀ x ∈ l, reading x < reading m := fun x hx => Nat.lt_of_le_of_lt (hle x hx) hslower
    refine ⟨?_, .inr ⟨by simp, rfl, ?_⟩⟩
    · simpa [or_imp, forall_and] using fun x hx => Nat.le_of_lt (hlt x hx)
    · simpa [or_imp, forall_and] using fun x hx _ => hlt x hx
  case isFalse hfaster =>
    refine ⟨?_, hlow.imp_right ?_⟩
    · simpa [or_imp, forall_and] using ⟨hle, Nat.le_of_not_lt hfaster⟩
    · rintro ⟨hmem, hval, hfirst⟩
      refine ⟨by simp [hmem], hval, ?_⟩
      have habove : ¬ m < b.2 := Nat.lt_asymm (hm _ hmem)
      simpa [or_imp, forall_and, habove] using hfirst

/-- The fold goes on over meters that rise from those it has seen. -/
theorem IsSlowest.foldl {reading : Nat → Nat} {seen l : List Nat} {b : Nat × Nat} (h : IsSlowest reading seen b)
    (hsorted : (seen ++ l).Pairwise (· < ·)) : IsSlowest reading (seen ++ l) (l.foldl (slowerOf reading) b) := by
  induction l generalizing seen b with
  | nil => rwa [List.append_nil]
  | cons m l ih =>
    obtain ⟨-, -, habove⟩ := List.pairwise_append.mp hsorted
    have hnext := h.append fun x hx => habove x hx m List.mem_cons_self
    rw [List.append_cons] at hsorted ⊢
    exact ih hnext hsorted

theorem isSlowest_foldl (reading : Nat → Nat) (l : List Nat) (hl : l.Pairwise (· < ·)) :
    IsSlowest reading l (l.foldl (slowerOf reading) (0, 0)) :=
  IsSlowest.foldl (seen := []) ⟨fun _ hm => absurd hm List.not_mem_nil, .inl rfl⟩ hl

/-- The meters that take part (R25). -/
def countedMeters (s : State) : List Nat := (List.range 22).filter (meterCounted s)

theorem mem_countedMeters {s : State} {m : Nat} : m ∈ countedMeters s ↔ m < 22 ∧ meterCounted s m = true := by
  simp [countedMeters]

/-- CORE_PERIOD is the largest reading of the meters that take part, SLOWEST the lowest meter that gives it. -/
theorem corePeriod_isSlowest (s : State) (ps : List Nat) : IsSlowest (ps.getD · 0) (countedMeters s) (corePeriod s ps) :=
  isSlowest_foldl _ _ (List.Pairwise.filter _ List.pairwise_lt_range)

/-- The reading of a meter that the window shows. -/
theorem getD_map_mod (ps : List Nat) (m : Nat) : (ps.map (· % 65536)).getD m 0 = ps.getD m 0 % 65536 := by
  rw [List.getD_eq_getElem?_getD, List.getD_eq_getElem?_getD, List.getElem?_map]
  cases ps[m]? with
  | none => rfl
  | some v => rfl

theorem corePeriod_lt (s : State) (ps : List Nat) : (corePeriod s (ps.map (· % 65536))).1 < 65536 := by
  rcases (corePeriod_isSlowest s (ps.map (· % 65536))).lowest with hzero | ⟨-, hval, -⟩
  · omega
  · rw [← hval, getD_map_mod]
    exact Nat.mod_lt _ (by decide)

/-! The admission scale (R26). -/

theorem admissionScale_of_lt {t p : Nat} (h : t < p) : admissionScale t p = 32768 * t / p := by
  rw [admissionScale, if_pos h, Nat.mul_comm]

theorem admissionScale_of_le {t p : Nat} (h : p ≤ t) : admissionScale t p = 32768 := if_neg (Nat.not_lt.mpr h)

theorem admissionScale_le (t p : Nat) : admissionScale t p ≤ 32768 := by
  by_cases h : t < p
  · rw [admissionScale_of_lt h]
    exact Nat.div_le_of_le_mul (by rw [Nat.mul_comm p]; exact Nat.mul_le_mul_left _ (Nat.le_of_lt h))
  · exact Nat.le_of_eq (admissionScale_of_le (Nat.le_of_not_lt h))

/-- The scale fits its field. -/
theorem admissionScale_mod (t p : Nat) : admissionScale t p % 65536 = admissionScale t p :=
  Nat.mod_eq_of_lt (Nat.lt_of_le_of_lt (admissionScale_le t p) (by decide))

/-! A set-point write toward the regulator (R444). -/

/-- The fields that a set-point write may write. -/
def setPointRegs : List Fld := [.VPOL_STAT_VCORE_MV, .VPOL_EVENTS_VMAX_SEEN] ++ intRegs

theorem leaves_setPoint (mv : Nat) (s : State) : Leaves [.power, .out, .porch] setPointRegs s (setPoint mv s) := by
  unfold setPoint
  extract_lets s1 s2
  have h1 : Leaves [.power, .out, .porch] setPointRegs s s1 :=
    (leaves_emit _ s).mono.andThen (leaves_modPower _ _)
  have h2 : Leaves [.power, .out, .porch] setPointRegs s s2 := h1.andThen (leaves_set _ _ _ _)
  split
  · exact h2.andThen (leaves_event _ _ _ _)
  · exact h2

@[simp] theorem setPoint_power (mv : Nat) (s : State) :
    (setPoint mv s).power = { s.power with avsPrev := s.get .VPOL_STAT_VCORE_MV, avsWant := some mv, avsFails := 0 } := by
  unfold setPoint
  extract_lets s1 s2
  split
  · exact event_power _ _ s2 _
  · rfl

@[simp] theorem setPoint_vcore (mv : Nat) (s : State) : (setPoint mv s).get .VPOL_STAT_VCORE_MV = mv % 4096 := by
  unfold setPoint
  extract_lets s1 s2
  have h2 : s2.get .VPOL_STAT_VCORE_MV = mv % 4096 := s1.get_set_self _ _ _
  split
  · rw [event_get, h2]
  · exact h2

/-- The write leaves toward the regulator. -/
theorem avs_mem_setPoint_out (mv : Nat) (s : State) : .avs mv ∈ (setPoint mv s).out := by
  unfold setPoint
  extract_lets s1 s2
  have h2 : .avs mv ∈ s2.out := List.mem_cons_self
  split
  · exact event_out_subset _ _ _ _ h2
  · exact h2

/-- A set-point that reaches VMAX is noted. -/
theorem setPoint_vmaxSeen {mv : Nat} {s : State} (hmax : mv = s.get .VPOL_CFG_VMAX) (hnew : s.get .VPOL_STAT_VCORE_MV ≠ mv) :
    (setPoint mv s).flag .VPOL_EVENTS_VMAX_SEEN = true := by
  unfold setPoint
  extract_lets s1 s2
  rw [if_pos ⟨hmax, hnew⟩]
  exact event_flag (by decide) rfl _ _ _

/-! The guard of a policy that does not act (R29, R30). -/

theorem leaves_staleGuard (s : State) : Leaves [.power, .out, .porch] setPointRegs s (staleGuard s) := by
  unfold staleGuard
  extract_lets vmax
  split
  · exact leaves_setPoint _ _
  · exact Leaves.refl _ _ _

theorem staleGuard_of_not_held {s : State} (h : policyHeld s = false) : staleGuard s = s := by
  simp [staleGuard, h]

theorem staleGuard_of_not_ran {s : State} (h : s.power.policyRan = false) : staleGuard s = s := by
  simp [staleGuard, h]

/-- The guard finds a policy that has run, is held, and is slow: the core period lies above 1.10 × T. -/
structure GuardActs (s : State) : Prop where
  ran : s.power.policyRan = true
  held : policyHeld s = true
  slow : 110 * targetNow s < 100 * s.get .VPOL_STAT_CORE_PERIOD_PS

theorem GuardActs.staleGuard_eq {s : State} (h : GuardActs s) (hbelow : s.get .VPOL_STAT_VCORE_MV ≠ s.get .VPOL_CFG_VMAX) :
    staleGuard s = setPoint (s.get .VPOL_CFG_VMAX) s :=
  if_pos ⟨h.ran, h.held, h.slow, hbelow⟩

/-- The guard leaves the set-point at VMAX. -/
theorem GuardActs.staleGuard_vcore {s : State} (h : GuardActs s) (hwidth : s.get .VPOL_CFG_VMAX < 4096) :
    (staleGuard s).get .VPOL_STAT_VCORE_MV = s.get .VPOL_CFG_VMAX := by
  by_cases hat : s.get .VPOL_STAT_VCORE_MV = s.get .VPOL_CFG_VMAX
  · rw [staleGuard, if_neg (fun hc => hc.2.2.2 hat), hat]
  · rw [h.staleGuard_eq hat, setPoint_vcore, Nat.mod_eq_of_lt hwidth]

theorem RegsOk.vmax_lt {s : State} (h : RegsOk s) : s.get .VPOL_CFG_VMAX < 4096 := RegsOk.get_lt h (by decide)

/-! What the policy reads, in two states that agree on the fields it reads. -/

theorem Leaves.policyHeld {P : List Part} {R : List Fld} {s t : State} (h : Leaves P R s t)
    (hstale : Fld.VPOL_STAT_POLICY_STALE ∉ R := by decide) (hlevel : Fld.FAULT_STAT_LEVEL ∉ R := by decide) : policyHeld t = policyHeld s := by
  unfold Machine.policyHeld State.level
  rw [h.flag hstale, h.get hlevel]

theorem Leaves.targetNow {P : List Part} {R : List Fld} {s t : State} (h : Leaves P R s t) (hop : Fld.OP_CTRL_OP_POINT ∉ R := by decide) :
    targetNow t = targetNow s := by
  simp only [Machine.targetNow, h.get hop]

/-! The end of a meter window (R26). -/

/-- The readings of a window in CYCLE_METER. -/
theorem leaves_showMeters (ps : List Nat) (s : State) : Leaves [] [.CYCLE_METER_PERIOD_PS] s (showMeters ps s) where
  pending := forEach_same State.pending (fun m a => a.set .CYCLE_METER_PERIOD_PS (ps.getD m 0) m) (fun _ _ => rfl) _ s
  keeps := Keeps.forEach _ (fun _ _ => set_keeps _ _ _ _ _) _ _
  onlyRegs := OnlyRegs.forEach _ (fun _ _ => set_regs _ _ _ (by decide)) _ _

/-- Writes of a field in every place below `n` show in each of them. -/
theorem forEach_range_set_get (f : Fld) (v : Nat → Nat) {n m : Nat} (hm : m < n) (s : State) :
    (forEach (List.range n) (fun i a => a.set f (v i) i) s).get f m = v m % 2 ^ f.info.width := by
  induction n with
  | zero => omega
  | succ n ih =>
    rw [forEach, List.range_succ, List.foldl_append]
    by_cases hlast : m = n
    · subst hlast
      exact State.get_set_self _ _ _ _
    · exact (State.get_set_inst _ _ _ (Ne.symm hlast)).trans (ih (by omega))

/-- What a window shows, before the guard: the readings, the core period with its meter, and the admission scale. -/
def showWindow (ps : List Nat) (s : State) : State :=
  let c := corePeriod s ps
  (modPower (fun p => { p with metered := true })
    (((showMeters ps s).set .VPOL_STAT_CORE_PERIOD_PS c.1).set .VPOL_STAT_SLOWEST_METER c.2)).set
      .VPOL_STAT_SCALE (admissionScale (targetNow s) c.1)

theorem exec_cycleMeterWindowEnd (ps : List Nat) (s : State) :
    exec (.cycleMeterWindowEnd ps) s = .next (staleGuard (showWindow (ps.map (· % 65536)) s)) := rfl

/-- The fields that a window shows. -/
def windowRegs : List Fld := [.CYCLE_METER_PERIOD_PS, .VPOL_STAT_CORE_PERIOD_PS, .VPOL_STAT_SLOWEST_METER, .VPOL_STAT_SCALE]

theorem leaves_showWindow (ps : List Nat) (s : State) : Leaves [.power] windowRegs s (showWindow ps s) :=
  (((leaves_showMeters ps s).mono.andThen (leaves_set _ .VPOL_STAT_CORE_PERIOD_PS _ _)).andThen
    (leaves_set _ .VPOL_STAT_SLOWEST_METER _ _)).andThen (leaves_modPower _ _)
    |>.andThen (leaves_set _ .VPOL_STAT_SCALE _ _)

theorem showWindow_power (ps : List Nat) (s : State) : (showWindow ps s).power = { s.power with metered := true } :=
  congrArg (fun p : PowerSt => { p with metered := true }) (leaves_showMeters ps s).power

theorem showWindow_period (ps : List Nat) (s : State) {m : Nat} (hm : m < 24) :
    (showWindow ps s).get .CYCLE_METER_PERIOD_PS m = ps.getD m 0 % 65536 := by
  simp [showWindow, showMeters, forEach_range_set_get _ _ hm, show Fld.CYCLE_METER_PERIOD_PS.info.width = 16 from rfl]

theorem showWindow_corePeriod (ps : List Nat) (s : State) :
    (showWindow ps s).get .VPOL_STAT_CORE_PERIOD_PS = (corePeriod s ps).1 % 65536 := by
  simp [showWindow, show Fld.VPOL_STAT_CORE_PERIOD_PS.info.width = 16 from rfl]

theorem showWindow_slowest (ps : List Nat) (s : State) :
    (showWindow ps s).get .VPOL_STAT_SLOWEST_METER = (corePeriod s ps).2 % 32 := by
  simp [showWindow, show Fld.VPOL_STAT_SLOWEST_METER.info.width = 5 from rfl]

theorem showWindow_scale (ps : List Nat) (s : State) :
    (showWindow ps s).get .VPOL_STAT_SCALE = admissionScale (targetNow s) (corePeriod s ps).1 := by
  rw [← admissionScale_mod]
  exact State.get_set_self _ _ _ _

/-! O5. -/

/-- The slowest meter that the window shows gives the core period, and no counted meter below it does. -/
theorem showWindow_lowest (ps : List Nat) (s : State) :
    let t := showWindow (ps.map (· % 65536)) s
    (∀ m, m < 22 → meterCounted s m = true → ps.getD m 0 % 65536 ≤ t.get .VPOL_STAT_CORE_PERIOD_PS)
      ∧ (t.get .VPOL_STAT_CORE_PERIOD_PS = 0 ∨
          (meterCounted s (t.get .VPOL_STAT_SLOWEST_METER) = true
            ∧ ps.getD (t.get .VPOL_STAT_SLOWEST_METER) 0 % 65536 = t.get .VPOL_STAT_CORE_PERIOD_PS
            ∧ ∀ m, m < t.get .VPOL_STAT_SLOWEST_METER → meterCounted s m = true →
                ps.getD m 0 % 65536 < t.get .VPOL_STAT_CORE_PERIOD_PS)) := by
  dsimp only
  obtain ⟨hle, hlow⟩ := corePeriod_isSlowest s (ps.map (· % 65536))
  simp only [getD_map_mod, mem_countedMeters] at hle hlow
  rw [showWindow_corePeriod, Nat.mod_eq_of_lt (corePeriod_lt s ps), showWindow_slowest]
  refine ⟨fun m hm hcount => hle m ⟨hm, hcount⟩, hlow.imp_right ?_⟩
  rintro ⟨⟨hslowest, hcounted⟩, hval, hfirst⟩
  rw [Nat.mod_eq_of_lt (show (corePeriod s (ps.map (· % 65536))).2 < 32 by omega)]
  exact ⟨hcounted, hval, fun m hm hcount => hfirst m ⟨by omega, hcount⟩ hm⟩

/-- The guard meets a window that shows a core period above 1.10 × T. -/
theorem guardActs_showWindow {ps : List Nat} {s : State} (hran : s.power.policyRan = true) (hheld : policyHeld s = true)
    (hslow : 110 * targetNow s < 100 * (corePeriod s (ps.map (· % 65536))).1) :
    GuardActs (showWindow (ps.map (· % 65536)) s) where
  ran := by rw [showWindow_power]; exact hran
  held := (leaves_showWindow _ s).policyHeld.trans hheld
  slow := by
    rw [(leaves_showWindow _ s).targetNow, showWindow_corePeriod, Nat.mod_eq_of_lt (corePeriod_lt s ps)]
    exact hslow

/-- Settles O5: the fold over the counted meters keeps the largest reading with the lowest meter that gives it, and the guard acts
on the state that the window shows. -/
theorem windowEndShowsPeriodAndScale : Obligations.WindowEndShowsPeriodAndScale := by
  unfold Obligations.WindowEndShowsPeriodAndScale
  refine ⟨?shows, ?raised, fun t p => ⟨admissionScale_of_lt, admissionScale_of_le, admissionScale_le t p⟩⟩
  case shows =>
    intro ps s hfree
    have hshow := leaves_showWindow (ps.map (· % 65536)) s
    have hguard := staleGuard_of_not_held (hshow.policyHeld.trans hfree)
    obtain ⟨hle, hlow⟩ := showWindow_lowest ps s
    refine hshow.does ((exec_cycleMeterWindowEnd ps s).trans (congrArg _ hguard)) ⟨fun m hm => ?_, hle, hlow, ?_, showWindow_power _ s⟩
    · rw [showWindow_period _ _ hm, getD_map_mod, Nat.mod_mod]
    · rw [showWindow_scale, showWindow_corePeriod, Nat.mod_eq_of_lt (corePeriod_lt s ps)]
  case raised =>
    rintro ps s p hregs hran hheld hbelow rfl hslow
    have hshow := leaves_showWindow (ps.map (· % 65536)) s
    have hvmax := hshow.get (f := .VPOL_CFG_VMAX) (i := 0)
    have hset := leaves_setPoint (s.get .VPOL_CFG_VMAX) (showWindow (ps.map (· % 65536)) s)
    have hnew : (showWindow (ps.map (· % 65536)) s).get .VPOL_STAT_VCORE_MV ≠ s.get .VPOL_CFG_VMAX := by
      rwa [hshow.get]
    have hguard := (guardActs_showWindow hran hheld hslow).staleGuard_eq (by rwa [hvmax])
    rw [hvmax] at hguard
    refine (hshow.mono.andThen hset).does
      ((exec_cycleMeterWindowEnd ps s).trans (congrArg _ hguard)) ⟨?_, ?_, setPoint_vmaxSeen hvmax.symm hnew, avs_mem_setPoint_out _ _⟩
    · rw [hset.get, showWindow_corePeriod, Nat.mod_eq_of_lt (corePeriod_lt s ps)]
    · rw [setPoint_vcore, Nat.mod_eq_of_lt hregs.vmax_lt]

end Sys2Proof.Machine
end

section
/-! The policy's interval and its seeds (R27, R28, R31), and the proof of O6. -/
namespace Sys2Proof.Machine

/-! The set-point of an interval (R27). -/

theorem policyStep_of_slow {p t : Nat} (h : t < p) (v step db vmin vmax : Nat) :
    policyStep p t v step db vmin vmax = min (v + step) vmax := if_pos h

theorem policyStep_of_fast {p t db : Nat} (hp : p ≤ t) (h : p * 100 < t * (100 - db)) (v step vmin vmax : Nat) :
    policyStep p t v step db vmin vmax = max (v - step) vmin := by
  rw [policyStep, if_neg (Nat.not_lt.mpr hp), if_pos h]

theorem policyStep_of_settled {p t db : Nat} (hp : p ≤ t) (h : t * (100 - db) ≤ p * 100) (v step vmin vmax : Nat) :
    policyStep p t v step db vmin vmax = v := by
  rw [policyStep, if_neg (Nat.not_lt.mpr hp), if_neg (Nat.not_lt.mpr h)]

/-- A set-point within a bound stays within it. -/
theorem policyStep_lt {v vmin vmax n : Nat} (hv : v < n) (hmin : vmin < n) (hmax : vmax < n) (p t step db : Nat) :
    policyStep p t v step db vmin vmax < n := by
  unfold policyStep
  split
  · omega
  · split <;> omega

theorem settledNow_iff {p t db : Nat} : settledNow p t db = true ↔ p ≤ t ∧ t * (100 - db) ≤ p * 100 := by
  simp [settledNow]

/-- The set-point that the interval gives. -/
def intervalSetPoint (s : State) : Nat :=
  policyStep (s.get .VPOL_STAT_CORE_PERIOD_PS) (targetNow s) (s.get .VPOL_STAT_VCORE_MV) (s.get .VPOL_CFG_STEP)
    (s.get .VPOL_CFG_DEADBAND) (s.get .VPOL_CFG_VMIN) (s.get .VPOL_CFG_VMAX)

/-- The interval finds the core period settled. -/
def intervalSettled (s : State) : Bool := settledNow (s.get .VPOL_STAT_CORE_PERIOD_PS) (targetNow s) (s.get .VPOL_CFG_DEADBAND)

/-- The interval ends slow at VMAX. -/
def intervalAtVmax (s : State) : Bool :=
  decide (targetNow s < s.get .VPOL_STAT_CORE_PERIOD_PS) && intervalSetPoint s == s.get .VPOL_CFG_VMAX

theorem RegsOk.intervalSetPoint_lt {s : State} (h : RegsOk s) : intervalSetPoint s < 4096 :=
  policyStep_lt (RegsOk.get_lt h (f := .VPOL_STAT_VCORE_MV) (by decide)) (RegsOk.get_lt h (f := .VPOL_CFG_VMIN) (by decide)) h.vmax_lt _ _ _ _

/-! One interval in its parts: the trim, what it shows, and what it notes. -/

/-- The set-point is trimmed; one that does not change is not sent. -/
def trimSetPoint (s : State) : State :=
  if intervalSetPoint s = s.get .VPOL_STAT_VCORE_MV then s else setPoint (intervalSetPoint s) s

/-- SETTLED and SHORTFALL show beside the trimmed set-point. -/
def showTrim (s : State) : State :=
  modPower (fun q => { q with policyRan := true, atVmax := intervalAtVmax s })
    (((trimSetPoint s).set .VPOL_STAT_SETTLED (b2n (intervalSettled s))).set .VPOL_STAT_SHORTFALL
      (b2n (intervalAtVmax s && s.power.atVmax)))

theorem policyRun_eq (s : State) : policyRun s =
    if intervalSettled s then noteSettled (showTrim s)
    else if intervalAtVmax s && s.power.atVmax && !s.flag .VPOL_STAT_SHORTFALL then
      event 13 .VPOL_EVENTS_SHORTFALL_SEEN (modPower (fun q => { q with opTrans := false }) (showTrim s))
    else showTrim s := rfl

theorem leaves_trimSetPoint (s : State) : Leaves [.power, .out, .porch] setPointRegs s (trimSetPoint s) := by
  unfold trimSetPoint
  split
  · exact Leaves.refl _ _ _
  · exact leaves_setPoint _ _

theorem trimSetPoint_vcore {s : State} (h : intervalSetPoint s < 4096) :
    (trimSetPoint s).get .VPOL_STAT_VCORE_MV = intervalSetPoint s := by
  unfold trimSetPoint
  split
  case isTrue hsame => exact hsame.symm
  case isFalse => rw [setPoint_vcore, Nat.mod_eq_of_lt h]

theorem avs_mem_trimSetPoint_out {s : State} (h : intervalSetPoint s ≠ s.get .VPOL_STAT_VCORE_MV) :
    .avs (intervalSetPoint s) ∈ (trimSetPoint s).out := by
  rw [trimSetPoint, if_neg h]
  exact avs_mem_setPoint_out _ _

theorem leaves_showTrim (s : State) :
    Leaves [.power, .out, .porch] ([.VPOL_STAT_SETTLED, .VPOL_STAT_SHORTFALL] ++ setPointRegs) s (showTrim s) :=
  (((leaves_trimSetPoint s).mono.andThen (leaves_set _ .VPOL_STAT_SETTLED _ _)).andThen
    (leaves_set _ .VPOL_STAT_SHORTFALL _ _)).andThen (leaves_modPower _ _)

/-- A Bool written to a field of one bit shows. -/
theorem State.flag_set_b2n {f : Fld} (hw : f.info.width = 1) (s : State) (b : Bool) (i : Nat) : (s.set f (b2n b) i).flag f i = b := by
  cases b <;> simp [hw, b2n]

theorem showTrim_settled (s : State) : (showTrim s).flag .VPOL_STAT_SETTLED = intervalSettled s :=
  (leaves_set _ .VPOL_STAT_SHORTFALL _ _).flag.trans (State.flag_set_b2n rfl _ _ _)

theorem showTrim_shortfall (s : State) : (showTrim s).flag .VPOL_STAT_SHORTFALL = (intervalAtVmax s && s.power.atVmax) :=
  State.flag_set_b2n rfl _ _ _

theorem showTrim_vcore {s : State} (h : intervalSetPoint s < 4096) : (showTrim s).get .VPOL_STAT_VCORE_MV = intervalSetPoint s := by
  simp [showTrim, trimSetPoint_vcore h]

/-! The end of a transition that settles (R31). -/

/-- The fields that the end of an interval writes beside the trim. -/
def notedRegs : List Fld := [.VPOL_SEED_SEED_MV, .VPOL_EVENTS_OP_DONE, .VPOL_EVENTS_SHORTFALL_SEEN] ++ intRegs

theorem leaves_noteSettled (s : State) : Leaves [.power, .out, .porch] notedRegs s (noteSettled s) := by
  unfold noteSettled
  extract_lets s1
  have h1 : Leaves [.power, .out, .porch] notedRegs s s1 := (leaves_set _ _ _ _).mono
  split
  · exact (h1.andThen (leaves_modPower _ _)).andThen (leaves_event _ _ _ _)
  · exact h1

theorem noteSettled_power (s : State) : (noteSettled s).power = { s.power with opTrans := false } := by
  unfold noteSettled
  extract_lets s1
  split
  case isTrue => exact event_power _ _ _ _
  case isFalse hnone =>
    rw [← eq_false_of_ne_true hnone]
    rfl

theorem noteSettled_out_subset (s : State) : s.out ⊆ (noteSettled s).out := by
  unfold noteSettled
  extract_lets s1
  split
  · exact event_out_subset 13 .VPOL_EVENTS_OP_DONE (modPower (fun p => { p with opTrans := false }) s1) 0
  · exact List.Subset.refl _

/-- The seed of the operating point takes the settled set-point. -/
theorem noteSettled_seed {s : State} (h : s.get .VPOL_STAT_VCORE_MV < 4096) :
    (noteSettled s).get .VPOL_SEED_SEED_MV (s.get .OP_CTRL_OP_POINT) = s.get .VPOL_STAT_VCORE_MV := by
  unfold noteSettled
  extract_lets s1
  have h1 : s1.get .VPOL_SEED_SEED_MV (s.get .OP_CTRL_OP_POINT) = s.get .VPOL_STAT_VCORE_MV :=
    (State.get_set_self _ _ _ _).trans (Nat.mod_eq_of_lt h)
  split
  · rw [event_get, modPower_get, h1]
  · exact h1

/-! One interval of the policy. -/

theorem leaves_showTrim_policyRun (s : State) : Leaves [.power, .out, .porch] notedRegs (showTrim s) (policyRun s) := by
  rw [policyRun_eq]
  split
  · exact leaves_noteSettled _
  · split
    · exact (leaves_modPower _ _).mono.andThen (leaves_event _ _ _ _)
    · exact Leaves.refl _ _ _

theorem showTrim_out_subset_policyRun (s : State) : (showTrim s).out ⊆ (policyRun s).out := by
  rw [policyRun_eq]
  split
  · exact noteSettled_out_subset _
  · split
    · exact event_out_subset 13 .VPOL_EVENTS_SHORTFALL_SEEN (modPower (fun q => { q with opTrans := false }) (showTrim s)) 0
    · exact List.Subset.refl _

/-- Past the trim an interval touches of the power state only the transition in progress. -/
theorem policyRun_power (s : State) : ∃ b, (policyRun s).power = { (showTrim s).power with opTrans := b } := by
  rw [policyRun_eq]
  split
  · exact ⟨false, noteSettled_power _⟩
  · split
    · exact ⟨false, event_power _ _ _ _⟩
    · exact ⟨_, rfl⟩

theorem policyRun_policyRan (s : State) : (policyRun s).power.policyRan = true := by
  obtain ⟨b, hb⟩ := policyRun_power s
  rw [hb]
  rfl

theorem policyRun_atVmax (s : State) : (policyRun s).power.atVmax = intervalAtVmax s := by
  obtain ⟨b, hb⟩ := policyRun_power s
  rw [hb]
  rfl

theorem policyRun_of_settled {s : State} (h : intervalSettled s = true) : policyRun s = noteSettled (showTrim s) :=
  (policyRun_eq s).trans (if_pos h)

theorem leaves_policyRun (s : State) : Leaves [.power, .out, .porch]
    (([.VPOL_STAT_VCORE_MV, .VPOL_STAT_SETTLED, .VPOL_STAT_SHORTFALL, .VPOL_EVENTS_VMAX_SEEN, .VPOL_EVENTS_SHORTFALL_SEEN,
      .VPOL_EVENTS_OP_DONE, .VPOL_SEED_SEED_MV] : List Fld) ++ intRegs) s (policyRun s) :=
  (leaves_showTrim s).mono.andThen (leaves_showTrim_policyRun s)

theorem policyRun_vcore {s : State} (h : intervalSetPoint s < 4096) : (policyRun s).get .VPOL_STAT_VCORE_MV = intervalSetPoint s :=
  (leaves_showTrim_policyRun s).get.trans (showTrim_vcore h)

theorem policyRun_settled (s : State) : (policyRun s).flag .VPOL_STAT_SETTLED = intervalSettled s :=
  (leaves_showTrim_policyRun s).flag.trans (showTrim_settled s)

theorem policyRun_shortfall (s : State) : (policyRun s).flag .VPOL_STAT_SHORTFALL = (intervalAtVmax s && s.power.atVmax) :=
  (leaves_showTrim_policyRun s).flag.trans (showTrim_shortfall s)

theorem avs_mem_policyRun_out {s : State} (h : intervalSetPoint s ≠ s.get .VPOL_STAT_VCORE_MV) :
    .avs (intervalSetPoint s) ∈ (policyRun s).out :=
  showTrim_out_subset_policyRun s (avs_mem_trimSetPoint_out h)

/-- A settled interval gives the seed its set-point and ends the transition. -/
theorem policyRun_seed_of_settled {s : State} (h : intervalSettled s = true) (hw : intervalSetPoint s < 4096) :
    (policyRun s).get .VPOL_SEED_SEED_MV (s.get .OP_CTRL_OP_POINT) = intervalSetPoint s ∧ (policyRun s).power.opTrans = false := by
  have hop : (showTrim s).get .OP_CTRL_OP_POINT = s.get .OP_CTRL_OP_POINT := (leaves_showTrim s).get
  have hv := showTrim_vcore hw
  rw [policyRun_of_settled h, noteSettled_power]
  refine ⟨?_, rfl⟩
  rw [← hop, noteSettled_seed (by rwa [hv]), hv]

/-! A seed that is sent (step 3 of Table 1.6). -/

theorem leaves_sendSeed (s : State) : Leaves [.power, .out, .porch] setPointRegs s (sendSeed s) :=
  (leaves_setPoint _ s).andThen (leaves_modPower _ _)

theorem RegsOk.seed_lt {s : State} (h : RegsOk s) (i : Nat) : s.get .VPOL_SEED_SEED_MV i < 4096 := by
  refine RegsOk.get_lt h ?_
  show (if i = 0 then 820 else if i = 1 then 720 else 600) < 4096
  split
  · decide
  · split <;> decide

theorem sendSeed_vcore {s : State} (h : s.get .VPOL_SEED_SEED_MV (s.get .OP_CTRL_OP_POINT) < 4096) :
    (sendSeed s).get .VPOL_STAT_VCORE_MV = s.get .VPOL_SEED_SEED_MV (s.get .OP_CTRL_OP_POINT) :=
  (setPoint_vcore _ s).trans (Nat.mod_eq_of_lt h)

theorem avs_mem_sendSeed_out (s : State) : .avs (s.get .VPOL_SEED_SEED_MV (s.get .OP_CTRL_OP_POINT)) ∈ (sendSeed s).out :=
  avs_mem_setPoint_out _ s

theorem sendSeed_opTrans (s : State) : (sendSeed s).power.opTrans = s.power.opTrans := by
  show (setPoint _ s).power.opTrans = _
  rw [setPoint_power]

/-! VPOL_INTERVAL. -/

theorem leaves_startInterval (s : State) : Leaves [.power] [] s (startInterval s) := leaves_modPower _ _

/-- The policy acts at the end of an interval: Hearth runs, the policy is not held, and the interval is over. -/
theorem exec_vpolInterval_of_acts {s : State} (hup : hearthUp s = true) (hfree : policyHeld s = false) (hover : intervalOver s = true) :
    exec .vpolInterval s =
      .next (startInterval (if s.power.seedOwed then sendSeed s else if s.power.seedDue then s else policyRun s)) := by
  show execVpolInterval s = _
  simp [execVpolInterval, hup, hfree, hover]

/-- The next interval has the length of VPOL_CFG.INTERVAL, which a run of the policy does not change. -/
theorem startInterval_vpolDue {P : List Part} {R : List Fld} {s t : State} (h : Leaves P R s t) (hclk : Part.clk ∉ P := by decide)
    (hcfg : Fld.VPOL_CFG_INTERVAL ∉ R := by decide) :
    (startInterval t).power.vpolDue = some (s.now + max 1 (s.get .VPOL_CFG_INTERVAL) * 1000) := by
  simp [startInterval, h.now hclk, h.get hcfg]

/-- Settles O6: an interval is a trim, two marks and the note of a settled transition, each with its own frame. -/
theorem policyIntervalStepsTheSetPoint : Obligations.PolicyIntervalStepsTheSetPoint := by
  unfold Obligations.PolicyIntervalStepsTheSetPoint
  refine ⟨?trims, ?waits, ?sends, ?nothing⟩
  case trims =>
    intro s hregs hup hfree hover howed hdue
    have hw := hregs.intervalSetPoint_lt
    have hv : (startInterval (policyRun s)).get .VPOL_STAT_VCORE_MV = intervalSetPoint s := policyRun_vcore hw
    have hrun := leaves_policyRun s
    have hatVmax : intervalAtVmax s = true ↔
        targetNow s < s.get .VPOL_STAT_CORE_PERIOD_PS ∧ intervalSetPoint s = s.get .VPOL_CFG_VMAX := by simp [intervalAtVmax]
    refine (hrun.andThen (leaves_startInterval _)).does
      ((exec_vpolInterval_of_acts hup hfree hover).trans (by simp [howed, hdue])) ?_
    dsimp only
    rw [hv]
    refine ⟨fun hslow => policyStep_of_slow hslow _ _ _ _ _, fun hp hfast => policyStep_of_fast hp hfast _ _ _ _,
      fun hp hlow => policyStep_of_settled hp hlow _ _ _ _, ?settled, ?shortfall, ?atVmax, fun hnew => avs_mem_policyRun_out hnew, ?seed,
      startInterval_vpolDue hrun, policyRun_policyRan s⟩
    case settled => exact (Bool.eq_iff_iff.mp (policyRun_settled s)).trans settledNow_iff
    case shortfall =>
      refine (Bool.eq_iff_iff.mp (policyRun_shortfall s)).trans ?_
      rw [Bool.and_eq_true, hatVmax, and_assoc]
    case atVmax => exact (Bool.eq_iff_iff.mp (policyRun_atVmax s)).trans hatVmax
    case seed =>
      intro hp hlow
      obtain ⟨hseed, hend⟩ := policyRun_seed_of_settled (settledNow_iff.mpr ⟨hp, hlow⟩) hw
      exact ⟨hseed.trans (policyStep_of_settled hp hlow _ _ _ _), hend⟩
  case waits =>
    intro s hup hfree hover howed hdue
    exact (leaves_startInterval s).does ((exec_vpolInterval_of_acts hup hfree hover).trans (by simp [howed, hdue])) rfl
  case sends =>
    intro s hregs hup hfree hover howed
    exact ((leaves_sendSeed s).mono.andThen (leaves_startInterval _)).does
      ((exec_vpolInterval_of_acts hup hfree hover).trans (by simp [howed]))
      ⟨sendSeed_vcore (hregs.seed_lt _), rfl, rfl, avs_mem_sendSeed_out s⟩
  case nothing =>
    intro s hrests
    show execVpolInterval s = .next s
    rcases hrests with hdown | hheld | hrunning
    · simp [execVpolInterval, hdown]
    · simp [execVpolInterval, hheld]
    · simp [execVpolInterval, hrunning]

end Sys2Proof.Machine
end

section
/-! Heartbeat, operating points and the regulator (R29 to R31, R444), and the proof of O7. -/
namespace Sys2Proof.Machine

/-! The heartbeat that is missed (R29). -/

/-- POLICY_STALE and its event bit show. -/
def noteStale (s : State) : State := event 13 .VPOL_EVENTS_STALE_SEEN (s.set .VPOL_STAT_POLICY_STALE 1)

theorem exec_policyStaleTimeout {s : State} (hdue : Due s (s.power.heartbeatAt + 1000000)) :
    exec .policyStaleTimeout s = .next (staleGuard (noteStale s)) := if_neg (Nat.not_lt.mpr hdue)

/-- The fields of a mark of staleness. -/
def staleRegs : List Fld := [.VPOL_STAT_POLICY_STALE, .VPOL_EVENTS_STALE_SEEN] ++ intRegs

theorem leaves_noteStale (s : State) : Leaves [.out, .porch] staleRegs s (noteStale s) :=
  (leaves_set s .VPOL_STAT_POLICY_STALE 1 0).mono.andThen (leaves_event _ _ _ _)

theorem noteStale_stale (s : State) : (noteStale s).flag .VPOL_STAT_POLICY_STALE = true :=
  (leaves_event _ _ _ _).flag.trans (State.flag_set_self s _ _ _)

theorem noteStale_seen (s : State) : (noteStale s).flag .VPOL_EVENTS_STALE_SEEN = true := event_flag (by decide) rfl _ _ _

/-- The guard meets a stale policy with a core period above 1.10 × T. -/
theorem guardActs_noteStale {s : State} (hran : s.power.policyRan = true)
    (hslow : 110 * targetNow s < 100 * s.get .VPOL_STAT_CORE_PERIOD_PS) : GuardActs (noteStale s) where
  ran := by rwa [(leaves_noteStale s).power]
  held := by rw [policyHeld, noteStale_stale, Bool.true_or]
  slow := by rwa [(leaves_noteStale s).targetNow, (leaves_noteStale s).get]

/-! A new operating point (R31). -/

/-- The operating point is taken and its seed owed; the admission scale is computed against the new target. -/
def takeOpPoint (op : Nat) (s : State) : State :=
  (modPower (fun p => { p with opTrans := true, atVmax := false, seedOwed := true }) (s.set .OP_CTRL_OP_POINT op)).set
    .VPOL_STAT_SCALE (admissionScale (targetPs op) (s.get .VPOL_STAT_CORE_PERIOD_PS))

theorem writeOpPoint_of_new {op : Nat} {s : State} (hop : op < 3) (hnew : op ≠ s.get .OP_CTRL_OP_POINT) :
    writeOpPoint op s =
      if !hearthUp s || policyHeld s || !s.power.policyRan then takeOpPoint op s else sendSeed (takeOpPoint op s) :=
  if_neg (not_or.mpr ⟨by omega, hnew⟩)

theorem leaves_takeOpPoint (op : Nat) (s : State) : Leaves [.power] [.OP_CTRL_OP_POINT, .VPOL_STAT_SCALE] s (takeOpPoint op s) :=
  ((leaves_set s .OP_CTRL_OP_POINT op 0).mono.andThen (leaves_modPower _ _)).andThen
    (leaves_set _ .VPOL_STAT_SCALE _ _)

theorem takeOpPoint_opPoint {op : Nat} (hop : op < 4) (s : State) : (takeOpPoint op s).get .OP_CTRL_OP_POINT = op := by
  simp [takeOpPoint, show Fld.OP_CTRL_OP_POINT.info.width = 2 from rfl, Nat.mod_eq_of_lt hop]

theorem takeOpPoint_scale (op : Nat) (s : State) :
    (takeOpPoint op s).get .VPOL_STAT_SCALE = admissionScale (targetPs op) (s.get .VPOL_STAT_CORE_PERIOD_PS) :=
  (State.get_set_self _ _ _ _).trans (admissionScale_mod _ _)

theorem leaves_takeOpPoint_writeOpPoint {op : Nat} {s : State} (hop : op < 3) (hnew : op ≠ s.get .OP_CTRL_OP_POINT) :
    Leaves [.power, .out, .porch] setPointRegs (takeOpPoint op s) (writeOpPoint op s) := by
  rw [writeOpPoint_of_new hop hnew]
  split
  · exact Leaves.refl _ _ _
  · exact leaves_sendSeed _

theorem writeOpPoint_opTrans {op : Nat} {s : State} (hop : op < 3) (hnew : op ≠ s.get .OP_CTRL_OP_POINT) :
    (writeOpPoint op s).power.opTrans = true := by
  rw [writeOpPoint_of_new hop hnew]
  split
  · rfl
  · exact sendSeed_opTrans _

/-- While the policy acts, the seed of the new operating point is sent at once. -/
theorem writeOpPoint_of_acts {op : Nat} {s : State} (hop : op < 3) (hnew : op ≠ s.get .OP_CTRL_OP_POINT) (hup : hearthUp s = true)
    (hfree : policyHeld s = false) (hran : s.power.policyRan = true) : writeOpPoint op s = sendSeed (takeOpPoint op s) := by
  rw [writeOpPoint_of_new hop hnew, hup, hfree, hran]
  rfl

/-- While the policy does not act, the seed of the new operating point is owed. -/
theorem writeOpPoint_of_rests {op : Nat} {s : State} (hop : op < 3) (hnew : op ≠ s.get .OP_CTRL_OP_POINT)
    (hrests : hearthUp s = false ∨ policyHeld s = true ∨ s.power.policyRan = false) : writeOpPoint op s = takeOpPoint op s := by
  rw [writeOpPoint_of_new hop hnew, if_pos]
  simpa [or_assoc] using hrests

/-- The seed that the new operating point names. -/
theorem takeOpPoint_seed {op : Nat} (hop : op < 4) (s : State) :
    (takeOpPoint op s).get .VPOL_SEED_SEED_MV ((takeOpPoint op s).get .OP_CTRL_OP_POINT) = s.get .VPOL_SEED_SEED_MV op := by
  rw [takeOpPoint_opPoint hop, (leaves_takeOpPoint op s).get]

theorem exec_opPointWrite {m : Master} {op : Nat} {s : State} (hmay : May s m .OP_CTRL_OP_POINT) (hop : op < 4) :
    exec (.opPointWrite m op) s = .next (mendReg .OP_CTRL 0 true true (writeOpPoint op s)) := by
  show Host.Outcome.next (guardedV m .OP_CTRL_OP_POINT 0 (op % 4) (writeOpPoint (op % 4)) s) = _
  rw [Nat.mod_eq_of_lt hop, guardedV_of_may hmay]
  rfl

theorem exec_heartbeat {m : Master} {s : State} (hmay : May s m .VPOL_CFG_HEARTBEAT) :
    exec (.heartbeat m) s = .next (mendReg .VPOL_CFG 0 true true (heartbeatGo s)) :=
  congrArg Host.Outcome.next (guarded_of_may hmay 0 heartbeatGo)

theorem leaves_heartbeatGo (s : State) : Leaves [.power] [.VPOL_STAT_POLICY_STALE] s (heartbeatGo s) :=
  (leaves_modPower _ s).mono.andThen (leaves_set _ _ _ _)

/-! A set-point write that is sent again (R444). -/

theorem exec_avsWriteRetry_acked {mv : Nat} {s : State} (hwant : s.power.avsWant = some mv) :
    exec (.avsWriteRetry true) s =
      .next ((modPower (fun p => { p with avsWant := none, avsFails := 0 }) (emit (.avs mv) s)).set .VPOL_STAT_VCORE_MV mv) := by
  show execAvsWriteRetry true s = _
  simp [execAvsWriteRetry, hwant]

theorem exec_avsWriteRetry_failed {mv : Nat} {s : State} (hwant : s.power.avsWant = some mv) :
    exec (.avsWriteRetry false) s =
      .next ((modPower (fun p => { p with avsWant := if s.power.avsFails = 2 then none else some mv, avsFails := s.power.avsFails + 1 })
        (emit (.avs mv) s)).set .VPOL_STAT_VCORE_MV s.power.avsPrev) := by
  show execAvsWriteRetry false s = _
  simp [execAvsWriteRetry, hwant]

/-- A retry: the write leaves again, the power state and VCORE_MV follow. -/
theorem leaves_retry (mv v : Nat) (g : PowerSt → PowerSt) (s : State) :
    Leaves [.power, .out] [.VPOL_STAT_VCORE_MV] s ((modPower g (emit (.avs mv) s)).set .VPOL_STAT_VCORE_MV v) :=
  ((leaves_emit (.avs mv) s).mono.andThen (leaves_modPower g _)).andThen
    (leaves_set _ _ _ _)

/-- Settles O7: each command is an update of the registers whose frame and values are known, with the guard, a seed or the mending of
the written register after it. -/
theorem voltageCommandsTakeEffect : Obligations.VoltageCommandsTakeEffect := by
  unfold Obligations.VoltageCommandsTakeEffect
  refine ⟨?stale, ?heartbeat, ?opPoint, ?reached, ?acked, ?failed⟩
  case stale =>
    intro s hdue
    have hmark := leaves_noteStale s
    have hguard := leaves_staleGuard (noteStale s)
    refine (hmark.mono.andThen hguard).does (exec_policyStaleTimeout hdue)
      ⟨?_, ?_, fun hregs hran hslow => ?_, fun hran => ?_⟩
    · rw [hguard.flag, noteStale_stale]
    · rw [hguard.flag, noteStale_seen]
    · have hvmax : (noteStale s).get .VPOL_CFG_VMAX = s.get .VPOL_CFG_VMAX := hmark.get
      rw [(guardActs_noteStale hran hslow).staleGuard_vcore (hvmax ▸ hregs.vmax_lt), hvmax]
    · rw [staleGuard_of_not_ran (by rwa [hmark.power]), hmark.get]
  case heartbeat =>
    intro m s hmay
    have hmend := leaves_mendReg .VPOL_CFG 0 true true (heartbeatGo s)
    refine ((leaves_heartbeatGo s).mono.andThen hmend).does (exec_heartbeat hmay) ⟨?_, ?_⟩
    · rw [hmend.flag]
      exact State.flag_set_self _ _ _ _
    · rw [hmend.power]
      rfl
  case opPoint =>
    intro m op s hmay hop hnew
    have htake := leaves_takeOpPoint op s
    have hwrite := leaves_takeOpPoint_writeOpPoint hop hnew
    have hmend := leaves_mendReg .OP_CTRL 0 true true (writeOpPoint op s)
    refine ((htake.mono.andThen hwrite).andThen hmend).does
      (exec_opPointWrite hmay (by omega)) ⟨?_, ?_, ?_, fun hregs hup hfree hran => ?_, fun hrests => ?_⟩
    · rw [hmend.get, hwrite.get, takeOpPoint_opPoint (by omega)]
    · rw [hmend.power, writeOpPoint_opTrans hop hnew]
    · rw [hmend.get, hwrite.get, takeOpPoint_scale]
    · have hseed := takeOpPoint_seed (show op < 4 by omega) s
      rw [hmend.get, hmend.power, hmend.out, writeOpPoint_of_acts hop hnew hup hfree hran, ← hseed]
      exact ⟨sendSeed_vcore (hseed ▸ hregs.seed_lt op), rfl, avs_mem_sendSeed_out _⟩
    · rw [hmend.get, hmend.power, writeOpPoint_of_rests hop hnew hrests, htake.get]
      exact ⟨rfl, rfl⟩
  case reached =>
    intro s
    exact (leaves_modPower _ s).does rfl rfl
  case acked =>
    intro mv s hwant hmv
    exact (leaves_retry mv mv _ s).does (exec_avsWriteRetry_acked hwant)
      ⟨rfl, (State.get_set_self _ _ _ _).trans (Nat.mod_eq_of_lt hmv), rfl⟩
  case failed =>
    intro mv s hwant hprev
    exact (leaves_retry mv _ _ s).does (exec_avsWriteRetry_failed hwant)
      ⟨rfl, (State.get_set_self _ _ _ _).trans (Nat.mod_eq_of_lt hprev), rfl, fun hlast => if_pos hlast, fun hmore => if_neg hmore⟩

end Sys2Proof.Machine
end

section
/-! What a counted event leaves alone, and the session in what an update leaves. -/
namespace Sys2Proof.Machine

theorem bankWrap_pending (b slot : Nat) (s : State) : (bankWrap b slot s).pending = s.pending := by
  unfold bankWrap
  refine List.foldlRecOn (motive := fun t : State => t.pending = s.pending) _ _ rfl fun t ht i _ => ?_
  split
  · exact ht
  · exact ht

theorem event_pending (b : Nat) (f : Fld) (s : State) (i : Nat) : (event b f s i).pending = s.pending :=
  (leaves_event b f s i).pending

theorem count_pending (b slot n : Nat) (s : State) : (count b slot n s).pending = s.pending := by
  unfold count
  extract_lets v c0 s1 s2 w m
  have h2 : s2.pending = s.pending := by
    show (if _ then s1 else bankWrap b slot s1).pending = _
    split
    · rfl
    · exact bankWrap_pending b slot s1
  split
  · exact h2
  · rw [event_pending]
    split
    · exact h2
    · exact h2

theorem leaves_tally (c : Ctr) (s : State) (i : Nat) : Leaves [.count, .out, .porch] countRegs s (tally c s i) :=
  ⟨count_pending _ _ _ _, tally_keeps _ _ _, tally_regs _ _ _⟩

theorem Leaves.session {P : List Part} {R : List Fld} {s t : State} (h : Leaves P R s t) (hp : Part.session ∉ P := by decide) :
    t.session = s.session := h.keeps .session hp

theorem leaves_session (x : SessionSt) (s : State) : Leaves [.session] [] s { s with session := x } where
  pending := rfl
  keeps p hp := by
    cases p with
    | session => exact absurd (by decide) hp
    | _ => rfl
  onlyRegs := OnlyRegs.of_fld rfl

end Sys2Proof.Machine
end

section
/-! Load sessions of the Floor Plan (R42, R43), and the proof of O21. -/
namespace Sys2Proof.Machine

/-! The end of a session that is rejected. -/

/-- The fields of a rejected session's end. -/
def rejectRegs : List Fld :=
  [.FPLAN_STAT_STATE, .FPLAN_STAT_REJECT, .FPLAN_STAT_BAD_TYPE, .FPLAN_STAT_BAD_WORD, .FPLAN_EVENTS_REJECTED] ++ countRegs

/-- FPLAN_STAT shows a rejection. -/
def showRejected (cause ty word : Nat) (s : State) : State :=
  (((s.set .FPLAN_STAT_STATE 6).set .FPLAN_STAT_REJECT cause).set .FPLAN_STAT_BAD_TYPE ty).set .FPLAN_STAT_BAD_WORD word

theorem leaves_showRejected (cause ty word : Nat) (s : State) :
    Leaves [] [.FPLAN_STAT_STATE, .FPLAN_STAT_REJECT, .FPLAN_STAT_BAD_TYPE, .FPLAN_STAT_BAD_WORD] s (showRejected cause ty word s) :=
  (((leaves_set _ _ _ _).mono.andThen (leaves_set _ _ _ _)).andThen (leaves_set _ _ _ _)).andThen (leaves_set _ _ _ _)

/-- After the status is shown and the session is gone, the end is counted and its event bit set. -/
theorem leaves_rejected_endRejected (cause ty word : Nat) (s : State) :
    Leaves [.count, .out, .porch] (.FPLAN_EVENTS_REJECTED :: countRegs) { showRejected cause ty word s with session := {} }
      (endRejected cause ty word s) :=
  (leaves_tally _ _ _).mono.andThen (leaves_event _ _ _ _)

theorem leaves_endRejected (cause ty word : Nat) (s : State) :
    Leaves [.session, .count, .out, .porch] rejectRegs s (endRejected cause ty word s) :=
  ((leaves_showRejected cause ty word s).mono.andThen (leaves_session {} _)).andThen (leaves_rejected_endRejected _ _ _ _)

theorem endRejected_state (cause ty word : Nat) (s : State) : (endRejected cause ty word s).get .FPLAN_STAT_STATE = 6 := by
  rw [(leaves_rejected_endRejected cause ty word s).get]
  show (showRejected cause ty word s).get .FPLAN_STAT_STATE = 6
  simp [showRejected, show Fld.FPLAN_STAT_STATE.info.width = 4 from rfl]

theorem endRejected_reject (cause ty word : Nat) (s : State) :
    (endRejected cause ty word s).get .FPLAN_STAT_REJECT = cause % 256 := by
  rw [(leaves_rejected_endRejected cause ty word s).get]
  show (showRejected cause ty word s).get .FPLAN_STAT_REJECT = cause % 256
  simp [showRejected, show Fld.FPLAN_STAT_REJECT.info.width = 8 from rfl]

theorem endRejected_flag (cause ty word : Nat) (s : State) : (endRejected cause ty word s).flag .FPLAN_EVENTS_REJECTED = true :=
  event_flag (by decide) rfl _ _ _

theorem endRejected_session (cause ty word : Nat) (s : State) : (endRejected cause ty word s).session = {} :=
  (leaves_rejected_endRejected cause ty word s).session

/-! The abort of a session. -/

/-- The session has ended REJECTED with cause ABORTED. -/
structure SessionAborted (t : State) : Prop where
  state : t.get .FPLAN_STAT_STATE = 6
  reject : t.get .FPLAN_STAT_REJECT = 18
  flag : t.flag .FPLAN_EVENTS_REJECTED = true
  session : t.session = {}

theorem abortSession_of_abortable {s : State} (h : abortable s = true) :
    abortSession s = endRejected 18 0 (s.get .FPLAN_STAT_WORDS) s := if_pos h

theorem abortable_of_receiving {s : State} (h : s.get .FPLAN_STAT_STATE = 1) : abortable s = true := by simp [abortable, h]

theorem sessionAborted_abortSession {s : State} (h : abortable s = true) : SessionAborted (abortSession s) := by
  rw [abortSession_of_abortable h]
  exact ⟨endRejected_state _ _ _ _, endRejected_reject _ _ _ _, endRejected_flag _ _ _ _, endRejected_session _ _ _ _⟩

theorem leaves_abortSession (s : State) : Leaves [.session, .count, .out, .porch] rejectRegs s (abortSession s) := by
  unfold abortSession
  split
  · exact leaves_endRejected _ _ _ _
  · exact Leaves.refl _ _ _

/-- A write that aborts: the mending of the written register leaves the end of the session. -/
theorem SessionAborted.mendReg {t : State} (h : SessionAborted t) (r : Reg) : SessionAborted (mendReg r 0 true true t) :=
  have hmend := leaves_mendReg r 0 true true t
  ⟨hmend.get.trans h.state, hmend.get.trans h.reject, hmend.flag.trans h.flag, hmend.session.trans h.session⟩

/-! Whose write it is. -/

theorem foreign_of_owner {m : Master} {s : State} (h : s.session.owner = some (masterId m)) : foreign m s = false := by
  simp [foreign, h]

theorem foreign_of_closed {s : State} (h : sessionOpen s = false) (m : Master) : foreign m s = false := by simp [foreign, h]

theorem owner_ne_of_foreign {m : Master} {s : State} (h : foreign m s = true) : s.session.owner ≠ some (masterId m) := by
  intro howner
  rw [foreign_of_owner howner] at h
  exact Bool.false_ne_true h

theorem planCtrl_of_foreign {m : Master} {s : State} (h : foreign m s = true) (act : State → State) :
    planCtrl m act s = foreignWrite s := if_pos h

theorem planCtrl_of_not_foreign {m : Master} {s : State} (h : foreign m s = false) (act : State → State) :
    planCtrl m act s = act s := by simp [planCtrl, h]

theorem leaves_foreignWrite (s : State) :
    Leaves [.count, .out, .porch] (.FPLAN_EVENTS_FOREIGN_WRITE :: countRegs) s (foreignWrite s) :=
  (leaves_tally _ _ _).mono.andThen (leaves_event _ _ _ _)

theorem foreignWrite_flag (s : State) : (foreignWrite s).flag .FPLAN_EVENTS_FOREIGN_WRITE = true := event_flag (by decide) rfl _ _ _

/-! OPEN. -/

/-- FPLAN_STAT as a new session shows it. -/
def showOpened (m : Master) (s : State) : State :=
  (((((s.set .FPLAN_STAT_STATE 1).set .FPLAN_STAT_OWNER (ownerCode m)).set .FPLAN_STAT_WORDS 0).set .FPLAN_STAT_REJECT 0).set
    .FPLAN_STAT_BAD_TYPE 0).set .FPLAN_STAT_BAD_WORD 0

/-- The session of an OPEN. -/
def newSession (m : Master) (kind : Nat) (s : State) : SessionSt :=
  { kind := kind % 2, lastNs := s.now, owner := some (masterId m) }

/-- What an accepted OPEN makes of the state. -/
def opened (m : Master) (kind : Nat) (s : State) : State :=
  { showOpened m (s.set .FPLAN_CTRL_KIND kind) with session := newSession m kind s }

/-- OPEN is judged by fields that the write of KIND leaves. -/
theorem openSession_of_accepted {s : State} (hclosed : sessionOpen s = false) (haccepted : openAccepted s = true) (m : Master)
    (kind : Nat) : openSession m kind (s.set .FPLAN_CTRL_KIND kind) = opened m kind s := by
  have hset := leaves_set s .FPLAN_CTRL_KIND kind 0
  have hopen : sessionOpen (s.set .FPLAN_CTRL_KIND kind) = false := by rwa [sessionOpen, hset.get]
  have haccept : openAccepted (s.set .FPLAN_CTRL_KIND kind) = true := by
    rwa [openAccepted, hset.get, State.level, hset.get]
  simp only [openSession, hopen, haccept]
  rfl

/-- The fields of an OPEN. -/
def openRegs : List Fld :=
  [.FPLAN_CTRL_KIND, .FPLAN_STAT_STATE, .FPLAN_STAT_OWNER, .FPLAN_STAT_WORDS, .FPLAN_STAT_REJECT, .FPLAN_STAT_BAD_TYPE,
    .FPLAN_STAT_BAD_WORD]

theorem leaves_showOpened (m : Master) (s : State) : Leaves [] openRegs s (showOpened m s) :=
  (((((leaves_set _ _ _ _).mono.andThen (leaves_set _ _ _ _)).andThen (leaves_set _ _ _ _)).andThen (leaves_set _ _ _ _)).andThen
    (leaves_set _ _ _ _)).andThen (leaves_set _ _ _ _)

theorem leaves_opened (m : Master) (kind : Nat) (s : State) : Leaves [.session] openRegs s (opened m kind s) :=
  ((leaves_set _ _ _ _).mono.andThen (leaves_showOpened m _)).andThen (leaves_session _ _)

theorem ownerCode_lt (m : Master) : ownerCode m < 16 := by
  cases m with
  | host h => show 1 + h % 4 < 16; omega
  | stair => show 5 < 16; decide
  | hk _ _ => show 6 < 16; decide
  | mgmt _ => show 0 < 16; decide

theorem showOpened_state (m : Master) (s : State) : (showOpened m s).get .FPLAN_STAT_STATE = 1 := by
  simp [showOpened, show Fld.FPLAN_STAT_STATE.info.width = 4 from rfl]

theorem showOpened_owner (m : Master) (s : State) : (showOpened m s).get .FPLAN_STAT_OWNER = ownerCode m := by
  simp [showOpened, show Fld.FPLAN_STAT_OWNER.info.width = 4 from rfl, Nat.mod_eq_of_lt (ownerCode_lt m)]

theorem showOpened_words (m : Master) (s : State) : (showOpened m s).get .FPLAN_STAT_WORDS = 0 := by simp [showOpened]

theorem showOpened_reject (m : Master) (s : State) : (showOpened m s).get .FPLAN_STAT_REJECT = 0 := by simp [showOpened]

theorem showOpened_badWord (m : Master) (s : State) : (showOpened m s).get .FPLAN_STAT_BAD_WORD = 0 := by simp [showOpened]

theorem opened_kind (m : Master) (kind : Nat) (s : State) : (opened m kind s).get .FPLAN_CTRL_KIND = kind % 2 := by
  show (showOpened m (s.set .FPLAN_CTRL_KIND kind)).get .FPLAN_CTRL_KIND = kind % 2
  simp [showOpened, show Fld.FPLAN_CTRL_KIND.info.width = 1 from rfl]

theorem exec_fplanOpen {m : Master} {kind : Nat} {s : State} (hmay : May s m .FPLAN_CTRL_OPEN) (hclosed : sessionOpen s = false)
    (haccepted : openAccepted s = true) :
    exec (.fplanOpen m kind) s = .next (mendReg .FPLAN_CTRL 0 true true (opened m kind s)) := by
  show execFplanOpen m kind s = _
  rw [execFplanOpen, guarded_of_may hmay, planCtrl_of_not_foreign (foreign_of_closed hclosed m),
    openSession_of_accepted hclosed haccepted]
  rfl

/-! Words for the staging store. -/

/-- The staging store takes one word more: neither 131,072 nor the length that word 1 gives is reached. -/
abbrev TakesWord (s : State) : Prop :=
  s.get .FPLAN_STAT_WORDS < 131072 ∧ (s.get .FPLAN_STAT_WORDS < 2 ∨ s.get .FPLAN_STAT_WORDS < hLength s.session.words)

/-- What a word that is stored makes of the state. -/
def stored (w : Word) (s : State) : State :=
  { s.set .FPLAN_STAT_WORDS (s.get .FPLAN_STAT_WORDS + 1) with
    session := { s.session with words := s.session.words ++ [w], lastNs := s.now } }

/-- A word of the owner in RECEIVING is not foreign. -/
theorem planWord_of_owner {m : Master} {s : State} (hstate : s.get .FPLAN_STAT_STATE = 1)
    (howner : s.session.owner = some (masterId m)) (w : Word) :
    planWord m w s =
      if 131072 ≤ s.get .FPLAN_STAT_WORDS ∨ (2 ≤ s.get .FPLAN_STAT_WORDS ∧ hLength s.session.words ≤ s.get .FPLAN_STAT_WORDS) then
        abortSession s
      else stored w s := if_neg (not_or.mpr ⟨not_not_intro hstate, not_not_intro howner⟩)

theorem planWord_of_takes {m : Master} {s : State} (hstate : s.get .FPLAN_STAT_STATE = 1)
    (howner : s.session.owner = some (masterId m)) (htakes : TakesWord s) (w : Word) : planWord m w s = stored w s := by
  rw [planWord_of_owner hstate howner, if_neg (by omega)]

theorem planWord_of_full {m : Master} {s : State} (hstate : s.get .FPLAN_STAT_STATE = 1)
    (howner : s.session.owner = some (masterId m))
    (hfull : 131072 ≤ s.get .FPLAN_STAT_WORDS ∨ (2 ≤ s.get .FPLAN_STAT_WORDS ∧ hLength s.session.words ≤ s.get .FPLAN_STAT_WORDS))
    (w : Word) : planWord m w s = abortSession s := by
  rw [planWord_of_owner hstate howner, if_pos hfull]

theorem planWord_of_foreign {m : Master} {s : State} (h : foreign m s = true) (w : Word) : planWord m w s = foreignWrite s :=
  if_pos (.inr (owner_ne_of_foreign h))

theorem leaves_stored (w : Word) (s : State) : Leaves [.session] [.FPLAN_STAT_WORDS] s (stored w s) :=
  (leaves_set _ _ _ _).mono.andThen (leaves_session _ _)

theorem stored_words {s : State} (h : s.get .FPLAN_STAT_WORDS < 131072) (w : Word) :
    (stored w s).get .FPLAN_STAT_WORDS = s.get .FPLAN_STAT_WORDS + 1 :=
  (State.get_set_self _ _ _ _).trans (Nat.mod_eq_of_lt (show _ < 2 ^ 20 by omega))

theorem exec_fplanDataWrite {m : Master} {s : State} (hmay : May s m .FPLAN_DATA_WORD) (w : Word) :
    exec (.fplanDataWrite m w) s = .next (mendReg .FPLAN_DATA 0 true true (planWord m w s)) :=
  congrArg Host.Outcome.next (guarded_of_may hmay 0 (planWord m w))

/-! COMMIT, ABORT and the end of the time for a word. -/

/-- What a COMMIT in RECEIVING makes of the state. -/
def committed (s : State) : State :=
  { s.set .FPLAN_STAT_STATE 2 with session := { s.session with shadow := shadowWords s } }

theorem commitSession_of_receiving {s : State} (h : s.get .FPLAN_STAT_STATE = 1) : commitSession s = committed s :=
  if_neg (not_not_intro h)

theorem leaves_committed (s : State) : Leaves [.session] [.FPLAN_STAT_STATE] s (committed s) :=
  (leaves_set _ _ _ _).mono.andThen (leaves_session _ _)

theorem committed_state (s : State) : (committed s).get .FPLAN_STAT_STATE = 2 :=
  State.get_set_self s .FPLAN_STAT_STATE 2 0

theorem exec_fplanCommit {m : Master} {s : State} (hmay : May s m .FPLAN_CTRL_COMMIT) :
    exec (.fplanCommit m) s = .next (mendReg .FPLAN_CTRL 0 true true (planCtrl m commitSession s)) :=
  congrArg Host.Outcome.next (guarded_of_may hmay 0 (planCtrl m commitSession))

theorem abortWrite_of_abortable {s : State} (h : abortable s = true) : abortWrite s = abortSession s := by
  refine if_neg fun hstate => ?_
  simp [abortable, hstate] at h

theorem exec_fplanAbort {m : Master} {s : State} (hmay : May s m .FPLAN_CTRL_ABORT) :
    exec (.fplanAbort m) s = .next (mendReg .FPLAN_CTRL 0 true true (planCtrl m abortWrite s)) :=
  congrArg Host.Outcome.next (guarded_of_may hmay 0 (planCtrl m abortWrite))

theorem exec_fplanSessionTimeout {s : State} (hstate : s.get .FPLAN_STAT_STATE = 1) (hdue : Due s (s.session.lastNs + 100000000)) :
    exec .fplanSessionTimeout s = .next (abortSession s) := if_pos ⟨hstate, hdue⟩

/-! The writes of another master. -/

/-- A command is a master's write of a field of FPLAN_CTRL or FPLAN_DATA. -/
abbrev PlanWrite (c : Instr) (m : Master) (f : Fld) : Prop :=
  (∃ k, c = .fplanOpen m k ∧ f = .FPLAN_CTRL_OPEN) ∨ (∃ w, c = .fplanDataWrite m w ∧ f = .FPLAN_DATA_WORD)
    ∨ (c = .fplanCommit m ∧ f = .FPLAN_CTRL_COMMIT) ∨ (c = .fplanAbort m ∧ f = .FPLAN_CTRL_ABORT)

/-- Whatever it writes, a master that does not own the open session is only noted. -/
theorem exec_of_foreign {c : Instr} {m : Master} {f : Fld} {s : State} (hwrite : PlanWrite c m f) (hmay : May s m f)
    (hforeign : foreign m s = true) : exec c s = .next (mendReg f.info.reg 0 true true (foreignWrite s)) := by
  rcases hwrite with ⟨k, rfl, rfl⟩ | ⟨w, rfl, rfl⟩ | ⟨rfl, rfl⟩ | ⟨rfl, rfl⟩
  · show execFplanOpen m k s = _
    rw [execFplanOpen, guarded_of_may hmay, planCtrl_of_foreign hforeign]
  · rw [exec_fplanDataWrite hmay, planWord_of_foreign hforeign]
    rfl
  · rw [exec_fplanCommit hmay, planCtrl_of_foreign hforeign]
    rfl
  · rw [exec_fplanAbort hmay, planCtrl_of_foreign hforeign]
    rfl

/-- Settles O21: each write of the owner is an update of FPLAN_STAT and of the session, or the session's abort, with the mending of the
written register after it; a foreign write is noted and nothing else. -/
theorem planSessionsLoad : Obligations.PlanSessionsLoad := by
  unfold Obligations.PlanSessionsLoad
  refine ⟨?opens, ?stores, ?overruns, ?commits, ?aborts, ?expires, ?foreign⟩
  case opens =>
    intro m kind s hmay hclosed haccepted
    have hmend := leaves_mendReg .FPLAN_CTRL 0 true true (opened m kind s)
    exact ((leaves_opened m kind s).mono.andThen hmend).does (exec_fplanOpen hmay hclosed haccepted)
      ⟨hmend.get.trans (showOpened_state m _), hmend.get.trans (showOpened_owner m _), hmend.get.trans (showOpened_words m _),
        hmend.get.trans (showOpened_reject m _), hmend.get.trans (showOpened_badWord m _), hmend.get.trans (opened_kind m kind s),
        hmend.session⟩
  case stores =>
    intro m w s hmay hstate howner hmax hlength
    have hmend := leaves_mendReg .FPLAN_DATA 0 true true (stored w s)
    have hexec := (exec_fplanDataWrite hmay w).trans (by rw [planWord_of_takes hstate howner ⟨hmax, hlength⟩])
    exact ((leaves_stored w s).mono.andThen hmend).does hexec ⟨hmend.get.trans (stored_words hmax w), hmend.session⟩
  case overruns =>
    intro m w s hmay hstate howner hfull
    have hmend := leaves_mendReg .FPLAN_DATA 0 true true (abortSession s)
    have hexec := (exec_fplanDataWrite hmay w).trans (by rw [planWord_of_full hstate howner hfull])
    obtain ⟨hst, hrej, hflag, hses⟩ := (sessionAborted_abortSession (abortable_of_receiving hstate)).mendReg .FPLAN_DATA
    exact ((leaves_abortSession s).mono.andThen hmend).does hexec ⟨hst, hrej, hflag, hses⟩
  case commits =>
    intro m s hmay hstate howner
    have hmend := leaves_mendReg .FPLAN_CTRL 0 true true (committed s)
    have hexec := (exec_fplanCommit hmay).trans
      (by rw [planCtrl_of_not_foreign (foreign_of_owner howner), commitSession_of_receiving hstate])
    exact ((leaves_committed s).mono.andThen hmend).does hexec ⟨hmend.get.trans (committed_state s), hmend.session⟩
  case aborts =>
    intro m s hmay habortable howner
    have hmend := leaves_mendReg .FPLAN_CTRL 0 true true (abortSession s)
    have hexec := (exec_fplanAbort hmay).trans
      (by rw [planCtrl_of_not_foreign (foreign_of_owner howner), abortWrite_of_abortable habortable])
    obtain ⟨hst, hrej, hflag, hses⟩ := (sessionAborted_abortSession habortable).mendReg .FPLAN_CTRL
    exact ((leaves_abortSession s).mono.andThen hmend).does hexec ⟨hst, hrej, hflag, hses⟩
  case expires =>
    intro s hstate hdue
    obtain ⟨hst, hrej, -, hses⟩ := sessionAborted_abortSession (abortable_of_receiving hstate)
    exact (leaves_abortSession s).does (exec_fplanSessionTimeout hstate hdue) ⟨hst, hrej, hses⟩
  case foreign =>
    intro c m f s hwrite hmay hforeign
    have hmend := leaves_mendReg f.info.reg 0 true true (foreignWrite s)
    exact ((leaves_foreignWrite s).mono.andThen hmend).does (exec_of_foreign hwrite hmay hforeign)
      (hmend.flag.trans (foreignWrite_flag s))

end Sys2Proof.Machine
end

section
/-! The refutation of O46: a flow table that lists one peer twice, read past its first entry after a fall-back to Marked service (R62, R85). -/
namespace Sys2Proof.Machine

/-! The delivery of a PUT (R85). -/

theorem exec_porchDelivery_seg {x q : Nat} {rest : List Delivery} {s : State} (hrun : s.hostStopped = false)
    (hhead : s.porch.deliveries = .seg x q :: rest) :
    exec .porchDelivery s = .next (deliverSeg x q { s with porch := { s.porch with deliveries := rest } }) := by
  show execPorchDelivery s = _
  simp [execPorchDelivery, hhead, hrun]

section
variable {x q : Nat} {g : RSeg} {s : State}

/-- A cached key that passes is found, and the check leaves the state. -/
theorem lookKey_of_passes {idx gen job rights a n : Nat} {ctx : Option Nat} (hcached : s.thresh.keyCache.contains idx = true)
    (hpass : keyCheck (s.keyAt idx) idx gen job rights a n ctx = 0) :
    lookKey idx gen job rights a n ctx s = (.found (s.keyAt idx, 0), s) := by
  simp [lookKey, lookCellar, hpass, show idx ∈ s.thresh.keyCache by simpa using hcached]

/-- A PUT whose key passes at its delivery is written. -/
theorem deliverSeg_of_put (hseg : rsegOf s x q = some g) (hqueued : g.queued = true) (hst : g.st = .inProgress)
    (hop : leadOp g.body = 0x10) (haccess : g.access.isSome = true) (hcached : s.thresh.keyCache.contains (leadKeyIdx g.body) = true)
    (hpass : keyCheck (s.keyAt (leadKeyIdx g.body)) (leadKeyIdx g.body) (leadKeyGen g.body) (leadJob g.body) 10 (leadRemote g.body)
      (segBytes (leadLen g.body) (leadOff g.body)) none = 0) :
    deliverSeg x q s = writeSeg x q g s := by
  have hnone : g.access.isNone = false := by rw [← Option.not_isSome, haccess]; rfl
  have hkey : deliverKey s x g = some (.found (s.keyAt (leadKeyIdx g.body), 0), s) := by
    simp only [deliverKey, hnone, hop, rRemote, rWrite, lookKey_of_passes hcached hpass]
    rfl
  simp [deliverSeg, hseg, hqueued, hst, hop, isResp, hkey]

/-- A segment whose tiles verify, written over a link that is up with no atomic under way in its range, becomes COMPLETE. -/
theorem writeSeg_of_good {h : Nat} {pages : List (Nat × Nat)} (haccess : g.access = some (h, pages))
    (hlink : s.flag .HPORT_STAT_LINK_UP h = true) (hfree : atomicHolds s h pages = false) (hgood : tilesGood g = true) :
    writeSeg x q g s = completeRSeg x q (deliverEffect x g (writeTiles g (deliverBytes s x g) s)) := by
  simp [writeSeg, haccess, hlink, hfree, hgood]

/-- A PUT without a tracker entry has no effect besides its writes. -/
theorem deliverEffect_of_untracked (hop : leadOp g.body = 0x10) (htrack : tracked s x (leadMsg g.body) = false) :
    deliverEffect x g s = s := by
  have hnone : s.thresh.tracker.find? (fun t => t.src == x && t.msgId == leadMsg g.body) = none := by
    simpa [tracked] using htrack
  simp [deliverEffect, hop, trackDone, hnone]

/-! A segment's completion and its acknowledgement (R252, R254, R257). -/

/-- The receive side as segment `g` becomes COMPLETE, before its acknowledgement. -/
def countedComplete (x q : Nat) (g : RSeg) (s : State) : State :=
  (modRSeg x q (fun g => { g with st := .complete, got := [], park := none, misses := [], access := none }) s).modRecv x
    (fun r => advanceW (r.segs.length + 1) { r with ce := r.ce + b2n g.ce })

theorem completeRSeg_of_due (hseg : rsegOf s x q = some g)
    (hdue : s.get .THRESH_ACK_CFG_ACK_COAL_SEGS ≤ ((countedComplete x q g s).flow x).recv.sinceAck + 1) :
    completeRSeg x q s = sendAck x (countedComplete x q g s) := by
  simp only [completeRSeg, hseg]
  exact if_pos hdue

/-- An ACK that finds its queue and the queue's spill full leaves the flows as SPILL_FULL of the Threshold leaves them. -/
theorem injectAck_flow_of_full (hfull : ackQueueRoom s = false) (c : Cell) (y : Nat) :
    (injectAck c s).flow y = (raise 8 12 0 0 s).flow y := by
  have hevent : (event 8 .THRESH_EVENTS_ACK_SPILL_FULL (raise 8 12 0 0 s)).thresh = (raise 8 12 0 0 s).thresh :=
    event_keeps _ _ _ _ .thresh (by decide)
  have hthresh : (injectAck c s).thresh = (raise 8 12 0 0 s).thresh := by
    simp [injectAck, hfull, hevent]
  simp only [State.flow, hthresh]

/-- The acknowledgement of a flow that is not OPEN leaves the segments that its cell's injection leaves. -/
theorem sendAck_segs_of_full (hrun : s.hostStopped = false) (hclosed : (s.flow x).recv.st ≠ 1) (hfull : ackQueueRoom s = false) :
    ((sendAck x s).flow x).recv.segs = ((raise 8 12 0 0 s).flow x).recv.segs := by
  simp [sendAck, hrun, hclosed, ackCell, State.modRecv, State.modFlow, injectAck_flow_of_full hfull]

end

/-! The counterexample. -/

/-- An inline PUT of 16 bytes with key 3, its delivery queued. -/
def queuedPut : RSeg :=
  { seq := 65535, cells := 1, st := .inProgress, accepted := true, queued := true, access := some (0, [(0x9000, 16)]),
    lead := some { ty := tyLead, vc := 2, dest := 0, src := 1, seq := 65535, last := true,
                   body := mkLead 0x10 1 0 0 0 3 0 1 0 16 0 0 0 0 0 5 6 } }

/-- The registers: host port 0 is up, the device is in Scheduled service, every segment is acknowledged, and a SPILL_FULL of the
Threshold has not been acknowledged, so that the block is at L1. -/
def unackedSpill : State :=
  ((((State.reset.set .HPORT_STAT_LINK_UP 1).set .SLUICE_MODE_SERVICE 1).set .THRESH_ACK_CFG_ACK_COAL_SEGS 1).set
    .FAULT_STAT_LEVEL 1 8).set .FAULT_UNACK_UNACK (2 ^ 11) 8

/-- An ACK in the Threshold's injection queue. -/
def waitingAck : HCell := { cell := { ty := tyAck, vc := 5, dest := 1, src := 0 }, input := 78, stamp := 0, vcIn := 5 }

/-- The flow table lists peer 1 twice. Its first entry holds the PUT as the segment after W, and a ticket; without them it reads as an
unlisted flow does. -/
def twiceListed : Tab Flow :=
  [(1, { send := { held := [0] }, recv := { w := 65534, segs := [queuedPut] } }), (1, { recv := { segs := [queuedPut] } })]

/-- The PUT's delivery command is next, and the acknowledgement queue and its spill are full. -/
def twiceListedState : State :=
  { unackedSpill with
    porch := { deliveries := [.seg 1 65535] }
    thresh := { flows := twiceListed, keys := [(3, ⟨0, 4096, 0x80000A0000000000, 0⟩)], keyCache := [3] }
    hall := { inj := [(78, List.replicate (1 + Config.ackQueueCells 0) waitingAck)] } }

/-- Its delivery command taken. -/
def putTaken : State := { twiceListedState with porch := { deliveries := [] } }

/-- The bytes written, and the segment counted as COMPLETE. -/
def putCounted : State := countedComplete 1 65535 queuedPut (writeTiles queuedPut 16 putTaken)

theorem deliverSeg_putTaken : deliverSeg 1 65535 putTaken = sendAck 1 putCounted :=
  calc deliverSeg 1 65535 putTaken
    _ = writeSeg 1 65535 queuedPut putTaken :=
      deliverSeg_of_put (by decide +kernel) rfl rfl (by decide) rfl (by decide) (by decide +kernel)
    _ = completeRSeg 1 65535 (deliverEffect 1 queuedPut (writeTiles queuedPut 16 putTaken)) :=
      writeSeg_of_good (h := 0) (pages := [(0x9000, 16)]) rfl (by decide +kernel) rfl (by decide +kernel)
    _ = completeRSeg 1 65535 (writeTiles queuedPut 16 putTaken) := by
      rw [deliverEffect_of_untracked (by decide) (by decide +kernel)]
    _ = sendAck 1 putCounted := completeRSeg_of_due (by decide +kernel) (by decide +kernel)

theorem ackQueueRoom_putCounted : ackQueueRoom putCounted = false := by
  have hqueue : ackQueueRoom putCounted = decide (((List.replicate (1 + Config.ackQueueCells 0) waitingAck).filter
      (fun h => h.cell.ty == tyAck || h.cell.ty == tyNack)).length < 1 + Config.ackQueueCells 0) := rfl
  simp [hqueue, waitingAck]

/-- The repeated SPILL_FULL escalates to L2, and the device falls back to Marked service: the first entry of peer 1 gives up its ticket,
and with it its place in the table. -/
theorem segs_after_fallback : ((raise 8 12 0 0 putCounted).flow 1).recv.segs = [queuedPut] := by decide +kernel

/-- The segment is still IN_PROGRESS after its delivery. -/
theorem segs_after_delivery : ((deliverSeg 1 65535 putTaken).flow 1).recv.segs = [queuedPut] := by
  rw [deliverSeg_putTaken, sendAck_segs_of_full (by decide +kernel) (by decide +kernel) ackQueueRoom_putCounted, segs_after_fallback]

/-- Refutes O46: the clause of a PUT's delivery does not ask that the flow table be in its canonical form, as the clauses of O45 do. The
counterexample's table lists peer 1 twice. The PUT in the first entry becomes COMPLETE and W passes it; its ACK finds queue and spill
full, and a SPILL_FULL that is not yet acknowledged escalates and ends Scheduled service. The first entry's ticket was all that kept it
from reading as an unlisted flow, so the table drops it, and what flow 1 then reads is the second entry, whose segment of the same
sequence number is IN_PROGRESS. -/
theorem not_segmentsAreDelivered : ¬ Obligations.SegmentsAreDelivered := by
  rintro ⟨-, hput, -⟩
  obtain ⟨t, hexec, -, -, -, -, -, hcomplete⟩ :=
    hput 1 65535 0 0x9000 16 queuedPut [] twiceListedState (by decide +kernel) rfl (by decide +kernel) rfl rfl (by decide) (by decide)
      rfl rfl (by decide +kernel) (by decide) (by decide +kernel) rfl (by decide) (by decide) rfl
  rw [exec_porchDelivery_seg (by decide +kernel) rfl] at hexec
  have ht : t = deliverSeg 1 65535 putTaken := (Host.Outcome.next.inj hexec).symm
  have hmem : queuedPut ∈ (t.flow 1).recv.segs := by
    rw [ht, segs_after_delivery]
    exact List.mem_singleton_self _
  exact absurd (hcomplete queuedPut hmem rfl) (by decide)

end Sys2Proof.Machine
end

section
/-! The cells that wait: what an update leaves of them beside the queue, the parts and the fields. -/
namespace Sys2Proof.Machine

/-- What `Leaves` says, and the cells that wait in the Hall and in every port's Landing stay where they are. -/
structure Spares (parts : List Part) (regs : List Fld) (s t : State) : Prop extends Leaves parts regs s t where
  waiting : t.hall.waiting = s.hall.waiting
  landing : ∀ p, (t.port p).landing = (s.port p).landing

section
variable {P P' : List Part} {R R' : List Fld} {s t u : State}

/-- An update of neither the Hall nor the ports. -/
theorem Leaves.spares (h : Leaves P R s t) (hhall : Part.hall ∉ P := by decide) (hports : Part.ports ∉ P := by decide) :
    Spares P R s t where
  toLeaves := h
  waiting := congrArg HallSt.waiting (h.keeps .hall hhall)
  landing p := by
    have hsame : t.ports = s.ports := h.keeps .ports hports
    simp only [State.port, hsame]

theorem Spares.refl (P : List Part) (R : List Fld) (s : State) : Spares P R s s := ⟨Leaves.refl P R s, rfl, fun _ => rfl⟩

theorem Spares.trans (h1 : Spares P R s t) (h2 : Spares P R t u) : Spares P R s u :=
  ⟨h1.toLeaves.trans h2.toLeaves, h2.waiting.trans h1.waiting, fun p => (h2.landing p).trans (h1.landing p)⟩

theorem Spares.mono (h : Spares P R s t) (hP : ∀ p ∈ P, p ∈ P' := by decide) (hR : ∀ f ∈ R, f ∈ R' := by decide) :
    Spares P' R' s t := ⟨h.toLeaves.mono hP hR, h.waiting, h.landing⟩

/-- A further update with a frame of its own. -/
theorem Spares.andThen (h1 : Spares P R s t) (h2 : Spares P' R' t u) (hP : ∀ p ∈ P', p ∈ P := by decide)
    (hR : ∀ f ∈ R', f ∈ R := by decide) : Spares P R s u := h1.trans (h2.mono hP hR)

theorem Spares.ite {c : Prop} [Decidable c] (h1 : Spares P R s t) (h2 : Spares P R s u) : Spares P R s (if c then t else u) := by
  split
  · exact h1
  · exact h2

/-- A further update that happens only in some states. -/
theorem Spares.andThenIf {c : Prop} [Decidable c] (h : Spares P R s t) (f : State → State) (hf : ∀ a, Spares P R a (f a)) :
    Spares P R s (if c then f t else t) := (h.trans (hf t)).ite h

theorem Spares.forEach {α : Type} (f : α → State → State) (h : ∀ a s, Spares P R s (f a s)) (l : List α) (s : State) :
    Spares P R s (forEach l f s) :=
  forEach_keeps (P := Spares P R s) f (fun a _ hs => hs.trans (h a _)) l s (Spares.refl P R s)

end

/-! Elementary updates. -/

/-- An update of one part, and of neither the queue nor a field. -/
theorem Leaves.of_part {part : Part} {s t : State} (hpending : t.pending = s.pending) (hfld : t.fld = s.fld)
    (hothers : ∀ p, p ≠ part → p.same s t) : Leaves [part] [] s t :=
  ⟨hpending, fun p hp => hothers p (fun h => hp (List.mem_singleton.mpr h)), OnlyRegs.of_fld hfld⟩

theorem leaves_fault (x : FaultSt) (s : State) : Leaves [.fault] [] s { s with fault := x } :=
  Leaves.of_part rfl rfl fun p hp => by
    cases p with
    | fault => exact absurd rfl hp
    | _ => rfl

theorem leaves_thresh (x : ThreshSt) (s : State) : Leaves [.thresh] [] s { s with thresh := x } :=
  Leaves.of_part rfl rfl fun p hp => by
    cases p with
    | thresh => exact absurd rfl hp
    | _ => rfl

theorem leaves_rake (x : RakeSt) (s : State) : Leaves [.rake] [] s { s with rake := x } :=
  Leaves.of_part rfl rfl fun p hp => by
    cases p with
    | rake => exact absurd rfl hp
    | _ => rfl

theorem leaves_sluice (x : SluiceSt) (s : State) : Leaves [.sluice] [] s { s with sluice := x } :=
  Leaves.of_part rfl rfl fun p hp => by
    cases p with
    | sluice => exact absurd rfl hp
    | _ => rfl

theorem leaves_hall (x : HallSt) (s : State) : Leaves [.hall] [] s { s with hall := x } :=
  Leaves.of_part rfl rfl fun p hp => by
    cases p with
    | hall => exact absurd rfl hp
    | _ => rfl

theorem leaves_setPort (p : Nat) (x : PortSt) (s : State) : Leaves [.ports] [] s (s.setPort p x) :=
  ⟨rfl, setPort_keeps _ _ _, setPort_regs _ _ _ _⟩

/-- The Hall changes elsewhere than in its waiting cells. -/
theorem spares_hall {x : HallSt} {s : State} (hx : x.waiting = s.hall.waiting := by rfl) : Spares [.hall] [] s { s with hall := x } :=
  ⟨leaves_hall x s, hx, fun _ => rfl⟩

/-- A port changes elsewhere than in its Landing. -/
theorem spares_modPort {f : PortSt → PortSt} (p : Nat) (s : State) (hf : ∀ x, (f x).landing = x.landing := by intro; rfl) :
    Spares [.ports] [] s (s.modPort p f) where
  toLeaves := leaves_setPort _ _ _
  waiting := rfl
  landing q := by
    rw [State.modPort, State.port_setPort]
    split
    case isTrue hpq => rw [hf, hpq]
    case isFalse => rfl

theorem spares_inject (n : Nat) (cs : List Cell) (s : State) (pin : Bool) (lb : Option Nat) :
    Spares [.hall] [] s (inject n cs s pin lb) := spares_hall

theorem leaves_count (b slot n : Nat) (s : State) : Leaves [.count, .out, .porch] countRegs s (count b slot n s) :=
  ⟨count_pending _ _ _ _, count_keeps _ _ _ _, count_regs _ _ _ _⟩

theorem leaves_tallyN (c : Ctr) (n : Nat) (s : State) (i : Nat) : Leaves [.count, .out, .porch] countRegs s (tallyN c n s i) :=
  leaves_count _ _ _ _

theorem leaves_tallyPortN (c : Ctr) (p n : Nat) (s : State) : Leaves [.count, .out, .porch] countRegs s (tallyPortN c p n s) :=
  leaves_count _ _ _ _

end Sys2Proof.Machine
end

section
/-! Completions and room notices: what they leave of the queue. -/
namespace Sys2Proof.Machine

theorem writeEntry_pending (r : Nat) (c : Cmpl) (s : State) : (writeEntry r c s).pending = s.pending := by
  unfold writeEntry
  extract_lets q m addr ws s1 s2
  have h2 : s2.pending = s.pending := by
    show (if _ then _ else _ : State).pending = _
    split <;> rfl
  split
  · exact (sendMsix_pending _ _ _).trans h2
  · exact h2

theorem riskyEntry_pending (r : Nat) (c : Cmpl) (b : Bool) (s : State) : (riskyEntry r c b s).pending = s.pending := by
  unfold riskyEntry
  simp only [apply_ite State.pending, writeEntry_pending, ite_self]
  rfl

theorem issueFetch_pending (r : Nat) (s : State) : (issueFetch r s).pending = s.pending := (leaves_tally .CTX_FETCH _ _).pending

theorem parkRoom_pending (r : Nat) (s : State) : (parkRoom r s).pending = s.pending := by
  unfold parkRoom
  dsimp only
  split <;> rfl

theorem takeSlot_pending (r : Nat) (s : State) : (takeSlot r s).pending = s.pending := by
  rw [takeSlot, issueFetch_pending]
  split
  · rfl
  · exact forEach_same State.pending parkRoom parkRoom_pending _ s

theorem serveSlots_pending (s : State) : (serveSlots s).pending = s.pending := by
  unfold serveSlots
  split
  · rfl
  · split
    · exact takeSlot_pending _ _
    · rfl

theorem complete_pending (r : Nat) (c : Cmpl) (slot silent : Bool) (s : State) : (complete r c slot silent s).pending = s.pending := by
  unfold complete
  extract_lets s1
  rw [serveSlots_pending]
  split
  · rfl
  · split
    · exact riskyEntry_pending _ _ _ s1
    · split
      · rfl
      · exact writeEntry_pending _ _ s1

theorem leaves_completeWork (r : Nat) (e : List Word) (c : Cmpl) (s : State) :
    Leaves [.out, .porch, .count] countRegs s (completeWork r e c s) :=
  ⟨complete_pending _ _ _ _ _, completeWork_keeps _ _ _ _, completeWork_regs _ _ _ _⟩

theorem leaves_roomError (r c : Nat) (s : State) : Leaves [.out, .porch] (.PORCH_EVENTS_ROOM_ERROR :: intRegs) s (roomError r c s) where
  pending := by
    unfold roomError
    extract_lets q bad s1
    have h1 : s1.pending = s.pending := event_pending _ _ _ _
    split
    · rfl
    · split
      · exact (sendMsix_pending _ _ _).trans h1
      · exact (sendMsix_pending _ _ _).trans h1
  keeps := roomError_keeps _ _ _
  onlyRegs := roomError_regs _ _ _

end Sys2Proof.Machine
end

section
/-! A detected fault: what it leaves of the cells that wait, and what its registers show (R349 to R361). -/
namespace Sys2Proof.Machine

/-! What follows the marks of a fault. -/

/-- The fields of a fall-back to Marked service. -/
def fallbackRegs : List Fld :=
  ([.SLUICE_MODE_SERVICE, .SLUICE_MODE_FALLBACK_CAUSE, .SLUICE_MODE_FALLBACK_PORT, .SLUICE_EVENTS_FALLBACK] : List Fld) ++ countRegs

/-- The fields that a fault may write once it has marked its block: all of `faultRegs` but the block's marks. -/
def aftermathRegs : List Fld :=
  ([.FAULT_EVENTS_LEVEL_RAISED, .FAULT_EVENTS_ESCALATED, .FAULT_EVENTS_NOTICE_SUPPRESSED, .PORCH_EVENTS_ROOM_ERROR, .PORT_STAT_STATE,
   .PORT_STAT_DOWN_CAUSE, .PORT_EVENTS_DOWN_SEEN, .LANE_STAT_STATE, .LANE_STAT_TX_CARRY, .LANE_STAT_RX_CARRY, .DEV_FAULT_LEVEL,
   .DEV_FAULT_CAUSE_BLOCK, .DEV_FAULT_CAUSE_CLASS, .DEV_FAULT_L4_RESET_PENDING] : List Fld) ++ fallbackRegs

theorem leaves_serviceFallback (c p : Nat) (s : State) : Leaves [.thresh, .count, .out, .porch] fallbackRegs s (serviceFallback c p s) := by
  unfold serviceFallback
  extract_lets s1
  split
  case isTrue =>
    have h1 : Leaves [.thresh, .count, .out, .porch] fallbackRegs s s1 :=
      (((leaves_set _ _ _ _).mono).andThen (leaves_set _ _ _ _)).andThen (leaves_set _ _ _ _)
    have h2 : Leaves [.thresh, .count, .out, .porch] fallbackRegs s (tally .FALLBACK (marksBegin s1)) :=
      (h1.andThen (leaves_thresh _ s1)).andThen (leaves_tally _ _ _)
    exact h2.andThen (leaves_event _ _ _ _)
  case isFalse => exact Leaves.refl _ _ _

theorem spares_addHist (b hi : Nat) (s : State) : Spares faultParts aftermathRegs s (addHist b hi s) := (leaves_fault _ s).spares.mono

theorem spares_portHist (p e d q v : Nat) (s : State) : Spares faultParts aftermathRegs s (portHist p e d q v s) := spares_addHist _ _ _

theorem spares_sendNotice (b cls l : Nat) (e : Bool) (u d : Nat) (s : State) :
    Spares faultParts aftermathRegs s (sendNotice b cls l e u d s) := by
  unfold sendNotice
  refine (Spares.refl _ _ _).ite (Spares.ite (leaves_event _ _ _ _).spares.mono ?_)
  exact ((leaves_fault _ s).spares.mono).andThen (spares_inject _ _ _ _ _)

theorem leaves_lanesDown (p : Nat) (s : State) :
    Leaves [] [.LANE_STAT_STATE, .LANE_STAT_TX_CARRY, .LANE_STAT_RX_CARRY] s (lanesDown p s) := by
  refine ⟨forEach_same State.pending _ (fun i a => ?_) _ s, lanesDown_keeps _ _ _, lanesDown_regs _ _⟩
  dsimp only
  split <;> rfl

theorem spares_drainPort (c p : Nat) (s : State) : Spares faultParts aftermathRegs s (drainPort c p s) := by
  unfold drainPort
  extract_lets st s1
  have h1 : Spares faultParts aftermathRegs s s1 := ((leaves_set _ _ _ _).spares.mono).andThen (leaves_set _ _ _ _).spares
  refine (Spares.refl _ _ _).ite (Spares.ite ?_ ?_)
  · exact (((h1.andThen (spares_modPort p s1)).andThen (leaves_lanesDown p _).spares).trans
      (spares_portHist _ _ _ _ _ _)).andThen (leaves_event _ _ _ _).spares
  · exact ((leaves_set _ _ _ _).spares.mono).andThen (spares_modPort p _)

theorem spares_enterSafe (s : State) : Spares faultParts aftermathRegs s (enterSafe s) :=
  ((leaves_serviceFallback 3 0 s).spares.mono).trans (Spares.forEach _ (fun _ _ => (leaves_roomError _ _ _).spares.mono) _ _)

theorem spares_enterOff (s : State) : Spares faultParts aftermathRegs s (enterOff s) := by
  unfold enterOff
  extract_lets s1 hold s2 at1
  have h1 : Spares faultParts aftermathRegs s s1 := Spares.forEach _ (fun p a => spares_drainPort 7 p a) _ s
  have h2 : Spares faultParts aftermathRegs s s2 := h1.andThen (leaves_set _ _ _ _).spares
  exact h2.andThen (leaves_fault _ s2).spares

theorem spares_setDevFault (l b c : Nat) (s : State) : Spares faultParts aftermathRegs s (setDevFault l b c s) :=
  (((leaves_set _ _ _ _).spares.mono).andThen (leaves_set _ _ _ _).spares).andThen (leaves_set _ _ _ _).spares

theorem spares_updateDevice (b c : Nat) (s : State) : Spares faultParts aftermathRegs s (updateDevice b c s) := by
  unfold updateDevice
  extract_lets old new s1 s2
  have h1 : Spares faultParts aftermathRegs s s1 := (spares_enterSafe s).ite (Spares.refl _ _ _)
  have h2 : Spares faultParts aftermathRegs s s2 := h1.andThenIf enterOff spares_enterOff
  exact (Spares.refl _ _ _).ite (h2.trans (spares_setDevFault _ _ _ _))

theorem spares_faultRecord (b c l u d : Nat) (esc injected rises : Bool) (s : State) :
    Spares faultParts aftermathRegs s (faultRecord b c l u d esc injected rises s) := by
  unfold faultRecord
  extract_lets s1 s2 s3 s4
  have h1 : Spares faultParts aftermathRegs s s1 := (spares_addHist _ _ _).ite ((spares_addHist _ _ _).ite (Spares.refl _ _ _))
  have h2 : Spares faultParts aftermathRegs s s2 := (h1.andThen (leaves_count _ _ _ _).spares).andThen (leaves_count _ _ _ _).spares
  have h3 : Spares faultParts aftermathRegs s s3 :=
    h2.andThenIf (event b .FAULT_EVENTS_LEVEL_RAISED · b) (fun _ => (leaves_event _ _ _ _).spares.mono)
  have h4 : Spares faultParts aftermathRegs s s4 :=
    h3.andThenIf (event b .FAULT_EVENTS_ESCALATED · b) (fun _ => (leaves_event _ _ _ _).spares.mono)
  exact h4.andThenIf (serviceFallback 3 0) (fun _ => (leaves_serviceFallback _ _ _).spares.mono)

theorem spares_faultDevice (b c l u d : Nat) (esc : Bool) (s : State) :
    Spares faultParts aftermathRegs s (faultDevice b c l u d esc s) := by
  unfold faultDevice
  extract_lets dev s1 s2
  have h1 : Spares faultParts aftermathRegs s s1 := spares_updateDevice _ _ _
  have h2 : Spares faultParts aftermathRegs s s2 := h1.andThenIf (sendNotice _ _ _ _ _ _) (spares_sendNotice _ _ _ _ _ _)
  exact h2.andThen (leaves_fault _ s2).spares

/-! The marks. -/

/-- The fields by which a fault marks its block (Table 14.5). -/
def markRegs : List Fld :=
  [.FAULT_UNACK_UNACK, .FAULT_STAT_LEVEL, .FAULT_STAT_LAST_CLASS, .FAULT_STAT_FIRST_CLASS, .FAULT_STAT_STICKY]

/-- The marks of a class detected at a level of its block: the class waits for acknowledgement and is the block's latest. -/
def markBlock (b c l : Nat) (s : State) : State :=
  let un := s.get .FAULT_UNACK_UNACK b
  let s1 := if un.testBit (c - 1) then s else s.set .FAULT_UNACK_UNACK (un + 2 ^ (c - 1)) b
  (s1.set .FAULT_STAT_LEVEL l b).set .FAULT_STAT_LAST_CLASS c b

theorem markBlock_lastClass {c : Nat} (hc : c < 64) (b l : Nat) (s : State) : (markBlock b c l s).get .FAULT_STAT_LAST_CLASS b = c :=
  (State.get_set_self _ _ _ _).trans (Nat.mod_eq_of_lt hc)

theorem markBlock_level {l : Nat} (hl : l < 8) (b c : Nat) (s : State) : (markBlock b c l s).get .FAULT_STAT_LEVEL b = l := by
  rw [markBlock, State.get_set_ne _ _ _ _ (by decide), State.get_set_self]
  exact Nat.mod_eq_of_lt hl

theorem markBlock_unack {c : Nat} (hc : c < 64) (b l : Nat) (s : State) :
    ((markBlock b c l s).get .FAULT_UNACK_UNACK b).testBit (c - 1) = true := by
  rw [markBlock, State.get_set_ne _ _ _ _ (by decide), State.get_set_ne _ _ _ _ (by decide)]
  split
  case isTrue hset => exact hset
  case isFalse hclear =>
    have hwidth : c - 1 < (Fld.info .FAULT_UNACK_UNACK).width := show c - 1 < 63 by omega
    rw [State.get_set_self, Nat.testBit_mod_two_pow, decide_eq_true hwidth, Nat.add_comm, Nat.testBit_two_pow_add_eq]
    simpa using hclear

/-- The first class and the sticky mark of a level aside, a fault's marks are those of `markBlock`. -/
theorem onlyRegs_faultMarks (b c l : Nat) (esc : Bool) (s : State) :
    OnlyRegs [.FAULT_STAT_FIRST_CLASS, .FAULT_STAT_STICKY] (markBlock b c (faultLevel b l s) s) (faultMarks b c l esc s) := by
  unfold faultMarks
  extract_lets un s1 s2 s3 s4
  have h2 : OnlyRegs [.FAULT_STAT_FIRST_CLASS, .FAULT_STAT_STICKY] (markBlock b c (faultLevel b l s) s) s2 := OnlyRegs.refl _ s2
  have h3 : OnlyRegs [.FAULT_STAT_FIRST_CLASS, .FAULT_STAT_STICKY] (markBlock b c (faultLevel b l s) s) s3 :=
    h2.ite2 (fun a => a.set .FAULT_STAT_FIRST_CLASS c b) (fun _ => set_regs _ _ _ (by decide))
  have h4 : OnlyRegs [.FAULT_STAT_FIRST_CLASS, .FAULT_STAT_STICKY] (markBlock b c (faultLevel b l s) s) s4 :=
    h3.ite2 (fun a => a.set .FAULT_STAT_STICKY 1 b) (fun _ => set_regs _ _ _ (by decide))
  exact OnlyRegs.ite (h4.trans (OnlyRegs.of_fld rfl)) h4

theorem spares_faultMarks (b c l : Nat) (esc : Bool) (s : State) : Spares faultParts faultRegs s (faultMarks b c l esc s) := by
  unfold faultMarks
  extract_lets un s1 s2 s3 s4
  have h1 : Spares faultParts faultRegs s s1 := (Spares.refl _ _ _).ite (leaves_set _ _ _ _).spares.mono
  have h2 : Spares faultParts faultRegs s s2 := (h1.andThen (leaves_set _ _ _ _).spares).andThen (leaves_set _ _ _ _).spares
  have h3 : Spares faultParts faultRegs s s3 := h2.andThenIf (·.set .FAULT_STAT_FIRST_CLASS c b) (fun _ => (leaves_set _ _ _ _).spares.mono)
  have h4 : Spares faultParts faultRegs s s4 := h3.andThenIf (·.set .FAULT_STAT_STICKY 1 b) (fun _ => (leaves_set _ _ _ _).spares.mono)
  exact (h4.andThen (leaves_fault _ s4).spares).ite h4

/-! The fault. -/

/-- What follows the marks of a fault. -/
theorem spares_aftermath (b c u d : Nat) (s : State) :
    Spares faultParts aftermathRegs (faultMarks b c (classLevel c + b2n (faultEscalates b c s)) (faultEscalates b c s) s) (raise b c u d s) :=
  (spares_faultRecord _ _ _ _ _ _ _ _ _).trans (spares_faultDevice _ _ _ _ _ _ _)

theorem spares_raise (b c u d : Nat) (s : State) : Spares faultParts faultRegs s (raise b c u d s) :=
  (spares_faultMarks _ _ _ _ _).andThen (spares_aftermath b c u d s)

theorem RegsOk.level_lt {s : State} (h : RegsOk s) (b : Nat) : s.level b < 8 := RegsOk.get_lt h (show 0 < 8 by decide)

theorem faultLevel_lt {b : Nat} {s : State} (h : s.level b < 8) (l : Nat) : faultLevel b l s < 8 := by
  unfold faultLevel
  split <;> omega

/-- What a detected fault shows of its block, seen from a state before it and a state after it that differ from those at its detection in
other fields only. -/
theorem raised_of_raise {P P' : List Part} {R R' : List Fld} {s r t : State} {b c u d : Nat} (hc : c < 64) (hbefore : Leaves P R s r)
    (hafter : Leaves P' R' (raise b c u d r) t) (hR : ∀ f ∈ [Fld.FAULT_UNACK_UNACK, .FAULT_STAT_LEVEL], f ∉ R := by decide)
    (hR' : ∀ f ∈ [Fld.FAULT_UNACK_UNACK, .FAULT_STAT_LEVEL, .FAULT_STAT_LAST_CLASS], f ∉ R' := by decide) : Raised b c s t := by
  have hmarks : ∀ f ∈ [Fld.FAULT_UNACK_UNACK, .FAULT_STAT_LEVEL, .FAULT_STAT_LAST_CLASS],
      t.get f b = (markBlock b c (faultLevel b (classLevel c + b2n (faultEscalates b c r)) r) r).get f b := fun f hf =>
    calc t.get f b = (raise b c u d r).get f b := hafter.get (hR' f hf)
      _ = (faultMarks b c (classLevel c + b2n (faultEscalates b c r)) (faultEscalates b c r) r).get f b :=
        (spares_aftermath b c u d r).get (by revert f; decide)
      _ = _ := onlyRegs_faultMarks _ _ _ _ _ f (by revert f; decide) b
  have hlevel : r.level b = s.level b := hbefore.get (hR _ (by decide))
  have hescalates : faultEscalates b c r = faultEscalates b c s := by
    simp only [faultEscalates, hbefore.get (hR .FAULT_UNACK_UNACK (by decide))]
  refine ⟨?_, ?_, fun hok => ?_⟩
  · rw [hmarks _ (by decide), markBlock_lastClass hc]
  · rw [hmarks _ (by decide), markBlock_unack hc]
  · rw [State.level, hmarks _ (by decide), markBlock_level (faultLevel_lt (hlevel ▸ hok.level_lt b) _), hescalates, faultLevel, hlevel,
      faultLevel]

end Sys2Proof.Machine
end

section
/-! Tree operations that end by an abort: what they leave (R312). -/
namespace Sys2Proof.Machine

theorem spares_sendTree (t ty kind lo : Nat) (body : List Word) (ports : List Nat) (s : State) :
    Spares [.hall] [] s (sendTree t ty kind lo body ports s) := by
  unfold sendTree
  exact (Spares.refl _ _ _).ite (spares_hall)

theorem spares_applyWindow (s : State) : Spares treeParts treeRegs s (applyWindow s) := by
  unfold applyWindow
  extract_lets n c
  refine Spares.ite ?_ (Spares.refl _ _ _)
  exact ((leaves_set _ _ _ _).spares.mono.andThen (leaves_set _ _ _ _).spares).andThen (leaves_set _ _ _ _).spares

theorem spares_releaseTree (t : Nat) (x : TreeSt) (s : State) : Spares treeParts treeRegs s (releaseTree t x s) := by
  unfold releaseTree
  extract_lets rake s1 s2
  have h1 : Spares treeParts treeRegs s s1 := (leaves_rake _ s).spares.mono
  have h2 : Spares treeParts treeRegs s s2 := (h1.andThen (leaves_set _ _ _ _).spares).ite h1
  exact (h2.trans (spares_applyWindow s2)).andThen (leaves_set _ _ _ _).spares

theorem spares_failDel (t seq status aux : Nat) (s : State) : Spares treeParts treeRegs s (failDel t seq status aux s) := by
  unfold failDel
  split
  · exact Spares.refl _ _ _
  · exact ((leaves_rake _ s).spares.mono).andThen (leaves_completeWork _ _ _ _).spares

theorem spares_recordAbort (t seq status : Nat) (s : State) : Spares treeParts treeRegs s (recordAbort t seq status s) := by
  unfold recordAbort
  exact (Spares.refl _ _ _).ite (leaves_rake _ s).spares.mono

theorem spares_abortTree (t status : Nat) (frm : Option Nat) (s : State) : Spares treeParts treeRegs s (abortTree t status frm s) := by
  unfold abortTree
  split
  case h_1 => exact Spares.refl _ _ _
  case h_2 x _ =>
    extract_lets body ok s1 s2 s3 rake s4 s5 s6
    have h2 : Spares treeParts treeRegs s s2 := (spares_sendTree _ _ _ _ _ _ s).mono.andThen (spares_sendTree _ _ _ _ _ _ s1)
    have h3 : Spares treeParts treeRegs s s3 := (h2.andThen (leaves_set _ _ _ _).spares).andThen (leaves_set _ _ _ _).spares
    have h4 : Spares treeParts treeRegs s s4 := (h3.andThen (leaves_rake _ s3).spares).trans (spares_releaseTree _ _ _)
    have h5 : Spares treeParts treeRegs s s5 :=
      ((h4.trans (spares_failDel _ _ _ _ s4)).andThen (leaves_set _ _ _ _).spares).ite (h4.trans (spares_recordAbort _ _ _ s4))
    have h6 : Spares treeParts treeRegs s s6 :=
      ((h5.andThen (leaves_set _ _ _ _).spares).andThen (leaves_tally _ _ _).spares).andThen (leaves_event _ _ _ _).spares
    exact (h6.andThen (leaves_event _ _ _ _).spares).ite h6

theorem spares_treeCellLost (c : Cell) (s : State) : Spares treeParts treeRegs s (treeCellLost c s) := by
  unfold treeCellLost
  split
  · exact Spares.refl _ _ _
  · exact (spares_abortTree _ _ _ _).ite (Spares.refl _ _ _)

end Sys2Proof.Machine
end

section
/-! Cells that leave the Hall by lifetime or parity, detours that end, held tiles that go on (R54, R73, R110, R115), and the proof of O33. -/
namespace Sys2Proof.Machine

/-! The slot and the held route of a cell that leaves. -/

theorem spares_returnCredit (p v : Nat) (s : State) : Spares [.ports] [] s (returnCredit p v s) := by
  unfold returnCredit
  exact (Spares.refl _ _ _).ite (spares_modPort _ _)

theorem spares_freeSlot (h : HCell) (s : State) : Spares [.ports] [] s (freeSlot h s) := by
  unfold freeSlot
  exact (spares_returnCredit _ _ _).ite (Spares.refl _ _ _)

theorem spares_unpin (h : HCell) (s : State) : Spares [.hall] [] s (unpin h s) := by
  unfold unpin
  exact (Spares.refl _ _ _).ite (spares_hall)

/-- A cell gives up its Landing slot and its place in the held route. -/
theorem spares_unpin_freeSlot (h : HCell) (s : State) : Spares [.hall, .ports] [] s (unpin h (freeSlot h s)) :=
  (spares_freeSlot h s).mono.andThen (spares_unpin h _)

/-! Lifetime discards (R115). -/

/-- The discard of one expired cell. -/
def discardExpired (h : HCell) (s : State) : State := lifetimeCount h.input h.vcIn h.cell h.copies.length (unpin h (freeSlot h s))

/-- The fields that follow a counted lifetime discard: those of a fall-back, and those of a tree operation that ends. -/
def afterLifetimeRegs : List Fld := fallbackRegs ++ treeRegs

/-- A lifetime discard is a count, its event, and what follows them: a fall-back, and the end of the operation of a lost tree cell. -/
theorem lifetimeCount_spares_flag (input vc : Nat) (c : Cell) (copies : Nat) (s : State) :
    Spares hallParts hallRegs s (lifetimeCount input vc c copies s)
      ∧ (lifetimeCount input vc c copies s).flag .HALL_EVENTS_LIFETIME_SEEN = true := by
  unfold lifetimeCount
  extract_lets n hall s0 s1 sluice s2
  have h0 : Spares hallParts hallRegs s s0 := Spares.mono spares_hall
  have h1 : Spares hallParts hallRegs s s1 := (h0.andThen (leaves_tallyN _ _ s0 _).spares).andThen (leaves_event _ _ _ _).spares
  have hflag1 : s1.flag .HALL_EVENTS_LIFETIME_SEEN = true := event_flag (by decide) rfl _ _ _
  have h2 : Spares hallParts afterLifetimeRegs s1 s2 :=
    (((leaves_sluice _ s1).spares.mono).andThen (leaves_serviceFallback _ _ _).spares).ite (Spares.refl _ _ _)
  have hend : Spares hallParts afterLifetimeRegs s1 (if c.vc = 1 ∧ input = 77 then treeCellLost c s2 else s2) :=
    h2.andThenIf (treeCellLost c) (fun a => (spares_treeCellLost c a).mono)
  exact ⟨h1.andThen hend, hend.flag.trans hflag1⟩

theorem spares_discardExpired (h : HCell) (s : State) : Spares hallParts hallRegs s (discardExpired h s) :=
  (spares_unpin_freeSlot h s).mono.trans (lifetimeCount_spares_flag _ _ _ _ _).1

theorem discardExpired_flag (h : HCell) (s : State) : (discardExpired h s).flag .HALL_EVENTS_LIFETIME_SEEN = true :=
  (lifetimeCount_spares_flag _ _ _ _ _).2

theorem forEach_discardExpired_flag {dead : List HCell} (hdead : dead ≠ []) (s : State) :
    (forEach dead discardExpired s).flag .HALL_EVENTS_LIFETIME_SEEN = true := by
  obtain ⟨h, rest, rfl⟩ := List.exists_cons_of_ne_nil hdead
  exact forEach_keeps (P := fun t => t.flag .HALL_EVENTS_LIFETIME_SEEN = true) discardExpired (fun x t _ => discardExpired_flag x t) rest
    (discardExpired h s) (discardExpired_flag h s)

theorem expireWaiting_eq (sel : HCell → Bool) (s : State) :
    expireWaiting sel s = forEach (s.hall.waiting.filter (fun h => sel h && expired s h.stamp)) discardExpired
      (setWaiting (s.hall.waiting.filter (fun h => !(sel h && expired s h.stamp))) s) := by
  unfold expireWaiting
  rw [List.partition_eq_filter_filter]
  rfl

theorem leaves_expireWaiting (sel : HCell → Bool) (s : State) : Leaves hallParts hallRegs s (expireWaiting sel s) := by
  rw [expireWaiting_eq]
  exact (leaves_hall _ s).mono.trans (Spares.forEach discardExpired spares_discardExpired _ _).toLeaves

theorem expireWaiting_waiting (sel : HCell → Bool) (s : State) :
    (expireWaiting sel s).hall.waiting = s.hall.waiting.filter (fun h => !(sel h && expired s h.stamp)) := by
  rw [expireWaiting_eq]
  exact (Spares.forEach discardExpired spares_discardExpired _ _).waiting

theorem expireWaiting_flag {sel : HCell → Bool} {s : State} {h : HCell} (hmem : h ∈ s.hall.waiting) (hsel : sel h = true)
    (hexpired : expired s h.stamp = true) : (expireWaiting sel s).flag .HALL_EVENTS_LIFETIME_SEEN = true := by
  rw [expireWaiting_eq]
  exact forEach_discardExpired_flag (List.ne_nil_of_mem (List.mem_filter.mpr ⟨hmem, by simp [hsel, hexpired]⟩)) _

/-! Header parity (R73). -/

/-- A waiting cell is taken away where it stands. -/
def takeWaiting (j : Nat) (h : HCell) (s : State) : State := unpin h (freeSlot h (setWaiting (s.hall.waiting.eraseIdx j) s))

theorem leaves_takeWaiting (j : Nat) (h : HCell) (s : State) : Leaves [.hall, .ports] [] s (takeWaiting j h s) :=
  (leaves_hall _ s).mono.trans (spares_unpin_freeSlot h _).toLeaves

theorem takeWaiting_waiting (j : Nat) (h : HCell) (s : State) : (takeWaiting j h s).hall.waiting = s.hall.waiting.eraseIdx j :=
  (spares_unpin_freeSlot h (setWaiting (s.hall.waiting.eraseIdx j) s)).waiting

/-- A cell of a Landing is taken away where it stands, and its credit is returned. -/
def takeLanded (p k : Nat) (x : LCell) (s : State) : State :=
  returnCredit p x.vcIn (s.modPort p (fun q => { q with landing := q.landing.eraseIdx k }))

theorem leaves_takeLanded (p k : Nat) (x : LCell) (s : State) : Leaves [.ports] [] s (takeLanded p k x s) :=
  (leaves_setPort p _ s).trans (spares_returnCredit p x.vcIn _).toLeaves

theorem takeLanded_landing (p k : Nat) (x : LCell) (s : State) :
    ((takeLanded p k x s).port p).landing = (s.port p).landing.eraseIdx k := by
  rw [takeLanded, (spares_returnCredit p x.vcIn _).landing, State.modPort, State.port_setPort_self]

theorem spares_parityFault (b input : Nat) (s : State) :
    Spares faultParts (.HALL_EVENTS_HDR_PARITY_SEEN :: faultRegs) s (parityFault b input s) :=
  (((leaves_tally _ _ _).spares.mono).andThen (spares_raise _ _ _ _ _)).andThen (leaves_event _ _ _ _).spares

theorem parityFault_flag (b input : Nat) (s : State) : (parityFault b input s).flag .HALL_EVENTS_HDR_PARITY_SEEN = true :=
  event_flag (by decide) rfl _ _ _

/-- The fault of a header parity failure, seen from before the cell was taken away. -/
theorem raised_parityFault {P : List Part} {s r : State} (h : Leaves P [] s r) (b input : Nat) : Raised b 4 s (parityFault b input r) :=
  raised_of_raise (R := countRegs) (by decide) 
    ((h.mono (P' := P ++ [.count, .out, .porch]) (fun _ => List.mem_append_left _) (by decide)).andThen (leaves_tally _ _ _)
      (fun _ => List.mem_append_right _))
    (leaves_event 4 .HALL_EVENTS_HDR_PARITY_SEEN _ 0)

theorem exec_headerParityFail (at_ : ParityAt) (s : State) : exec (.headerParityFail at_) s = execHeaderParityFail at_ s := rfl

theorem exec_headerParityFail_hallInput {i k j : Nat} {h : HCell} {s : State}
    (hcell : (s.hall.waiting.zipIdx.filter (fun e => e.1.input == i))[k]? = some (h, j)) :
    exec (.headerParityFail (.hallInput i k)) s = .next (parityFault 4 i (takeWaiting j h s)) := by
  simp only [exec_headerParityFail, execHeaderParityFail, hcell, takeWaiting]

theorem exec_headerParityFail_landing {p k : Nat} {x : LCell} {s : State} (hcell : (s.port p).landing[k]? = some x) :
    exec (.headerParityFail (.landing p k)) s = .next (parityFault (16 + p) p (takeLanded p k x s)) := by
  simp only [exec_headerParityFail, execHeaderParityFail, hcell, takeLanded]

/-! The end of a detour (R110). -/

theorem setBits_one (x q v : Nat) : setBits x q 1 v = 2 ^ q * (2 * (x / 2 ^ q / 2) + v % 2) + x % 2 ^ q := by
  have hx : x = 2 ^ q * (2 * (x / 2 ^ q / 2)) + x / 2 ^ q % 2 * 2 ^ q + x % 2 ^ q := by
    rw [Nat.mul_comm (x / 2 ^ q % 2), ← Nat.mul_add, Nat.div_add_mod, Nat.div_add_mod]
  rw [setBits, Nat.shiftRight_eq_div_pow, Nat.pow_one, Nat.mul_add, Nat.mul_comm (2 ^ q) (v % 2)]
  omega

/-- A number with one bit replaced. -/
theorem testBit_setBits_one (x q r : Nat) (b : Bool) : (setBits x q 1 (b2n b)).testBit r = if r = q then b else x.testBit r := by
  rw [setBits_one, Nat.testBit_two_pow_mul_add _ (Nat.mod_lt x (Nat.two_pow_pos q))]
  rcases Nat.lt_trichotomy r q with hlt | rfl | hgt
  · rw [if_pos hlt, if_neg (Nat.ne_of_lt hlt), Nat.testBit_mod_two_pow, decide_eq_true hlt, Bool.true_and]
  · cases b <;> simp [b2n]
  · obtain ⟨k, rfl⟩ := Nat.exists_eq_add_of_lt hgt
    have hhalf : (2 * (x / 2 ^ q / 2) + b2n b % 2) / 2 = x / 2 ^ q / 2 := by omega
    rw [if_neg (by omega), if_neg (by omega), show q + k + 1 - q = k + 1 by omega, Nat.testBit_add_one, hhalf, ← Nat.testBit_add_one,
      Nat.testBit_div_two_pow, show k + 1 + q = q + k + 1 by omega]

theorem leaves_setDetour (q : Nat) (b : Bool) (s : State) :
    Leaves [] [.HALL_DETOUR_LO_DETOUR, .HALL_DETOUR_HI_DETOUR] s (setDetour q b s) := by
  unfold setDetour
  split
  · exact (leaves_set _ _ _ _).mono
  · exact (leaves_set _ _ _ _).mono

theorem detourBit_setDetour {q r : Nat} (hq : q < 72) (hr : r < 72) (b : Bool) (s : State) :
    detourBit (setDetour q b s) r = if r = q then b else detourBit s r := by
  unfold setDetour detourBit
  by_cases hqlow : q < 64
  · by_cases hrlow : r < 64
    · have hwidth : r < (Fld.info .HALL_DETOUR_LO_DETOUR).width := hrlow
      simp [hqlow, hrlow, Nat.testBit_mod_two_pow, hwidth, testBit_setBits_one]
    · have hne : r ≠ q := by omega
      simp [hqlow, hrlow, hne]
  · by_cases hrlow : r < 64
    · have hne : r ≠ q := by omega
      simp [hqlow, hrlow, hne]
    · have hwidth : r - 64 < (Fld.info .HALL_DETOUR_HI_DETOUR).width := show r - 64 < 8 by omega
      have hiff : r - 64 = q - 64 ↔ r = q := by omega
      simp [hqlow, hrlow, Nat.testBit_mod_two_pow, hwidth, testBit_setBits_one, hiff]

theorem Leaves.detourBit_eq {P : List Part} {R : List Fld} {s t : State} (h : Leaves P R s t)
    (hlo : Fld.HALL_DETOUR_LO_DETOUR ∉ R := by decide) (hhi : Fld.HALL_DETOUR_HI_DETOUR ∉ R := by decide) (q : Nat) :
    detourBit t q = detourBit s q := by
  simp only [detourBit, h.get hlo, h.get hhi]

theorem exec_detourEnd {q : Nat} {s : State} (hdetour : detourBit s q = true) (hdue : Due s (Tab.get s.hall.detourAt q 0 + 10000)) :
    exec (.detourEnd q) s = .next (event 4 .HALL_EVENTS_DETOUR_END (setDetour q false s)) :=
  if_pos (by simpa [hdetour] using hdue)

/-! A held tile whose hold runs out (R54). -/

/-- The port with a hold released: its cells go on, counted. -/
def releaseHold (h : TileHold) (x : PortSt) : PortSt :=
  { x with
    holds := x.holds.map (fun g => if g = h then { g with released := true, got := (x.landing.filter (inHold h)).length } else g)
    landing := x.landing.map (fun l => if inHold h l then { l with held := false } else l) }

theorem exec_tileHoldExpiry {p src seq tile : Nat} {h : TileHold} {s : State}
    (hhold : (s.port p).holds.find? (fun g => g.src == src && g.seq == seq && g.tile == tile && !g.released) = some h)
    (hdue : Due s (h.first + s.get .HALL_MODE_PIN_HOLD_NS)) :
    exec (.tileHoldExpiry p src seq tile) s
      = .next (tallyPortN .CHECK_SKIPPED p ((s.port p).landing.filter (inHold h)).length (s.setPort p (releaseHold h (s.port p)))) := by
  show execTileHoldExpiry p src seq tile s = _
  simp only [execTileHoldExpiry, hhold, if_neg (Nat.not_lt.mpr hdue)]
  rfl

theorem tallyPortN_port (c : Ctr) (p n : Nat) (s : State) (q : Nat) : (tallyPortN c p n s).port q = s.port q := by
  have hports : (tallyPortN c p n s).ports = s.ports := (leaves_tallyPortN c p n s).keeps .ports (by decide)
  simp only [State.port, hports]

/-! O33. -/

/-- Settles O33: each of the four commands takes away, releases or clears what it speaks of, and the counts, events and faults that
follow spare the cells that wait. -/
theorem hallDiscardsAndEnds : Obligations.HallDiscardsAndEnds := by
  refine ⟨fun i s => ?_, fun i k j h s hcell => ?_, fun p k x s hcell => ?_, fun q s _ hq hdetour hdue => ?_,
    fun p src seq tile h s hhold hdue => ?_⟩
  · refine (leaves_expireWaiting (fun h => h.input == i) s).does rfl ⟨expireWaiting_waiting _ _, ?_⟩
    rintro ⟨h, hmem, hinput, hexpired⟩
    exact expireWaiting_flag hmem (by simp [hinput]) hexpired
  · have htaken := leaves_takeWaiting j h s
    have hfault := spares_parityFault 4 i (takeWaiting j h s)
    exact (htaken.mono.trans hfault.toLeaves).does (exec_headerParityFail_hallInput hcell)
      ⟨hfault.waiting.trans (takeWaiting_waiting j h s), raised_parityFault htaken 4 i, parityFault_flag _ _ _⟩
  · have htaken := leaves_takeLanded p k x s
    have hfault := spares_parityFault (16 + p) p (takeLanded p k x s)
    exact (htaken.mono.trans hfault.toLeaves).does (exec_headerParityFail_landing hcell)
      ⟨(hfault.landing p).trans (takeLanded_landing p k x s), raised_parityFault htaken (16 + p) p, parityFault_flag _ _ _⟩
  · have hevent := leaves_event 4 .HALL_EVENTS_DETOUR_END (setDetour q false s) 0
    refine ((leaves_setDetour q false s).mono.andThen hevent).does (exec_detourEnd hdetour hdue)
      ⟨?_, fun r hr hrq => ?_, event_flag (by decide) rfl _ _ _⟩
    · rw [hevent.detourBit_eq, detourBit_setDetour hq hq, if_pos rfl]
    · rw [hevent.detourBit_eq, detourBit_setDetour hq hr, if_neg hrq]
  · refine ((leaves_setPort p _ s).mono.andThen (leaves_tallyPortN _ _ _ _)).does (exec_tileHoldExpiry hhold hdue)
      ⟨?_, fun q hqp => ?_⟩
    · rw [tallyPortN_port, State.port_setPort_self, releaseHold]
    · rw [tallyPortN_port, State.port_setPort, if_neg (Ne.symm hqp)]

end Sys2Proof.Machine
end

section
/-! Eligibility and the choice among eligible partners (R218, R219), and the proof of O47. -/
namespace Sys2Proof.Machine

/-- A message and a receive are eligible for each other as R218 says. -/
theorem eligible_iff (room ctx rank tag : Nat) (p : Posted) : eligible room ctx rank tag p = true ↔
    p.room = room ∧ p.ctx = ctx ∧ (p.rank = 0xFFFFFF ∨ p.rank = rank) ∧ (p.anyTag = true ∨ p.tag = tag) := by
  simp only [eligible, Bool.and_eq_true, Bool.or_eq_true, beq_iff_eq, and_assoc]

/-! The element of lowest stamp in a list. -/

/-- The lower of the element chosen so far and the next one; of equals the earlier. -/
def keepLower {α : Type} (stamp : α → Nat) (best : Option α) (a : α) : Option α :=
  match best with
  | some b => if stamp a < stamp b then some a else some b
  | none => some a

/-- The first element of lowest stamp. -/
def lowestOf {α : Type} (stamp : α → Nat) (l : List α) : Option α := l.foldl (keepLower stamp) none

section
variable {α : Type} {stamp : α → Nat} {ok : α → Bool} {l : List α}

/-- Of two elements the one of no higher stamp is kept. -/
theorem keepLower_some (b a : α) :
    ∃ c, keepLower stamp (some b) a = some c ∧ (c = b ∨ c = a) ∧ stamp c ≤ stamp b ∧ stamp c ≤ stamp a := by
  by_cases h : stamp a < stamp b
  · exact ⟨a, if_pos h, .inr rfl, Nat.le_of_lt h, Nat.le_refl _⟩
  · exact ⟨b, if_neg h, .inl rfl, Nat.le_refl _, Nat.le_of_not_lt h⟩

/-- The fold from an element ends at one of lowest stamp among it and the list. -/
theorem foldl_keepLower_some (l : List α) (b : α) :
    ∃ c, l.foldl (keepLower stamp) (some b) = some c ∧ c ∈ b :: l ∧ ∀ e ∈ b :: l, stamp c ≤ stamp e := by
  induction l generalizing b with
  | nil => exact ⟨b, rfl, List.mem_singleton_self b, fun e he => Nat.le_of_eq (by rw [List.mem_singleton.mp he])⟩
  | cons a l ih =>
    obtain ⟨d, hd, horigin, hdb, hda⟩ := keepLower_some (stamp := stamp) b a
    obtain ⟨c, hc, hmem, hlow⟩ := ih d
    have hcd : stamp c ≤ stamp d := hlow d (List.mem_cons_self ..)
    refine ⟨c, by rw [List.foldl_cons, hd, hc], ?_, fun e he => ?_⟩
    · rcases List.mem_cons.mp hmem with rfl | htail
      · rcases horigin with rfl | rfl
        · exact List.mem_cons_self ..
        · exact List.mem_cons_of_mem _ (List.mem_cons_self ..)
      · exact List.mem_cons_of_mem _ (List.mem_cons_of_mem _ htail)
    · rcases List.mem_cons.mp he with rfl | he
      · exact Nat.le_trans hcd hdb
      · rcases List.mem_cons.mp he with rfl | htail
        · exact Nat.le_trans hcd hda
        · exact hlow e (List.mem_cons_of_mem _ htail)

/-- The lowest element is listed, and no other is lower. -/
theorem lowestOf_eq_some {c : α} (h : lowestOf stamp l = some c) : c ∈ l ∧ ∀ e ∈ l, stamp c ≤ stamp e := by
  cases l with
  | nil => cases h
  | cons b l =>
    obtain ⟨d, hd, hmem, hlow⟩ := foldl_keepLower_some (stamp := stamp) l b
    cases (hd.symm.trans h : some d = some c)
    exact ⟨hmem, hlow⟩

/-- Only an empty list has no lowest element. -/
theorem lowestOf_eq_none (h : lowestOf stamp l = none) : l = [] := by
  cases l with
  | nil => rfl
  | cons b l =>
    obtain ⟨d, hd, -, -⟩ := foldl_keepLower_some (stamp := stamp) l b
    cases (hd.symm.trans h : some d = none)

/-- The lowest of the elements that satisfy a test is listed, satisfies it, and no other that does is lower. -/
theorem lowestOf_filter_eq_some {c : α} (h : lowestOf stamp (l.filter ok) = some c) :
    c ∈ l ∧ ok c = true ∧ ∀ e ∈ l, ok e = true → stamp c ≤ stamp e := by
  obtain ⟨hmem, hlow⟩ := lowestOf_eq_some h
  obtain ⟨hl, hok⟩ := List.mem_filter.mp hmem
  exact ⟨hl, hok, fun e he hoke => hlow e (List.mem_filter.mpr ⟨he, hoke⟩)⟩

/-- Where no element is chosen, none satisfies the test. -/
theorem lowestOf_filter_eq_none (h : lowestOf stamp (l.filter ok) = none) : ∀ e ∈ l, ok e = false :=
  fun e he => Bool.eq_false_iff.mpr (List.filter_eq_nil_iff.mp (lowestOf_eq_none h) e he)

end

/-- The receive that a message takes is the first of lowest post stamp among the eligible ones. -/
theorem bestPosted_eq_lowestOf (sel : Posted → Bool) (room ctx rank tag : Nat) (s : State) :
    bestPosted sel room ctx rank tag s
      = lowestOf Posted.stamp (s.crystal.posted.filter (fun p => sel p && eligible room ctx rank tag p)) := by
  unfold bestPosted lowestOf
  congr
  funext b p
  cases b <;> rfl

/-- The message that a receive takes is the first of lowest arrival stamp among those it is eligible for. -/
theorem bestUnexp_eq_lowestOf (sel : Unexp → Bool) (p : Posted) (s : State) :
    bestUnexp sel p s
      = lowestOf Unexp.stamp (s.crystal.unexp.filter (fun u => sel u && eligible u.room u.ctx u.rank u.tag p)) := by
  unfold bestUnexp lowestOf
  congr
  funext b u
  cases b <;> rfl

/-- Settles O47: either choice is a fold that keeps the lower stamp, over the eligible entries of its list. -/
theorem matchingTakesTheOldest : Obligations.MatchingTakesTheOldest := by
  refine ⟨eligible_iff, fun room ctx rank tag p s h => ?_, fun room ctx rank tag s h => ?_, fun p u s h => ?_, fun p s h => ?_⟩
  · rw [bestPosted_eq_lowestOf] at h
    obtain ⟨hmem, hok, hlow⟩ := lowestOf_filter_eq_some h
    obtain ⟨hroom, hctx, hrank, htag⟩ := (eligible_iff ..).mp hok
    exact ⟨hmem, hroom, hctx, hrank, htag, hlow⟩
  · rw [bestPosted_eq_lowestOf] at h
    exact lowestOf_filter_eq_none h
  · rw [bestUnexp_eq_lowestOf] at h
    exact lowestOf_filter_eq_some h
  · rw [bestUnexp_eq_lowestOf] at h
    exact lowestOf_filter_eq_none h

end Sys2Proof.Machine
end

section
/-! The refutation of O48: a receive that ends as its rendezvous get meets a fence lets a room that waits for a context slot take one, and
the fetch of its context is counted (R210, R211, R275). -/
namespace Sys2Proof.Machine

/-- The state with the get at the head of its queue taken (R225). -/
def withHeadGetTaken (rest : List RndvGet) (s : State) : State :=
  modCrystal (fun c => { c with gets := rest ++ c.owed.take 1, owed := c.owed.drop 1 }) s

/-- While host-side work runs and the Sluice has a credit, the get at the head of the queue is issued. -/
theorem exec_rendezvousGetIssue_cons {g : RndvGet} {rest : List RndvGet} {s : State} (hgets : s.crystal.gets = g :: rest)
    (hrun : s.hostStopped = false) (hcredit : segWaits (s.idxOf g.dest) false s = false) :
    exec .rendezvousGetIssue s = .next (issueGet g (withHeadGetTaken rest s)) := by
  show execRendezvousGetIssue s = _
  simp only [execRendezvousGetIssue, hgets, hrun, hcredit, withHeadGetTaken, Bool.or_self, Bool.false_eq_true, if_false]

/-! The counterexample. -/

/-- A receive of room 5 that an announcement of 100 bytes took. -/
def takenReceive : Posted :=
  { room := 5, part := 0, ctx := 1, rank := 6, tag := 4, anyTag := false, addr := 64, len := 100, lkey := 0, cookie := 77,
    pickup := false, silent := false }

/-- The get of its bytes from node 1. -/
def fencedGet : RndvGet :=
  { room := 5, dest := 1, destRoom := 9, keyIdx := 3, keyGen := 2, remote := 4096, msgId := 6, len := 100, recv := some takenReceive,
    rank := 6, ctx := 1, tag := 4, imm := none, total := 100 }

/-- Node 1 is fenced, the receive is all that room 5 has outstanding, and room 9 waits for a context slot. -/
def slotWaitState : State :=
  { State.reset with
    plan := { dims := 1, sizes := [8, 1, 1, 1] }
    fault := { fences := [1] }
    porch := { rooms := [(5, { st := 1, everActive := true, resident := true, outstanding := 1, reserved := 1 })], waitSlot := [9] }
    crystal := { gets := [fencedGet] } }

/-- Context fetches counted for host port 0. -/
def ctxFetches (s : State) : Nat := Tab.get s.count.ctr (ckey Ctr.CTX_FETCH.at_.blk Ctr.CTX_FETCH.at_.slot) 0

theorem ctxFetches_slotWaitState : ctxFetches slotWaitState = 0 := rfl

/-- The get fails at its fenced node, its receive completes, and the context of room 9 is fetched. -/
theorem ctxFetches_after_issue : ctxFetches (issueGet fencedGet (withHeadGetTaken [] slotWaitState)) = 1 := by decide +kernel

/-- Refutes O48: the clause of a get toward a fenced node leaves the counters out of what may change, and does not ask that no request
waits for a context slot, as the clauses of RECV_CANCEL do. In the counterexample room 9 waits. The receive that completes with the get
serves it (R210), and the fetch that begins is counted in CTX_FETCH. -/
theorem not_messagesMeetReceives : ¬ Obligations.MessagesMeetReceives := by
  rintro ⟨-, -, -, -, -, -, -, -, -, -, -, -, -, -, -, -, -, hfenced, -⟩
  have hcredit : segWaits (slotWaitState.idxOf fencedGet.dest) false slotWaitState = false := by decide +kernel
  obtain ⟨t, hexec, -, hkeeps, -⟩ :=
    hfenced fencedGet [] slotWaitState rfl (by decide +kernel) hcredit (by decide +kernel)
  rw [exec_rendezvousGetIssue_cons rfl (by decide +kernel) hcredit] at hexec
  have ht : t = issueGet fencedGet (withHeadGetTaken [] slotWaitState) := (Host.Outcome.next.inj hexec).symm
  have hcount : t.count = slotWaitState.count := hkeeps .count (by decide)
  have hfetches : ctxFetches t = ctxFetches slotWaitState := by simp only [ctxFetches, hcount]
  rw [ht, ctxFetches_after_issue, ctxFetches_slotWaitState] at hfetches
  exact absurd hfetches (by decide)

end Sys2Proof.Machine
end

section
/-! Flows and operations of the Threshold: what a read sees after an update, and what an update that leaves the flows leaves. -/
namespace Sys2Proof.Machine

/-! An update that leaves every flow as it is. -/

/-- What `Leaves` says, and the flow table stays as it is. -/
structure LeavesFlows (parts : List Part) (regs : List Fld) (s t : State) : Prop extends Leaves parts regs s t where
  flows : t.thresh.flows = s.thresh.flows

section
variable {P P' : List Part} {R R' : List Fld} {s t u : State}

theorem Leaves.thresh (h : Leaves P R s t) (hp : Part.thresh ∉ P := by decide) : t.thresh = s.thresh := h.keeps .thresh hp

theorem Leaves.room (h : Leaves P R s t) (r : Nat) (hp : Part.porch ∉ P := by decide) : t.room r = s.room r :=
  congrArg (fun p : PorchSt => Tab.get p.rooms r {}) (h.keeps .porch hp)

theorem Leaves.hostStopped (h : Leaves P R s t) (hlevel : Fld.DEV_FAULT_LEVEL ∉ R := by decide)
    (hbusy : Fld.DEV_FAULT_HOST_RESET_BUSY ∉ R := by decide) : t.hostStopped = s.hostStopped := by
  rw [State.hostStopped, State.hostStopped, State.devLevel, State.devLevel, h.get hlevel, h.flag hbusy]

/-- An update of another part leaves the flows. -/
theorem Leaves.leavesFlows (h : Leaves P R s t) (hp : Part.thresh ∉ P := by decide) : LeavesFlows P R s t :=
  ⟨h, congrArg ThreshSt.flows (h.thresh hp)⟩

theorem LeavesFlows.refl (P : List Part) (R : List Fld) (s : State) : LeavesFlows P R s s := ⟨Leaves.refl P R s, rfl⟩

theorem LeavesFlows.trans (h1 : LeavesFlows P R s t) (h2 : LeavesFlows P R t u) : LeavesFlows P R s u :=
  ⟨h1.toLeaves.trans h2.toLeaves, h2.flows.trans h1.flows⟩

theorem LeavesFlows.mono (h : LeavesFlows P R s t) (hP : ∀ p ∈ P, p ∈ P' := by decide) (hR : ∀ f ∈ R, f ∈ R' := by decide) :
    LeavesFlows P' R' s t := ⟨h.toLeaves.mono hP hR, h.flows⟩

/-- A further update with a frame of its own. -/
theorem LeavesFlows.andThen (h1 : LeavesFlows P R s t) (h2 : LeavesFlows P' R' t u) (hP : ∀ p ∈ P', p ∈ P := by decide)
    (hR : ∀ f ∈ R', f ∈ R := by decide) : LeavesFlows P R s u := h1.trans (h2.mono hP hR)

theorem LeavesFlows.ite {c : Prop} [Decidable c] (h1 : LeavesFlows P R s t) (h2 : LeavesFlows P R s u) :
    LeavesFlows P R s (if c then t else u) := by
  split
  · exact h1
  · exact h2

theorem LeavesFlows.forEach {α : Type} (f : α → State → State) (h : ∀ a s, LeavesFlows P R s (f a s)) (l : List α) (s : State) :
    LeavesFlows P R s (forEach l f s) :=
  forEach_keeps (P := LeavesFlows P R s) f (fun a _ hs => hs.trans (h a _)) l s (LeavesFlows.refl P R s)

theorem LeavesFlows.flow (h : LeavesFlows P R s t) (x : Nat) : t.flow x = s.flow x :=
  congrArg (fun l : Tab Flow => Tab.get l x {}) h.flows

theorem LeavesFlows.outSeg (h : LeavesFlows P R s t) (x q : Nat) : outSeg t x q = outSeg s x q := by
  simp only [Machine.outSeg, h.flow]

end

/-! Tables. -/

theorem Tab.find?_modify {α : Type} (t : Tab α) (k j : Nat) (f : α → α) :
    Tab.find? (Tab.modify t k f) j = if j = k then (Tab.find? t j).map f else Tab.find? t j := by
  induction t with
  | nil => simp [Tab.modify, Tab.find?]
  | cons e r ih =>
    obtain ⟨a, w⟩ := e
    unfold Tab.modify at ih
    by_cases haj : a = j
    · subst haj
      by_cases hak : a = k <;> simp [Tab.modify, Tab.find?, hak]
    · by_cases hak : a = k
      · subst hak
        simpa [Tab.modify, Tab.find?, haj] using ih
      · simpa [Tab.modify, Tab.find?, haj, hak] using ih

/-! Flows. -/

@[simp] theorem State.flow_modSend_self (s : State) (x : Nat) (f : SendSt → SendSt) :
    (s.modSend x f).flow x = { s.flow x with send := f (s.flow x).send } := State.flow_setFlow_self _ _ _

@[simp] theorem State.flow_modRecv_self (s : State) (x : Nat) (f : RecvSt → RecvSt) :
    (s.modRecv x f).flow x = { s.flow x with recv := f (s.flow x).recv } := State.flow_setFlow_self _ _ _

theorem State.flow_setFlow_of_ne {s : State} {x y : Nat} (h : y ≠ x) (f : Flow) : (s.setFlow x f).flow y = s.flow y := by
  rw [State.flow_setFlow, if_neg h.symm]

theorem otherFlows_setFlow (x : Nat) (f : Flow) (s : State) : OtherFlows x s (s.setFlow x f) := fun _ hy => State.flow_setFlow_of_ne hy f

theorem leaves_setFlow (x : Nat) (f : Flow) (s : State) : Leaves [.thresh] [] s (s.setFlow x f) :=
  ⟨rfl, setFlow_keeps _ _ _, setFlow_regs _ _ _ _⟩

theorem leaves_modSend (x : Nat) (f : SendSt → SendSt) (s : State) : Leaves [.thresh] [] s (s.modSend x f) := leaves_setFlow _ _ _

theorem leaves_modRecv (x : Nat) (f : RecvSt → RecvSt) (s : State) : Leaves [.thresh] [] s (s.modRecv x f) := leaves_setFlow _ _ _

/-! The segments that a flow has outstanding. -/

theorem outSeg_seq {s : State} {x q : Nat} {g : Seg} (h : outSeg s x q = some g) : g.seq = q := by
  simpa using List.find?_some h

/-- A change that keeps the sequence number is seen by a read of the segment. -/
theorem outSeg_modOut {s : State} {x q : Nat} {f : Seg → Seg} (hf : ∀ g, g.seq = q → (f g).seq = q) :
    outSeg (modOut x q f s) x q = (outSeg s x q).map f := by
  have hseq : ((fun g : Seg => g.seq == q) ∘ fun g => if g.seq = q then f g else g) = fun g => g.seq == q := by
    funext g
    by_cases hg : g.seq = q
    · simp [hg, hf g hg]
    · simp [hg]
  unfold outSeg modOut
  simp only [State.flow_modSend_self, List.find?_map, hseq]
  cases hfind : (s.flow x).send.out.find? (fun g => g.seq == q) with
  | none => rfl
  | some g =>
    have hg : g.seq = q := by simpa using List.find?_some hfind
    simp [hg]

theorem outSeg_dropOut (s : State) (x q : Nat) : outSeg (dropOut x q s) x q = none := by
  simp [outSeg, dropOut, List.find?_filter]

/-! Operations. -/

theorem leaves_modThresh (f : ThreshSt → ThreshSt) (s : State) : Leaves [.thresh] [] s (modThresh f s) := leaves_thresh _ _

theorem leaves_modOp (i : Nat) (f : OpSt → OpSt) (s : State) : Leaves [.thresh] [] s (modOp i f s) := leaves_thresh _ _

theorem State.op_modOp_self (s : State) (i : Nat) (f : OpSt → OpSt) : (modOp i f s).op i = (s.op i).map f := by
  simp [State.op, modOp, modThresh, Tab.find?_modify]

@[simp] theorem State.op_modSend (s : State) (x i : Nat) (f : SendSt → SendSt) : (s.modSend x f).op i = s.op i := rfl

/-- An update of the Threshold beside its flows. -/
theorem leavesFlows_modThresh {f : ThreshSt → ThreshSt} (s : State) (h : (f s.thresh).flows = s.thresh.flows := by rfl) :
    LeavesFlows [.thresh] [] s (modThresh f s) := ⟨leaves_modThresh _ _, h⟩

theorem leavesFlows_modOp (i : Nat) (f : OpSt → OpSt) (s : State) : LeavesFlows [.thresh] [] s (modOp i f s) := leavesFlows_modThresh s

end Sys2Proof.Machine
end

section
/-! Operations that end: what their ends leave (R194 to R207, R225 to R227, R268). -/
namespace Sys2Proof.Machine

/-- The parts that the end of an operation may change. -/
def endParts : List Part := [.thresh, .out, .porch, .count]

/-! Rooms: slots, bytes and receives. -/

theorem leaves_modRoom (r : Nat) (f : Room → Room) (s : State) : Leaves [.porch] [] s (s.modRoom r f) :=
  ⟨rfl, modRoom_keeps _ _ _, modRoom_regs _ _ _ _⟩

theorem leaves_porch (x : PorchSt) (s : State) : Leaves [.porch] [] s { s with porch := x } :=
  Leaves.of_part rfl rfl fun p hp => by
    cases p with
    | porch => exact absurd rfl hp
    | _ => rfl

theorem leaves_serveSlots (s : State) : Leaves [.out, .porch, .count] countRegs s (serveSlots s) :=
  ⟨serveSlots_pending _, serveSlots_keeps _, serveSlots_regs _⟩

theorem leaves_complete (r : Nat) (c : Cmpl) (slot silent : Bool) (s : State) :
    Leaves [.out, .porch, .count] countRegs s (complete r c slot silent s) :=
  ⟨complete_pending _ _ _ _ _, complete_keeps _ _ _ _ _, complete_regs _ _ _ _ _⟩

theorem leaves_sendMsix (h v : Nat) (s : State) : Leaves [.out, .porch] [] s (sendMsix h v s) :=
  ⟨sendMsix_pending _ _ _, sendMsix_keeps _ _ _, sendMsix_regs _ _ _ _⟩

theorem leaves_lbReturn (r n : Nat) (s : State) : Leaves [.out, .porch, .count] countRegs s (lbReturn r n s) :=
  (((leaves_modRoom _ _ s).andThen (leaves_porch _ _)).mono).andThen (leaves_serveSlots _)

theorem leaves_pickReturn (r n : Nat) (s : State) : Leaves [.out, .porch, .count] countRegs s (pickReturn r n s) :=
  (((leaves_modRoom _ _ s).andThen (leaves_porch _ _)).mono).andThen (leaves_serveSlots _)

theorem leaves_endRecv (p : Posted) (c : Cmpl) (s : State) : Leaves [.out, .porch, .count] countRegs s (endRecv p c s) := by
  unfold endRecv
  extract_lets s1
  have h1 : Leaves [.out, .porch, .count] countRegs s s1 := by
    show Leaves _ _ s (if _ then _ else _)
    split
    · exact leaves_pickReturn _ _ _
    · exact Leaves.refl _ _ _
  exact (h1.andThen (leaves_modRoom _ _ _)).andThen (leaves_complete _ _ _ _ _)

theorem leaves_showPickup (p : Posted) (c : Cmpl) (bytes : List Nat) (s : State) :
    Leaves [.out, .porch, .count] countRegs s (showPickup p c bytes s) := by
  unfold showPickup
  extract_lets r s1 body s2
  have h1 : Leaves [.out, .porch, .count] countRegs s s1 := (leaves_modRoom _ _ s).mono
  have h2 : Leaves [.out, .porch, .count] countRegs s s2 := h1.andThen (leaves_modRoom _ _ _)
  split
  · exact h1.andThen (leaves_pickReturn _ _ _)
  · split
    · exact h2.andThen (leaves_sendMsix _ _ _)
    · exact h2

theorem leaves_finishRecv (p : Posted) (c : Cmpl) (pick : List Nat) (s : State) :
    Leaves [.out, .porch, .count] countRegs s (finishRecv p c pick s) := by
  unfold finishRecv
  split
  · exact leaves_showPickup _ _ _ _
  · exact leaves_endRecv _ _ _

/-! Operations. -/

theorem leavesFlows_tryFinish (i : Nat) (s : State) : LeavesFlows endParts countRegs s (tryFinish i s) := by
  unfold tryFinish
  cases s.op i with
  | none => exact LeavesFlows.refl _ _ _
  | some o =>
    dsimp only
    have h0 : LeavesFlows endParts countRegs s (match o.lb with | some ws => lbReturn o.room (packetBytes ws) s | none => s) := by
      cases o.lb with
      | none => exact LeavesFlows.refl _ _ _
      | some ws => exact (leaves_lbReturn _ _ _).leavesFlows.mono
    have h1 := h0.andThen (leavesFlows_modThresh (f := fun t => { t with ops := Tab.del t.ops i }) _)
    refine (LeavesFlows.refl _ _ _).ite (h1.ite (LeavesFlows.ite ?_ (h1.andThen (leaves_completeWork _ _ _ _).leavesFlows)))
    cases o.recv with
    | none => exact h1
    | some p => exact h1.andThen (leaves_finishRecv _ _ _ _).leavesFlows

theorem leavesFlows_failOff (i off status aux : Nat) (s : State) : LeavesFlows [.thresh] [] s (failOff i off status aux s) :=
  leavesFlows_modOp _ _ _

theorem leavesFlows_doneOff (i off : Nat) (s : State) : LeavesFlows [.thresh] [] s (doneOff i off s) := leavesFlows_modOp _ _ _

theorem leavesFlows_dropResponse (i : Nat) (s : State) : LeavesFlows [.thresh] [] s (dropResponse i s) := by
  unfold dropResponse
  cases s.op i with
  | none => exact LeavesFlows.refl _ _ _
  | some o => exact LeavesFlows.ite (leavesFlows_modThresh s) (LeavesFlows.refl _ _ _)

theorem leavesFlows_responseEnds (o : OpSt) (off : Nat) (fail : Option (Nat × Nat)) (s : State) :
    LeavesFlows endParts countRegs s (responseEnds o off fail s) := by
  unfold responseEnds
  cases o.answers with
  | none => exact LeavesFlows.refl _ _ _
  | some request =>
    obtain ⟨peer, msg⟩ := request
    refine LeavesFlows.ite ((LeavesFlows.refl _ _ _).ite (leavesFlows_modThresh s).mono) (LeavesFlows.ite ?_ (LeavesFlows.refl _ _ _))
    cases rndvSendOf s peer msg with
    | none => exact LeavesFlows.refl _ _ _
    | some i =>
      cases fail with
      | none => exact ((leavesFlows_doneOff _ _ _).mono).trans (leavesFlows_tryFinish _ _)
      | some status => exact ((leavesFlows_failOff _ _ _ _ _).mono).trans (leavesFlows_tryFinish _ _)

/-- A segment that fails ends no more than its operation, and the operation it serves. -/
theorem leavesFlows_segFailed (g : Seg) (status aux : Nat) (final : Bool) (s : State) :
    LeavesFlows endParts countRegs s (segFailed g status aux final s) := by
  have hone : ∀ off, LeavesFlows endParts countRegs s (tryFinish g.opId (failOff g.opId off status aux s)) := fun off =>
    ((leavesFlows_failOff _ _ _ _ _).mono).trans (leavesFlows_tryFinish _ _)
  have hrun : ∀ l : List Nat,
      LeavesFlows endParts countRegs s (tryFinish g.opId (forEach l (fun k a => failOff g.opId k status aux a) s)) := fun l =>
    ((LeavesFlows.forEach _ (fun k a => leavesFlows_failOff g.opId k status aux a) l s).mono).trans (leavesFlows_tryFinish _ _)
  unfold segFailed
  cases s.op g.opId with
  | none => exact LeavesFlows.refl _ _ _
  | some o =>
    dsimp only
    cases o.kind with
    | send | put => exact hone _
    | rndvSend => exact hone _
    | get | rndvGet | zeroGet | atomic => exact hrun _
    | response =>
      exact ((leavesFlows_responseEnds _ _ _ _).ite (LeavesFlows.refl _ _ _)).andThen (leavesFlows_dropResponse _ _)

end Sys2Proof.Machine
end

section
/-! The completion of a work entry where nothing is uncertain: the room, the entry written, the operation gone (R194 to R198, R268). -/
namespace Sys2Proof.Machine

/-! A completion entry (R197). -/

@[simp] theorem sendMsix_room (h v : Nat) (s : State) (r : Nat) : (sendMsix h v s).room r = s.room r := by
  unfold sendMsix
  dsimp only
  split
  · split <;> rfl
  · rfl

@[simp] theorem sendMsix_waitSlot (h v : Nat) (s : State) : (sendMsix h v s).porch.waitSlot = s.porch.waitSlot := by
  unfold sendMsix
  dsimp only
  split
  · split <;> rfl
  · rfl

/-- The room after its completion entry. -/
def Room.entryWritten (r : Room) : Room :=
  { r with written := (r.written + 1) % 2 ^ 32, dirty := true, armed := r.armed && !r.cmplNotify }

theorem leaves_writeEntry (r : Nat) (c : Cmpl) (s : State) : Leaves [.out, .porch] [] s (writeEntry r c s) :=
  ⟨writeEntry_pending _ _ _, writeEntry_keeps _ _ _, writeEntry_regs _ _ _ _⟩

theorem room_writeEntry (r : Nat) (c : Cmpl) (s : State) (q : Nat) :
    (writeEntry r c s).room q = if r = q then (s.room r).entryWritten else s.room q := by
  rw [← State.room_setRoom]
  unfold writeEntry
  dsimp only
  split <;> split <;> simp <;> rfl

theorem waitSlot_writeEntry (r : Nat) (c : Cmpl) (s : State) : (writeEntry r c s).porch.waitSlot = s.porch.waitSlot := by
  unfold writeEntry
  dsimp only
  split <;> split <;> simp <;> rfl

/-- In the mode that takes it, an entry with no notice leaves as one write at the ring's next place. -/
theorem head_writeEntry {r : Nat} {s : State} (hmode : s.flag .HPORT_STAT_MODE (s.room r).hport = true)
    (hquiet : (s.room r).cmplNotify = false) (c : Cmpl) :
    (writeEntry r c s).out.head? = some (.hostWrite (s.room r).hport
      ((s.room r).cmplBase + 32 * ((s.room r).written % (s.room r).cmplSize)) (c.words (phaseOf (s.room r).written (s.room r).cmplSize))) := by
  unfold writeEntry
  simp [hmode, hquiet]

/-! A completion (R213, R455). -/

theorem serveSlots_of_noneWaits {s : State} (h : NoneWaits s) : serveSlots s = s := by
  simp only [serveSlots, h]

/-- A completion of a certain room that is ACTIVE writes its entry. -/
theorem complete_of_certain {r : Nat} {s : State} (hrun : s.hostStopped = false) (hcertain : Certain r s) (hst : (s.room r).st = 1)
    (c : Cmpl) (slot : Bool) :
    complete r c slot false s = writeEntry r c (s.modRoom r (fun q => { q with reserved := q.reserved - b2n slot })) := by
  obtain ⟨hrisk, hnone⟩ := hcertain
  have hrun1 : (s.modRoom r (fun q => { q with reserved := q.reserved - b2n slot })).hostStopped = false :=
    ((leaves_modRoom _ _ _).hostStopped).trans hrun
  have hnone1 : NoneWaits (writeEntry r c (s.modRoom r (fun q => { q with reserved := q.reserved - b2n slot }))) :=
    (waitSlot_writeEntry _ _ _).trans hnone
  have hroom : (s.modRoom r (fun q => { q with reserved := q.reserved - b2n slot })).room r
      = { s.room r with reserved := (s.room r).reserved - b2n slot } := State.room_setRoom_self _ _ _
  simp [complete, hrun1, hroom, hst, hrisk, serveSlots_of_noneWaits hnone1]

/-- The state with a work entry of a room no longer outstanding, and its slot released. -/
def entryReleased (r : Nat) (s : State) : State :=
  (s.modRoom r (fun q => { q with outstanding := q.outstanding - 1 })).modRoom r (fun q => { q with reserved := q.reserved - 1 })

theorem leaves_entryReleased (r : Nat) (s : State) : Leaves [.porch] [] s (entryReleased r s) :=
  (leaves_modRoom _ _ s).trans (leaves_modRoom _ _ _)

theorem room_entryReleased_self (r : Nat) (s : State) : (entryReleased r s).room r
    = { s.room r with outstanding := (s.room r).outstanding - 1, reserved := (s.room r).reserved - 1 } := by
  simp [entryReleased, State.modRoom]

theorem room_entryReleased_of_ne {r q : Nat} (h : q ≠ r) (s : State) : (entryReleased r s).room q = s.room q := by
  simp [entryReleased, State.modRoom, State.room_setRoom, h.symm]

theorem completeWork_of_certain {r : Nat} {e : List Word} {s : State} (hrun : s.hostStopped = false) (hcertain : Certain r s)
    (hst : (s.room r).st = 1) (hloud : weSilent e = false) (c : Cmpl) : completeWork r e c s = writeEntry r c (entryReleased r s) := by
  have hrun1 : (s.modRoom r (fun q => { q with outstanding := q.outstanding - 1 })).hostStopped = false :=
    ((leaves_modRoom _ _ _).hostStopped).trans hrun
  have hroom : (s.modRoom r (fun q => { q with outstanding := q.outstanding - 1 })).room r
      = { s.room r with outstanding := (s.room r).outstanding - 1 } := State.room_setRoom_self _ _ _
  have hcertain1 : Certain r (s.modRoom r (fun q => { q with outstanding := q.outstanding - 1 })) :=
    ⟨(congrArg Room.risk hroom).trans hcertain.1, hcertain.2⟩
  rw [completeWork, hloud, complete_of_certain hrun1 hcertain1 ((congrArg Room.st hroom).trans hst)]
  rfl

/-- A work entry of a certain, ACTIVE room completes. -/
theorem entryEnds_writeEntry (r : Nat) (c : Cmpl) (s : State) : EntryEnds r c s (writeEntry r c (entryReleased r s)) := by
  have hroom := room_entryReleased_self r s
  have hself : (writeEntry r c (entryReleased r s)).room r = ((entryReleased r s).room r).entryWritten :=
    (room_writeEntry _ _ _ _).trans (if_pos rfl)
  refine ⟨?_, ?_, ?_, fun q hq => ?_, fun hmode hquiet => ?_⟩
  · simp [hself, hroom, Room.entryWritten]
  · simp [hself, hroom, Room.entryWritten]
  · simp [hself, hroom, Room.entryWritten]
  · rw [room_writeEntry, if_neg hq.symm, room_entryReleased_of_ne hq]
  · have hmode1 : (entryReleased r s).flag .HPORT_STAT_MODE ((entryReleased r s).room r).hport = true := by
      rw [hroom]
      exact hmode
    have hquiet1 : ((entryReleased r s).room r).cmplNotify = false := by
      rw [hroom]
      exact hquiet
    rw [head_writeEntry hmode1 hquiet1, hroom]
    rfl

/-! An operation that is settled (R268). -/

/-- An operation that completes its work entry, and holds no Letterbox packet. -/
structure OpSt.EndsEntry (o : OpSt) : Prop where
  kind : o.kind ∈ [OpKind.send, .put, .get, .atomic]
  lb : o.lb = none

/-- What a work entry's completion asks of the state for its effect to be certain: host-side work runs, its room is certain and ACTIVE,
and it is not silent. -/
structure EntryShows (o : OpSt) (s : State) : Prop where
  run : s.hostStopped = false
  certain : Certain o.room s
  active : (s.room o.room).st = 1
  loud : weSilent o.entry = false

/-- Operation `i` has ended, with completion `c` of a work entry of room `r`. -/
structure OpEnds (i r : Nat) (c : Cmpl) (s t : State) : Prop extends LeavesFlows [.thresh, .porch, .out] [] s t where
  op : t.op i = none
  entry : EntryEnds r c s t

/-- An update of the Threshold before the completion. -/
theorem entryEnds_after {r : Nat} {c : Cmpl} {s a t : State} (h : EntryEnds r c a t) (hbefore : Leaves [.thresh] [] s a) :
    EntryEnds r c s t := by
  obtain ⟨hwritten, houtstanding, hreserved, hothers, hout⟩ := h
  have hroom : a.room r = s.room r := hbefore.room r
  have hflag : a.flag .HPORT_STAT_MODE (s.room r).hport = s.flag .HPORT_STAT_MODE (s.room r).hport := hbefore.flag
  rw [hroom] at hwritten houtstanding hreserved hout
  rw [hflag] at hout
  exact ⟨hwritten, houtstanding, hreserved, fun q hq => (hothers q hq).trans (hbefore.room q), hout⟩

/-- An update of the Threshold beside its flows before the end. -/
theorem OpEnds.after {i r : Nat} {c : Cmpl} {s a t : State} (h : OpEnds i r c a t) (hbefore : LeavesFlows [.thresh] [] s a) :
    OpEnds i r c s t :=
  ⟨hbefore.mono.trans h.toLeavesFlows, h.op, entryEnds_after h.entry hbefore.toLeaves⟩

theorem EntryShows.of_leaves {o p : OpSt} {P : List Part} {R : List Fld} {s t : State} (h : EntryShows o s) (hleaves : Leaves P R s t)
    (hroom : p.room = o.room := by rfl) (hentry : p.entry = o.entry := by rfl) (hP : Part.porch ∉ P := by decide)
    (hlevel : Fld.DEV_FAULT_LEVEL ∉ R := by decide) (hbusy : Fld.DEV_FAULT_HOST_RESET_BUSY ∉ R := by decide) : EntryShows p t where
  run := (hleaves.hostStopped hlevel hbusy).trans h.run
  certain := by
    obtain ⟨hrisk, hnone⟩ := h.certain
    have hporch : t.porch = s.porch := hleaves.keeps .porch hP
    rw [hroom]
    exact ⟨(congrArg Room.risk (hleaves.room _ hP)).trans hrisk, (congrArg PorchSt.waitSlot hporch).trans hnone⟩
  active := by rw [hroom, hleaves.room _ hP, h.active]
  loud := by rw [hentry, h.loud]

/-- A settled operation ends, and its entry completes with its outcome. -/
theorem opEnds_tryFinish {i : Nat} {o : OpSt} {s : State} {st len fo aux : Nat} (hop : s.op i = some o) (hends : o.EndsEntry)
    (hsettled : o.settled = true) (houtcome : o.outcome = (st, len, fo, aux)) (hshows : EntryShows o s) :
    OpEnds i o.room { statusOf o.entry st aux with len := len, fail := fo } s (tryFinish i s) := by
  obtain ⟨hkind, hlb⟩ := hends
  have hgone : LeavesFlows [.thresh] [] s (modThresh (fun t => { t with ops := Tab.del t.ops i }) s) := leavesFlows_modThresh s
  have hshows1 : EntryShows o (modThresh (fun t => { t with ops := Tab.del t.ops i }) s) := hshows.of_leaves hgone.toLeaves
  have hfinish : tryFinish i s = completeWork o.room o.entry { statusOf o.entry st aux with len := len, fail := fo }
      (modThresh (fun t => { t with ops := Tab.del t.ops i }) s) := by
    have hnot : o.kind ≠ .response ∧ o.kind ≠ .zeroGet ∧ o.kind ≠ .rndvGet := by
      simp only [List.mem_cons, List.not_mem_nil, or_false] at hkind
      rcases hkind with h | h | h | h <;> simp [h]
    obtain ⟨hresponse, hzero, hrndv⟩ := hnot
    simp [tryFinish, hop, hsettled, hlb, houtcome, hresponse, hzero, hrndv]
  rw [hfinish, completeWork_of_certain hshows1.run hshows1.certain hshows1.active hshows1.loud]
  have hwrite : Leaves [.porch, .out] [] (modThresh (fun t => { t with ops := Tab.del t.ops i }) s)
      (writeEntry o.room { statusOf o.entry st aux with len := len, fail := fo }
        (entryReleased o.room (modThresh (fun t => { t with ops := Tab.del t.ops i }) s))) :=
    ((leaves_entryReleased _ _).mono).andThen (leaves_writeEntry _ _ _)
  refine OpEnds.after ⟨hwrite.leavesFlows.mono, ?_, entryEnds_writeEntry _ _ _⟩ hgone
  have hops : Tab.find? (Tab.del s.thresh.ops i) i = none := (Tab.find?_del _ _ _).trans (if_pos rfl)
  rw [State.op, hwrite.thresh]
  exact hops

/-! Operations that fail whole. -/

theorem segCount_pos (len : Nat) : 0 < segCount len := by
  unfold segCount ceilDiv
  split <;> omega

theorem segCount_of_le {len : Nat} (h : len ≤ 4096) : segCount len = 1 := by
  unfold segCount ceilDiv
  split <;> omega

/-- The lowest failure is one of them. -/
theorem OpSt.lowest_mem {o : OpSt} (h : o.fails ≠ []) : o.lowest ∈ o.fails := by
  unfold OpSt.lowest
  match hf : o.fails with
  | [] => exact absurd hf h
  | a :: r =>
    refine List.foldlRecOn (motive := fun b => b ∈ a :: r) r _ List.mem_cons_self fun b hb f hmem => ?_
    split
    · exact List.mem_cons_of_mem _ hmem
    · exact hb

/-- An operation of which nothing was delivered ends with the status of its failures. -/
theorem OpSt.outcome_of_failed {o : OpSt} {st aux : Nat} (hdone : o.done = []) (hsome : o.fails ≠ [])
    (hall : ∀ f ∈ o.fails, f.2 = (st, aux)) (hst : st ≠ stFenced) : o.outcome = (st, 0, 0, aux) := by
  have hlow : o.lowest.2 = (st, aux) := hall _ (lowest_mem hsome)
  have hopen : o.fails.any (fun f => f.2.1 == stFenced) = false := by
    rw [List.any_eq_false]
    intro f hf
    simp [hall f hf, hst]
  simp [OpSt.outcome, hsome, hopen, hdone, hlow]

/-- An operation is settled once every offset has failed. -/
theorem OpSt.settled_of_failed {o : OpSt} (hends : o.EndsEntry) (hall : ∀ k < o.offsets, ∃ f ∈ o.fails, f.1 = k) : o.settled = true := by
  have hkind : o.kind ≠ .rndvSend := fun h => absurd hends.kind (by simp [h])
  rw [OpSt.settled, if_neg (by simp [hkind])]
  simp only [List.all_eq_true, List.mem_range]
  intro k hk
  obtain ⟨f, hf, hfk⟩ := hall k hk
  simp only [Bool.or_eq_true, List.any_eq_true]
  exact .inr ⟨f, hf, by simp [hfk]⟩

/-- The operation with every offset of a list failed. -/
def OpSt.failedAt (o : OpSt) (offs : List Nat) (st aux : Nat) : OpSt :=
  { o with fails := o.fails ++ offs.map (fun k => (k, st, aux)) }

/-- An operation of which nothing was delivered and nothing had failed, failed at every offset, ends with that status. -/
theorem opEnds_tryFinish_of_failedAt {i : Nat} {o : OpSt} {s : State} {offs : List Nat} {st aux : Nat}
    (hop : s.op i = some (o.failedAt offs st aux)) (hends : o.EndsEntry) (hdone : o.done = []) (hfails : o.fails = [])
    (hall : ∀ k < o.offsets, k ∈ offs) (hst : st ≠ stFenced) (hshows : EntryShows o s) :
    OpEnds i o.room (statusOf o.entry st aux) s (tryFinish i s) := by
  have hlist : (o.failedAt offs st aux).fails = offs.map (fun k => (k, st, aux)) := by simp [OpSt.failedAt, hfails]
  have hends1 : (o.failedAt offs st aux).EndsEntry := ⟨hends.kind, hends.lb⟩
  have hsome : (o.failedAt offs st aux).fails ≠ [] := by
    have hzero : (0 : Nat) ∈ offs := hall 0 (segCount_pos _)
    rw [hlist]
    exact fun h => List.not_mem_nil (List.map_eq_nil_iff.mp h ▸ hzero)
  have hsettled : (o.failedAt offs st aux).settled = true := OpSt.settled_of_failed hends1 fun k hk =>
    ⟨(k, st, aux), hlist ▸ List.mem_map_of_mem (f := fun k => (k, st, aux)) (hall k hk), rfl⟩
  have houtcome : (o.failedAt offs st aux).outcome = (st, 0, 0, aux) := by
    refine OpSt.outcome_of_failed hdone hsome (fun f hf => ?_) hst
    rw [hlist, List.mem_map] at hf
    obtain ⟨k, -, rfl⟩ := hf
    rfl
  have h := opEnds_tryFinish hop hends1 hsettled houtcome (hshows.of_leaves (Leaves.refl [] [] s))
  exact h

theorem op_failOff {i off st aux : Nat} {o : OpSt} {s : State} (hop : s.op i = some o) (hdone : o.done = [])
    (hnew : ∀ f ∈ o.fails, f.1 ≠ off) : (failOff i off st aux s).op i = some (o.failedAt [off] st aux) := by
  have hany : o.fails.any (fun f => f.1 == off) = false := by
    rw [List.any_eq_false]
    intro f hf
    simp [hnew f hf]
  simp [failOff, State.op_modOp_self, hop, hdone, hany, OpSt.failedAt]

/-- Offsets that fail one after the other. -/
theorem op_forEach_failOff {i st aux : Nat} {l : List Nat} (hl : l.Nodup) {o : OpSt} {s : State} (hop : s.op i = some o)
    (hdone : o.done = []) (hnew : ∀ k ∈ l, ∀ f ∈ o.fails, f.1 ≠ k) :
    (forEach l (fun k a => failOff i k st aux a) s).op i = some (o.failedAt l st aux) := by
  induction l generalizing o s with
  | nil => simpa [forEach, OpSt.failedAt] using hop
  | cons k l ih =>
    obtain ⟨hk, hl⟩ := List.nodup_cons.mp hl
    have hone := op_failOff (st := st) (aux := aux) hop hdone (hnew k List.mem_cons_self)
    have hrest : (o.failedAt [k] st aux).failedAt l st aux = o.failedAt (k :: l) st aux := by simp [OpSt.failedAt]
    rw [← hrest]
    refine ih hl hone hdone fun j hj f hf => ?_
    rcases List.mem_append.mp hf with hf | hf
    · exact hnew j (List.mem_cons_of_mem _ hj) f hf
    · rw [List.mem_singleton.mp hf]
      exact fun hkj => hk ((show k = j from hkj) ▸ hj)

/-- A segment that is the whole of its SEND or PUT fails, and its operation ends with the status. -/
theorem opEnds_segFailed {g : Seg} {o : OpSt} {s : State} {st aux : Nat} (hop : s.op g.opId = some o)
    (hkind : o.kind = .send ∨ o.kind = .put) (hdone : o.done = []) (hfails : o.fails = []) (hlen : o.len ≤ 4096)
    (hoff : leadOff g.lead = 0) (hlb : o.lb = none) (hst : st ≠ stFenced) (hshows : EntryShows o s) (final : Bool) :
    OpEnds g.opId o.room (statusOf o.entry st aux) s (segFailed g st aux final s) := by
  have hseg : segFailed g st aux final s = tryFinish g.opId (failOff g.opId 0 st aux s) := by
    rcases hkind with h | h <;> simp [segFailed, hop, h, hoff]
  have hends : o.EndsEntry := ⟨by rcases hkind with h | h <;> simp [h], hlb⟩
  have hone : o.offsets = 1 := by
    rcases hkind with h | h <;> simp [OpSt.offsets, OpSt.bytes, h, segCount_of_le hlen]
  have hfail : LeavesFlows [.thresh] [] s (failOff g.opId 0 st aux s) := leavesFlows_failOff _ _ _ _ _
  rw [hseg]
  refine (opEnds_tryFinish_of_failedAt (op_failOff hop hdone (by simp [hfails])) hends hdone hfails (fun k hk => ?_) hst
    (hshows.of_leaves hfail.toLeaves)).after hfail
  rw [hone, Nat.lt_one_iff] at hk
  exact List.mem_singleton.mpr hk

end Sys2Proof.Machine
end

section
/-! Segments that are sent again or fail their operation (R258 to R262), and the proof of O53. -/
namespace Sys2Proof.Machine

/-! What the shared operations of these commands leave. -/

theorem leaves_inject (n : Nat) (cs : List Cell) (s : State) (pin : Bool) (lb : Option Nat) :
    Leaves [.hall] [] s (inject n cs s pin lb) := (spares_inject n cs s pin lb).toLeaves

theorem leaves_draw (s : State) : Leaves [] [] s (draw s).2 := ⟨rfl, draw_keeps _ _, OnlyRegs.of_fld (draw_fld s)⟩

theorem leaves_forEach {α : Type} {P : List Part} {R : List Fld} (f : α → State → State) (h : ∀ a s, Leaves P R s (f a s)) (l : List α)
    (s : State) : Leaves P R s (forEach l f s) :=
  forEach_keeps (P := Leaves P R s) f (fun a _ hs => hs.trans (h a _)) l s (Leaves.refl P R s)

/-- The fields of a suspect observation. -/
def suspectRegs : List Fld := ([.SUSPECT_EVENTS_SENT, .SUSPECT_EVENTS_DROPPED] : List Fld) ++ countRegs

theorem leaves_sendSuspect (e : Suspect) (kind : Nat) (s : State) :
    Leaves [.fault, .hall, .count, .out, .porch] suspectRegs s (sendSuspect e kind s) := by
  unfold sendSuspect
  extract_lets body
  split
  · exact (((leaves_inject _ _ s _ _).mono).andThen (leaves_tally _ _ _)).andThen (leaves_event _ _ _ _)
  · exact (leaves_tally _ _ _).mono

theorem leaves_observeAgain (i : Nat) (e : Suspect) (kind : Nat) (room : Option Nat) (port cause : Nat) (s : State) :
    Leaves [.fault, .hall, .count, .out, .porch] suspectRegs s (observeAgain i e kind room port cause s) := by
  unfold observeAgain
  extract_lets rooms e1 e2
  split
  · exact ((leaves_fault _ s).mono).trans (leaves_sendSuspect _ _ _)
  · exact (leaves_fault _ s).mono

theorem leaves_suspectObserve (kind x : Nat) (room : Option Nat) (port cause : Nat) (s : State) :
    Leaves [.fault, .hall, .count, .out, .porch] suspectRegs s (suspectObserve kind x room port cause s) := by
  unfold suspectObserve
  cases List.find? (fun e => e.2.node == x) s.fault.suspects with
  | some found => exact leaves_observeAgain _ _ _ _ _ _ _
  | none =>
    cases suspectSlot s with
    | none => exact ((leaves_tally _ _ _).mono).andThen (leaves_event _ _ _ _)
    | some i =>
      dsimp only
      have h1 : Leaves [.fault, .hall, .count, .out, .porch] suspectRegs s
          { s with fault := { s.fault with suspectNo := s.fault.suspectNo + 1 } } := (leaves_fault _ s).mono
      split
      · exact (h1.andThen (leaves_fault _ _)).trans (leaves_sendSuspect _ _ _)
      · exact (h1.andThen (leaves_draw _)).andThen (leaves_fault _ _)

/-- A segment's cells go to the Hall, or the reads of its payload to the host. -/
theorem leavesFlows_launch (g : Seg) (s : State) : LeavesFlows [.thresh, .hall, .out] [] s (launch g s) := by
  unfold launch
  cases g.data with
  | none_ => exact (leaves_inject _ _ _ _ _).leavesFlows.mono
  | words ws => exact (leaves_inject _ _ _ _ _).leavesFlows.mono
  | host h pages =>
    refine (LeavesFlows.refl _ _ _).ite ?_
    have hreads : LeavesFlows [.thresh, .hall, .out] [] s (modThresh (fun t => { t with
        nextTag := s.thresh.nextTag + 1, reads := Tab.put t.reads s.thresh.nextTag (.payload g.peer g.seq g.epoch) }) s) :=
      (leavesFlows_modThresh s).mono
    exact hreads.andThen (leaves_forEach _ (fun _ _ => leaves_emit _ _) pages _).leavesFlows

/-! NACK cells (R260 to R262). -/

/-- A single cell of the return path that is used acts. -/
theorem useSingle_of_used {ty x : Nat} {c : Cell} {s : State} {p : Cell → Bool} (hused : Used ty x c s) (hp : p c = true)
    (act : Nat → Cell → State → State) : useSingle p (some c) act s = act x c s := by
  obtain ⟨-, hcheck, hrun, rfl⟩ := hused
  simp [useSingle, takeIf, hp, hrun, ← hcheck]

/-- A segment that was answered NOT_READY waits for its hint (R262). -/
def Seg.notReady (hint now : Nat) (g : Seg) : Seg := { g with timerAt := none, hint := some hint, resendAt := some (now + hint * 1000) }

/-- NOT_READY of a segment of the send epoch: it is counted, and the segment waits for its hint. -/
theorem exec_nackNotReadyArrival {x : Nat} {c : Cell} {s : State} (hused : Used tyNack x c s) (hcode : nackCode c = 1)
    (hmine : nackMine s x c = true) (hreq : wf_ c.body 0 17 1 = 0) :
    exec (.nackNotReadyArrival (some c)) s
      = .next (modOut x c.seq (Seg.notReady (wf_ c.body 0 48 16) s.now) (tally .NOT_READY_RCVD s)) := by
  have hact : nackNotReady x c s = modOut x c.seq (Seg.notReady (wf_ c.body 0 48 16) s.now) (tally .NOT_READY_RCVD s) := by
    simp only [nackNotReady, hmine, hreq]
    rfl
  exact congrArg Host.Outcome.next ((useSingle_of_used hused (by simp [hused.1, hcode]) nackNotReady).trans hact)

theorem exec_nackFinalArrival {x : Nat} {c : Cell} {s : State} (hused : Used tyNack x c s) (h1 : nackCode c ≠ 1) (h11 : nackCode c ≠ 11) :
    exec (.nackFinalArrival (some c)) s = .next (nackFinal x c s) :=
  congrArg Host.Outcome.next (useSingle_of_used hused (by simp [hused.1, h1, h11]) nackFinal)

/-- The state with a confirmation of a segment pending (R261). -/
def confPending (x q : Nat) (s : State) : State := armConf x (s.modSend x (fun f => { f with conf := f.conf ++ [q] }))

theorem leaves_armConf (x : Nat) (s : State) : Leaves [.thresh] [] s (armConf x s) := leaves_modRecv _ _ _

theorem leaves_confPending (x q : Nat) (s : State) : Leaves [.thresh] [] s (confPending x q s) :=
  (leaves_modSend _ _ s).trans (leaves_armConf _ _)

/-- A final NACK ends its segment, which is confirmed. -/
theorem nackFinal_of_mine {x : Nat} {c : Cell} {g : Seg} {s : State} (hlow : 2 ≤ nackCode c) (hhigh : nackCode c ≤ 10)
    (hmine : nackMine s x c = true) (hreq : wf_ c.body 0 17 1 = 0) (hnew : c.seq ∉ (s.flow x).send.conf)
    (hwindow : inSendWindow (s.flow x).send c.seq = true) (hseg : outSeg s x c.seq = some g) :
    nackFinal x c s
      = segFailed g (nackStatus (nackCode c)) (wf_ c.body 0 8 8) true (dropOut x c.seq (confPending x c.seq s)) := by
  have hcode : ¬ (nackCode c < 2 ∨ 10 < nackCode c) := by omega
  have hfails : ¬ ((s.flow x).send.conf.contains c.seq || !inSendWindow (s.flow x).send c.seq) = true := by simp [hnew, hwindow]
  simp only [nackFinal, if_neg hcode, hmine, hreq, if_neg hfails, hseg]
  rfl

theorem nackFinal_of_foreign {x : Nat} {c : Cell} {s : State} (hlow : 2 ≤ nackCode c) (hhigh : nackCode c ≤ 10)
    (hmine : nackMine s x c = false) : nackFinal x c s = s :=
  (if_neg (show ¬ (nackCode c < 2 ∨ 10 < nackCode c) by omega)).trans (if_pos (by simp [hmine]))

theorem nackFinal_of_reserved {c : Cell} (h : nackCode c < 2 ∨ 10 < nackCode c) (x : Nat) (s : State) :
    nackFinal x c s = modThresh (fun t => { t with reservedNacks := t.reservedNacks + 1 }) s := if_pos h

theorem nackStatus_ne_fenced (code : Nat) : nackStatus code ≠ stFenced := by
  unfold nackStatus stFenced
  split <;> decide

/-! Retransmissions (R258, R262). -/

theorem leaves_modOut (x q : Nat) (f : Seg → Seg) (s : State) : Leaves [.thresh] [] s (modOut x q f s) := leaves_modSend _ _ _

theorem otherFlows_modOut (x q : Nat) (f : Seg → Seg) (s : State) : OtherFlows x s (modOut x q f s) := otherFlows_setFlow _ _ _

/-- The state with one segment taken from the device budget. -/
def budgetTaken (s : State) : State := modSluice (fun u => { u with budget := u.budget - oneSeg }) s

theorem leavesFlows_budgetTaken (s : State) : LeavesFlows [.sluice] [] s (budgetTaken s) := (leaves_sluice _ s).leavesFlows

/-- A segment that goes again takes one segment of budget and its new timers; the other flows stay as they are. -/
theorem launch_modOut_budgetTaken {P : List Part} {R : List Fld} {s a b : State} {x q : Nat} {g h : Seg} (hseg : outSeg s x q = some g)
    (hseq : h.seq = q) (hflow : ∀ y, a.flow y = s.flow y) (hsluice : a.sluice = s.sluice)
    (hb : LeavesFlows P R (modOut x q (fun _ => h) (budgetTaken a)) b) (hP : Part.sluice ∉ P := by decide) :
    (launch h b).sluice = { s.sluice with budget := s.sluice.budget - 327680 } ∧ OtherFlows x s (launch h b)
      ∧ outSeg (launch h b) x q = some h := by
  have hlaunch := leavesFlows_launch h b
  have hbudget : (budgetTaken a).sluice = { s.sluice with budget := s.sluice.budget - 327680 } := by
    rw [← hsluice]
    rfl
  refine ⟨?_, fun y hy => ?_, ?_⟩
  · calc (launch h b).sluice
      _ = b.sluice := hlaunch.keeps .sluice (by decide)
      _ = (modOut x q (fun _ => h) (budgetTaken a)).sluice := hb.keeps .sluice hP
      _ = (budgetTaken a).sluice := (leaves_modOut _ _ _ _).keeps .sluice (by decide)
      _ = _ := hbudget
  · calc (launch h b).flow y
      _ = (modOut x q (fun _ => h) (budgetTaken a)).flow y := (hlaunch.flow y).trans (hb.flow y)
      _ = (budgetTaken a).flow y := otherFlows_modOut _ _ _ _ y hy
      _ = a.flow y := (leavesFlows_budgetTaken a).flow y
      _ = s.flow y := hflow y
  · have hold : outSeg (budgetTaken a) x q = some g := by
      rw [outSeg, (leavesFlows_budgetTaken a).flow, hflow]
      exact hseg
    rw [hlaunch.outSeg, hb.outSeg, outSeg_modOut (fun _ _ => hseq), hold]
    rfl

/-- The segment as a retransmission sends it. -/
def Seg.sentAgain (g : Seg) (s : State) : Seg :=
  { g with rto := min (2 * g.rto) (rtoMax s), retx := g.retx + 1, timerAt := some (s.now + min (2 * g.rto) (rtoMax s)), resendAt := none }

theorem retransmit_of_taken {x q : Nat} {g : Seg} {s : State} (hseg : outSeg s x q = some g) (hrun : s.hostStopped = false)
    (hbudget : 327680 ≤ s.sluice.budget) (htakes : hallTakes s g.input (segVc s g.resp) = true) :
    retransmit x q false s
      = launch (g.sentAgain s) (tally .RETX (modOut x q (fun _ => g.sentAgain s) (budgetTaken s))) := by
  have hlow : ¬ s.sluice.budget < oneSeg := Nat.not_lt.mpr hbudget
  simp [retransmit, hseg, hrun, hlow, htakes]
  rfl

theorem retransmit_of_held {x q : Nat} {g : Seg} {s : State} (hseg : outSeg s x q = some g)
    (h : s.hostStopped = true ∨ s.sluice.budget < 327680 ∨ hallTakes s g.input (segVc s g.resp) = false) (fast : Bool) :
    retransmit x q fast s = s := by
  have hheld : (s.hostStopped || decide (s.sluice.budget < oneSeg) || !hallTakes s g.input (segVc s g.resp)) = true := by
    rcases h with h | h | h <;> simp [h, oneSeg]
  simp [retransmit, hseg, hheld]

theorem exec_retransmitTimeout {x q at1 : Nat} {g : Seg} {s : State} (hseg : outSeg s x q = some g) (htimer : g.timerAt = some at1)
    (hdue : Due s at1) : exec (.retransmitTimeout x q) s = .next (retransmit x q false s) := by
  show execRetransmitTimeout x q s = _
  simp [execRetransmitTimeout, hseg, htimer, show at1 ≤ s.now from hdue]

theorem exec_retransmitTimeout_of_held {x q at1 : Nat} {g : Seg} {s : State} (hseg : outSeg s x q = some g) (htimer : g.timerAt = some at1)
    (h : s.hostStopped = true ∨ s.sluice.budget < 327680 ∨ hallTakes s g.input (segVc s g.resp) = false) :
    exec (.retransmitTimeout x q) s = .next s := by
  show execRetransmitTimeout x q s = _
  simp [execRetransmitTimeout, hseg, htimer, retransmit_of_held hseg h]

/-- The segment as a re-send after NOT_READY sends it. -/
def Seg.resent (g : Seg) (x : Nat) (s : State) : Seg :=
  { g with rto := rtoOf s x, timerAt := some (s.now + rtoOf s x), resendAt := none }

/-- The state with the response hints that are due taken (R267). -/
def hintsTaken (x q : Nat) (s : State) : State :=
  s.modSend x (fun f => { f with respHints := f.respHints.filter (fun e => !(e.1 == q && decide (e.2.2.2 ≤ s.now))) })

theorem flow_hintsTaken {x q : Nat} {s : State} (hnone : ∀ e ∈ (s.flow x).send.respHints, e.1 ≠ q) (y : Nat) :
    (hintsTaken x q s).flow y = s.flow y := by
  have hkept : (s.flow x).send.respHints.filter (fun e => !(e.1 == q && decide (e.2.2.2 ≤ s.now))) = (s.flow x).send.respHints :=
    List.filter_eq_self.mpr fun e he => by simp [hnone e he]
  by_cases hy : y = x
  · rw [hy, hintsTaken, State.flow_modSend_self, hkept]
  · exact otherFlows_setFlow _ _ _ y hy

/-- With no response to ask for again, a segment whose hint has run out is sent again. -/
theorem exec_notReadyResend {x q at1 : Nat} {g : Seg} {s : State} (hseg : outSeg s x q = some g) (hresend : g.resendAt = some at1)
    (hdue : Due s at1) (hrun : s.hostStopped = false) (hbudget : 327680 ≤ s.sluice.budget)
    (htakes : hallTakes s g.input (segVc s g.resp) = true) (hnone : ∀ e ∈ (s.flow x).send.respHints, e.1 ≠ q) :
    exec (.notReadyResend x q) s
      = .next (launch (g.resent x s) (modOut x q (fun _ => g.resent x s) (budgetTaken (hintsTaken x q s)))) := by
  have hnodue : (s.flow x).send.respHints.filter (fun e => e.1 == q && decide (e.2.2.2 ≤ s.now)) = [] :=
    List.filter_eq_nil_iff.mpr fun e he => by simp [hnone e he]
  have hflow : (hintsTaken x q s).flow x = s.flow x := flow_hintsTaken hnone x
  have hseg1 : outSeg (hintsTaken x q s) x q = some g := by rw [outSeg, hflow]; exact hseg
  have hrto : rtoOf (hintsTaken x q s) x = rtoOf s x := by
    simp only [rtoOf, hflow]
    rfl
  have hrun1 : (hintsTaken x q s).hostStopped = false := hrun
  have htakes1 : hallTakes (hintsTaken x q s) g.input (segVc (hintsTaken x q s) g.resp) = true := htakes
  have hbudget1 : oneSeg ≤ (hintsTaken x q s).sluice.budget := hbudget
  have hdue1 : at1 ≤ (hintsTaken x q s).now := hdue
  show execNotReadyResend x q s = _
  have hunfold : execNotReadyResend x q s = match outSeg (hintsTaken x q s) x q with
    | some g =>
      if g.resendAt.any (fun t => decide (t ≤ (hintsTaken x q s).now)) && !(hintsTaken x q s).hostStopped
          && decide (oneSeg ≤ (hintsTaken x q s).sluice.budget)
          && hallTakes (hintsTaken x q s) g.input (segVc (hintsTaken x q s) g.resp) then
        .next (launch (g.resent x (hintsTaken x q s)) (modOut x q (fun _ => g.resent x (hintsTaken x q s)) (budgetTaken (hintsTaken x q s))))
      else .next (hintsTaken x q s)
    | none => .next (hintsTaken x q s) := by
    simp only [execNotReadyResend, hnodue]
    rfl
  have hresent : g.resent x (hintsTaken x q s) = g.resent x s := by
    simp only [Seg.resent, hrto]
    rfl
  rw [hunfold, hseg1]
  simp [hresend, hdue1, hrun1, hbudget1, htakes1, hresent]

/-! Operation time-outs (R259). -/

/-- A segment's operation time-out has come. -/
theorem late_of_due {first : Nat} {g : Seg} {s : State} (hfirst : g.firstNs = some first) (hdue : Due s (first + g.toMs * 1000000)) :
    g.firstNs.any (fun t => decide (t + g.toMs * 1000000 ≤ s.now)) = true := by
  rw [hfirst, Option.any_some]
  exact decide_eq_true hdue

theorem exec_opTimeout_of_hint {x q first h : Nat} {g : Seg} {s : State} (hseg : outSeg s x q = some g) (hfirst : g.firstNs = some first)
    (hhint : g.hint = some h) (hdue : Due s (first + g.toMs * 1000000)) :
    exec (.opTimeout x q) s = .next (segFailed g stNotReady h false (dropOut x q s)) := by
  show execOpTimeout x q s = _
  simp only [execOpTimeout, hseg, if_pos (late_of_due hfirst hdue), hhint]

theorem exec_opTimeout_of_no_hint {x q first : Nat} {g : Seg} {s : State} (hseg : outSeg s x q = some g) (hfirst : g.firstNs = some first)
    (hhint : g.hint = none) (hdue : Due s (first + g.toMs * 1000000)) :
    exec (.opTimeout x q) s = .next (segTimeout g (dropOut x q s)) := by
  show execOpTimeout x q s = _
  simp only [execOpTimeout, hseg, if_pos (late_of_due hfirst hdue), hhint]

/-- The parts and fields of a segment's time-out. -/
def timeoutParts : List Part := [.fault, .hall, .thresh, .porch, .count, .out]
def timeoutRegs : List Fld :=
  ([.THRESH_EVENTS_TIMEOUT_SEEN, .SUSPECT_EVENTS_SENT, .SUSPECT_EVENTS_DROPPED] : List Fld) ++ countRegs

/-- A time-out, counted and shown. -/
def noteTimeout (s : State) : State := event 8 .THRESH_EVENTS_TIMEOUT_SEEN (tally .TIMEOUT s)

theorem leavesFlows_noteTimeout (s : State) : LeavesFlows timeoutParts timeoutRegs s (noteTimeout s) :=
  (((leaves_tally _ _ _).mono).andThen (leaves_event _ _ _ _) : Leaves [.count, .out, .porch] timeoutRegs s _).leavesFlows.mono

theorem noteTimeout_flag (s : State) : (noteTimeout s).flag .THRESH_EVENTS_TIMEOUT_SEEN = true :=
  event_flag (by decide) rfl _ _ _

theorem leavesFlows_segTimeout (g : Seg) (s : State) : LeavesFlows timeoutParts timeoutRegs s (segTimeout g s) :=
  ((leavesFlows_noteTimeout s).andThen (leaves_suspectObserve _ _ _ _ _ _).leavesFlows).andThen (leavesFlows_segFailed _ _ _ _ _)

theorem segTimeout_flag (g : Seg) (s : State) : (segTimeout g s).flag .THRESH_EVENTS_TIMEOUT_SEEN = true :=
  calc (segTimeout g s).flag .THRESH_EVENTS_TIMEOUT_SEEN
    _ = (suspectObserve 2 g.peer (some g.room) 0 0 (noteTimeout s)).flag .THRESH_EVENTS_TIMEOUT_SEEN :=
      (leavesFlows_segFailed _ _ _ _ _).flag
    _ = (noteTimeout s).flag .THRESH_EVENTS_TIMEOUT_SEEN := (leaves_suspectObserve _ _ _ _ _ _).flag
    _ = true := noteTimeout_flag s

/-! O53. -/

theorem leaves_dropOut (x q : Nat) (s : State) : Leaves [.thresh] [] s (dropOut x q s) := leaves_modSend _ _ _

/-- Settles O53: each command changes the segment it speaks of and its flow alone; the end of an operation leaves the flows, and a
completion of a certain room writes its entry. -/
theorem segmentsFailOrGoAgain : Obligations.SegmentsFailOrGoAgain := by
  refine ⟨?_, ?_, ?_, ?_, ?_, ?_, ?_, ?_, ?_⟩
  case refine_1 =>
    intro x c g s hused hcode hmine hreq hseg
    have htally := leaves_tally .NOT_READY_RCVD s 0
    have hout : outSeg (modOut x c.seq (Seg.notReady (wf_ c.body 0 48 16) s.now) (tally .NOT_READY_RCVD s)) x c.seq
        = some (g.notReady (wf_ c.body 0 48 16) s.now) := by
      rw [outSeg_modOut (f := Seg.notReady (wf_ c.body 0 48 16) s.now) fun _ h => h, htally.leavesFlows.outSeg, hseg]
      rfl
    exact ((htally.mono).andThen (leaves_modOut _ _ _ _)).does (exec_nackNotReadyArrival hused hcode hmine hreq)
      ⟨_, hout, rfl, rfl, rfl, rfl⟩
  case refine_2 =>
    intro x c g o s hused hlow hhigh hmine hreq hnew hwindow hseg hop hkind hdone hfails hlen hoff hlb hcertain hactive hloud
    have hshows : EntryShows o s := ⟨hused.2.2.1, hcertain, hactive, hloud⟩
    have hbefore : Leaves [.thresh] [] s (dropOut x c.seq (confPending x c.seq s)) := (leaves_confPending _ _ s).trans (leaves_dropOut _ _ _)
    have hends := opEnds_segFailed (g := g) (s := dropOut x c.seq (confPending x c.seq s)) (aux := wf_ c.body 0 8 8) hop hkind hdone
      hfails hlen hoff hlb (nackStatus_ne_fenced (nackCode c)) (hshows.of_leaves hbefore) true
    have hexec := (exec_nackFinalArrival hused (by omega) (by omega)).trans
      (congrArg Host.Outcome.next (nackFinal_of_mine hlow hhigh hmine hreq hnew hwindow hseg))
    refine (hbefore.mono.trans hends.toLeaves).does hexec
      ⟨?_, (hends.outSeg _ _).trans (outSeg_dropOut _ _ _), hends.op, entryEnds_after hends.entry hbefore, ?_⟩
    · rw [hends.flow]
      simp [dropOut, confPending, armConf]
    · rw [hends.flow]
      simp [dropOut, confPending, armConf]
  case refine_3 =>
    intro x c s hused hmine hlow hhigh
    exact (exec_nackFinalArrival hused (by omega) (by omega)).trans (congrArg Host.Outcome.next (nackFinal_of_foreign hlow hhigh hmine))
  case refine_4 =>
    intro x c s hused hcode
    have hexec := (exec_nackFinalArrival hused (by omega) (by omega)).trans
      (congrArg Host.Outcome.next (nackFinal_of_reserved (by omega) x s))
    exact (leaves_modThresh _ s).does hexec rfl
  case refine_5 =>
    intro x q at1 g s hseg htimer hdue hrun hbudget htakes
    have hmod : Leaves [.sluice, .thresh, .hall, .count, .out, .porch] countRegs s (modOut x q (fun _ => g.sentAgain s) (budgetTaken s)) :=
      ((leavesFlows_budgetTaken s).toLeaves.mono).andThen (leaves_modOut _ _ _ _)
    have htally := (leaves_tally .RETX (modOut x q (fun _ => g.sentAgain s) (budgetTaken s)) 0).leavesFlows
    obtain ⟨hsluice, hothers, hout⟩ := launch_modOut_budgetTaken (h := g.sentAgain s) hseg
      (show g.seq = q from outSeg_seq hseg) (fun _ => rfl) rfl htally
    have hexec := (exec_retransmitTimeout hseg htimer hdue).trans
      (congrArg Host.Outcome.next (retransmit_of_taken hseg hrun hbudget htakes))
    exact ((hmod.andThen htally.toLeaves).andThen (leavesFlows_launch _ _).toLeaves).does hexec
      ⟨hsluice, hothers, _, hout, rfl, rfl, rfl, rfl, rfl⟩
  case refine_6 =>
    intro x q at1 g s hseg htimer hheld
    exact exec_retransmitTimeout_of_held hseg htimer hheld
  case refine_7 =>
    intro x q at1 g s hseg hresend hdue hrun hbudget htakes hnone
    have hmod : Leaves [.sluice, .thresh, .hall, .out] [] s (modOut x q (fun _ => g.resent x s) (budgetTaken (hintsTaken x q s))) :=
      (((leaves_modSend _ _ s).mono).andThen (leavesFlows_budgetTaken _).toLeaves).andThen (leaves_modOut _ _ _ _)
    obtain ⟨hsluice, hothers, hout⟩ := launch_modOut_budgetTaken (h := g.resent x s) (a := hintsTaken x q s) hseg
      (show g.seq = q from outSeg_seq hseg) (flow_hintsTaken hnone) rfl (LeavesFlows.refl [] [] _)
    exact (hmod.andThen (leavesFlows_launch _ _).toLeaves).does (exec_notReadyResend hseg hresend hdue hrun hbudget htakes hnone)
      ⟨hsluice, hothers, _, hout, rfl, rfl, rfl, rfl⟩
  case refine_8 =>
    intro x q first g s hseg hfirst hhint hdue
    have hends := leavesFlows_segTimeout g (dropOut x q s)
    exact (((leaves_dropOut x q s).mono).trans hends.toLeaves).does (exec_opTimeout_of_no_hint hseg hfirst hhint hdue)
      ⟨(hends.outSeg _ _).trans (outSeg_dropOut _ _ _), segTimeout_flag _ _⟩
  case refine_9 =>
    intro x q first h g o s hseg hfirst hhint hdue hop hkind hdone hfails hlen hoff hlb hrun hcertain hactive hloud
    have hshows : EntryShows o s := ⟨hrun, hcertain, hactive, hloud⟩
    have hbefore := leaves_dropOut x q s
    have hends := opEnds_segFailed (g := g) (s := dropOut x q s) (st := stNotReady) (aux := h) hop hkind hdone hfails hlen hoff hlb
      (by decide) (hshows.of_leaves hbefore) false
    exact (hbefore.mono.trans hends.toLeaves).does (exec_opTimeout_of_hint hseg hfirst hhint hdue)
      ⟨(hends.outSeg _ _).trans (outSeg_dropOut _ _ _), hends.op, entryEnds_after hends.entry hbefore⟩

end Sys2Proof.Machine
end

section
/-! What a flow keeps through the faults that a cell of the return path may raise (R22, R62, R349). -/
namespace Sys2Proof.Machine

/-- A flow as the fall-back to Marked service leaves it (Table 13.4). -/
def Flow.marked (f : Flow) : Flow := { f with send := { f.send with held := [], rate := none, lastReq := none } }

/-- A property of a flow that a fall-back to Marked service keeps: it speaks of nothing that the fall-back clears, and does not hold of an
unlisted flow, so that a flow that has it keeps its place in the table. -/
structure Steady (φ : Flow → Prop) : Prop where
  marked : ∀ f, φ f → φ f.marked
  unlisted : ¬ φ {}

/-- What `Leaves` says, and the property holds of flow `x` if it did. -/
structure KeepsFlow (x : Nat) (φ : Flow → Prop) (parts : List Part) (regs : List Fld) (s t : State) : Prop
    extends Leaves parts regs s t where
  flow : φ (s.flow x) → φ (t.flow x)

section
variable {x : Nat} {φ : Flow → Prop} {P P' : List Part} {R R' : List Fld} {s t u : State}

theorem LeavesFlows.keepsFlow (h : LeavesFlows P R s t) : KeepsFlow x φ P R s t :=
  ⟨h.toLeaves, fun hφ => by rwa [h.flow]⟩

theorem KeepsFlow.refl (P : List Part) (R : List Fld) (s : State) : KeepsFlow x φ P R s s := ⟨Leaves.refl P R s, id⟩

theorem KeepsFlow.trans (h1 : KeepsFlow x φ P R s t) (h2 : KeepsFlow x φ P R t u) : KeepsFlow x φ P R s u :=
  ⟨h1.toLeaves.trans h2.toLeaves, h2.flow ∘ h1.flow⟩

theorem KeepsFlow.mono (h : KeepsFlow x φ P R s t) (hP : ∀ p ∈ P, p ∈ P' := by decide) (hR : ∀ f ∈ R, f ∈ R' := by decide) :
    KeepsFlow x φ P' R' s t := ⟨h.toLeaves.mono hP hR, h.flow⟩

/-- A further update with a frame of its own. -/
theorem KeepsFlow.andThen (h1 : KeepsFlow x φ P R s t) (h2 : KeepsFlow x φ P' R' t u) (hP : ∀ p ∈ P', p ∈ P := by decide)
    (hR : ∀ f ∈ R', f ∈ R := by decide) : KeepsFlow x φ P R s u := h1.trans (h2.mono hP hR)

theorem KeepsFlow.ite {c : Prop} [Decidable c] (h1 : KeepsFlow x φ P R s t) (h2 : KeepsFlow x φ P R s u) :
    KeepsFlow x φ P R s (if c then t else u) := by
  split
  · exact h1
  · exact h2

/-- A further update that happens only in some states. -/
theorem KeepsFlow.andThenIf {c : Prop} [Decidable c] (h : KeepsFlow x φ P R s t) (f : State → State)
    (hf : ∀ a, KeepsFlow x φ P R a (f a)) : KeepsFlow x φ P R s (if c then f t else t) := (h.trans (hf t)).ite h

theorem LeavesFlows.andThenIf {c : Prop} [Decidable c] (h : LeavesFlows P R s t) (f : State → State)
    (hf : ∀ a, LeavesFlows P R a (f a)) : LeavesFlows P R s (if c then f t else t) := (h.trans (hf t)).ite h

theorem KeepsFlow.forEach {α : Type} {f : α → State → State} (h : ∀ a s, KeepsFlow x φ P R s (f a s)) (l : List α) (s : State) :
    KeepsFlow x φ P R s (forEach l f s) :=
  forEach_keeps (P := KeepsFlow x φ P R s) f (fun a _ hs => hs.trans (h a _)) l s (KeepsFlow.refl P R s)

/-- A change of the send side of any flow, of which the property does not speak. -/
theorem keepsFlow_modSend {f : SendSt → SendSt} (hf : ∀ w : Flow, φ w → φ { w with send := f w.send }) (y : Nat) (s : State) :
    KeepsFlow x φ [.thresh] [] s (s.modSend y f) where
  toLeaves := leaves_modSend _ _ _
  flow h := by
    by_cases hxy : x = y
    · subst hxy
      rw [State.flow_modSend_self]
      exact hf _ h
    · rwa [State.modSend, State.modFlow, State.flow_setFlow_of_ne hxy]

end

/-! The fall-back to Marked service. -/

theorem Tab.find?_mapD {α : Type} [DecidableEq α] {l : Tab α} {d v : α} {k : Nat} {f : Nat → α → α} (h : Tab.find? l k = some v)
    (hv : f k v ≠ d) : Tab.find? (Tab.mapD l d f) k = some (f k v) := by
  induction l with
  | nil => cases h
  | cons e r ih =>
    obtain ⟨j, w⟩ := e
    unfold Tab.mapD at ih ⊢
    by_cases hjk : j = k
    · subst hjk
      have hwv : w = v := by simpa [Tab.find?] using h
      subst hwv
      simp [Tab.find?, hv]
    · have hr : Tab.find? r k = some v := by simpa [Tab.find?, hjk] using h
      by_cases hw : f j w = d
      · simpa [hw] using ih hr
      · simpa [hw, Tab.find?, hjk] using ih hr

section
variable {x : Nat} {φ : Flow → Prop} (hφ : Steady φ)
include hφ

theorem Steady.marksBegin {s : State} (h : φ (s.flow x)) : φ ((marksBegin s).flow x) := by
  cases hfind : Tab.find? s.thresh.flows x with
  | none =>
    refine absurd ?_ hφ.unlisted
    simpa [State.flow, Tab.get, hfind] using h
  | some f =>
    have hf : φ f := by simpa [State.flow, Tab.get, hfind] using h
    have hlisted : f.marked ≠ {} := fun hempty => hφ.unlisted (hempty ▸ hφ.marked f hf)
    have hmarked : (Machine.marksBegin s).flow x = f.marked :=
      congrArg (·.getD {}) (Tab.find?_mapD (f := fun _ f => f.marked) hfind hlisted)
    rw [hmarked]
    exact hφ.marked f hf

theorem Steady.serviceFallback (c p : Nat) (s : State) :
    KeepsFlow x φ [.thresh, .count, .out, .porch] fallbackRegs s (serviceFallback c p s) where
  toLeaves := leaves_serviceFallback c p s
  flow h := by
    unfold Machine.serviceFallback
    extract_lets s1
    split
    · rw [(leaves_event _ _ _ _).leavesFlows.flow, (leaves_tally _ _ _).leavesFlows.flow]
      exact hφ.marksBegin h
    · exact h

end

/-! A fault's other effects leave the flows. -/

theorem leavesFlows_sendNotice (b cls devl : Nat) (esc : Bool) (unit detail : Nat) (s : State) :
    LeavesFlows faultParts aftermathRegs s (sendNotice b cls devl esc unit detail s) := by
  unfold sendNotice
  refine (LeavesFlows.refl _ _ _).ite (LeavesFlows.ite (leaves_event _ _ _ _).leavesFlows.mono ?_)
  exact ((leaves_fault _ s).leavesFlows.mono).andThen (leaves_inject _ _ _ _ _).leavesFlows

theorem leavesFlows_drainPort (cause p : Nat) (s : State) : LeavesFlows faultParts aftermathRegs s (drainPort cause p s) := by
  unfold drainPort
  extract_lets st s1
  have h1 : LeavesFlows faultParts aftermathRegs s s1 :=
    ((leaves_set _ _ _ _).leavesFlows.mono).andThen (leaves_set _ _ _ _).leavesFlows
  refine (LeavesFlows.refl _ _ _).ite (LeavesFlows.ite ?_ ?_)
  · exact (((h1.andThen (leaves_setPort _ _ _).leavesFlows).andThen (leaves_lanesDown p _).leavesFlows).andThen
      (leaves_fault _ _).leavesFlows).andThen (leaves_event _ _ _ _).leavesFlows
  · exact ((leaves_set _ _ _ _).leavesFlows.mono).andThen (leaves_setPort _ _ _).leavesFlows

theorem leavesFlows_enterOff (s : State) : LeavesFlows faultParts aftermathRegs s (enterOff s) := by
  unfold enterOff
  extract_lets s1 hold s2 at1
  have h1 : LeavesFlows faultParts aftermathRegs s s1 := LeavesFlows.forEach _ (fun p a => leavesFlows_drainPort 7 p a) _ s
  have h2 : LeavesFlows faultParts aftermathRegs s s2 := h1.andThen (leaves_set _ _ _ _).leavesFlows
  exact h2.andThen (leaves_fault _ s2).leavesFlows

theorem leavesFlows_setDevFault (l b cls : Nat) (s : State) : LeavesFlows faultParts aftermathRegs s (setDevFault l b cls s) :=
  (((leaves_set _ _ _ _).leavesFlows.mono).andThen (leaves_set _ _ _ _).leavesFlows).andThen (leaves_set _ _ _ _).leavesFlows

theorem leavesFlows_faultMarks (b cls l : Nat) (esc : Bool) (s : State) :
    LeavesFlows faultParts faultRegs s (faultMarks b cls l esc s) := by
  unfold faultMarks
  extract_lets un s1 s2 s3 s4
  have h1 : LeavesFlows faultParts faultRegs s s1 := (LeavesFlows.refl _ _ _).ite (leaves_set _ _ _ _).leavesFlows.mono
  have h2 : LeavesFlows faultParts faultRegs s s2 :=
    (h1.andThen (leaves_set _ _ _ _).leavesFlows).andThen (leaves_set _ _ _ _).leavesFlows
  have h3 : LeavesFlows faultParts faultRegs s s3 :=
    h2.andThenIf (·.set .FAULT_STAT_FIRST_CLASS cls b) (fun _ => (leaves_set _ _ _ _).leavesFlows.mono)
  have h4 : LeavesFlows faultParts faultRegs s s4 :=
    h3.andThenIf (·.set .FAULT_STAT_STICKY 1 b) (fun _ => (leaves_set _ _ _ _).leavesFlows.mono)
  exact (h4.andThen (leaves_fault _ s4).leavesFlows).ite h4

/-! The fault. -/

section
variable {x : Nat} {φ : Flow → Prop} (hφ : Steady φ)
include hφ

theorem Steady.enterSafe (s : State) : KeepsFlow x φ faultParts aftermathRegs s (enterSafe s) :=
  ((hφ.serviceFallback 3 0 s).mono).trans
    (LeavesFlows.forEach _ (fun _ _ => (leaves_roomError _ 4 _).leavesFlows.mono) _ _).keepsFlow

theorem Steady.updateDevice (b cls : Nat) (s : State) : KeepsFlow x φ faultParts aftermathRegs s (updateDevice b cls s) := by
  unfold Machine.updateDevice
  extract_lets old new s1 s2
  have h1 : KeepsFlow x φ faultParts aftermathRegs s s1 := (hφ.enterSafe s).ite (KeepsFlow.refl _ _ _)
  have h2 : KeepsFlow x φ faultParts aftermathRegs s s2 := h1.andThenIf enterOff fun _ => (leavesFlows_enterOff _).keepsFlow
  exact (KeepsFlow.refl _ _ _).ite (h2.trans (leavesFlows_setDevFault _ _ _ _).keepsFlow)

theorem Steady.faultRecord (b cls l unit d : Nat) (esc injected rises : Bool) (s : State) :
    KeepsFlow x φ faultParts aftermathRegs s (faultRecord b cls l unit d esc injected rises s) := by
  unfold Machine.faultRecord
  extract_lets s1 s2 s3 s4
  have hhist : ∀ b hi, LeavesFlows faultParts aftermathRegs s (addHist b hi s) := fun _ _ => (leaves_fault _ s).leavesFlows.mono
  have h1 : LeavesFlows faultParts aftermathRegs s s1 := (hhist _ _).ite (LeavesFlows.ite (hhist _ _) (LeavesFlows.refl _ _ _))
  have h2 : LeavesFlows faultParts aftermathRegs s s2 :=
    (h1.andThen (leaves_count _ _ _ _).leavesFlows).andThen (leaves_count _ _ _ _).leavesFlows
  have h3 : LeavesFlows faultParts aftermathRegs s s3 :=
    h2.andThenIf (event b .FAULT_EVENTS_LEVEL_RAISED · b) (fun _ => (leaves_event _ _ _ _).leavesFlows.mono)
  have h4 : LeavesFlows faultParts aftermathRegs s s4 :=
    h3.andThenIf (event b .FAULT_EVENTS_ESCALATED · b) (fun _ => (leaves_event _ _ _ _).leavesFlows.mono)
  exact (h4.keepsFlow).andThenIf (Machine.serviceFallback 3 0) (fun _ => (hφ.serviceFallback _ _ _).mono)

theorem Steady.faultDevice (b cls l unit d : Nat) (esc : Bool) (s : State) :
    KeepsFlow x φ faultParts aftermathRegs s (faultDevice b cls l unit d esc s) := by
  unfold Machine.faultDevice
  extract_lets dev s1 s2
  have h1 : KeepsFlow x φ faultParts aftermathRegs s s1 := hφ.updateDevice _ _ _
  have h2 : KeepsFlow x φ faultParts aftermathRegs s s2 :=
    h1.andThenIf (sendNotice _ _ _ _ _ _) fun _ => (leavesFlows_sendNotice _ _ _ _ _ _ _).keepsFlow
  exact h2.andThen (leaves_fault _ s2).leavesFlows.keepsFlow

/-- A fault keeps a steady property of a flow. -/
theorem Steady.raise (b cls unit d : Nat) (s : State) : KeepsFlow x φ faultParts faultRegs s (raise b cls unit d s) :=
  ((leavesFlows_faultMarks _ _ _ _ s).keepsFlow.andThen (hφ.faultRecord _ _ _ _ _ _ _ _ _)).andThen (hφ.faultDevice _ _ _ _ _ _ _)

end

end Sys2Proof.Machine
end

section
/-! The reset of a flow's send side (R272, R273). -/
namespace Sys2Proof.Machine

/-! Cells of the return path. -/

section
variable {x : Nat} {φ : Flow → Prop} (hφ : Steady φ)
include hφ

theorem Steady.injectAck (c : Cell) (s : State) : KeepsFlow x φ flowParts flowRegs s (injectAck c s) := by
  have hfull : KeepsFlow x φ flowParts flowRegs s (event 8 .THRESH_EVENTS_ACK_SPILL_FULL (Machine.raise 8 12 0 0 s)) :=
    ((hφ.raise 8 12 0 0 s).mono).andThen (leaves_event _ _ _ _).leavesFlows.keepsFlow
  exact ((KeepsFlow.refl _ _ s).ite hfull).andThen (leaves_inject _ _ _ _ _).leavesFlows.keepsFlow

theorem Steady.sendNack (y seq epoch code sub : Nat) (fresh resp : Bool) (hint msg off : Nat) (s : State) :
    KeepsFlow x φ flowParts flowRegs s (sendNack y seq epoch code sub fresh resp hint msg off s) :=
  (KeepsFlow.refl _ _ s).ite (hφ.injectAck _ s)

end

/-! A send side in a new epoch. -/

/-- The send side began epoch `e` at a time, with nothing outstanding and no advance deferred; the receive side is as given. -/
structure EpochBegun (e time : Nat) (r : RecvSt) (f : Flow) : Prop where
  epoch : f.send.epoch = e
  lastAdvance : f.send.lastAdvance = some time
  deferred : f.send.deferred = none
  out : f.send.out = []
  recv : f.recv = r

theorem steady_epochBegun (e time : Nat) (r : RecvSt) : Steady (EpochBegun e time r) where
  marked _ h := ⟨h.epoch, h.lastAdvance, h.deferred, h.out, h.recv⟩
  unlisted h := nomatch h.lastAdvance

section
variable {x e time : Nat} {r : RecvSt}

/-- A change of a send side that leaves what the epoch's begin wrote. -/
theorem keepsEpoch_modSend {f : SendSt → SendSt} (y : Nat) (s : State)
    (hf : ∀ w, (f w).epoch = w.epoch ∧ (f w).lastAdvance = w.lastAdvance ∧ (f w).deferred = w.deferred ∧ (f w).out = w.out
      := by exact fun _ => ⟨rfl, rfl, rfl, rfl⟩) :
    KeepsFlow x (EpochBegun e time r) [.thresh] [] s (s.modSend y f) :=
  keepsFlow_modSend (fun _ h =>
    have ⟨hepoch, hlast, hdeferred, hout⟩ := hf _
    ⟨hepoch.trans h.epoch, hlast.trans h.lastAdvance, hdeferred.trans h.deferred, hout.trans h.out, h.recv⟩) y s

theorem keepsEpoch_numberSeg (g : Seg) (s : State) : KeepsFlow x (EpochBegun e time r) flowParts flowRegs s (numberSeg g s) := by
  unfold numberSeg
  extract_lets f
  cases s.op g.opId with
  | none => exact KeepsFlow.refl _ _ _
  | some o =>
    dsimp -zeta only
    extract_lets send mid s1 g1 asks s2
    have h1 : KeepsFlow x (EpochBegun e time r) flowParts flowRegs s s1 := (keepsEpoch_modSend g.peer s).mono
    have h2 : KeepsFlow x (EpochBegun e time r) flowParts flowRegs s s2 := h1.andThen (leavesFlows_modOp _ _ s1).keepsFlow
    exact h2.andThen (leavesFlows_modThresh (f := fun t => { t with segNo := t.segNo + 1, admitQ := t.admitQ ++ [g1] }) s2).keepsFlow

theorem keepsEpoch_sendSync (y : Nat) (s : State) : KeepsFlow x (EpochBegun e time r) flowParts flowRegs s (sendSync y s) := by
  unfold sendSync
  extract_lets s1
  have h1 : KeepsFlow x (EpochBegun e time r) flowParts flowRegs s s1 := (steady_epochBegun e time r).injectAck _ s
  exact h1.andThen (keepsEpoch_modSend y s1)

theorem keepsEpoch_offerSeg (g : Seg) (s : State) : KeepsFlow x (EpochBegun e time r) flowParts flowRegs s (offerSeg g s) := by
  unfold offerSeg
  extract_lets f s1
  have h1 : KeepsFlow x (EpochBegun e time r) flowParts flowRegs s s1 := (keepsEpoch_modSend g.peer s).mono
  have h2 : KeepsFlow x (EpochBegun e time r) flowParts flowRegs s (s1.modSend g.peer fun f => { f with st := 1, syncStart := s.now }) :=
    h1.andThen (keepsEpoch_modSend g.peer s1)
  exact (keepsEpoch_numberSeg g s).ite ((h2.trans (keepsEpoch_sendSync _ _)).ite h1)

theorem keepsEpoch_resetSeg (fresh : Bool) (g : Seg) (s : State) :
    KeepsFlow x (EpochBegun e time r) flowParts flowRegs s (resetSeg fresh g s) := by
  have hfailed : KeepsFlow x (EpochBegun e time r) flowParts flowRegs s (segFailed g stFlowReset 0 false s) :=
    (leavesFlows_segFailed _ _ _ _ s).mono.keepsFlow
  have hruns : ∀ l : List (Nat × Nat), KeepsFlow x (EpochBegun e time r) flowParts flowRegs s
      (forEach l (fun run a => offerSeg (reissueSeg g run.1 run.2) a) s) := fun l =>
    KeepsFlow.forEach (fun _ _ => keepsEpoch_offerSeg _ _) l s
  unfold resetSeg
  cases s.op g.opId with
  | none => exact KeepsFlow.refl _ _ _
  | some o =>
    dsimp only
    cases o.kind with
    | send | rndvSend | put => exact (keepsEpoch_offerSeg _ s).ite hfailed
    | get | rndvGet | zeroGet => exact hruns _
    | atomic => exact keepsEpoch_offerSeg _ s
    | response => exact (leavesFlows_dropResponse _ s).mono.keepsFlow

theorem keepsEpoch_resetQueued (g : Seg) (s : State) : KeepsFlow x (EpochBegun e time r) flowParts flowRegs s (resetQueued g s) := by
  unfold resetQueued
  cases s.op g.opId with
  | none => exact KeepsFlow.refl _ _ _
  | some o =>
    exact ((leavesFlows_dropResponse _ s).mono.keepsFlow).ite
      (((leavesFlows_segFailed _ _ _ _ s).mono.keepsFlow).ite (keepsEpoch_offerSeg _ s))

end

/-! The reset. -/

/-- The state with the flow in its next epoch, before what was outstanding is dealt with (R273). -/
def epochAdvanced (x : Nat) (s : State) : State :=
  (clearQueued x s).modSend x (fun f => { f with
    epoch := (f.epoch + 1) % 4, next := 0, acked := 0xFFFF, sendCtr := 0, out := [], conf := [], held := [], seen := 0, lastNeed := 0,
    lastReq := none, lastAdvance := some s.now, deferred := none, pend := [] })

theorem leaves_clearQueued (x : Nat) (s : State) : Leaves [.thresh, .sluice] [] s (clearQueued x s) := by
  unfold clearQueued
  extract_lets s1 n
  have h1 : Leaves [.thresh, .sluice] [] s s1 := (leaves_modThresh _ s).mono
  exact (h1.andThen (leaves_sluice _ s1)).andThen (leaves_modSend _ _ _)

theorem flow_clearQueued (x : Nat) (s : State) :
    (clearQueued x s).flow x = { s.flow x with send := { (s.flow x).send with wait := [] } } := State.flow_modSend_self _ _ _

theorem leaves_epochAdvanced (x : Nat) (s : State) : Leaves [.thresh, .sluice] [] s (epochAdvanced x s) :=
  (leaves_clearQueued x s).andThen (leaves_modSend _ _ _)

theorem epochBegun_epochAdvanced (x : Nat) (s : State) :
    EpochBegun (((s.flow x).send.epoch + 1) % 4) s.now (s.flow x).recv ((epochAdvanced x s).flow x) := by
  rw [epochAdvanced, State.flow_modSend_self, flow_clearQueued]
  exact ⟨rfl, rfl, rfl, rfl, rfl⟩

/-- What was outstanding, queued or waiting is dealt with in the new epoch. -/
theorem keepsEpoch_sendReset {e time : Nat} {r : RecvSt} (x : Nat) (fresh : Bool) (s : State) :
    KeepsFlow x (EpochBegun e time r) flowParts flowRegs (epochAdvanced x s) (sendReset x fresh s) := by
  unfold sendReset
  extract_lets f q sends s1 s2 work s4 s5
  have hwork : ∀ (k : Bool × Seg) (a : State), KeepsFlow x (EpochBegun e time r) flowParts flowRegs a
      ((if k.1 then resetSeg fresh k.2 else resetQueued k.2) a) := fun k a => by
    split
    · exact keepsEpoch_resetSeg _ _ a
    · exact keepsEpoch_resetQueued _ a
  have h2 : KeepsFlow x (EpochBegun e time r) flowParts flowRegs s1 s2 :=
    KeepsFlow.forEach (fun _ _ => (leavesFlows_modOp _ _ _).mono.keepsFlow) sends s1
  have h4 : KeepsFlow x (EpochBegun e time r) flowParts flowRegs s1 s4 := h2.trans (KeepsFlow.forEach hwork work s2)
  have h5 : KeepsFlow x (EpochBegun e time r) flowParts flowRegs s1 s5 := h4.trans (KeepsFlow.forEach keepsEpoch_numberSeg f.pend s4)
  exact (h5.andThen (leaves_tally .FLOW_RESET s5 0).leavesFlows.keepsFlow).andThen (leaves_event _ _ _ _).leavesFlows.keepsFlow

theorem leaves_sendReset (x : Nat) (fresh : Bool) (s : State) : Leaves flowParts flowRegs s (sendReset x fresh s) :=
  ((leaves_epochAdvanced x s).mono).trans (keepsEpoch_sendReset (e := 0) (time := 0) (r := {}) x fresh s).toLeaves

/-- A send-side reset begins the flow's next epoch, and leaves its receive side. -/
theorem epochBegun_sendReset (x : Nat) (fresh : Bool) (s : State) :
    EpochBegun (((s.flow x).send.epoch + 1) % 4) s.now (s.flow x).recv ((sendReset x fresh s).flow x) :=
  (keepsEpoch_sendReset x fresh s).flow (epochBegun_epochAdvanced x s)

theorem sendReset_flag (x : Nat) (fresh : Bool) (s : State) : (sendReset x fresh s).flag .THRESH_EVENTS_FLOW_RESET_SEEN = true :=
  event_flag (by decide) rfl _ _ _

/-! Resets that are asked for (R272, R274). -/

theorem askReset_of_mayAdvance {x : Nat} {s : State} (h : mayAdvance s x = true) (fresh : Bool) :
    askReset x fresh s = sendReset x fresh s := if_pos h

theorem askReset_of_not_mayAdvance {x : Nat} {s : State} (h : mayAdvance s x = false) (fresh : Bool) :
    askReset x fresh s = s.modSend x (fun f => { f with deferred := some (f.deferred.getD fresh) }) := if_neg (by simp [h])

theorem leaves_askReset (x : Nat) (fresh : Bool) (s : State) : Leaves flowParts flowRegs s (askReset x fresh s) := by
  unfold askReset
  split
  · exact leaves_sendReset _ _ _
  · exact (leaves_modSend _ _ _).mono

theorem recv_askReset (x : Nat) (fresh : Bool) (s : State) : ((askReset x fresh s).flow x).recv = (s.flow x).recv := by
  unfold askReset
  split
  · exact (epochBegun_sendReset x fresh s).recv
  · rw [State.flow_modSend_self]

/-- A FLOW_RESET of the send epoch asks for a reset. -/
theorem exec_nackFlowResetArrival {x : Nat} {c : Cell} {s : State} (hused : Used tyNack x c s) (hcode : nackCode c = 11)
    (hmine : nackMine s x c = true) :
    exec (.nackFlowResetArrival (some c)) s = .next (askReset x (wf_ c.body 0 16 1 == 1) s) :=
  congrArg Host.Outcome.next ((useSingle_of_used hused (by simp [hused.1, hcode]) nackReset).trans (if_pos hmine))

theorem exec_epochAdvanceDeferred {x : Nat} {fresh : Bool} {s : State} (hdeferred : (s.flow x).send.deferred = some fresh)
    (hadvance : mayAdvance s x = true) : exec (.epochAdvanceDeferred x) s = .next (sendReset x fresh s) := by
  show execEpochAdvanceDeferred x s = _
  simp only [execEpochAdvanceDeferred, hdeferred, if_pos hadvance]

/-! The reset of a context (R274). -/

/-- The send side as the reset of a context asks for it. -/
def sendSideReset (x : Nat) (s : State) : State := if (s.flow x).send.st = 2 then askReset x false s else s

theorem leaves_sendSideReset (x : Nat) (s : State) : Leaves flowParts flowRegs s (sendSideReset x s) := by
  unfold sendSideReset
  split
  · exact leaves_askReset _ _ _
  · exact Leaves.refl _ _ _

theorem recv_sendSideReset (x : Nat) (s : State) : ((sendSideReset x s).flow x).recv = (s.flow x).recv := by
  unfold sendSideReset
  split
  · exact recv_askReset _ _ _
  · rfl

theorem epoch_sendSideReset {x : Nat} {s : State} (hst : (s.flow x).send.st = 2) (hadvance : mayAdvance s x = true) :
    ((sendSideReset x s).flow x).send.epoch = ((s.flow x).send.epoch + 1) % 4 := by
  rw [sendSideReset, if_pos hst, askReset_of_mayAdvance hadvance]
  exact (epochBegun_sendReset x false s).epoch

/-- The receive side is in RESET, and refuses what its old epoch knew; the send side is in epoch `e`. -/
structure RecvReset (e : Nat) (f : Flow) : Prop where
  st : f.recv.st = 2
  fresh : f.recv.fresh = false
  epoch : f.send.epoch = e

theorem steady_recvReset (e : Nat) : Steady (RecvReset e) where
  marked _ h := ⟨h.st, h.fresh, h.epoch⟩
  unlisted h := nomatch h.st

/-- The state with the receive side in RESET since a time. -/
def recvSideReset (x time : Nat) (s : State) : State :=
  s.modRecv x (fun r => { r with st := 2, fresh := false, lastReset := some time })

theorem recvReset_recvSideReset (x time : Nat) (s : State) : RecvReset (s.flow x).send.epoch ((recvSideReset x time s).flow x) := by
  rw [recvSideReset, State.flow_modRecv_self]
  exact ⟨rfl, rfl, rfl⟩

/-- The receive side's reset, with its NACK and its event. -/
def recvResetShown (x epoch : Nat) (s : State) : State :=
  event 8 .THRESH_EVENTS_FLOW_RESET_SEEN (tally .FLOW_RESET (sendNack x 0 epoch 11 0 false false 0 0 0 s))

theorem Steady.recvResetShown {x : Nat} {φ : Flow → Prop} (hφ : Steady φ) (y epoch : Nat) (s : State) :
    KeepsFlow x φ flowParts flowRegs s (recvResetShown y epoch s) :=
  ((hφ.sendNack y 0 epoch 11 0 false false 0 0 0 s).andThen (leaves_tally .FLOW_RESET _ 0).leavesFlows.keepsFlow).andThen
    (leaves_event _ _ _ _).leavesFlows.keepsFlow

theorem resetContext_eq (x : Nat) (s : State) : resetContext x s
    = if (s.flow x).recv.st = 0 then sendSideReset x s
      else recvResetShown x (s.flow x).recv.epoch (recvSideReset x s.now (sendSideReset x s)) := by
  unfold resetContext recvResetShown recvSideReset
  extract_lets s1 r
  have hs1 : sendSideReset x s = s1 := rfl
  have hr : (s.flow x).recv = r := (recv_sendSideReset x s).symm
  rw [hs1, hr]

theorem resetContext_of_unused {x : Nat} {s : State} (hst : (s.flow x).recv.st = 0) : resetContext x s = sendSideReset x s := by
  rw [resetContext_eq, if_pos hst]

theorem resetContext_of_used {x : Nat} {s : State} (hst : (s.flow x).recv.st ≠ 0) :
    resetContext x s = recvResetShown x (s.flow x).recv.epoch (recvSideReset x s.now (sendSideReset x s)) := by
  rw [resetContext_eq, if_neg hst]

/-- A context whose receive side is in use is reset on both sides. -/
theorem keepsRecvReset_resetContext {x e : Nat} {s : State} (hst : (s.flow x).recv.st ≠ 0) :
    KeepsFlow x (RecvReset e) flowParts flowRegs (recvSideReset x s.now (sendSideReset x s)) (resetContext x s) := by
  rw [resetContext_of_used hst]
  exact (steady_recvReset e).recvResetShown _ _ _

theorem leaves_resetContext (x : Nat) (s : State) : Leaves flowParts flowRegs s (resetContext x s) := by
  by_cases hst : (s.flow x).recv.st = 0
  · rw [resetContext_of_unused hst]
    exact leaves_sendSideReset _ _
  · exact ((leaves_sendSideReset x s).andThen (leaves_modRecv _ _ _)).trans (keepsRecvReset_resetContext (e := 0) hst).toLeaves

theorem recvReset_resetContext {x : Nat} {s : State} (hst : (s.flow x).recv.st ≠ 0) :
    RecvReset ((sendSideReset x s).flow x).send.epoch ((resetContext x s).flow x) :=
  (keepsRecvReset_resetContext hst).flow (recvReset_recvSideReset _ _ _)

theorem resetContext_flag {x : Nat} {s : State} (hst : (s.flow x).recv.st ≠ 0) :
    (resetContext x s).flag .THRESH_EVENTS_FLOW_RESET_SEEN = true := by
  rw [resetContext_of_used hst]
  exact event_flag (by decide) rfl _ _ _

theorem recv_resetContext_of_unused {x : Nat} {s : State} (hst : (s.flow x).recv.st = 0) :
    ((resetContext x s).flow x).recv = (s.flow x).recv := by
  rw [resetContext_of_unused hst, recv_sendSideReset]

theorem epoch_resetContext (x : Nat) (s : State) :
    ((resetContext x s).flow x).send.epoch = ((sendSideReset x s).flow x).send.epoch := by
  by_cases hst : (s.flow x).recv.st = 0
  · rw [resetContext_of_unused hst]
  · exact (recvReset_resetContext hst).epoch

end Sys2Proof.Machine
end

section
/-! Synchronisation, responses and tracking (R246, R264 to R266, R272), and the proof of O54. -/
namespace Sys2Proof.Machine

/-! Synchronisation (R272). -/

/-- The SYNC_REQ of a flow. -/
def syncReq (x : Nat) (s : State) : Cell :=
  s.mkCell tyAck (if s.hasVc 5 then 5 else 6) (s.nodeOf x)
    [wd (at_ 0 0 16 + at_ 1 16 2 + at_ 0 18 2 + at_ 0 32 16), wd 0, confWord (s.flow x).send]

theorem ackKind_syncReq (x : Nat) (s : State) : ackKind (syncReq x s) = 1 :=
  show bits (wd (at_ 0 0 16 + at_ 1 16 2 + at_ 0 18 2 + at_ 0 32 16)).toNat 16 2 = 1 by decide

/-- The state with a SYNC_REQ sent and its repetition due. -/
def syncSent (x : Nat) (s : State) : State :=
  (inject 78 [syncReq x s] s).modSend x (fun f => { f with syncAt := s.now + 4 * rtoMin s })

theorem sendSync_of_room {s : State} (hroom : ackQueueRoom s = true) (x : Nat) : sendSync x s = syncSent x s := by
  have hcell : ackCell x 0 0 0 1 0 0 0 s = inject 78 [syncReq x s] s := by
    show inject 78 [_] (if ackQueueRoom s = true then s else _) = _
    rw [if_pos hroom]
    rfl
  rw [sendSync, hcell]
  rfl

theorem leaves_syncSent (x : Nat) (s : State) : Leaves [.thresh, .hall] [] s (syncSent x s) :=
  ((leaves_inject _ _ s _ _).mono).andThen (leaves_modSend _ _ _)

theorem cellQueued_syncSent (x : Nat) (s : State) :
    CellQueued s (syncSent x s) (fun d => d.ty = tyAck ∧ ackKind d = 1 ∧ d.dest = s.nodeOf x) :=
  ⟨_, inject_queue 78 [syncReq x s] s false none, rfl, ackKind_syncReq x s, rfl⟩

theorem exec_syncReqRetry {x : Nat} {s : State} (hst : (s.flow x).send.st = 1) (hdue : Due s (s.flow x).send.syncAt) :
    exec (.syncReqRetry x) s = .next (sendSync x s) := if_pos ⟨hst, hdue⟩

/-- A segment that waited for a flow fails as its synchronisation times out. -/
def waitTimeout (g : Seg) (s : State) : State := segFailed g stTimeout 0 false (noteTimeout s)

theorem leavesFlows_waitTimeout (g : Seg) (s : State) : LeavesFlows timeoutParts timeoutRegs s (waitTimeout g s) :=
  (leavesFlows_noteTimeout s).andThen (leavesFlows_segFailed _ _ _ _ _)

theorem waitTimeout_flag (g : Seg) (s : State) : (waitTimeout g s).flag .THRESH_EVENTS_TIMEOUT_SEEN = true :=
  (leavesFlows_segFailed _ _ _ _ _).flag.trans (noteTimeout_flag s)

theorem forEach_waitTimeout_flag {l : List Seg} (hl : l ≠ []) (s : State) :
    (forEach l waitTimeout s).flag .THRESH_EVENTS_TIMEOUT_SEEN = true := by
  cases l with
  | nil => exact absurd rfl hl
  | cons g l =>
    exact forEach_keeps (P := fun a => a.flag .THRESH_EVENTS_TIMEOUT_SEEN = true) waitTimeout (fun a b _ => waitTimeout_flag a b) l _
      (waitTimeout_flag g s)

/-- The flow is FRESH, and what waited for it has failed. -/
def syncAbandoned (x : Nat) (s : State) : State :=
  forEach (s.flow x).send.pend waitTimeout (s.modSend x (fun f => { f with st := 0, pend := [] }))

theorem leaves_syncAbandoned (x : Nat) (s : State) : Leaves timeoutParts timeoutRegs s (syncAbandoned x s) :=
  ((leaves_modSend _ _ s).mono).trans (LeavesFlows.forEach _ leavesFlows_waitTimeout _ _).toLeaves

theorem flow_syncAbandoned (x : Nat) (s : State) :
    (syncAbandoned x s).flow x = { s.flow x with send := { (s.flow x).send with st := 0, pend := [] } } :=
  ((LeavesFlows.forEach _ leavesFlows_waitTimeout _ _).flow x).trans (State.flow_modSend_self _ _ _)

theorem exec_syncTimeout {x : Nat} {s : State} (hst : (s.flow x).send.st = 1)
    (hdue : Due s ((s.flow x).send.syncStart + s.get .THRESH_CFG_OP_TIMEOUT_MS * 1000000)) :
    exec (.syncTimeout x) s
      = .next (suspectObserve 2 x ((s.flow x).send.pend.head?.map (·.room)) 0 0 (syncAbandoned x s)) := if_pos ⟨hst, hdue⟩

/-! The response timer (R265, R266). -/

theorem missingOf_of_untouched {o : OpSt} (hdone : o.done = []) (hfails : o.fails = []) : missingOf o = List.range o.offsets := by
  simp [missingOf, hdone, hfails]

/-- An operation of which nothing has come ends with TIMEOUT. -/
theorem opEnds_failMissing {i : Nat} {o : OpSt} {s : State} (hop : s.op i = some o) (hends : o.EndsEntry) (hdone : o.done = [])
    (hfails : o.fails = []) (hshows : EntryShows o s) : OpEnds i o.room (statusOf o.entry stTimeout 0) s (failMissing i o s) := by
  have hfail : LeavesFlows [.thresh] [] s (forEach (missingOf o) (fun k a => failOff i k stTimeout 0 a) s) :=
    LeavesFlows.forEach _ (fun k a => leavesFlows_failOff i k stTimeout 0 a) _ s
  have hmissing := missingOf_of_untouched hdone hfails
  have hnodup : (missingOf o).Nodup := hmissing ▸ List.nodup_range
  have hfailed := op_forEach_failOff (st := stTimeout) (aux := 0) hnodup hop hdone (by simp [hfails])
  exact (opEnds_tryFinish_of_failedAt hfailed hends hdone hfails (fun k hk => by simpa [hmissing] using hk) (by decide)
    (hshows.of_leaves hfail.toLeaves)).after hfail

theorem exec_responseTimerExpiry_of_late {i first : Nat} {o : OpSt} {s : State} (hop : s.op i = some o)
    (hkind : o.kind = .get ∨ o.kind = .atomic) (hacked : o.reqAcked = true) (hfirst : o.firstNs = some first)
    (hdue : Due s (first + o.toMs * 1000000)) : exec (.responseTimerExpiry i) s = .next (failMissing i o s) := by
  have hlate : (o.reqAcked && o.firstNs.any (fun t => decide (t + o.toMs * 1000000 ≤ s.now))) = true := by
    rw [hacked, hfirst, Option.any_some, Bool.true_and]
    exact decide_eq_true hdue
  have hnot : o.kind ≠ .rndvSend := by rcases hkind with h | h <;> simp [h]
  show execResponseTimerExpiry i s = _
  simp only [execResponseTimerExpiry, hop, if_neg hnot, if_pos hlate]

theorem exec_responseTimerExpiry_of_due {i at1 : Nat} {o : OpSt} {g : Seg} {s : State} (hop : s.op i = some o) (hkind : o.kind = .atomic)
    (hresp : o.respAt = some at1) (hdue : Due s at1) (hearly : ∀ f, o.firstNs = some f → ¬ Due s (f + o.toMs * 1000000))
    (hreq : o.req = some g) : exec (.responseTimerExpiry i) s = .next (reissue g s) := by
  have hnotLate : ¬ (o.reqAcked && o.firstNs.any (fun t => decide (t + o.toMs * 1000000 ≤ s.now))) = true := by
    cases hfirst : o.firstNs with
    | none => simp
    | some f =>
      rw [Option.any_some, decide_eq_false (hearly f hfirst), Bool.and_false]
      exact Bool.false_ne_true
  have hdue1 : o.respAt.any (fun t => decide (t ≤ s.now)) = true := by
    rw [hresp, Option.any_some]
    exact decide_eq_true hdue
  have hnot : o.kind ≠ .rndvSend := by simp [hkind]
  show execResponseTimerExpiry i s = _
  simp only [execResponseTimerExpiry, hop, if_neg hnot, if_neg hnotLate, if_pos hdue1, hreq]

end Sys2Proof.Machine
end

section
/-! An atomic asked for again, cache and tracker entries (R246, R264, R265), and the proof of O54. -/
namespace Sys2Proof.Machine

/-! A lead's MSG_ID. -/

theorem wn_set_self {l : List Word} {i : Nat} (hi : i < l.length) (w : Word) : wn (l.set i w) i = w.toNat := by
  simp [wn, hi]

theorem wn_set_of_ne {l : List Word} {i j : Nat} (h : i ≠ j) (w : Word) : wn (l.set i w) j = wn l j := by
  simp [wn, List.getElem?_set_ne h]

theorem leadMsg_setLeadMsg {l : List Word} (hl : 1 < l.length) (msg : Nat) : leadMsg (setLeadMsg l msg) = msg % 2 ^ 32 := by
  have hword : wn (setLeadMsg l msg) 1 = (leadKeyIdx l % 2 ^ 24 + leadKeyGen l % 2 ^ 8 * 2 ^ 24 + msg % 2 ^ 32 * 2 ^ 32) % 2 ^ 64 := by
    rw [setLeadMsg, wn_set_self hl]
    simp [wd, at_]
  rw [leadMsg, wf_, hword, bits, Nat.shiftRight_eq_div_pow]
  omega

theorem leadOp_setLeadMsg (l : List Word) (msg : Nat) : leadOp (setLeadMsg l msg) = leadOp l := by
  rw [leadOp, leadOp, wf_, wf_, setLeadMsg, wn_set_of_ne (by decide)]

/-! Numbering (R82, R245, R251). -/

/-- A segment as it takes its number on its flow. -/
def Seg.numbered (g : Seg) (msg : Nat) (s : State) : Seg :=
  { g with seq := (s.flow g.peer).send.next, epoch := (s.flow g.peer).send.epoch, lead := setLeadMsg g.lead msg, no := s.thresh.segNo,
           enq := s.now }

/-- A segment of an operation that has its MSG_ID is numbered and queued; the timer of the operation's response stays as it is. -/
theorem numberSeg_of_msgSet {g : Seg} {o : OpSt} {s : State} (hop : s.op g.opId = some o) (hset : o.msgSet = true) :
    Leaves [.thresh] [] s (numberSeg g s) ∧ (numberSeg g s).thresh.admitQ = s.thresh.admitQ ++ [g.numbered o.msgId s]
      ∧ ∃ p : OpSt, (numberSeg g s).op g.opId = some p ∧ p.respAt = o.respAt ∧ p.reqAcked = o.reqAcked := by
  unfold numberSeg
  extract_lets f
  rw [hop]
  dsimp -zeta only
  extract_lets send mid s1 g1 asks s2
  have hg1 : g1 = g.numbered o.msgId s := by
    show { g with seq := _, epoch := _, lead := setLeadMsg g.lead (if o.msgSet = true then o.msgId else _), no := _, enq := _ } = _
    rw [if_pos hset]
    rfl
  have h2 : Leaves [.thresh] [] s s2 := (leaves_modSend _ _ s).trans (leaves_modOp _ _ s1)
  refine ⟨h2.trans (leaves_modThresh _ s2), ?_, ?_⟩
  · rw [← hg1]
    rfl
  · have hop1 : s1.op g.opId = some o := hop
    have hop2 := (State.op_modOp_self s1 g.opId fun o => { o with
      msgId := mid, msgSet := true,
      req := if asks then some g1 else o.req, reqs := if asks then o.reqs ++ [(f.epoch, f.next)] else o.reqs }).trans
        (congrArg _ hop1)
    exact ⟨_, hop2, rfl, rfl⟩

theorem offerSeg_of_open {g : Seg} {s : State} (hst : (s.flow g.peer).send.st = 2) (hdeferred : (s.flow g.peer).send.deferred = none) :
    offerSeg g s = numberSeg g s := if_pos ⟨hst, by rw [hdeferred]; rfl⟩

/-- An atomic's request as it is asked for again keeps its lead, its flow and its operation. -/
theorem reissueSeg_of_atomic {g : Seg} (h : isAtomic (leadOp g.lead) = true) (frm n : Nat) : (reissueSeg g frm n).lead = g.lead := by
  simp [reissueSeg, h]

/-- The state with the response timer of an operation stopped. -/
def responseOff (i : Nat) (s : State) : State := modOp i (fun o => { o with reqAcked := false, respAt := none }) s

/-- An atomic on an OPEN flow is numbered again. -/
theorem reissue_of_atomic {g : Seg} {o : OpSt} {s : State} (hop : s.op g.opId = some o) (hkind : o.kind = .atomic)
    (hst : (s.flow g.peer).send.st = 2) (hdeferred : (s.flow g.peer).send.deferred = none) :
    reissue g s = numberSeg (reissueSeg g 0 1) (responseOff g.opId s) := by
  simp only [reissue, hop, if_pos hkind]
  exact offerSeg_of_open (g := reissueSeg g 0 1) (s := responseOff g.opId s) hst hdeferred

/-! The target's cache and tracker (R246, R264). -/

/-- A cache entry is of a message, and one of the two times at which it may go has come. -/
def AtomEntry.over (src msg held life now : Nat) (a : AtomEntry) : Bool :=
  a.src == src && a.msgId == msg && ((a.acked && decide (held ≤ now)) || decide (life ≤ now))

theorem AtomEntry.over_iff {src msg held life now : Nat} {a : AtomEntry} :
    a.over src msg held life now = true ↔ a.src = src ∧ a.msgId = msg ∧ ((a.acked = true ∧ held ≤ now) ∨ life ≤ now) := by
  simp [AtomEntry.over, and_assoc]

theorem AtomEntry.stays_iff {src msg held life now : Nat} {a : AtomEntry} :
    (!a.over src msg held life now) = true ↔ ¬ (a.src = src ∧ a.msgId = msg ∧ ((a.acked = true ∧ held ≤ now) ∨ life ≤ now)) := by
  rw [← over_iff, Bool.not_eq_true', Bool.not_eq_true]

/-- The state without the tracker entry of a message. -/
def untracked (src msg : Nat) (s : State) : State :=
  modThresh (fun h => { h with tracker := h.tracker.filter (fun e => !(e.src == src && e.msgId == msg)) }) s

theorem leavesFlows_untracked (src msg : Nat) (s : State) : LeavesFlows [.thresh] [] s (untracked src msg s) := leavesFlows_modThresh s

theorem tracked_untracked (src msg : Nat) (s : State) : tracked (untracked src msg s) src msg = false :=
  List.any_eq_false.mpr fun e he => by simpa only [Bool.not_eq_true', Bool.not_eq_true] using (List.mem_filter.mp he).2

/-- The completion of a tracked message that went quiet: TIMEOUT if nothing of it came, else PARTIAL. -/
def TrackEntry.quietCmpl (e : TrackEntry) : Cmpl :=
  if e.done.isEmpty then trackCmpl e stTimeout 0 0 0
  else trackCmpl e stPartial (((List.range e.total).filter (fun i => e.done.contains i)).map (fun i => segBytes (leadLen e.lead) i)).sum
    (4096 * ((List.range e.total).find? (fun i => !e.done.contains i)).getD 0) 1

/-- A tracker entry whose time has come goes, and its message completes in its room. -/
theorem exec_trackerTimeout {src msg : Nat} {e : TrackEntry} {s : State}
    (hfind : s.thresh.tracker.find? (fun t => t.src == src && t.msgId == msg) = some e)
    (hdue : Due s (e.lastNs + 2 * s.get .THRESH_CFG_OP_TIMEOUT_MS * 1000000)) :
    exec (.trackerTimeout src msg) s = .next (complete e.room e.quietCmpl true false (untracked src msg s)) := by
  show execTrackerTimeout src msg s = _
  simp only [execTrackerTimeout, hfind]
  exact if_pos hdue

/-- The state with a tracked message's slot released. -/
def slotReleased (r : Nat) (s : State) : State := s.modRoom r (fun q => { q with reserved := q.reserved - b2n true })

/-- A message that went quiet in a certain, ACTIVE room writes its completion entry. -/
theorem room_writeEntry_slotReleased (r : Nat) (c : Cmpl) (s : State) (q : Nat) : (writeEntry r c (slotReleased r s)).room q
    = if r = q then { s.room r with reserved := (s.room r).reserved - 1 }.entryWritten else s.room q := by
  rw [room_writeEntry]
  by_cases hrq : r = q
  · rw [if_pos hrq, if_pos hrq, slotReleased, State.modRoom, State.room_setRoom_self]
    rfl
  · rw [if_neg hrq, if_neg hrq, slotReleased, State.modRoom, State.room_setRoom, if_neg hrq]

/-! O54. -/

/-- Settles O54: a reset begins the flow's next epoch, and nothing that follows in the reset, not even a fault of the return path, takes
it from the flow; each timer and release ends what it speaks of, and nothing beside it. -/
theorem flowsResetAndExpire : Obligations.FlowsResetAndExpire := by
  refine ⟨?_, ?_, ?_, ?_, ?_, ?_, ?_, ?_, ?_, ?_⟩
  case refine_1 =>
    intro x c s hused hcode hmine hadvance
    have hexec := (exec_nackFlowResetArrival hused hcode hmine).trans (congrArg Host.Outcome.next (askReset_of_mayAdvance hadvance _))
    have hbegun := epochBegun_sendReset x (wf_ c.body 0 16 1 == 1) s
    exact (leaves_sendReset _ _ _).does hexec ⟨hbegun.epoch, hbegun.lastAdvance, hbegun.deferred, hbegun.out, sendReset_flag _ _ _⟩
  case refine_2 =>
    intro x c s hused hcode hmine hwait
    have hexec := (exec_nackFlowResetArrival hused hcode hmine).trans (congrArg Host.Outcome.next (askReset_of_not_mayAdvance hwait _))
    exact (leaves_modSend _ _ s).does hexec ⟨congrArg Flow.send (State.flow_modSend_self _ _ _), otherFlows_setFlow _ _ _⟩
  case refine_3 =>
    intro x fresh s hdeferred hadvance
    have hbegun := epochBegun_sendReset x fresh s
    exact (leaves_sendReset _ _ _).does (exec_epochAdvanceDeferred hdeferred hadvance)
      ⟨hbegun.epoch, hbegun.deferred, hbegun.out, sendReset_flag _ _ _⟩
  case refine_4 =>
    intro m x s hmay hx
    have hexec : exec (.flowCmdReset m) s
        = .next (mendReg (Fld.info .FLOW_CMD_RESET).reg 0 true true (resetContext x s)) :=
      congrArg Host.Outcome.next ((guarded_of_may hmay 0 _).trans (hx ▸ rfl))
    have hmend := leaves_mendReg (Fld.info .FLOW_CMD_RESET).reg 0 true true (resetContext x s)
    refine (((leaves_resetContext x s).mono).andThen hmend).does hexec ?_
    rw [hmend.leavesFlows.flow, hmend.flag]
    refine ⟨fun hst hadvance => ?_, fun hst => ?_, fun hst => recv_resetContext_of_unused hst⟩
    · rw [epoch_resetContext, epoch_sendSideReset hst hadvance]
    · exact ⟨(recvReset_resetContext hst).st, (recvReset_resetContext hst).fresh, resetContext_flag hst⟩
  case refine_5 =>
    intro x s hst hdue hroom
    have hexec := (exec_syncReqRetry hst hdue).trans (congrArg Host.Outcome.next (sendSync_of_room hroom x))
    exact (leaves_syncSent x s).does hexec
      ⟨congrArg Flow.send (State.flow_modSend_self _ _ _), otherFlows_setFlow _ _ _, cellQueued_syncSent x s⟩
  case refine_6 =>
    intro x s hst hdue
    have hobserve := leaves_suspectObserve 2 x ((s.flow x).send.pend.head?.map (·.room)) 0 0 (syncAbandoned x s)
    have hflow := (hobserve.leavesFlows.flow x).trans (flow_syncAbandoned x s)
    refine ((leaves_syncAbandoned x s).andThen hobserve).does (exec_syncTimeout hst hdue) ⟨?_, ?_, fun hpend => ?_⟩
    · rw [hflow]
    · rw [hflow]
    · rw [hobserve.flag]
      exact forEach_waitTimeout_flag hpend _
  case refine_7 =>
    intro i first o s hop hkind hacked hfirst hdue hdone hfails hlb hrun hcertain hactive hloud
    have hends : o.EndsEntry := ⟨by rcases hkind with h | h <;> simp [h], hlb⟩
    have h := opEnds_failMissing hop hends hdone hfails ⟨hrun, hcertain, hactive, hloud⟩
    exact h.toLeaves.does (exec_responseTimerExpiry_of_late hop hkind hacked hfirst hdue) ⟨h.op, h.entry⟩
  case refine_8 =>
    intro i at1 o g s hop hkind hresp hdue hearly hreq hgop hst hdeferred hatomic hlen hset
    subst hgop
    have hexec := (exec_responseTimerExpiry_of_due hop hkind hresp hdue hearly hreq).trans
      (congrArg Host.Outcome.next (reissue_of_atomic hop hkind hst hdeferred))
    have hop1 : (responseOff g.opId s).op g.opId = some { o with reqAcked := false, respAt := none } :=
      (State.op_modOp_self _ _ _).trans (by rw [hop]; rfl)
    obtain ⟨hleaves, hqueue, p, hp, hpresp, hpacked⟩ := numberSeg_of_msgSet (g := reissueSeg g 0 1) hop1 hset
    have hlead := reissueSeg_of_atomic hatomic 0 1
    have hsame := leavesFlows_modOp g.opId (fun o => { o with reqAcked := false, respAt := none }) s
    refine (hsame.toLeaves.trans hleaves).does hexec ⟨⟨_, hqueue, rfl, ?_, ?_, ?_⟩, p, hp, hpresp, hpacked⟩
    · exact congrArg (fun f : Flow => f.send.next) (hsame.flow g.peer)
    · have hlong : 1 < (reissueSeg g 0 1).lead.length := by rw [hlead, hlen]; decide
      exact leadMsg_setLeadMsg hlong o.msgId
    · exact (leadOp_setLeadMsg _ _).trans (congrArg leadOp hlead)
  case refine_9 =>
    intro src msg s
    refine (leavesFlows_modThresh s).toLeaves.does rfl ⟨rfl, fun a => List.mem_filter.trans (and_congr_right fun _ => ?_)⟩
    exact AtomEntry.stays_iff
  case refine_10 =>
    intro src msg e s hfind hdue hrun hcertain hactive
    have hbefore := leavesFlows_untracked src msg s
    have hroom := hbefore.toLeaves.room e.room
    have hexec := (exec_trackerTimeout hfind hdue).trans (congrArg Host.Outcome.next (complete_of_certain
      (hbefore.toLeaves.hostStopped.trans hrun) ⟨(congrArg Room.risk hroom).trans hcertain.1, hcertain.2⟩
      ((congrArg Room.st hroom).trans hactive) e.quietCmpl true))
    have hwrite : Leaves [.porch, .out] [] (untracked src msg s) (writeEntry e.room e.quietCmpl (slotReleased e.room (untracked src msg s))) :=
      ((leaves_modRoom _ _ _).mono).andThen (leaves_writeEntry _ _ _)
    have hafter := room_writeEntry_slotReleased e.room e.quietCmpl (untracked src msg s)
    have hself := (hafter e.room).trans (if_pos rfl)
    refine ((hbefore.toLeaves.mono).andThen hwrite).does hexec ⟨?_, ?_, ?_, fun q hq => ?_⟩
    · have htracked := tracked_untracked src msg s
      rw [tracked, ← hwrite.thresh] at htracked
      exact htracked
    · exact congrArg Room.written hself
    · exact congrArg Room.reserved hself
    · exact (hafter q).trans (if_neg (Ne.symm hq))

end Sys2Proof.Machine
end

section
/-! The refutation of O55: an access that ends at the top of the address space (R248). -/
namespace Sys2Proof.Machine

/-- A valid key of one byte, the last of the address space. -/
def lastByteKey : KeyEntry := ⟨0xFFFFFFFFFFFFFFFF, 1, 0x8000000000000000, 0⟩

/-- The model takes the end 2^64 of that byte's access for a wrap: sub-cause BOUNDS. -/
theorem keyCheck_lastByteKey : keyCheck lastByteKey 1 0 0 0 (2 ^ 64 - 1) 1 none = 5 := by decide

/-- Refutes O55: its first clause lets an access end at 2^64, where the model's bounds check asks that the end lie below it. The
counterexample is the read of the last byte of the address space under a key of just that byte: every condition of the clause holds, and the
check answers BOUNDS. -/
theorem not_keyAndRankWindowsAct : ¬ Obligations.KeyAndRankWindowsAct := by
  rintro ⟨hcheck, -⟩
  have hpass : keyCheck lastByteKey 1 0 0 0 (2 ^ 64 - 1) 1 none = 0 :=
    (hcheck lastByteKey 1 0 0 0 (2 ^ 64 - 1) 1 none).mpr
      ⟨by decide, by decide, by decide, by decide, by decide, by decide, by decide, by decide, nofun⟩
  rw [keyCheck_lastByteKey] at hpass
  exact absurd hpass (by decide)

end Sys2Proof.Machine
end

section
/-! The refutation of O52: a flow table that lists one peer twice, read past its first entry as a confirmation's acknowledgement finds its
queue full (R22, R62, R261). -/
namespace Sys2Proof.Machine

/-- A segment that was answered with a final NACK. -/
def nackedSegment : RSeg := { seq := 65535, cells := 1, st := .nacked 2 0 }

/-- The confirmation of that segment, in an ACK of KIND 3. -/
def confirmationBody : List Word := [wd (3 * 2 ^ 16), 0, wd (65535 + 2 ^ 16 + 2 ^ 32)]

/-- It comes from node 1. -/
def confirmation : Cell := { ty := tyAck, vc := 5, dest := 0, src := 1, body := confirmationBody, check := bodyCrc confirmationBody }

/-- The flow table lists peer 1 twice. Its first entry holds the segment as the one after W, and a ticket; without them it reads as an
unlisted flow does. -/
def twiceNacked : Tab Flow :=
  [(1, { send := { held := [0] }, recv := { w := 65534, segs := [nackedSegment] } }), (1, { recv := { segs := [nackedSegment] } })]

/-- The registers of `unackedSpill`, with the acknowledgement queue and its spill full. -/
def twiceNackedState : State :=
  { unackedSpill with
    thresh := { flows := twiceNacked }
    hall := { inj := [(78, List.replicate (1 + Config.ackQueueCells 0) waitingAck)] } }

/-- The confirmed segment counted as COMPLETE. -/
def confirmedCounted : State := countedComplete 1 65535 nackedSegment twiceNackedState

/-- A used confirmation does what its map says, and an ACK of KIND 3 does nothing else. -/
theorem exec_confArrival {x : Nat} {c : Cell} {s : State} (hused : Used tyAck x c s) (hkind : ackKind c = 3) :
    exec (.confArrival (some c)) s = .next (useConf x c s) := by
  obtain ⟨hty, hcheck, hrun, rfl⟩ := hused
  show execConfArrival (some c) s = _
  simp [execConfArrival, useSingle, takeIf, hty, hkind, hrun, ← hcheck, useAck]

/-- A confirmation of one NACKED segment completes it. -/
theorem useConf_of_single {x sub code : Nat} {c : Cell} {g : RSeg} {s : State} (hvalid : wf_ c.body 2 16 1 = 1)
    (hepoch : wf_ c.body 2 18 2 = (s.flow x).recv.epoch) (hmap : wf_ c.body 2 32 32 = 1) (hseg : rsegOf s x (wf_ c.body 2 0 16) = some g)
    (hst : g.st = .nacked code sub) : useConf x c s = completeRSeg x (wf_ c.body 2 0 16) s := by
  have hhit : (List.range 32).filter (fun i => (1 : Nat).testBit i) = [0] := by decide
  have hseq : wf_ c.body 2 0 16 % 65536 = wf_ c.body 2 0 16 := Nat.mod_mod _ _
  simp [useConf, hvalid, hepoch, hmap, hhit, forEach, hseq, hseg, hst]

theorem useConf_twiceNackedState : useConf 1 confirmation twiceNackedState = sendAck 1 confirmedCounted :=
  (useConf_of_single (g := nackedSegment) (by decide) (by decide +kernel) (by decide) (by decide +kernel) rfl).trans
    (completeRSeg_of_due (by decide +kernel) (by decide +kernel))

theorem ackQueueRoom_confirmedCounted : ackQueueRoom confirmedCounted = false := by
  have hqueue : ackQueueRoom confirmedCounted = decide (((List.replicate (1 + Config.ackQueueCells 0) waitingAck).filter
      (fun h => h.cell.ty == tyAck || h.cell.ty == tyNack)).length < 1 + Config.ackQueueCells 0) := rfl
  simp [hqueue, waitingAck]

/-- The fall-back to Marked service takes the ticket of peer 1's first entry, and with it its place in the table. -/
theorem segs_after_confirmed_fallback : ((raise 8 12 0 0 confirmedCounted).flow 1).recv.segs = [nackedSegment] := by decide +kernel

/-- The segment is still NACKED after its confirmation. -/
theorem segs_after_confirmation : ((useConf 1 confirmation twiceNackedState).flow 1).recv.segs = [nackedSegment] := by
  rw [useConf_twiceNackedState, sendAck_segs_of_full (by decide +kernel) (by decide +kernel) ackQueueRoom_confirmedCounted,
    segs_after_confirmed_fallback]

/-- Refutes O52: the clause of a confirmation does not ask that the flow table be in its canonical form. The counterexample's table lists
peer 1 twice. The NACKED segment in the first entry becomes COMPLETE and W passes it; the ACK that follows finds queue and spill full, and
a SPILL_FULL that is not yet acknowledged escalates and ends Scheduled service. The first entry's ticket was all that kept it from reading
as an unlisted flow, so the table drops it, and what flow 1 then reads is the second entry, whose segment of the same sequence number is
NACKED. -/
theorem not_acknowledgementsAreUsed : ¬ Obligations.AcknowledgementsAreUsed := by
  rintro ⟨-, -, -, -, -, hconf, -⟩
  have hused : Used tyAck 1 confirmation twiceNackedState := ⟨rfl, by decide +kernel, by decide +kernel, by decide +kernel⟩
  obtain ⟨t, hexec, -, -, -, hcomplete⟩ :=
    hconf 1 2 0 confirmation nackedSegment twiceNackedState hused (by decide) (by decide) (by decide +kernel) (by decide)
      (by decide +kernel) rfl
  rw [exec_confArrival hused (by decide)] at hexec
  have ht : t = useConf 1 confirmation twiceNackedState := (Host.Outcome.next.inj hexec).symm
  have hmem : nackedSegment ∈ (t.flow 1).recv.segs := by
    rw [ht, segs_after_confirmation]
    exact List.mem_singleton_self _
  exact absurd (hcomplete nackedSegment hmem (by decide)) (by decide)

end Sys2Proof.Machine
end
